-- ==== Sys2Proof/Word.lean ====
section
/-! DEFINITION. The byte, the sparse numbered table that holds a fixed number of like units (seats, ports, lanes …),
and the plainest arithmetic on natural numbers the model uses. -/

namespace Sys2Proof

/-- One byte of memory or of a record (R3: multi-byte fields are little-endian). -/
abbrev Byte := BitVec 8

/-- A numbered family of like units: the value of unit `k` is the one listed under `k`, and `dflt` where none is
listed. Keys are listed in rising order. -/
structure Tab (α : Type) where
  dflt : α
  cells : List (Nat × α) := []
  deriving DecidableEq, Repr

/-- The value listed first under a key. -/
def lookupKey {α : Type} (k : Nat) : List (Nat × α) → Option α
  | [] => none
  | (j, v) :: rest => if j = k then some v else lookupKey k rest

/-- Put `v` under `k` in a list with rising keys. -/
def insertKey {α : Type} (k : Nat) (v : α) : List (Nat × α) → List (Nat × α)
  | [] => [(k, v)]
  | (j, w) :: rest =>
    if k < j then (k, v) :: (j, w) :: rest
    else if k = j then (k, v) :: rest
    else (j, w) :: insertKey k v rest

/-- Read unit `k`. -/
def Tab.get {α : Type} (t : Tab α) (k : Nat) : α := (lookupKey k t.cells).getD t.dflt

/-- Write unit `k`. -/
def Tab.set {α : Type} (t : Tab α) (k : Nat) (v : α) : Tab α := { t with cells := insertKey k v t.cells }

/-- Change unit `k`. -/
def Tab.upd {α : Type} (t : Tab α) (k : Nat) (f : α → α) : Tab α := t.set k (f (t.get k))

/-- Change every one of the first `n` units. -/
def Tab.mapTo {α : Type} (t : Tab α) (n : Nat) (f : Nat → α → α) : Tab α :=
  (List.range n).foldl (fun t k => t.upd k (f k)) t

/-- Division rounded up; 0 where the divisor is 0. -/
def ceilDiv (a b : Nat) : Nat := (a + b - 1) / b

/-- The `n`-bit field of `x` whose lowest bit is `lo` (R3: bit 0 is the least significant). -/
def bits (x lo n : Nat) : Nat := x / 2 ^ lo % 2 ^ n

/-- One bit as 0 or 1. -/
def bit (b : Bool) : Nat := if b then 1 else 0

/-- A value cut to its width; saturating. -/
def sat (n x : Nat) : Nat := min x (2 ^ n - 1)

/-- The two's complement image of an integer in `n` bits. -/
def ofInt (n : Nat) (x : Int) : Nat := (x % (2 ^ n : Int)).toNat

/-- The integer an `n`-bit two's complement image stands for. -/
def toInt (n x : Nat) : Int := if x % 2 ^ n < 2 ^ (n - 1) then (x % 2 ^ n : Nat) else (x % 2 ^ n : Nat) - (2 ^ n : Int)

/-- The `n` little-endian bytes of `x` (R3). -/
def leBytes : Nat → Nat → List Byte
  | 0, _ => []
  | n + 1, x => BitVec.ofNat 8 x :: leBytes n (x / 256)

/-- The number little-endian bytes spell (R3). -/
def leNat : List Byte → Nat
  | [] => 0
  | b :: rest => b.toNat + 256 * leNat rest

/-- Replace the first element that satisfies `p`; the list is unchanged where none does. -/
def updFirst {α : Type} (p : α → Bool) (f : α → α) : List α → List α
  | [] => []
  | a :: rest => if p a then f a :: rest else a :: updFirst p f rest

/-- Whether two half-open ranges of addresses have a common address. -/
def overlaps (a lenA b lenB : Nat) : Bool := a < b + lenB && b < a + lenA && 0 < lenA && 0 < lenB

/-- Whether one half-open range lies inside another. -/
def within (a lenA b lenB : Nat) : Bool := b ≤ a && a + lenA ≤ b + lenB

end Sys2Proof
end

