-- ==== Sys2Proof/Syntax.lean ====
section
/-! DEFINITION. The commands of the device, one constructor per row of the operation table, with their operands; and the
bodies of the commands that have one. A command's operands are the fields its rule names; an operand is a plain number
until the command's own checks judge it. -/

namespace Sys2Proof

/-- The request envelope of a Carmir command and how it reached the mailbox (Table 3-6, R79, R80): the seat whose
mailbox carries it, the envelope's fields, and the Command register's Payload Length. -/
structure Env where
  seat : Nat
  verMajor : Nat
  verMinor : Nat
  deferOk : Bool
  tag : Nat
  hostTime : Nat
  bodyLen : Nat
  payloadLen : Nat
  deriving DecidableEq, Repr

/-- LOAD_PARTITION body (Table 4-3). -/
structure LoadBody where
  part : Nat := 0
  mode : Nat := 0
  format : Nat := 0
  tprLog2 : Nat := 0
  layers : Nat := 0
  kvHeads : Nat := 0
  qHeads : Nat := 0
  headDim : Nat := 0
  vocab : Nat := 0
  slots : Nat := 0
  scoreScale : Nat := 0
  modelId : Nat := 0
  deriving DecidableEq, Repr

/-- ADMIT_REQUEST body (Table 5-9). -/
structure AdmitBody where
  part : Nat
  prio : Nat
  tenant : Nat
  eddy : Bool
  seeded : Bool
  promptLen : Nat
  maxNew : Nat
  pfx : Nat
  dlToken : Nat
  dlItem : Nat
  seed : Nat
  deriving DecidableEq, Repr

/-- CREATE_STEP_RING body (Table 3-9). -/
structure RingBody where
  ring : Nat
  part : Nat
  sqLog2 : Nat
  cqLog2 : Nat
  sqBase : Nat
  cqBase : Nat
  cqPeer : Bool
  cqWindow : Nat
  deriving DecidableEq, Repr

/-- What a link partner offers at training (R35–R38): lane count, speed code of PRT_STATUS.SPEED, whether CXL with 256 B
flits was negotiated, the latency-optimised flit, lane reversal and MLD operation. -/
structure Offer where
  width : Nat
  speed : Nat
  cxl : Bool
  lopt : Bool
  reversed : Bool
  mld : Bool
  deriving DecidableEq, Repr

/-- What verification finds in an image written over the inactive slot (R607, R608): whether signature and digest hold,
and the header's version and SVN. -/
structure FwImage where
  good : Bool
  version : Nat
  svn : Nat
  deriving DecidableEq, Repr


/-- An FM API command (R46). -/
inductive FmCmd where
  | getLdInfo | getLdAllocations
  /-- LD-ID and range size in bytes of each LD the command names. -/
  | setLdAllocations (allocs : List (Nat × Nat))
  | getQosControl
  | setQosControl (bsi moderate severe cci : Nat)
  | getQosStatus | getQosAllocatedBw
  | setQosAllocatedBw (values : List (Nat × Nat))
  | getQosBwLimit
  | setQosBwLimit (values : List (Nat × Nat))
  | identify
  /-- Any other FM API opcode. -/
  | other (opcode : Nat)
  deriving DecidableEq, Repr

/-- What a configuration request reads or writes: the items of Table 2-4 and of R39, or any other register. -/
inductive CfgItem where
  | vendorId | deviceId | classCode | subsystemId | bar0 | maxPayload | extendedTags | cxlDvsec | gpfDvsec | flexBusDvsec
  | registerLocator | mldDvsec | doeCapability | hdmDecoders
  /-- Base, size and control of HDM decoder `i`, in the component registers (R48). -/
  | hdmBase (i : Nat) | hdmSize (i : Nat) | hdmControl (i : Nat)
  /-- Link power management capabilities, and No_Soft_Reset (R39). -/
  | aspmL1 | l1Substates | l0p | noSoftReset
  /-- The power state of the LD, 0 for D0 and 3 for D3hot (R39). -/
  | powerState
  /-- BI Enable of the BI Decoder (R435). -/
  | biEnable
  | other (offset : Nat)
  deriving DecidableEq, Repr

/-- A PCIe IDE_KM message (R54). -/
inductive IdeKm where
  | query | keyProg | setGo | setStop
  deriving DecidableEq, Repr

/-- An SPDM request (R58–R60), or a PCIe IDE_KM message that SPDM carries (R54): whether a secured session carries it, the message,
and the key set it names. -/
inductive SpdmReq where
  | ideKm (secured : Bool) (m : IdeKm) (keySet : Nat)
  | getVersion | getCapabilities | negotiateAlgorithms | getDigests | getCertificate (slot : Nat) | challenge (slot : Nat)
  | getMeasurements (index : Nat) | keyExchange | finish | pskExchange | heartbeat | keyUpdate | endSession | getCsr
  | other (code : Nat)
  deriving DecidableEq, Repr

/-- A pool descriptor (Table 16-8). -/
structure PoolDesc where
  op : Nat
  srcWin : Bool := false
  dstWin : Bool := false
  /-- FLAGS bits 7–2 are all 0, as the table requires. -/
  flagsOk : Bool := true
  rtype : Nat := 0
  rop : Nat := 0
  srcWindow : Nat := 0
  dstWindow : Nat := 0
  src : Nat := 0
  dst : Nat := 0
  length : Nat := 0
  pattern : Nat := 0
  result : Nat := 0
  deriving DecidableEq, Repr

/-- A stash descriptor (Table 17-5). -/
structure StashDesc where
  op : Nat
  win : Bool := false
  release : Bool := false
  protected_ : Bool := false
  noCompress : Bool := false
  parity : Bool := false
  /-- FLAGS bits 7–5 are all 0, as the table requires. -/
  flagsOk : Bool := true
  part : Nat
  window : Nat := 0
  key : Nat
  addr : Nat := 0
  offset : Nat := 0
  length : Nat := 0
  keySlot : Nat := 0
  result : Nat := 0
  deriving DecidableEq, Repr

/-- ALLOCATE_REGION body (Table 16-3). -/
structure RegionBody where
  resident : Bool := false
  parkable : Bool := false
  stash : Bool := false
  shared : Bool := false
  protected_ : Bool := false
  mirrored : Bool := false
  parity : Bool := false
  noCompress : Bool := false
  part : Nat := 255
  keySlot : Nat := 0
  base : Nat
  size : Nat
  deriving DecidableEq, Repr

/-- JOIN_POOL_SET body (R484). -/
structure JoinBody where
  setId : Nat
  n : Nat
  index : Nat
  setTo : Nat
  parityGb : Nat
  rebuild : Bool
  /-- The window of each other member: member number and window identifier. -/
  windows : List (Nat × Nat)
  deriving DecidableEq, Repr

/-- A MetaValue of a CXL.mem message (Table 15-3): Invalid, Any or Shared. -/
inductive MetaVal where
  | i | a | s
  deriving DecidableEq, Repr

/-- A back-invalidate response of a host (R444). -/
inductive BiRsp where
  | i | s | e
  deriving DecidableEq, Repr

/-- An entry that another member of a pool set has written into this module's aperture (Table 16-10). -/
structure StreamEntry where
  kind : Nat
  cls : Nat
  status : Nat
  replyTo : Nat
  target : Nat
  offset : Nat
  size : Nat
  data : List Byte
  deriving DecidableEq, Repr

/-- A region record a partner gives back at a rebuild (R491), with the contents restored for it. -/
structure RebuiltRegion where
  body : RegionBody
  id : Nat
  seat : Nat
  kcv : Nat := 0
  grants : List (Nat × Nat) := []
  attached : List (Nat × Nat) := []
  data : List Byte := []
  deriving DecidableEq, Repr

/-- What a rebuild gives back (R491): the regions of the lost member, and its parity units by the XOR of their stripes, each by its index. -/
structure Rebuilt where
  regions : List RebuiltRegion := []
  parity : List (Nat × List Byte) := []
  deriving DecidableEq, Repr

/-- Whose peer read fails (R66): an operation's, or a flush read of the item in service (R65, R283). -/
inductive ReadSource where
  | op (n : Nat)
  | item
  deriving DecidableEq, Repr

/-- Where an HBM error lies (R588, R589): what the frame under the address holds. -/
inductive HbmPlace where
  /-- Frame `n` of a partition's KV space. -/
  | kv (part n : Nat)
  /-- Frame `n` of a pool region. -/
  | region (id n : Nat)
  /-- A reserved area. -/
  | reserved
  /-- A frame that holds nothing. -/
  | free
  deriving DecidableEq, Repr

/-- The unit INJECT_FAULT names (R587). -/
inductive InjectTarget where
  | hbm (pc bank row : Nat) (place : HbmPlace)
  | tile (tile row : Nat)
  /-- A flash map unit, by its number (R369). -/
  | flash (unit : Nat)
  deriving DecidableEq, Repr

/-- What fails on a flash channel (Table 21-2). -/
inductive FlashFail where
  /-- A training or calibration that does not complete, or a bus timeout. -/
  | error
  /-- No die answers after a retrain: the channel's hard signature. -/
  | noDie
  /-- One die answers no command while the others do: the die's hard signature. -/
  | die (die : Nat)
  deriving DecidableEq, Repr

/-- An erase block: its lane and its number there (R366, R367). -/
structure BlockAt where
  lane : Nat
  block : Nat
  deriving DecidableEq, Repr

/-- How a tile's array fails (Table 21-2, R590): an error, corrected or not, or the built-in self-test at a start. -/
inductive TileFail where
  | corrected | uncorrectable | selfTest
  deriving DecidableEq, Repr

/-- What fails of the control logic and the on-die memories (Table 21-2): a control core, the hardware step parser, one copy of an entry of
a duplicated SRAM, or another SRAM structure with the operation or item that used it. -/
inductive CtlFail where
  | core (core : Nat)
  | parser
  | sramCopy (structure_ entry : Nat)
  | sram (structure_ : Nat) (user : Option ReadSource)
  deriving DecidableEq, Repr

/-- A Carmir command the management relay may carry (R531), acting as seat 0. -/
inductive RelayCmd where
  | identifySeat
  | setPortConfig (port clkMode : Nat)
  | mapSeat (seat port ldId : Nat)
  | queryHoldup
  | readFaultRecords (firstSeq : Nat)
  | clearFaultRecords (seq : Nat)
  | queryFaultState
  | queryDump
  | readDump (slot section_ offset length dst : Nat)
  | clearDump (slot : Nat)
  | injectFault (target : InjectTarget) (correctable : Bool)
  | queryFirmware
  /-- Any other opcode. -/
  | other (opcode : Nat)
  deriving DecidableEq, Repr

/-- What the pack's I3C target reports (Table 14-2): serial number, rated energy in J, cells, the least and greatest cell voltage
in mV, both temperatures in °C, and whether a fault flag is set. -/
structure PackReading where
  serial : Nat
  rated : Nat
  cells : Nat
  minMv : Nat
  maxMv : Nat
  tempLow : Int
  tempHigh : Int
  fault : Bool
  deriving DecidableEq, Repr

/-- A PLDM sensor (R530, R532). -/
inductive PldmSensor where
  | vin | inputPower | junction | lidA | lidB | packState
  /-- Current of a rail code of Table 19-2. -/
  | rail (code : Nat)
  /-- Device state and event queue: the oldest event not yet fetched. -/
  | deviceState | pollEvent
  deriving DecidableEq, Repr

/-- An MCTP control message (R529). -/
inductive MctpCmd where
  | setEndpointId (eid : Nat)
  | getEndpointId | getEndpointUuid | getVersionSupport | getMessageTypes
  | other (code : Nat)
  deriving DecidableEq, Repr

/-- An address assignment on the management bus (R529). -/
inductive I3cAssign where
  /-- SETDASA to a static address, with the dynamic address given. -/
  | setdasa (static_ addr : Nat)
  /-- ENTDAA, with the dynamic address given. -/
  | entdaa (addr : Nat)
  deriving DecidableEq, Repr

/-- A PLDM base discovery request (R530). -/
inductive PldmBase where
  | setTid (tid : Nat)
  | getTid | getVersion | getTypes | getCommands (kind : Nat)
  | other (code : Nat)
  deriving DecidableEq, Repr


/-- The commands, one per row of spec/opcode_table.json, in the table's order. -/
inductive Instr where
  /-- IDENTIFY_SEAT (R95): Returns the seat number, port, LD-ID, DEVSTATE, firmware version, implemented-version bitmap and quotas, with any envelope version. -/
  | identifySeat (e : Env)
  /-- NEGOTIATE_VERSION (R94): Chooses the highest implemented CCS version within the offered range and records it as the seat's negotiated version. -/
  | negotiateVersion (e : Env) (low high : Nat)
  /-- SET_NOTICE_RING (R87): Places, replaces or removes the seat's notice ring in its own HDM. -/
  | setNoticeRing (e : Env) (base log2 : Nat)
  /-- GET_OPERATION (R88): Returns the state and final status of one of the seat's 1,024 most recent OPIDs. -/
  | getOperation (e : Env) (opid : Nat)
  /-- SET_PORT_CONFIG (R62): Persists a port's next clock mode, which takes effect at the port's next reset. -/
  | setPortConfig (e : Env) (port clkMode : Nat)
  /-- MAP_SEAT (R43): Maps a seat to a port and LD-ID, or unmaps it, from seat 0. -/
  | mapSeat (e : Env) (seat port ldId : Nat)
  /-- UNSUPPORTED_OPCODE (R9): An opcode in 0xC000-0xCFFF that CCS 3.2 does not define returns UNSUPPORTED with no other effect. -/
  | unsupportedOpcode (e : Env) (opcode : Nat)
  /-- LOAD_PARTITION (R111): Creates a RESIDENT partition with the given geometry and KV format after checking the body, the number and the MODEL_ID. -/
  | loadPartition (e : Env) (b : LoadBody)
  /-- QUERY_PARTITION (R110): Returns a partition's state, accepted body, derived sizes, frames, step number and admitted requests. -/
  | queryPartition (e : Env) (part : Nat)
  /-- SWAP_OUT_PARTITION (R126): Starts a swap out that drains the partition, writes back its dirty frames and metadata, and leaves it SWAPPED or EMPTY. -/
  | swapOutPartition (e : Env) (part : Nat) (release : Bool)
  /-- SWAP_IN_PARTITION (R128): Reserves frames and reads a partition image back into HBM, leaving the partition RESIDENT. -/
  | swapInPartition (e : Env) (modelId part : Nat)
  /-- UNLOAD_PARTITION (R131): Removes a partition and frees its frames, image and prefix subtree, forcing out its requests when FORCE is set. -/
  | unloadPartition (e : Env) (part : Nat) (force : Bool)
  /-- BIND_KV_WINDOW (R122): Maps a Serve partition's KV space into the seat's HDM-H range at a 1 GiB aligned offset. -/
  | bindKvWindow (e : Env) (part offset : Nat)
  /-- UNBIND_KV_WINDOW (R122): Removes a seat's KV window for a partition at once. -/
  | unbindKvWindow (e : Env) (part seat : Nat)
  /-- LIST_IMAGES (R132): Returns each flash image's MODEL_ID, sizes, geometry and whether it stands alone. -/
  | listImages (e : Env) (start : Nat)
  /-- DELETE_IMAGE (R132): Frees a standalone image and all the flash it holds. -/
  | deleteImage (e : Env) (modelId : Nat)
  /-- CREATE_TENANT (R148): Creates a tenant record with a given budget in a free number. -/
  | createTenant (e : Env) (tenant mode rate cap : Nat)
  /-- DELETE_TENANT (R148): Frees a tenant record that holds no request or ticket. -/
  | deleteTenant (e : Env) (tenant : Nat)
  /-- SET_TENANT_BUDGET (R154): Sets a tenant's MODE, RATE and CAP and journals the change before answering. -/
  | setTenantBudget (e : Env) (tenant mode rate cap : Nat)
  /-- GRANT_BUDGET (R154): Adds a signed amount of milli-tokens to a tenant's BALANCE, limited to its cap. -/
  | grantBudget (e : Env) (tenant : Nat) (amount : Int)
  /-- QUERY_TENANT (R149): Returns a tenant record. -/
  | queryTenant (e : Env) (tenant : Nat)
  /-- SET_SEAT_QUOTA (R146): Sets a seat's entry and frame limits with immediate effect. -/
  | setSeatQuota (e : Env) (seat maxEntries maxFrames : Nat)
  /-- SET_PARTITION_CAP (R146): Sets a partition's frame cap with immediate effect. -/
  | setPartitionCap (e : Env) (part cap : Nat)
  /-- QUERY_CAPACITY (R146): Returns the limit and charge of every capacity account. -/
  | queryCapacity (e : Env)
  /-- ADMIT_REQUEST (R160): Checks and admits a request, reserving its reach slots, frames and flash home, taking prefix references and charging its tenant. -/
  | admitRequest (e : Env) (b : AdmitBody)
  /-- COMMIT_PROMPT (R139): Ends prefill and moves a request from PREFILL to ACTIVE. -/
  | commitPrompt (e : Env) (handle : Nat)
  /-- SET_REQUEST (R158): Sets a request's priority and deadlines, at once or staged to the open step's boundary. -/
  | setRequest (e : Env) (handle prio dlToken dlItem : Nat)
  /-- CANCEL_REQUEST (R161): Frees a request at once, or stages its cancellation to the open step's boundary. -/
  | cancelRequest (e : Env) (handle : Nat)
  /-- QUERY_REQUEST (R135): Returns the Request Table entry unchanged. -/
  | queryRequest (e : Env) (handle : Nat)
  /-- LIST_REQUESTS (R134): Returns the handles of the seat's requests, or of every seat's requests when issued from seat 0. -/
  | listRequests (e : Env) (start : Nat)
  /-- CREATE_STEP_RING (R96): Creates a step ring set bound to a Serve partition, live at once. -/
  | createStepRing (e : Env) (b : RingBody)
  /-- DESTROY_STEP_RING (R101): Destroys a ring set at once, or at the open step's boundary. -/
  | destroyStepRing (e : Env) (ring seat : Nat)
  /-- CLOSE_STEP (R193): Acts as a STEP_CLOSE consumed when it is served, for the owning seat or seat 0. -/
  | closeStep (e : Env) (part : Nat)
  /-- QUERY_STEP (R196): Returns the condition, number, owner and progress of a partition's open step. -/
  | queryStep (e : Env) (part : Nat)
  /-- REGISTER_WINDOW (R259): Registers a peer window of a given kind, base, length and port mask for the seat. -/
  | registerWindow (e : Env) (kind portMask base length : Nat)
  /-- RELEASE_WINDOW (R260): Removes a window that no open step, live ring or operation names. -/
  | releaseWindow (e : Env) (window : Nat)
  /-- SET_DIGESTS (R276): Turns reach digests on or off in a Serve partition, charging or releasing the digest area. -/
  | setDigests (e : Env) (part : Nat) (on : Bool)
  /-- SET_SELECTION (R279): Sets a request's reach selection values SEL, SINK and RECENT. -/
  | setSelection (e : Env) (handle sel sink recent : Nat)
  /-- LOOKUP_PREFIX (R206): Finds the longest stored prefix of a token list and returns its length and handle, with an optional pin. -/
  | lookupPrefix (e : Env) (part : Nat) (pin : Bool) (tenant count tokens : Nat)
  /-- INSERT_PREFIX (R209): Stores a request's first N_I tokens' KV as prefix nodes, by transfer or copy, stopping at the first reach it cannot store. -/
  | insertPrefix (e : Env) (part : Nat) (pin : Bool) (count tokens handle : Nat)
  /-- PIN_PREFIX (R218): Adds a pin of the issuing seat to the node a handle resolves to. -/
  | pinPrefix (e : Env) (part tenant pfx : Nat)
  /-- UNPIN_PREFIX (R218): Removes one pin of the issuing seat, or of any seat from seat 0. -/
  | unpinPrefix (e : Env) (part tenant pfx : Nat)
  /-- QUERY_PREFIX (R203): Returns a Delta node unchanged. -/
  | queryPrefix (e : Env) (part tenant pfx : Nat)
  /-- SET_PREFIX_POLICY (R199): Sets a partition's prefix charge, scope, slot cap and insert mask. -/
  | setPrefixPolicy (e : Env) (part charge scope maxSlots insertMask : Nat)
  /-- PURGE_PREFIX (R228): Evicts every node of a partition that is or becomes evictable while it runs. -/
  | purgePrefix (e : Env) (part : Nat)
  /-- QUERY_PREFIX_STORE (R204): Returns a partition's root-record counts of live nodes, slots, frames and listed nodes. -/
  | queryPrefixStore (e : Env) (part : Nat)
  /-- PARK_CONVERSATION (R328): Parks a request's KV to flash with a time to live, optionally releasing its entry for a ticket. -/
  | parkConversation (e : Env) (handle : Nat) (release : Bool) (ttl : Nat)
  /-- UNPARK_CONVERSATION (R336): Reserves and reads a parked conversation back into HBM. -/
  | unparkConversation (e : Env) (handle ticket : Nat)
  /-- RENEW_PARK (R333): Sets a new expiry on a park from the park clock. -/
  | renewPark (e : Env) (handle ticket ttl : Nat)
  /-- QUERY_TICKET (R333): Returns a ticket record. -/
  | queryTicket (e : Env) (ticket : Nat)
  /-- DISCARD_TICKET (R334): Frees a ticket's park at once, without a notice. -/
  | discardTicket (e : Env) (ticket : Nat)
  /-- PULL_KV (R339): Copies whole slices from a pull-source window into own reaches of a request in PREFILL. -/
  | pullKv (e : Env) (handle window offset first reaches layer0 layer1 : Nat)
  /-- PARK_REGION (R338): Writes back a PARKABLE region and releases its frames, leaving it parked. -/
  | parkRegion (e : Env) (base : Nat)
  /-- UNPARK_REGION (R338): Reserves frames and reads a parked region back from its homes. -/
  | unparkRegion (e : Env) (base : Nat)
  /-- SET_TIER_CONFIG (R316): Sets the image and park flash areas in whole GB. -/
  | setTierConfig (e : Env) (imageGb parkGb : Nat)
  /-- QUERY_TIERS (R316): Returns every flash area's size and use with the dirty count, ceiling and survival mode. -/
  | queryTiers (e : Env)
  /-- QUERY_FLASH (R368): Returns the present state of every lane, the free spare dies and the journal length. -/
  | queryFlash (e : Env)
  /-- SET_LOGIT_WINDOW (R290): Places or removes a request's logit window, at once or staged to the boundary. -/
  | setLogitWindow (e : Env) (handle addr length : Nat)
  /-- LOAD_COUNTS (R289): Records a list of tokens in a request's count set. -/
  | loadCounts (e : Env) (handle count list : Nat)
  /-- CLEAR_COUNTS (R289): Writes every entry of a request's count set as 0. -/
  | clearCounts (e : Env) (handle : Nat)
  /-- QUERY_COUNTS (R289): Returns a range of count-set buckets unchanged. -/
  | queryCounts (e : Env) (handle first count : Nat)
  /-- ALLOCATE_REGION (R463): Allocates a region with placement flags in the seat's HDM range and zero-fills it. -/
  | allocateRegion (e : Env) (b : RegionBody)
  /-- FREE_REGION (R467): Frees a region, invalidating holders, discarding dirty frames and freeing its replica. -/
  | freeRegion (e : Env) (id : Nat)
  /-- QUERY_REGION (R461): Returns the state of a region of the seat. -/
  | queryRegion (e : Env) (id : Nat)
  /-- GRANT_REGION (R468): Grants, lowers or revokes another seat's access to a SHARED region. -/
  | grantRegion (e : Env) (id seat mode : Nat)
  /-- ATTACH_REGION (R468): Maps a granted SHARED region into the issuing seat's HDM-DB range. -/
  | attachRegion (e : Env) (id base : Nat)
  /-- DETACH_REGION (R468): Removes an attachment of a SHARED region. -/
  | detachRegion (e : Env) (id : Nat)
  /-- SET_POOL_LIMITS (R475): Sets a seat's traffic class, rate limit, operation, key slot and region limits and HDM-DB size. -/
  | setPoolLimits (e : Env) (seat cls maxRate maxOps keySlots regions dbSize : Nat)
  /-- QUERY_POOL_LIMITS (R475): Returns a seat's pool limits. -/
  | queryPoolLimits (e : Env) (seat : Nat)
  /-- QUERY_KEY_SLOTS (R473): Returns the state and KCV of the seat's key slots, or all slots from seat 0. -/
  | queryKeySlots (e : Env)
  /-- POOL_OPERATION (R478): Accepts a list of fill, copy, compare and reduce descriptors to run in the POOL queue. -/
  | poolOperation (e : Env) (descs : List PoolDesc)
  /-- JOIN_POOL_SET (R484): Joins the module to a pool set and waits for the set to form. -/
  | joinPoolSet (e : Env) (b : JoinBody)
  /-- LEAVE_POOL_SET (R492): Ends pool-set membership once no MIRRORED or PARITY region is held. -/
  | leavePoolSet (e : Env)
  /-- QUERY_POOL_SET (R492): Returns the pool set's identity, member states, stale stripes and degraded regions. -/
  | queryPoolSet (e : Env)
  /-- REBUILD_MEMBER (R491): Rebuilds a lost member's regions and parity space on a replacement module. -/
  | rebuildMember (e : Env)
  /-- QUERY_LINE (R459): Returns the directory state of a SHARED line of the seat. -/
  | queryLine (e : Env) (addr : Nat)
  /-- FENCE_SEAT (R453): Fences a named seat at once from seat 0. -/
  | fenceSeat (e : Env) (seat : Nat)
  /-- UNFENCE_SEAT (R457): Lifts a seat's fence once its sweep has ended. -/
  | unfenceSeat (e : Env) (seat : Nat)
  /-- QUERY_COHERENCE (R459): Returns the fenced seats, the snoop timeout and each slice's entries and queued requests. -/
  | queryCoherence (e : Env)
  /-- OPEN_RUN (R497): Opens a stash run with its own HBM budget and run table. -/
  | openRun (e : Env) (part run frames maxObjects : Nat)
  /-- CLOSE_RUN (R498): Drops every object of a run and frees its table and budget. -/
  | closeRun (e : Env) (part run : Nat)
  /-- STASH_TRANSFER (R500): Accepts put, get and drop descriptors to run in the STASH queue. -/
  | stashTransfer (e : Env) (descs : List StashDesc)
  /-- SET_SCHEDULE (R505): Copies a run's list of future get keys and resets its cursor. -/
  | setSchedule (e : Env) (part run count list : Nat)
  /-- QUERY_STASH (R499): Returns a run's budget, free frames, cursor, schedule length and object records. -/
  | queryStash (e : Env) (part run start : Nat)
  /-- SET_TELEMETRY_RING (R557): Places or removes the telemetry ring in seat 0's HDM. -/
  | setTelemetryRing (e : Env) (base log2 : Nat)
  /-- QUERY_POWER (R558): Returns PWR_STATUS, PWR_CTRL, the latest telemetry record and each rail's live phases. -/
  | queryPower (e : Env)
  /-- QUERY_OC_REGIONS (R558): Returns each over-current region's thresholds, state and trips in the present window. -/
  | queryOcRegions (e : Env)
  /-- SET_POWER_CONFIG (R558): Writes IDLE_GATE and IDLE_US of PWR_CTRL as a global RWS change. -/
  | setPowerConfig (e : Env) (idleGate idleUs : Nat)
  /-- QUERY_HOLDUP (R411): Returns the hold-up status, energies, ceiling, dirty count and pack identity. -/
  | queryHoldup (e : Env)
  /-- TEST_HOLDUP (R411): Starts a discharge test of the seated pack. -/
  | testHoldup (e : Env)
  /-- SET_HOLDUP_CONFIG (R411): Sets the test period PERIOD_DAYS. -/
  | setHoldupConfig (e : Env) (periodDays : Nat)
  /-- READ_FAULT_RECORDS (R600): Returns visible fault records in SEQ order from a starting SEQ. -/
  | readFaultRecords (e : Env) (firstSeq : Nat)
  /-- CLEAR_FAULT_RECORDS (R600): Removes fault records up to a SEQ from the log ring and TCM copy. -/
  | clearFaultRecords (e : Env) (seq : Nat)
  /-- QUERY_FAULT_STATE (R600): Returns FLT_STATUS, the retirement table, unexpired failures and damage-table occupancy. -/
  | queryFaultState (e : Env)
  /-- QUERY_DUMP (R600): Returns the headers of both dump slots. -/
  | queryDump (e : Env)
  /-- READ_DUMP (R606): Returns or copies an extent of a dump section. -/
  | readDump (e : Env) (slot section_ offset length dst : Nat)
  /-- CLEAR_DUMP (R600): Empties a dump slot. -/
  | clearDump (e : Env) (slot : Nat)
  /-- INJECT_FAULT (R587): Injects one error into a named HBM unit, tile array row or flash map unit, marked INJECTED. -/
  | injectFault (e : Env) (target : InjectTarget) (correctable : Bool)
  /-- QUERY_FIRMWARE (R608): Returns both image headers, the active image, their validity and the minimum SVN. -/
  | queryFirmware (e : Env)
  /-- WRITE_FIRMWARE (R608): Writes an image over the inactive image and verifies it. -/
  | writeFirmware (e : Env) (src length : Nat)
  /-- ACTIVATE_FIRMWARE (R609): Makes the written image active and performs a firmware restart onto it. -/
  | activateFirmware (e : Env)
  /-- RESTART_FIRMWARE (R573): Performs a firmware restart of CC0-CC3. -/
  | restartFirmware (e : Env)
  /-- RESET_WARM (R577): Writes its response and then performs a warm reset 100 µs later. -/
  | resetWarm (e : Env)
  /-- SHOAL_ENCODE (R364): Encodes 65,536 B of source into the stored Shoal unit for given classes. -/
  | shoalEncode (e : Env) (src dst class0 class1 : Nat)
  /-- SHOAL_DECODE (R364): Decodes a Shoal object into 65,536 B. -/
  | shoalDecode (e : Env) (src dst length : Nat)
  /-- IDENTIFY_MEMORY_DEVICE (R81): Standard CXL mailbox command answered as CXL 3.1 defines. -/
  | identifyMemoryDevice (seat : Nat)
  /-- GET_SUPPORTED_LOGS (R81): Standard CXL mailbox command answered as CXL 3.1 defines. -/
  | getSupportedLogs (seat : Nat)
  /-- GET_LOG (R81): Returns the Command Effects Log only. -/
  | getLog (seat : Nat) (cel : Bool) (offset length : Nat)
  /-- GET_TIMESTAMP (R81): Standard CXL mailbox command returning the event-record timestamp. -/
  | getTimestamp (seat : Nat)
  /-- SET_TIMESTAMP (R81): Sets the timestamp used in CXL event records only, never GLB_DEVTIME. -/
  | setTimestamp (seat : Nat) (time : Nat)
  /-- GET_EVENT_RECORDS (R81): Returns records from the LD's CXL event logs. -/
  | getEventRecords (seat : Nat) (log : Nat)
  /-- CLEAR_EVENT_RECORDS (R599): Clears records from that LD's event logs only. -/
  | clearEventRecords (seat : Nat) (log : Nat) (all : Bool) (handles : List Nat)
  /-- UNSUPPORTED_CXL_OPCODE (R81): Any other standard CXL mailbox opcode returns Unsupported. -/
  | unsupportedCxlOpcode (seat opcode : Nat)
  /-- GET_LD_INFO (R46): FM API command reporting 16 LDs and 216 TB. -/
  | getLdInfo (port : Nat)
  /-- GET_LD_ALLOCATIONS (R46): FM API command returning each LD's HDM allocation. -/
  | getLdAllocations (port : Nat)
  /-- SET_LD_ALLOCATIONS (R47): Gives each LD an HDM range size, rejecting the whole command on any violation. -/
  | setLdAllocations (port : Nat) (allocs : List (Nat × Nat))
  /-- GET_QOS_CONTROL (R46): FM API command returning the QoS control settings. -/
  | getQosControl (port : Nat)
  /-- SET_QOS_CONTROL (R51): Sets the backpressure interval, moderate and severe percentages and collection interval. -/
  | setQosControl (port bsi moderate severe cci : Nat)
  /-- GET_QOS_STATUS (R53): Returns the current average ingress-queue occupancy only. -/
  | getQosStatus (port : Nat)
  /-- GET_QOS_ALLOCATED_BW (R52): Reports each LD's allocated fraction. -/
  | getQosAllocatedBw (port : Nat)
  /-- SET_QOS_ALLOCATED_BW (R52): Sets each LD's allocated bandwidth fraction in units of 1/256. -/
  | setQosAllocatedBw (port : Nat) (values : List (Nat × Nat))
  /-- GET_QOS_BW_LIMIT (R52): Reports each LD's bandwidth limit. -/
  | getQosBwLimit (port : Nat)
  /-- SET_QOS_BW_LIMIT (R52): Sets each LD's bandwidth limit in units of 1/256. -/
  | setQosBwLimit (port : Nat) (values : List (Nat × Nat))
  /-- FM_IDENTIFY (R46): FM API Identify command answered through the switch tunnel. -/
  | fmIdentify (port : Nat)
  /-- TUNNEL_MANAGEMENT_COMMAND (R46): Carries an FM API command through the switch tunnel to the FM-owned LD. -/
  | tunnelManagementCommand (port : Nat) (cmd : FmCmd)
  /-- CONFIGURATION_REQUEST (R579): A configuration access answered with CRS before FW_READY and in full afterwards. -/
  | configurationRequest (port ld : Nat) (write : Bool) (item : CfgItem) (value : Nat)
  /-- DOE_OBJECT (R57): A DOE data object taken whole and processed one at a time, discarded if over 16 KiB. -/
  | doeObject (port ld dataType length : Nat)
  /-- DOE_DISCOVERY (R57): Returns the supported DOE data object types. -/
  | doeDiscovery (port ld index : Nat)
  /-- CDAT_TABLE_ACCESS (R49): Returns the LD's CDAT with its DSMAS, DSEMTS and DSLBIS entries. -/
  | cdatTableAccess (port ld entry : Nat)
  /-- SPDM_REQUEST (R58): An SPDM 1.2 request answered by the responder with its stated capabilities and algorithms. -/
  | spdmRequest (port ld version : Nat) (req : SpdmReq)
  /-- SET_CERTIFICATE (R59): Writes an operator chain into slots 1-3 only in a secured session on P0 LD-ID 0 with seat 0 mapped. -/
  | setCertificate (port ld slot : Nat) (secured : Bool) (chain : List Byte)
  /-- CXL_KEY_PROG (R54): Programs a CXL IDE key set over a secured session on LD-ID 0. -/
  | cxlKeyProg (port ld : Nat) (secured : Bool) (keySet : Nat)
  /-- CXL_K_SET_GO (R55): Switches IDE to a programmed key set without stopping traffic. -/
  | cxlKSetGo (port ld : Nat) (secured : Bool) (keySet : Nat)
  /-- CXL_K_SET_STOP (R54): Stops an IDE key set. -/
  | cxlKSetStop (port ld : Nat) (secured : Bool) (keySet : Nat)
  /-- CXL_QUERY (R54): IDE key-management query carried on LD-ID 0. -/
  | cxlQuery (port ld : Nat) (secured : Bool) (keySet : Nat)
  /-- CXL_GETKEY (R54): IDE key-management GETKEY carried on LD-ID 0. -/
  | cxlGetkey (port ld : Nat) (secured : Bool) (keySet : Nat)
  /-- KEY_INSTALL (R473): Loads KEY1 and KEY2 into a key slot and returns its KCV. -/
  | keyInstall (port ld : Nat) (secured : Bool) (slot key1 key2 : Nat)
  /-- KEY_ERASE (R473): Frees a key slot no region records. -/
  | keyErase (port ld : Nat) (secured : Bool) (slot : Nat)
  /-- KEY_QUERY (R473): Returns a key slot's state and KCV. -/
  | keyQuery (port ld : Nat) (secured : Bool) (slot : Nat)
  /-- MCTP_CONTROL_MESSAGE (R529): MCTP control message answered in every power condition except off. -/
  | mctpControlMessage (cmd : MctpCmd)
  /-- I3C_ADDRESS_ASSIGNMENT (R529): SETDASA or ENTDAA assigns the J1 target's address. -/
  | i3cAddressAssignment (assign : I3cAssign)
  /-- PLDM_BASE_REQUEST (R530): PLDM base discovery request. -/
  | pldmBaseRequest (req : PldmBase)
  /-- PLDM_SENSOR_READ (R530): Returns a present sensor reading from shadow copies, or ERROR_NOT_READY. -/
  | pldmSensorRead (sensor : PldmSensor) (reading : Nat)
  /-- PLDM_FIRMWARE_UPDATE (R530): Writes a firmware image through PLDM type 5. -/
  | pldmFirmwareUpdate (size : Nat)
  /-- PLDM_ACTIVATE_FIRMWARE (R609): Activates the written image through PLDM. -/
  | pldmActivateFirmware
  /-- CARMIR_RELAY (R531): Relays a permitted Carmir command as seat 0 through PLDM type 63, served by CC3. -/
  | carmirRelay (verMajor verMinor bodyLen tag hostTime : Nat) (cmd : RelayCmd)
  /-- RING_STORE (R99): The watcher accepts or discards a store into submission ring memory by its SEQ window and size. -/
  | ringStore (seat ring slot : Nat) (full : Bool) (data : List Byte)
  /-- NOP (R100): Consumes its slot and produces no completion. -/
  | nop (seat ring : Nat)
  /-- UNDEFINED_KIND (R100): A record of undefined KIND consumes its slot, sets MALFORMED and completes with INVALID. -/
  | undefinedKind (seat ring : Nat)
  /-- STEP_OPEN (R171): Checks and accepts a step, fixing its item order and the lengths of its kept requests. -/
  | stepOpen (seat ring : Nat)
  /-- ATTEND (R184): Checks an ATTEND record and supplies the query of its item. -/
  | attend (seat ring : Nat)
  /-- APPEND (R181): Writes the new position's K and V rows for a layer at once in STEP class. -/
  | append (seat ring : Nat)
  /-- DELIVER (R184): Checks a DELIVER record and releases its item's push of slices. -/
  | deliver (seat ring : Nat)
  /-- STEP_CLOSE (R192): Puts the partition in CLOSING and finishes the step's items and draws. -/
  | stepClose (seat ring : Nat)
  /-- LOGIT_HEADER_STORE (R292): A full store to a logit window header makes the window ready and queues a draw when its step matches. -/
  | logitHeaderStore (seat addr : Nat) (full : Bool) (data : List Byte)
  /-- CXL_MEM_READ (R465): A CXL.mem read served by what lies behind the HDM address, through the directory for SHARED lines. -/
  | cxlMemRead (port ld addr : Nat) (mv : MetaVal)
  /-- CXL_MEM_WRITE (R465): A CXL.mem write or partial write served by what lies behind the HDM address. -/
  | cxlMemWrite (port ld addr : Nat) (mv : MetaVal) (mask : Nat) (data : List Byte)
  /-- MEM_INV (R441): A MemInv request changes a SHARED line's directory state. -/
  | memInv (port ld addr : Nat) (mv : MetaVal)
  /-- MEM_RD_DATA (R441): A MemRdData request on a SHARED line. -/
  | memRdData (port ld addr : Nat)
  /-- MEM_CLN_EVCT (R441): A clean eviction removes the seat from a line's holders. -/
  | memClnEvct (port ld addr : Nat)
  /-- MEM_SPEC_RD (R436): A MemSpecRd is dropped without effect. -/
  | memSpecRd (port ld addr : Nat)
  /-- BIRSP (R444): A back-invalidate response closes its snoop and updates the holder's state. -/
  | birsp (port ld addr : Nat) (rsp : BiRsp) (block : Bool)
  /-- BICONFLICT (R449): A host's BIConflict is answered with BIConflictAck after its served requests. -/
  | biconflict (port ld addr : Nat)
  /-- POOLSET_ENTRY (R486): A pool-set stream entry is applied in SEQ order and credited back. -/
  | poolsetEntry (member seq : Nat) (entry : StreamEntry)
  /-- PCI_PM_STATE_CHANGE (R39): An LD enters D0 or D3hot, gating its doorbells. -/
  | pciPmStateChange (port ld : Nat) (d3hot : Bool)
  /-- LINK_TRAINING_COMPLETE (R38): A port completes training at a width and speed, carrying CXL or PCIe only. -/
  | linkTrainingComplete (port : Nat) (offer : Offer)
  /-- RECOVERY_ENTRY (R68): A link enters Recovery from L0 and leaves a transient fault record. -/
  | recoveryEntry (port : Nat)
  /-- LANE_GROUP_FAILURE (R68): A lane group records a training or link-down failure or a hard signature. -/
  | laneGroupFailure (port : Nat) (high hard : Bool)
  /-- IDE_INTEGRITY_FAILURE (R56): An IDE check failure discards flits, poisons reads and stops the port. -/
  | ideIntegrityFailure (port : Nat)
  /-- HOT_RESET (R71): A hot reset received on a port is a port reset. -/
  | hotReset (port : Nat)
  /-- LINK_DISABLE (R71): A link disable is a port reset that holds the link down until the partner leaves Disabled. -/
  | linkDisable (port : Nat)
  /-- FUNCTION_LEVEL_RESET (R574): An FLR of an LD is a seat reset that fences the seat and removes its rings and windows. -/
  | functionLevelReset (port ld : Nat)
  /-- CXL_RESET (R574): A CXL Reset of an LD is a seat reset. -/
  | cxlReset (port ld : Nat)
  /-- GPF_PHASE_1 (R433): Global Persistent Flush Phase 1 completes at once. -/
  | gpfPhase1 (port : Nat)
  /-- GPF_PHASE_2 (R433): Writes back dirty frames and journals, completing when done or at 5 s. -/
  | gpfPhase2 (port : Nat)
  /-- GPF_PHASE_2_DEADLINE (R433): GPF Phase 2 completes at 5 s whatever remains dirty. -/
  | gpfPhase2Deadline
  /-- STANDBY_START (R525): VIN reaching 42.0 V starts standby within 20 ms. -/
  | standbyStart
  /-- PWR_EN_ASSERT (R543): A debounced PWR_EN# assertion starts the main rails in order. -/
  | pwrEnAssert
  /-- RAIL_GOOD (R543): A rail reaching good starts the next rail's ramp. -/
  | railGood
  /-- RAIL_START_TIMEOUT (R543): A rail not good within 200 µs stops the start and turns the rails off. -/
  | railStartTimeout
  /-- PERST_DEASSERT (R526): PERST# deassertion with rails good and REFCLK stable sets T_0 and leaves reset. -/
  | perstDeassert
  /-- COLD_RESET (R569): A cold reset restarts the whole device from empty HBM with a fresh epoch and SALT. -/
  | coldReset
  /-- PERST_ASSERT (R570): PERST# asserted while running causes a warm reset that saves state and holds HBM in self-refresh. -/
  | perstAssert
  /-- WARM_RESET_SAVE_COMPLETE (R570): The warm-reset save ends and the device waits for T_0. -/
  | warmResetSaveComplete
  /-- PWR_EN_DEASSERT (R527): PWR_EN# deassertion is a trigger that flushes from the input and asserts ALERT#. -/
  | pwrEnDeassert
  /-- INPUT_LOSS_TRIGGER (R415): Input below 38.0 V or above 63.0 V for 10 µs is a trigger. -/
  | inputLossTrigger (high : Bool)
  /-- BUS_UNDERVOLTAGE (R537): The intermediate bus below 5.40 V for 5 µs is a trigger. -/
  | busUndervoltage
  /-- FLUSH_DATA_PHASE_END (R418): The data phase ends when all dirty frames are written or E_stored falls to 600 J, and the metadata phase begins. -/
  | flushDataPhaseEnd (frames : Nat)
  /-- FLUSH_COMPLETE (R418): The metadata phase and boot record end the flush and the module powers down or restarts cold. -/
  | flushComplete
  /-- FLUSH_REFCLK_LOSS (R417): REFCLK absent during a flush hands the root over to ROSC. -/
  | flushRefclkLoss
  /-- REFCLK_LOSS (R565): REFCLK lost while running moves the root to ROSC and resets every port. -/
  | refclkLoss
  /-- REFCLK_RETURN (R566): REFCLK stable for 1.0 ms relocks the root and retrains the ports. -/
  | refclkReturn
  /-- ROOT_PLL_LOCK (R562): The root PLL locks and the root-derived domains run. -/
  | rootPllLock
  /-- PORT_PLL_LOCK (R562): The port PLLs lock and link training begins. -/
  | portPllLock
  /-- FW_READY (R581): Firmware is serving; latched doorbells and configuration requests are answered. -/
  | fwReady
  /-- MEMORY_ACTIVE (R580): HBM is trained and CXL.mem accesses are served. -/
  | memoryActive
  /-- MAP_READY (R399): The FTL map is loaded after a flush recovery or a replay. -/
  | mapReady
  /-- ADMIT_OPEN (R90): Admission opens; ADMIT_OPEN is set and notices are posted to every seat. -/
  | admitOpen
  /-- RESTORE_COMPLETE (R427): A host allocation or partition finishes being read back after flush recovery. -/
  | restoreComplete
  /-- PACK_POLL (R404): AON reads the pack's I3C target every 100 ms and judges its health. -/
  | packPoll (reading : Option PackReading)
  /-- HOLDUP_MEASUREMENT (R407): AON measures pack energy every 1.000 ms. -/
  | holdupMeasurement (eStored : Nat)
  /-- PACK_INSERT (R432): A pack inserted starts a discharge test at once. -/
  | packInsert
  /-- PACK_REMOVE (R430): Pack removal stops the charger, sets the ceiling to 0 and forces a checkpoint, or stops a running flush. -/
  | packRemove (written : Nat)
  /-- CHARGE_COMPLETE (R405): The pack reaches full charge. -/
  | chargeComplete
  /-- TEST_DUE (R408): PERIOD_DAYS of park clock since the last test start a discharge test. -/
  | testDue
  /-- TEST_REST_END (R408): The 10 s rest ends and the 480 W discharge begins. -/
  | testRestEnd
  /-- TEST_DISCHARGE_END (R408): The discharge reaches 36.0 V, sets E_cap, qualifies the pack and starts the recharge. -/
  | testDischargeEnd (energy : Nat)
  /-- OVER_TEMPERATURE (R516): Junction or lid over its limit for 1 ms is a fatal event. -/
  | overTemperature (location : Nat)
  /-- CONVERTER_LOSS (R536): Loss of a bus converter is a fatal event. -/
  | converterLoss (bc : Nat)
  /-- RAIL_OUT_OF_WINDOW (R542): A rail out of its window or VLOGIC over-current is a fatal event. -/
  | railOutOfWindow (rail : Nat) (overCurrent : Bool)
  /-- PHASE_FAULT (R540): A faulting final-stage phase is disabled and permanently failed. -/
  | phaseFault (phase : Nat)
  /-- THROTTLE_ENGAGE (R550): A region over its throttle threshold throttles and logs. -/
  | throttleEngage (region : Nat)
  /-- THROTTLE_RELEASE (R550): A region below 90 % of its threshold for 10 µs releases its throttle. -/
  | throttleRelease (region : Nat)
  /-- OVER_CURRENT_TRIP (R552): A region over its trip threshold is gated or stopped for HOLD. -/
  | overCurrentTrip (region : Nat)
  /-- TRIP_HOLD_END (R552): HOLD ends and the tripped region resumes as its type requires. -/
  | tripHoldEnd (region : Nat)
  /-- IDLE_GATE_TIMEOUT (R546): IDLE_US without an open step gates all tile regions and drops VARR to retention. -/
  | idleGateTimeout
  /-- TILE_WAKE_COMPLETE (R546): Tiles woken by a STEP_OPEN become usable and staging may begin. -/
  | tileWakeComplete
  /-- TELEMETRY_WINDOW_END (R554): A 1 ms window ends and its telemetry record is formed, shadowed and written to the ring. -/
  | telemetryWindowEnd (currents : List Nat)
  /-- DEVLOAD_SAMPLE (R51): The ingress-queue occupancy is sampled every 128 LINK cycles. -/
  | devloadSample (port occupancy : Nat)
  /-- COLLECTION_INTERVAL_END (R52): A Completion Collection Interval ends, fixing each LD's usage U and rate admission. -/
  | collectionIntervalEnd (port : Nat)
  /-- TENANT_REFILL (R150): Every 1.000 ms Weir adds RATE to each metered tenant's balance. -/
  | tenantRefill
  /-- PARK_CLOCK_SECOND (R333): The park clock advances by one second and is journaled per quantum. -/
  | parkClockSecond
  /-- PARK_EXPIRY (R334): A park reaching its EXPIRY is freed and an EXPIRED notice posted. -/
  | parkExpiry
  /-- CLAIM_LAPSE (R92): A BUSY claim lapses RETRY_AFTER plus 1 ms after its last BUSY without a retry. -/
  | claimLapse
  /-- ITEM_EXPIRY (R176): An item waiting WAIT_US for its record expires with a LATE completion. -/
  | itemExpiry
  /-- STAGING_COMPLETE (R24): Sluice finishes staging an item or pass into a half. -/
  | stagingComplete
  /-- ITEM_COMPUTE_COMPLETE (R270): An Attend item's compute ends, its result and completion are written and the next item enters service. -/
  | itemComputeComplete
  /-- DELIVER_PUSH_COMPLETE (R283): A Deliver item's slices are pushed and flushed and its completion written. -/
  | deliverPushComplete
  /-- DRAW (R301): Eddy takes a queued draw, applies penalties and truncation, draws the token and writes its completion. -/
  | draw
  /-- STEP_BOUNDARY (R194): After the step's work ends, settles the ledger, frees cancelled requests, commits staged changes and writes STEP_CLOSE. -/
  | stepBoundary (part : Nat)
  /-- IDLE_COMMIT (R6): At idle a pending global RWS write commits and held STEP_OPEN records are released. -/
  | idleCommit
  /-- HBM_RECAL_DEADLINE (R344): A recalibration not done by its 30 s deadline is forced mid-step. -/
  | hbmRecalDeadline (stack : Nat)
  /-- FLASH_CAL_DEADLINE (R388): A channel calibration not done by its deadline is forced. -/
  | flashCalDeadline (channel : Nat)
  /-- HBM_PATROL_SCRUB (R343): The patrol scrub reads each 64 KiB block of a stack in MAINT. -/
  | hbmPatrolScrub (stack : Nat)
  /-- WRITEBACK_UNIT (R319): Sluice reads and encodes an eligible map unit and programs it to its home. -/
  | writebackUnit
  /-- FLASH_PROGRAM_COMPLETE (R372): A unit's program and journal record complete, moving its map entry and clearing WB. -/
  | flashProgramComplete (idx : Nat)
  /-- FLASH_PROGRAM_FAIL (R382): A failed program closes and retires the block and re-dirties the unit. -/
  | flashProgramFail (idx : Nat)
  /-- FLASH_ERASE_FAIL (R382): A block whose erase fails is retired. -/
  | flashEraseFail (lane block : Nat)
  /-- FLASH_READ_UNCORRECTABLE (R385): A unit failing its last read-retry level becomes LOST. -/
  | flashReadUncorrectable (idx : Nat)
  /-- BLOCK_REFRESH (R386): A closed block meeting a refresh condition is relocated and erased. -/
  | blockRefresh (place : BlockAt) (readFound : Bool)
  /-- FLASH_PATROL_SCRUB (R387): The flash patrol scrub reads closed blocks each 7-day pass. -/
  | flashPatrolScrub (channel : Nat) (readFound : Bool)
  /-- STATIC_LEVELLING (R379): A least-worn closed block is relocated when wear spread exceeds 200. -/
  | staticLevelling (lane : Nat)
  /-- JOURNAL_PAGE_FLUSH (R397): A journal page is programmed when full or 200 µs after its first record. -/
  | journalPageFlush
  /-- MAP_CHECKPOINT (R398): A map checkpoint starts when the journal reaches its threshold or REPLAY mode is entered. -/
  | mapCheckpoint
  /-- CHANNEL_FAILURE (R389): A permanently failed channel evacuates its lanes to spare dies or marks them DEAD. -/
  | channelFailure (channel : Nat) (fail : FlashFail)
  /-- LANE_EVACUATION_COMPLETE (R389): A lane's copy to its spare die ends and the lane is LIVE. -/
  | laneEvacuationComplete (lane : Nat)
  /-- HBM_ERROR (R588): A read or scrub finds a correctable or uncorrectable HBM error, counted and possibly damaging a unit. -/
  | hbmError (stack pc bank row : Nat) (place : HbmPlace) (correctable : Bool)
  /-- FRAME_REPAIR (R588): A damaged clean frame is repaired from its home in MAINT. -/
  | frameRepair (place : HbmPlace)
  /-- PC_RETIREMENT_COPY_END (R591): A retiring pseudo-channel's copy to the remap area ends and it is gated off. -/
  | pcRetirementCopyEnd (pc : Nat)
  /-- TILE_ARRAY_ERROR (R590): A tile array error is corrected, restages the pass, or ends the item. -/
  | tileArrayError (tile row : Nat) (fail : TileFail)
  /-- CORE_WATCHDOG (R585): A control core without progress for 100 ms fails and is answered by a firmware restart. -/
  | coreWatchdog (fail : CtlFail)
  /-- FAILURE_EXPIRY (R585): A counted failure expires 86,400 s of park clock after it occurred. -/
  | failureExpiry
  /-- FATAL_EVENT (R602): A fatal event runs the fatal path: stop, dump, flush or stop, rails off, Sable. -/
  | fatalEvent (kind index location : Nat)
  /-- ACTIVATION_TIMEOUT (R609): A new image without FW_READY in 2 s restarts on the previous image. -/
  | activationTimeout
  /-- SVN_COMMIT (R609): The minimum SVN rises after the active image runs 3,600 s. -/
  | svnCommit
  /-- SNOOP_TIMEOUT (R452): A snoop without BIRsp after SNOOP_TO fences its seat. -/
  | snoopTimeout (seat : Nat)
  /-- FENCE_SWEEP_END (R454): The fence sweep finishes clearing the seat from every slice. -/
  | fenceSweepEnd (seat : Nat)
  /-- MEMBER_ABSENT (R489): An entry unconsumed for SET_TO makes a member ABSENT. -/
  | memberAbsent (member : Nat)
  /-- JOIN_TIMEOUT (R484): A pool set not formed in 10 s abandons the join. -/
  | joinTimeout
  /-- POOL_SET_FORMED (R484): All members have joined and answered; the module is FORMED. -/
  | poolSetFormed
  /-- MEMBER_REJOIN (R490): A rejoining member's replicas and stale parity are rebuilt. -/
  | memberRejoin (member : Nat)
  /-- PEER_READ_FAILURE (R66): A peer read timeout or error ends its operation with INVALID. -/
  | peerReadFailure (src : ReadSource)
  /-- SWAP_OUT_COMPLETE (R126): The swap out releases the partition's frames and posts OP_DONE. -/
  | swapOutComplete
  /-- SWAP_IN_COMPLETE (R128): Every frame is read; the partition is RESIDENT and OP_DONE posted. -/
  | swapInComplete
  /-- PARK_COMPLETE (R330): A park writes its record, releases its frames and posts OP_DONE. -/
  | parkComplete (op : Nat)
  /-- UNPARK_COMPLETE (R336): An unpark restores the request's state and posts OP_DONE. -/
  | unparkComplete (op : Nat)
  /-- PULL_COMPLETE (R340): A pull's reads complete and its slices are written. -/
  | pullComplete (op : Nat) (data : List Byte)
  /-- COW_COPY_COMPLETE (R220): A copy-on-write copy ends and the tail reference is released. -/
  | cowCopyComplete (handle : Nat)
  /-- PREFIX_OPERATION_COMPLETE (R213): A lookup, insert or purge ends and posts OP_DONE. -/
  | prefixOperationComplete (op : Nat)
  /-- DIGEST_BUILD (R277): Sluice builds a slice digest in the BULK class. -/
  | digestBuild (part : Nat)
  /-- REGION_ZERO_FILL_COMPLETE (R464): A new region's zero-fill ends and OP_DONE is posted. -/
  | regionZeroFillComplete (op : Nat)
  /-- POOL_DESCRIPTOR_END (R481): A pool descriptor ends, writes its result and starts the next or ends the operation. -/
  | poolDescriptorEnd (op : Nat) (data : List Byte)
  /-- STASH_DESCRIPTOR_END (R500): A stash descriptor ends and the next starts or the transfer ends. -/
  | stashDescriptorEnd (op : Nat) (data : List Byte)
  /-- UNSPILL (R508): Sluice unspills the next scheduled object when its frames fit. -/
  | unspill (part run : Nat)
  /-- REBUILD_COMPLETE (R491): A member rebuild ends and OP_DONE is posted. -/
  | rebuildComplete (op : Nat) (found : Rebuilt)
  /-- STP_CQ_HEAD_WRITE (R104): Releases completion entries, or is ignored with CQ_HEAD_BAD when out of range. -/
  | stpCqHeadWrite (seat ring value : Nat)
  /-- SEAT_NOTICE_HEAD_WRITE (R639): Releases notice entries, or is ignored and logged when out of range. -/
  | seatNoticeHeadWrite (seat value : Nat)
  /-- GLB_STEP_CTRL_WRITE (R629): Stages a change of parser to commit at idle. -/
  | glbStepCtrlWrite (seat value : Nat)
  /-- GLB_DITHER_CTRL_WRITE (R256): Stages the dither override and salt source to commit at idle. -/
  | glbDitherCtrlWrite (seat value : Nat)
  /-- GLB_DITHER_SALT_WRITE (R631): Stages the test salt to commit at idle. -/
  | glbDitherSaltWrite (seat : Nat) (half : Nat) (value : Nat)
  /-- GLB_DELTA_CFG_WRITE (R630): Resizes the node area and account 4, or is refused when locked or out of range. -/
  | glbDeltaCfgWrite (seat value : Nat)
  /-- GLB_COH_CFG_WRITE (R460): Sets the snoop timeout sampled by each later snoop. -/
  | glbCohCfgWrite (seat value : Nat)
  /-- PWR_CTRL_WRITE (R547): Stages idle gating settings to commit at idle. -/
  | pwrCtrlWrite (seat value : Nat)
  /-- PRT_CTRL_WRITE (R625): A write to a locked CLKMODE is refused with DENIED and logged. -/
  | prtCtrlWrite (seat port value : Nat)
  /-- TEL_REC0_READ (R556): Reading TEL_REC0 latches TEL_REC1-3 for that LD. -/
  | telRec0Read (port ld : Nat)
  /-- DEVTIME_LOW_READ (R74): A 32-bit read of GLB_DEVTIME's low half latches the high half. -/
  | devtimeLowRead (port ld : Nat)
  /-- REGISTER_WRITE (R618): A write to any register without a row of its own, applied per its access code or discarded. -/
  | registerWrite (port ld offset width value : Nat)
  /-- SURPRISE_LINK_DOWN (R40): A link lost by hot-plug surprise or an unmated J2 or J3 is handled as a port reset. -/
  | surpriseLinkDown (port : Nat)
  /-- INPUT_PROTECTION_CLOSE (R535): The opened input protection closes again after VIN has stayed between 42.0 V and 60.0 V for 20 ms. -/
  | inputProtectionClose
  /-- CHARGER_CURRENT_LOSS (R406): The charge current staying below 10 % of the commanded value for 20 µs outside constant voltage stops the charger within 50 µs. -/
  | chargerCurrentLoss
  /-- POOLSET_CREDIT (R486): A member's CREDIT write into this module's aperture releases stream entries and the writes waiting on them. -/
  | poolsetCredit (member value : Nat)
  /-- FIRMWARE_RESTART_TIMEOUT (R573): Long-running operations still running 5 s into a firmware restart are ended, and the cores are reloaded. -/
  | firmwareRestartTimeout
  /-- MAP_CHECKPOINT_COMPLETE (R398): The checkpoint's last page and its boot record are programmed, which resets the journal count and releases writes held in REPLAY mode. -/
  | mapCheckpointComplete
  /-- UNSPILL_COMPLETE (R508): An unspill finishes reading its object, which becomes held and lets the run's next unspill start. -/
  | unspillComplete (part run : Nat)
  /-- MIRROR_RESYNC_COMPLETE (R490): The copy into fresh replicas after a member rejoins ends, and the region leaves DEGRADED. -/
  | mirrorResyncComplete (region : Nat)
  /-- REGION_PARK_COMPLETE (R338): A region park finishes writing back the region and releases its frames, and the region is parked. -/
  | regionParkComplete (op : Nat)
  /-- REGION_UNPARK_COMPLETE (R338): A region unpark finishes reading its homes, and the region is held again. -/
  | regionUnparkComplete (op : Nat)
  /-- LOAD_COUNTS_COMPLETE (R289): Eddy finishes recording a LOAD_COUNTS list between draws and posts its outcome. -/
  | loadCountsComplete (op : Nat)
  /-- FIRMWARE_WRITE_COMPLETE (R608): An image written over the inactive image finishes and is verified, marked valid or invalid, and OP_DONE is posted. -/
  | firmwareWriteComplete (image : FwImage)
  /-- DUMP_COPY_COMPLETE (R606): A READ_DUMP copy to DST in the POOL queue ends, and OP_DONE is posted. -/
  | dumpCopyComplete (op : Nat)
  deriving DecidableEq, Repr

end Sys2Proof
end

