-- ==== Sys2Proof/WellFormed.lean ====
section
/-! DEFINITION. Well-formed commands: every operand fits the interface it arrives at. An operand that names a seat, port, LD, ring or
other unit names one the device has; a field of a command body fits the field's width. What a well-formed field may hold is for the
command's own checks to judge. -/

namespace Sys2Proof

/-- A value of an `n`-bit field. -/
def widthOk (n x : Nat) : Bool := x < 2 ^ n

/-- A unit number below the number of such units. -/
def below (n x : Nat) : Bool := x < n

/-- An envelope as a seat's mailbox carries it (Table 3-6). -/
def envOk (e : Env) : Bool :=
  below 64 e.seat && widthOk 8 e.verMajor && widthOk 8 e.verMinor && widthOk 32 e.tag && widthOk 64 e.hostTime && widthOk 32 e.bodyLen &&
  widthOk 32 e.payloadLen

/-- A LOAD_PARTITION body fits its fields (Table 4-3). -/
def loadOk (b : LoadBody) : Bool :=
  widthOk 8 b.part && widthOk 8 b.mode && widthOk 8 b.format && widthOk 8 b.tprLog2 && widthOk 16 b.layers && widthOk 16 b.kvHeads &&
  widthOk 16 b.qHeads && widthOk 16 b.headDim && widthOk 32 b.vocab && widthOk 32 b.slots && widthOk 32 b.scoreScale && widthOk 64 b.modelId

/-- An ADMIT_REQUEST body fits its fields (Table 5-9). -/
def admitOk (b : AdmitBody) : Bool :=
  widthOk 8 b.part && widthOk 8 b.prio && widthOk 16 b.tenant && widthOk 32 b.promptLen && widthOk 32 b.maxNew && widthOk 64 b.pfx &&
  widthOk 64 b.dlToken && widthOk 64 b.dlItem && widthOk 64 b.seed

/-- A CREATE_STEP_RING body fits its fields (Table 3-9). -/
def ringBodyOk (b : RingBody) : Bool :=
  widthOk 8 b.ring && widthOk 8 b.part && widthOk 8 b.sqLog2 && widthOk 8 b.cqLog2 && widthOk 64 b.sqBase && widthOk 64 b.cqBase &&
  widthOk 32 b.cqWindow

/-- An ALLOCATE_REGION body fits its fields. -/
def regionOk (b : RegionBody) : Bool := widthOk 8 b.part && widthOk 32 b.keySlot && widthOk 64 b.base && widthOk 64 b.size

/-- A JOIN_POOL_SET body fits its fields. -/
def joinOk (b : JoinBody) : Bool :=
  widthOk 64 b.setId && widthOk 32 b.n && widthOk 32 b.index && widthOk 32 b.setTo && widthOk 32 b.parityGb

/-- Descriptors of a POOL_OPERATION fit their fields (Table 16-8). -/
def poolDescsOk (l : List PoolDesc) : Bool := l.all fun d =>
  widthOk 8 d.op && widthOk 8 d.rtype && widthOk 8 d.rop && widthOk 32 d.srcWindow && widthOk 32 d.dstWindow && widthOk 64 d.src &&
  widthOk 64 d.dst && widthOk 64 d.length && widthOk 64 d.pattern && widthOk 64 d.result

/-- Descriptors of a STASH_TRANSFER fit their fields. -/
def stashDescsOk (l : List StashDesc) : Bool := l.all fun d =>
  widthOk 8 d.op && widthOk 8 d.part && widthOk 32 d.window && widthOk 64 d.key && widthOk 64 d.addr && widthOk 64 d.offset &&
  widthOk 64 d.length && widthOk 32 d.keySlot && widthOk 64 d.result

/-- A stream entry fits its header and its data slot (Table 16-10). -/
def entryOk (e : StreamEntry) : Bool :=
  widthOk 8 e.kind && widthOk 8 e.cls && widthOk 16 e.status && widthOk 32 e.replyTo && widthOk 64 e.target && widthOk 64 e.offset &&
  widthOk 64 e.size && e.data.length ≤ 4096

/-- A CXL.mem write carries one 64 B line. -/
def lineOk (l : List Byte) : Bool := l.length = 64

/-- What a rebuild gives back fits its fields. -/
def rebuiltOk (x : Rebuilt) : Bool :=
  (x.regions.all fun r => regionOk r.body && widthOk 64 r.id && below 64 r.seat && widthOk 32 r.kcv && r.data.length ≤ r.body.size) &&
    x.parity.all fun p => widthOk 32 p.1 && p.2.length ≤ 65536

/-- A store into ring memory carries at most 64 B. -/
def storeOk (l : List Byte) : Bool := l.length ≤ 64

/-- A register access is 8, 16, 32 or 64 bits wide (R618). -/
def accessOk (width : Nat) : Bool := ([8, 16, 32, 64] : List Nat).contains width

/-- A fatal event of Table 21-10 names a unit of its kind. -/
def fatalOk (kind index : Nat) : Bool :=
  match ([3, 2, 9, 120, 58, 58, 256, 256, 71, 4, 1, 71] : List Nat)[kind]? with
  | some n => index < n
  | none => false

/-- A command that can arrive at the device. -/
def Instr.wf : Instr → Bool
  | .identifySeat e => envOk e
  | .negotiateVersion e low high => envOk e && widthOk 16 low && widthOk 16 high
  | .setNoticeRing e base log2 => envOk e && widthOk 64 base && widthOk 8 log2
  | .getOperation e opid => envOk e && widthOk 32 opid
  | .setPortConfig e port clkMode => envOk e && widthOk 8 port && widthOk 8 clkMode
  | .mapSeat e seat port ldId => envOk e && widthOk 8 seat && widthOk 8 port && widthOk 8 ldId
  | .unsupportedOpcode e opcode => envOk e && widthOk 16 opcode
  | .loadPartition e b => envOk e && loadOk b
  | .queryPartition e part => envOk e && widthOk 8 part
  | .swapOutPartition e part _ => envOk e && widthOk 8 part
  | .swapInPartition e modelId part => envOk e && widthOk 64 modelId && widthOk 8 part
  | .unloadPartition e part _ => envOk e && widthOk 8 part
  | .bindKvWindow e part offset => envOk e && widthOk 8 part && widthOk 64 offset
  | .unbindKvWindow e part seat => envOk e && widthOk 8 part && widthOk 8 seat
  | .listImages e start => envOk e && widthOk 32 start
  | .deleteImage e modelId => envOk e && widthOk 64 modelId
  | .createTenant e tenant mode rate cap => envOk e && widthOk 32 tenant && widthOk 8 mode && widthOk 32 rate && widthOk 64 cap
  | .deleteTenant e tenant => envOk e && widthOk 32 tenant
  | .setTenantBudget e tenant mode rate cap => envOk e && widthOk 32 tenant && widthOk 8 mode && widthOk 32 rate && widthOk 64 cap
  | .grantBudget e tenant _ => envOk e && widthOk 32 tenant
  | .queryTenant e tenant => envOk e && widthOk 32 tenant
  | .setSeatQuota e seat maxEntries maxFrames => envOk e && widthOk 8 seat && widthOk 32 maxEntries && widthOk 32 maxFrames
  | .setPartitionCap e part cap => envOk e && widthOk 8 part && widthOk 64 cap
  | .queryCapacity e => envOk e
  | .admitRequest e b => envOk e && admitOk b
  | .commitPrompt e handle => envOk e && widthOk 32 handle
  | .setRequest e handle prio dlToken dlItem => envOk e && widthOk 32 handle && widthOk 8 prio && widthOk 32 dlToken && widthOk 32 dlItem
  | .cancelRequest e handle => envOk e && widthOk 32 handle
  | .queryRequest e handle => envOk e && widthOk 32 handle
  | .listRequests e start => envOk e && widthOk 32 start
  | .createStepRing e b => envOk e && ringBodyOk b
  | .destroyStepRing e ring seat => envOk e && widthOk 8 ring && widthOk 8 seat
  | .closeStep e part => envOk e && widthOk 8 part
  | .queryStep e part => envOk e && widthOk 8 part
  | .registerWindow e kind portMask base length =>
    envOk e && widthOk 8 kind && widthOk 64 portMask && widthOk 64 base && widthOk 64 length
  | .releaseWindow e window => envOk e && widthOk 32 window
  | .setDigests e part _ => envOk e && widthOk 8 part
  | .setSelection e handle sel sink recent => envOk e && widthOk 32 handle && widthOk 32 sel && widthOk 32 sink && widthOk 32 recent
  | .lookupPrefix e part _ tenant count tokens => envOk e && widthOk 8 part && widthOk 32 tenant && widthOk 32 count && widthOk 64 tokens
  | .insertPrefix e part _ count tokens handle => envOk e && widthOk 8 part && widthOk 32 count && widthOk 64 tokens && widthOk 32 handle
  | .pinPrefix e part tenant pfx => envOk e && widthOk 8 part && widthOk 32 tenant && widthOk 64 pfx
  | .unpinPrefix e part tenant pfx => envOk e && widthOk 8 part && widthOk 32 tenant && widthOk 64 pfx
  | .queryPrefix e part tenant pfx => envOk e && widthOk 8 part && widthOk 32 tenant && widthOk 64 pfx
  | .setPrefixPolicy e part charge scope maxSlots insertMask =>
    envOk e && widthOk 8 part && widthOk 16 charge && widthOk 8 scope && widthOk 32 maxSlots && widthOk 64 insertMask
  | .purgePrefix e part => envOk e && widthOk 8 part
  | .queryPrefixStore e part => envOk e && widthOk 8 part
  | .parkConversation e handle _ ttl => envOk e && widthOk 32 handle && widthOk 32 ttl
  | .unparkConversation e handle ticket => envOk e && widthOk 32 handle && widthOk 64 ticket
  | .renewPark e handle ticket ttl => envOk e && widthOk 32 handle && widthOk 64 ticket && widthOk 32 ttl
  | .queryTicket e ticket => envOk e && widthOk 64 ticket
  | .discardTicket e ticket => envOk e && widthOk 64 ticket
  | .pullKv e handle window offset first reaches layer0 layer1 =>
    envOk e && widthOk 32 handle && widthOk 32 window && widthOk 64 offset && widthOk 32 first && widthOk 32 reaches &&
    widthOk 32 layer0 && widthOk 32 layer1
  | .parkRegion e base => envOk e && widthOk 64 base
  | .unparkRegion e base => envOk e && widthOk 64 base
  | .setTierConfig e imageGb parkGb => envOk e && widthOk 32 imageGb && widthOk 32 parkGb
  | .queryTiers e => envOk e
  | .queryFlash e => envOk e
  | .setLogitWindow e handle addr length => envOk e && widthOk 32 handle && widthOk 64 addr && widthOk 64 length
  | .loadCounts e handle count list => envOk e && widthOk 32 handle && widthOk 32 count && widthOk 64 list
  | .clearCounts e handle => envOk e && widthOk 32 handle
  | .queryCounts e handle first count => envOk e && widthOk 32 handle && widthOk 32 first && widthOk 32 count
  | .allocateRegion e b => envOk e && regionOk b
  | .freeRegion e id => envOk e && widthOk 64 id
  | .queryRegion e id => envOk e && widthOk 64 id
  | .grantRegion e id seat mode => envOk e && widthOk 64 id && widthOk 8 seat && widthOk 8 mode
  | .attachRegion e id base => envOk e && widthOk 64 id && widthOk 64 base
  | .detachRegion e id => envOk e && widthOk 64 id
  | .setPoolLimits e seat cls maxRate maxOps keySlots regions dbSize =>
    envOk e && widthOk 8 seat && widthOk 8 cls && widthOk 64 maxRate && widthOk 32 maxOps && widthOk 32 keySlots &&
    widthOk 32 regions && widthOk 64 dbSize
  | .queryPoolLimits e seat => envOk e && widthOk 8 seat
  | .queryKeySlots e => envOk e
  | .poolOperation e descs => envOk e && poolDescsOk descs
  | .joinPoolSet e b => envOk e && joinOk b
  | .leavePoolSet e => envOk e
  | .queryPoolSet e => envOk e
  | .rebuildMember e => envOk e
  | .queryLine e addr => envOk e && widthOk 64 addr
  | .fenceSeat e seat => envOk e && widthOk 8 seat
  | .unfenceSeat e seat => envOk e && widthOk 8 seat
  | .queryCoherence e => envOk e
  | .openRun e part run frames maxObjects => envOk e && widthOk 8 part && widthOk 32 run && widthOk 32 frames && widthOk 32 maxObjects
  | .closeRun e part run => envOk e && widthOk 8 part && widthOk 32 run
  | .stashTransfer e descs => envOk e && stashDescsOk descs
  | .setSchedule e part run count list => envOk e && widthOk 8 part && widthOk 32 run && widthOk 32 count && widthOk 64 list
  | .queryStash e part run start => envOk e && widthOk 8 part && widthOk 32 run && widthOk 32 start
  | .setTelemetryRing e base log2 => envOk e && widthOk 64 base && widthOk 8 log2
  | .queryPower e => envOk e
  | .queryOcRegions e => envOk e
  | .setPowerConfig e idleGate idleUs => envOk e && widthOk 8 idleGate && widthOk 32 idleUs
  | .queryHoldup e => envOk e
  | .testHoldup e => envOk e
  | .setHoldupConfig e periodDays => envOk e && widthOk 32 periodDays
  | .readFaultRecords e firstSeq => envOk e && widthOk 32 firstSeq
  | .clearFaultRecords e seq => envOk e && widthOk 32 seq
  | .queryFaultState e => envOk e
  | .queryDump e => envOk e
  | .readDump e slot section_ offset length dst =>
    envOk e && widthOk 8 slot && widthOk 32 section_ && widthOk 64 offset && widthOk 64 length && widthOk 64 dst
  | .clearDump e slot => envOk e && widthOk 8 slot
  | .injectFault e _ _ => envOk e
  | .queryFirmware e => envOk e
  | .writeFirmware e src length => envOk e && widthOk 64 src && widthOk 64 length
  | .activateFirmware e => envOk e
  | .restartFirmware e => envOk e
  | .resetWarm e => envOk e
  | .shoalEncode e src dst class0 class1 => envOk e && widthOk 64 src && widthOk 64 dst && widthOk 8 class0 && widthOk 8 class1
  | .shoalDecode e src dst length => envOk e && widthOk 64 src && widthOk 64 dst && widthOk 64 length
  | .identifyMemoryDevice seat => below 64 seat
  | .getSupportedLogs seat => below 64 seat
  | .getLog seat _ offset length => below 64 seat && widthOk 64 offset && widthOk 64 length
  | .getTimestamp seat => below 64 seat
  | .setTimestamp seat time => below 64 seat && widthOk 64 time
  | .getEventRecords seat log => below 64 seat && widthOk 64 log
  | .clearEventRecords seat log _ _ => below 64 seat && widthOk 64 log
  | .unsupportedCxlOpcode seat opcode => below 64 seat && widthOk 64 opcode
  | .getLdInfo port => below 8 port
  | .getLdAllocations port => below 8 port
  | .setLdAllocations port _ => below 8 port
  | .getQosControl port => below 8 port
  | .setQosControl port bsi moderate severe cci =>
    below 8 port && widthOk 64 bsi && widthOk 64 moderate && widthOk 64 severe && widthOk 64 cci
  | .getQosStatus port => below 8 port
  | .getQosAllocatedBw port => below 8 port
  | .setQosAllocatedBw port _ => below 8 port
  | .getQosBwLimit port => below 8 port
  | .setQosBwLimit port _ => below 8 port
  | .fmIdentify port => below 8 port
  | .tunnelManagementCommand port _ => below 8 port
  | .configurationRequest port ld _ _ value => below 8 port && below 16 ld && widthOk 64 value
  | .doeObject port ld dataType length => below 8 port && below 16 ld && widthOk 64 dataType && widthOk 64 length
  | .doeDiscovery port ld _ => below 8 port && below 16 ld
  | .cdatTableAccess port ld _ => below 8 port && below 16 ld
  | .spdmRequest port ld version _ => below 8 port && below 16 ld && widthOk 64 version
  | .setCertificate port ld _ _ _ => below 8 port && below 16 ld
  | .cxlKeyProg port ld _ keySet => below 8 port && below 16 ld && widthOk 64 keySet
  | .cxlKSetGo port ld _ keySet => below 8 port && below 16 ld && widthOk 64 keySet
  | .cxlKSetStop port ld _ keySet => below 8 port && below 16 ld && widthOk 64 keySet
  | .cxlQuery port ld _ keySet => below 8 port && below 16 ld && widthOk 64 keySet
  | .cxlGetkey port ld _ keySet => below 8 port && below 16 ld && widthOk 64 keySet
  | .keyInstall port ld _ slot key1 key2 => below 8 port && below 16 ld && widthOk 32 slot && widthOk 256 key1 && widthOk 256 key2
  | .keyErase port ld _ slot => below 8 port && below 16 ld && widthOk 32 slot
  | .keyQuery port ld _ slot => below 8 port && below 16 ld && widthOk 32 slot
  | .mctpControlMessage _ => true
  | .i3cAddressAssignment _ => true
  | .pldmBaseRequest _ => true
  | .pldmSensorRead _ reading => widthOk 64 reading
  | .pldmFirmwareUpdate size => widthOk 64 size
  | .pldmActivateFirmware => true
  | .carmirRelay verMajor verMinor bodyLen tag hostTime _ =>
    widthOk 64 verMajor && widthOk 64 verMinor && widthOk 64 bodyLen && widthOk 64 tag && widthOk 64 hostTime
  | .ringStore seat ring _ _ data => below 64 seat && below 4 ring && storeOk data
  | .nop seat ring => below 64 seat && below 4 ring
  | .undefinedKind seat ring => below 64 seat && below 4 ring
  | .stepOpen seat ring => below 64 seat && below 4 ring
  | .attend seat ring => below 64 seat && below 4 ring
  | .append seat ring => below 64 seat && below 4 ring
  | .deliver seat ring => below 64 seat && below 4 ring
  | .stepClose seat ring => below 64 seat && below 4 ring
  | .logitHeaderStore seat addr _ _ => below 64 seat && widthOk 64 addr
  | .cxlMemRead port ld addr _ => below 8 port && below 16 ld && widthOk 64 addr
  | .cxlMemWrite port ld addr _ mask data => below 8 port && below 16 ld && widthOk 64 addr && widthOk 64 mask && lineOk data
  | .memInv port ld addr _ => below 8 port && below 16 ld && widthOk 64 addr
  | .memRdData port ld addr => below 8 port && below 16 ld && widthOk 64 addr
  | .memClnEvct port ld addr => below 8 port && below 16 ld && widthOk 64 addr
  | .memSpecRd port ld addr => below 8 port && below 16 ld && widthOk 64 addr
  | .birsp port ld addr _ _ => below 8 port && below 16 ld && widthOk 64 addr
  | .biconflict port ld addr => below 8 port && below 16 ld && widthOk 64 addr
  | .poolsetEntry member seq entry => below 8 member && widthOk 64 seq && entryOk entry
  | .pciPmStateChange port ld _ => below 8 port && below 16 ld
  | .linkTrainingComplete port _ => below 8 port
  | .recoveryEntry port => below 8 port
  | .laneGroupFailure port _ _ => below 8 port
  | .ideIntegrityFailure port => below 8 port
  | .hotReset port => below 8 port
  | .linkDisable port => below 8 port
  | .functionLevelReset port ld => below 8 port && below 16 ld
  | .cxlReset port ld => below 8 port && below 16 ld
  | .gpfPhase1 port => below 8 port
  | .gpfPhase2 port => below 8 port
  | .gpfPhase2Deadline => true
  | .standbyStart => true
  | .pwrEnAssert => true
  | .railGood => true
  | .railStartTimeout => true
  | .perstDeassert => true
  | .coldReset => true
  | .perstAssert => true
  | .warmResetSaveComplete => true
  | .pwrEnDeassert => true
  | .inputLossTrigger _ => true
  | .busUndervoltage => true
  | .flushDataPhaseEnd frames => widthOk 64 frames
  | .flushComplete => true
  | .flushRefclkLoss => true
  | .refclkLoss => true
  | .refclkReturn => true
  | .rootPllLock => true
  | .portPllLock => true
  | .fwReady => true
  | .memoryActive => true
  | .mapReady => true
  | .admitOpen => true
  | .restoreComplete => true
  | .packPoll _ => true
  | .holdupMeasurement eStored => widthOk 64 eStored
  | .packInsert => true
  | .packRemove _ => true
  | .chargeComplete => true
  | .testDue => true
  | .testRestEnd => true
  | .testDischargeEnd energy => widthOk 64 energy
  | .overTemperature location => below 3 location
  | .converterLoss bc => below 2 bc
  | .railOutOfWindow rail _ => below 9 rail
  | .phaseFault phase => below 120 phase
  | .throttleEngage region => below 58 region
  | .throttleRelease region => below 58 region
  | .overCurrentTrip region => below 58 region
  | .tripHoldEnd region => below 58 region
  | .idleGateTimeout => true
  | .tileWakeComplete => true
  | .telemetryWindowEnd _ => true
  | .devloadSample port occupancy => below 8 port && widthOk 64 occupancy
  | .collectionIntervalEnd port => below 8 port
  | .tenantRefill => true
  | .parkClockSecond => true
  | .parkExpiry => true
  | .claimLapse => true
  | .itemExpiry => true
  | .stagingComplete => true
  | .itemComputeComplete => true
  | .deliverPushComplete => true
  | .draw => true
  | .stepBoundary part => below 16 part
  | .idleCommit => true
  | .hbmRecalDeadline stack => below 8 stack
  | .flashCalDeadline channel => below 32 channel
  | .hbmPatrolScrub stack => below 8 stack
  | .writebackUnit => true
  | .flashProgramComplete _ => true
  | .flashProgramFail _ => true
  | .flashEraseFail lane block => below 992 lane && below 3724 block
  | .flashReadUncorrectable _ => true
  | .blockRefresh place _ => below 992 place.lane && below 3724 place.block
  | .flashPatrolScrub channel _ => below 32 channel
  | .staticLevelling lane => below 992 lane
  | .journalPageFlush => true
  | .mapCheckpoint => true
  | .channelFailure channel (.die die) => below 32 channel && below 32 die
  | .channelFailure channel _ => below 32 channel
  | .laneEvacuationComplete lane => below 992 lane
  | .hbmError stack pc bank row _ _ => below 8 stack && below 32 pc && below 256 bank && below 16777216 row
  | .frameRepair _ => true
  | .pcRetirementCopyEnd pc => below 256 pc
  | .tileArrayError tile row _ => below 320 tile && below 1024 row
  | .coreWatchdog (.core core) => below 4 core
  | .coreWatchdog .parser => true
  | .coreWatchdog (.sramCopy structure_ _) => below 68 structure_
  | .coreWatchdog (.sram structure_ _) => below 71 structure_ && !below 68 structure_
  | .failureExpiry => true
  | .fatalEvent kind index location => fatalOk kind index && widthOk 64 location
  | .activationTimeout => true
  | .svnCommit => true
  | .snoopTimeout seat => below 64 seat
  | .fenceSweepEnd seat => below 64 seat
  | .memberAbsent member => below 8 member
  | .joinTimeout => true
  | .poolSetFormed => true
  | .memberRejoin member => below 8 member
  | .peerReadFailure _ => true
  | .swapOutComplete => true
  | .swapInComplete => true
  | .parkComplete _ => true
  | .unparkComplete _ => true
  | .pullComplete _ _ => true
  | .cowCopyComplete handle => widthOk 64 handle
  | .prefixOperationComplete _ => true
  | .digestBuild part => below 16 part
  | .regionZeroFillComplete _ => true
  | .poolDescriptorEnd _ _ => true
  | .stashDescriptorEnd _ _ => true
  | .unspill part _ => below 16 part
  | .rebuildComplete _ found => rebuiltOk found
  | .stpCqHeadWrite seat ring value => below 64 seat && below 4 ring && widthOk 64 value
  | .seatNoticeHeadWrite seat value => below 64 seat && widthOk 64 value
  | .glbStepCtrlWrite seat value => below 64 seat && widthOk 64 value
  | .glbDitherCtrlWrite seat value => below 64 seat && widthOk 64 value
  | .glbDitherSaltWrite seat half value => below 64 seat && below 3 half && widthOk 64 value
  | .glbDeltaCfgWrite seat value => below 64 seat && widthOk 64 value
  | .glbCohCfgWrite seat value => below 64 seat && widthOk 64 value
  | .pwrCtrlWrite seat value => below 64 seat && widthOk 64 value
  | .prtCtrlWrite seat port value => below 64 seat && below 8 port && widthOk 64 value
  | .telRec0Read port ld => below 8 port && below 16 ld
  | .devtimeLowRead port ld => below 8 port && below 16 ld
  | .registerWrite port ld offset width value => below 8 port && below 16 ld && widthOk 64 offset && accessOk width && widthOk 64 value
  | .surpriseLinkDown port => below 8 port
  | .inputProtectionClose => true
  | .chargerCurrentLoss => true
  | .poolsetCredit member value => below 8 member && widthOk 64 value
  | .firmwareRestartTimeout => true
  | .mapCheckpointComplete => true
  | .unspillComplete part _ => below 16 part
  | .mirrorResyncComplete region => widthOk 64 region
  | .regionParkComplete _ => true
  | .regionUnparkComplete _ => true
  | .loadCountsComplete _ => true
  | .firmwareWriteComplete _ => true
  | .dumpCopyComplete _ => true

end Sys2Proof
end

