-- ==== Sys2Proof/Machine/Aes.lean ====
section
/-! DEFINITION. AES-256 and AES-256-XTS over one 64 B line (R471, R472). -/

namespace Sys2Proof.Machine

/-- x times {02} in GF(2^8) with x^8 + x^4 + x^3 + x + 1. -/
def xtime (x : Nat) : Nat := if 128 ≤ x then (2 * x % 256) ^^^ 0x1B else 2 * x

/-- A product in GF(2^8), over the low `n` bits of the second factor. -/
def gfMul : Nat → Nat → Nat → Nat
  | 0, _, _ => 0
  | n + 1, a, b => (if b % 2 = 1 then a else 0) ^^^ gfMul n (xtime a) (b / 2)

/-- a^(2^n), by squaring. -/
def gfSq : Nat → Nat → Nat
  | 0, a => a
  | n + 1, a => gfSq n (gfMul 8 a a)

/-- The inverse in GF(2^8), a^254; 0 for 0. -/
def gfInv (a : Nat) : Nat :=
  (List.range 7).foldl (fun acc i => gfMul 8 acc (gfSq (i + 1) a)) 1

/-- A byte rotated left. -/
def rotl8 (x n : Nat) : Nat := (x * 2 ^ n + x / 2 ^ (8 - n)) % 256

/-- The AES substitution of a byte. -/
def aesSub (x : Nat) : Nat :=
  let i := gfInv x
  i ^^^ rotl8 i 1 ^^^ rotl8 i 2 ^^^ rotl8 i 3 ^^^ rotl8 i 4 ^^^ 0x63

/-- The inverse substitution. -/
def aesInvSub (y : Nat) : Nat := gfInv (rotl8 y 1 ^^^ rotl8 y 3 ^^^ rotl8 y 6 ^^^ 0x05)

/-- Bytewise exclusive or. -/
def xorBytes (a b : List Nat) : List Nat := (a.zip b).map fun x => x.1 ^^^ x.2

/-- The round constants. -/
def aesRcon : List Nat := [1, 2, 4, 8, 16, 32, 64]

/-- Extend the key schedule by words, newest last (FIPS 197, Nk = 8). -/
def aesExpand : Nat → List (List Nat) → List (List Nat)
  | 0, w => w
  | n + 1, w =>
    let i := w.length
    let t := w.getD (i - 1) []
    let t := if i % 8 = 0 then xorBytes (((t.drop 1) ++ t.take 1).map aesSub) [aesRcon.getD (i / 8 - 1) 0, 0, 0, 0]
      else if i % 8 = 4 then t.map aesSub else t
    aesExpand n (w ++ [xorBytes (w.getD (i - 8) []) t])

/-- The round keys of a 32-byte key: 15 lists of 16 bytes. -/
def aesKeys (key : List Nat) : List (List Nat) :=
  let w := aesExpand 52 ((List.range 8).map fun i => (key.drop (4 * i)).take 4)
  (List.range 15).map fun r => ((w.drop (4 * r)).take 4).flatten

/-- Shift the rows left by `k` times their number (1, or 3 for the inverse). -/
def shiftRows (k : Nat) (st : List Nat) : List Nat :=
  (List.range 16).map fun i => st.getD ((i % 4) + 4 * ((i / 4 + k * (i % 4)) % 4)) 0

/-- Multiply each column by a circulant of four coefficients. -/
def mixColumns (c : List Nat) (st : List Nat) : List Nat :=
  (List.range 16).map fun i =>
    (List.range 4).foldl (fun acc j => acc ^^^ gfMul 8 (st.getD (i / 4 * 4 + j) 0) (c.getD ((j + 4 - i % 4) % 4) 0)) 0

/-- Encrypt a 16-byte block under expanded keys. -/
def aesEnc (ks : List (List Nat)) (blk : List Nat) : List Nat :=
  let s := (List.range 13).foldl (fun s r => xorBytes (mixColumns [2, 3, 1, 1] (shiftRows 1 (s.map aesSub))) (ks.getD (r + 1) []))
    (xorBytes blk (ks.getD 0 []))
  xorBytes (shiftRows 1 (s.map aesSub)) (ks.getD 14 [])

/-- Decrypt a 16-byte block under expanded keys. -/
def aesDec (ks : List (List Nat)) (blk : List Nat) : List Nat :=
  let s := (List.range 13).foldl (fun s r =>
    mixColumns [14, 11, 13, 9] (xorBytes ((shiftRows 3 s).map aesInvSub) (ks.getD (13 - r) [])))
    (xorBytes blk (ks.getD 14 []))
  xorBytes ((shiftRows 3 s).map aesInvSub) (ks.getD 0 [])

/-- The bytes of a 256-bit key given as a number, least significant first. -/
def keyBytes (k : Nat) : List Nat := (leBytes 32 k).map (·.toNat)

/-- KCV: the first 4 bytes of AES-256 of 16 zero bytes, as a little-endian number (R472). -/
def kcvOf (key1 : Nat) : Nat := leNat (((aesEnc (aesKeys (keyBytes key1)) (List.replicate 16 0)).take 4).map (BitVec.ofNat 8))

/-- The tweak times α in GF(2^128). -/
def xtsAlpha (t : List Nat) : List Nat :=
  let n := leNat (t.map (BitVec.ofNat 8))
  let m := 2 * n % 2 ^ 128
  (leBytes 16 (if 2 ^ 127 ≤ n then m ^^^ 0x87 else m)).map (·.toNat)

/-- The tweak of block `j` of a line (R471). -/
def xtsTweak (ks2 : List (List Nat)) (line id : Nat) : Nat → List Nat
  | 0 => aesEnc ks2 ((leBytes 8 line ++ leBytes 8 id).map (·.toNat))
  | j + 1 => xtsAlpha (xtsTweak ks2 line id j)

/-- AES-256-XTS over one 64 B line: its index from the region's base, and the REGION_ID (R471). -/
def xtsLine (enc : Bool) (key1 key2 line id : Nat) (data : List Byte) : List Byte :=
  let k1 := aesKeys (keyBytes key1)
  let k2 := aesKeys (keyBytes key2)
  ((List.range 4).map fun j =>
    let t := xtsTweak k2 line id j
    let x := xorBytes (((data.drop (16 * j)).take 16).map (·.toNat)) t
    (xorBytes (if enc then aesEnc k1 x else aesDec k1 x) t).map (BitVec.ofNat 8)).flatten

end Sys2Proof.Machine
end

