-- ==== Sys2Proof/Config.lean ====
section
/-! DEFINITION. What an implementation fixes and the free values: values the spec leaves open, constants with no body, so
that no proof can rest on a number. Each one's log entry is named in its docstring. -/

namespace Sys2Proof
/-- Free value: the operation identifier given to the n-th accepted operation (R86 names no numbering; log entry 2). -/
opaque Config.opid : Nat → BitVec 32

/-- Free value: a service time bound in µs that the spec states only as "the device's bound" (R91; log entry 3). -/
opaque Config.retryBound : Nat → BitVec 16

/-- Free value: the ROSC trim code set at manufacture (Table 20-4; log entry 11). -/
opaque Config.roscTrim : BitVec 8

/-- Free value: a configuration register the spec does not name (R48; log entry 12). -/
opaque Config.cfgOther : Nat → Nat → BitVec 32

/-- Free value: what an SPDM answer carries that the spec does not give: digests, chains, signatures, nonces, keys
(R58–R60; log entry 12). -/
opaque Config.spdmValue : Nat → Nat → BitVec 384

/-- Free value: a SHA-384 measurement over device settings whose layout the spec does not give (Table 2-7; log entry 12). -/
opaque Config.settingsDigest : List Nat → BitVec 384

/-- Free value: the HBM address of a reach list in units of 64 B (Table 5-3; log entry 16). -/
opaque Config.rlistAddr : Nat → BitVec 32

/-- Free value: the frame number of a sampler state block (Table 5-3; log entry 16). -/
opaque Config.sstateFrame : Nat → BitVec 32

/-- Free value: the unit number a flash home is given (R366 names no numbering; log entry 23). -/
opaque Config.unitNumber : Nat → BitVec 32

/-- Free value: the number of the HBM frame that holds a frame, by what it is and its place there (R262, R319, R438; the spec does not say
which frame a reservation takes; log entry 44). -/
opaque Config.frameNumber : Nat → Nat → Nat → BitVec 24

/-- Free value: whether a block of a die carries a factory bad-block mark, by channel, die and block (R367, R381; log entry 24). -/
opaque Config.factoryMark : Nat → Nat → Nat → Bool

/-- Free value: whether the log table gives, for a significand 1 + m / 2^23, the 16-bit fraction just above the exact logarithm or the one just
below (R240: the table is not given; log entry 31). -/
opaque Config.logUp : Nat → Bool

/-- Free value: the same of the antilog table and its significand, for a 12-bit fraction (R241; log entry 31). -/
opaque Config.antilogUp : Nat → Bool

/-- Free value: the same of the logarithm of a query element times c, and of c × s, for the element's or s's bits, SCORE_SCALE and the head
dimension (R236, R239; log entry 31). -/
opaque Config.queryUp : Nat → Nat → Nat → Bool
opaque Config.scaleUp : Nat → Nat → Nat → Bool

/-- Free value: the order in which an LDU takes the clocks of a kind of work, as the draws of a permutation, by kind, number of places and draw
(R253 maps clocks and lanes to dither and no rule orders the products; log entry 32). -/
opaque Config.lduPick : Nat → Nat → Nat → Nat

/-- Free value: sign and payload of the NaNs the arithmetic makes (R238, R242; log entry 33). -/
opaque Config.nanBits : BitVec 24

/-- Free value: what Eddy's scaling unit gives for a product (0) or quotient (1) of two FP32 values, within its bound (R296; log
entry 43). -/
opaque Config.eddyScale : Nat → Nat → Nat → BitVec 32

/-- Free value: the integer weight Eddy's antilog unit gives for a logit and the highest candidate logit (R299; log entry 43). -/
opaque Config.eddyWeight : Nat → Nat → BitVec 32

/-- Free value: a field the spec gives a record without stating its value (log entry 36). -/
opaque Config.openValue : Nat → BitVec 32

/-- Free value: the ADDR pins of J1 (R529; log entry 60). -/
opaque Config.addrPins : BitVec 3

/-- Free value: whether a journal page being programmed when the bus fails completes (R537; log entry 61). -/
opaque Config.pageSurvives : Nat → Bool

/-- Free value: whether the LOW block of an anchor copy cannot be read or erased at a start-up (R394; log entry 118). -/
opaque Config.lowFails : Nat → Bool

/-- Free value: how many programs and erases of a take had been done when power was lost during it, 0 for none under way (R393, R394; log
entry 118). -/
opaque Config.takeCut : Nat → BitVec 3

/-- Free value: the module's identity value (R254 names no value; log entry 62). -/
opaque Config.identity : List (BitVec 8)

/-- Free value: the bytes a dump section holds, by section, and each byte, by dump, section and offset (R605: the layout is
opaque; log entry 63). -/
opaque Config.dumpLen : Nat → Nat → BitVec 32
opaque Config.dumpByte : Nat → Nat → Nat → BitVec 8

/-- Free value: whether a dump's section, as it stands in flash, fails its CRC (R606; log entry 63). -/
opaque Config.dumpSectionFails : Nat → Nat → Bool

/-- Free value: what a host wrote into a seat's mailbox and the model does not hold: its Payload Length, then the payload's bytes (R78; log
entry 122). -/
opaque Config.hostWrote : Nat → Nat → BitVec 8

/-- Free value: a byte of an LD's CXL.cachemem capabilities, laid out as CXL 3.1 defines, which the spec does not repeat: by the LD, its BI
Enable, its HDM decoders and the offset (R641; log entry 122). -/
opaque Config.componentByte : Nat → Bool → List (Nat × Nat × Bool) → Nat → BitVec 8

/-- Free value: a byte of the stream entries that stand in a member's aperture slot, by the member, the entries applied and the offset (R485;
log entry 122). -/
opaque Config.apertureByte : Nat → Nat → Nat → BitVec 8

/-- Free value: the effects word the Command Effects Log gives an opcode (R81; log entry 64). -/
opaque Config.celEffect : Nat → BitVec 16

/-- Free value: the handle of an event record, by its SEQ (R81, R599; log entry 64). -/
opaque Config.eventHandle : Nat → BitVec 16

/-- Free value: digest and signature of a firmware image, by slot and write (R607; log entry 65). -/
opaque Config.imageDigest : Nat → BitVec 384
opaque Config.imageSignature : Nat → BitVec 768

/-- Free value: what MCTP and PLDM answers carry that the spec does not give (R529, R530; log entry 66). -/
opaque Config.mctpValue : Nat → BitVec 128

end Sys2Proof
end

