-- ==== Sys2Proof/Machine/State.lean ====
section
/-! DEFINITION. The state of the device as plain data: everything the spec names, unit by unit, and the state right after
reset. -/

namespace Sys2Proof.Machine

/-- SET_POOL_LIMITS values of a seat (Table 16-7, R475, persisted). -/
structure PoolLimits where
  /-- CLASS of the seat's CXL.mem traffic (0 PRIORITY, 1 BACKGROUND; reset 0). -/
  cls : Nat := 0
  /-- MAX_RATE (reset 0). -/
  maxRate : Nat := 0
  /-- MAX_OPS (reset 4). -/
  maxOps : Nat := 4
  /-- KEY_SLOTS (reset 64). -/
  keySlots : Nat := 64
  /-- REGIONS (reset 4,096). -/
  regions : Nat := 4096
  /-- DB_SIZE (reset 0). -/
  dbSize : Nat := 0
  deriving DecidableEq, Repr

/-- Why the machine stops with a fault: nothing stops it. The spec answers every error with a status, a record or a reset, and a
command that names a seat, port or LD-ID the device does not have reaches nothing and changes nothing (log entry 106). -/
inductive Fault
  deriving DecidableEq, Repr

/-- Why the model has no meaning for a command. -/
inductive Refusal where
  /-- The command of this mnemonic has no meaning in the model yet. Safe: nothing is claimed about it. -/
  | notModelled (mnemonic : String)
  deriving DecidableEq, Repr

/-- Carmir status codes (Table 23-5). -/
inductive Status where
  | ok | busy | invalid | capacity | budget | notFound | staleGeneration | conflict | notReady | retired | fatal | denied
  | unsupported | version | late
  deriving DecidableEq, Repr

/-- A status's code (R650). -/
def Status.code : Status → Nat
  | .ok => 0 | .busy => 1 | .invalid => 2 | .capacity => 3 | .budget => 4 | .notFound => 5 | .staleGeneration => 6
  | .conflict => 7 | .notReady => 8 | .retired => 9 | .fatal => 10 | .denied => 11 | .unsupported => 12 | .version => 13
  | .late => 14

/-- What a 32 KiB frame of HBM holds, named by its place (R315, R317): the model names a frame by its content, since the
spec numbers frames nowhere a role can see them. -/
inductive FrameKey where
  /-- Frame `n` of a partition's KV space. -/
  | kv (part n : Nat)
  /-- Frame `n` of a pool region. -/
  | region (id n : Nat)
  /-- Frame `n` of a request's reach list. -/
  | reachList (rti n : Nat)
  /-- Frame `n` of a request's sampler state block. -/
  | sampler (rti n : Nat)
  /-- Frame `n` of a partition's digest area. -/
  | digest (part n : Nat)
  /-- Frame `n` of a stash run's table. -/
  | runTable (part run n : Nat)
  deriving DecidableEq, Repr

/-- A 64 KiB map unit by what it holds (R366: unit numbers are assigned within areas the spec does not lay out). -/
inductive UnitKey where
  /-- Home unit `j` of a reach slot, or of the group that begins at that slot. -/
  | kv (part slot j : Nat)
  /-- Home unit `j` of a pool region. -/
  | region (id j : Nat)
  /-- Home unit `j` of own slot number `i` of a park. -/
  | park (pid i j : Nat)
  /-- Unit `j` of a park record (R330). -/
  | parkRec (pid j : Nat)
  /-- Unit `j` of an image's metadata (R126). -/
  | image (modelId j : Nat)
  /-- Home unit of a slot of a standalone image. -/
  | imageKv (modelId slot j : Nat)
  /-- Unit `j` of a spilled stash object. -/
  | stash (part run key j : Nat)
  /-- Unit `j` of a run table. -/
  | runTab (part run j : Nat)
  /-- Parity unit `k` of this member's parity space (R488). -/
  | parity (k : Nat)
  deriving DecidableEq, Repr

/-- One response body (R644). -/
inductive RespBody where
  /-- No field: 0 B. -/
  | none
  /-- Fields, each a width in bytes and a value, placed by R644; 64 B. -/
  | fields (l : List (Nat × Nat))
  /-- A list: entries in all, entries returned, further head fields, and each entry's fields. -/
  | entries (total returned : Nat) (head : List (Nat × Nat)) (es : List (List (Nat × Nat)))
  /-- Raw bytes (R289, R600, R606). -/
  | bytes (b : List Byte)
  deriving DecidableEq, Repr

/-- A response as it stands in the mailbox (Table 3-7). -/
structure Response where
  status : Status
  version : Nat
  deferred : Bool
  staged : Bool
  tag : Nat
  retryAfter : Nat
  effStep : Nat
  effPart : Nat
  opid : Nat
  tPosted : Nat
  tAccept : Nat
  tDone : Nat
  hostTime : Nat
  bodyLen : Nat
  body : RespBody
  deriving DecidableEq, Repr

/-- A completion record or notice (Table 3-13). -/
structure CompRec where
  dDone : Nat := 0
  dStart : Nat := 0
  tArrive : Nat := 0
  step : Nat := 0
  value : Nat := 0
  part : Nat := 0
  fw : Bool := false
  final : Bool := true
  late : Bool := false
  phase : Bool := false
  kind : Nat
  status : Status := .ok
  handle : Nat := 0
  deriving DecidableEq, Repr

/-- A fault record (Table 21-6), all but its CRC, which is computed from it. -/
structure FaultRec where
  tEvent : Nat
  pclk : Nat
  boot : Nat
  seq : Nat
  cls : Nat
  unit : Nat
  index : Nat
  event : Nat
  count : Nat
  action : Nat
  seat : Nat
  port : Nat
  part : Nat
  flags : Nat
  location : Nat
  handle : Nat
  tag : Nat
  detail : Nat
  deriving DecidableEq, Repr

/-- One CXL event log of an LD (R599): at most 256 records, then Overflow. -/
structure EventLog where
  records : List FaultRec := []
  overflow : Bool := false
  deriving DecidableEq, Repr

/-- One step ring set (Tables 3-9, 3-11, 3-12). -/
structure RingSet where
  /-- LIVE: the ring exists and accepts stores (R96; reset 0). -/
  live : Bool := false
  /-- Partition bound (R96; reset 0). -/
  part : Nat := 0
  /-- Log2 of the submission entries (R96; reset 0). -/
  sqLog2 : Nat := 0
  /-- Log2 of the completion entries (R96; reset 0). -/
  cqLog2 : Nat := 0
  /-- HDM address of the submission ring, 64 bits (R96; reset 0). -/
  sqBase : Nat := 0
  /-- HDM address or window offset of the completion ring, 64 bits (R96; reset 0). -/
  cqBase : Nat := 0
  /-- CQ_PEER: the completion ring lies in a peer window (R96; reset 0). -/
  cqPeer : Bool := false
  /-- CQ_WINDOW, 32 bits (R96; reset 0). -/
  cqWindow : Nat := 0
  /-- STP_SQ_HEAD, the consumed count H, 32 bits (R98; reset 0). -/
  head : Nat := 0
  /-- STP_CQ_TAIL, 32 bits (R103; reset 0). -/
  cqTail : Nat := 0
  /-- STP_CQ_HEAD, 32 bits (R104; reset 0). -/
  cqHead : Nat := 0
  /-- CQ_HEAD_BAD, W1C (R104; reset 0). -/
  cqHeadBad : Bool := false
  /-- OVERRUN, W1C (R99; reset 0). -/
  overrun : Bool := false
  /-- PARTIAL, W1C (R99; reset 0). -/
  partialStore : Bool := false
  /-- MALFORMED, W1C (R100, R185; reset 0). -/
  malformed : Bool := false
  /-- A staged DESTROY_STEP_RING: the ring accepts no further stores (R101; reset none). -/
  destroying : Bool := false
  /-- Slots that hold an accepted store not yet consumed, each with its place in the order of acceptance across all rings (R99, R100,
  R107; reset empty). -/
  stored : List (Nat × Nat) := []
  /-- Completion space reserved by consumed records whose completion is not yet produced (R100; reset 0). -/
  reserved : Nat := 0
  /-- Completions produced and waiting to be written, each with whether space was reserved for it (R100, R104; reset empty). -/
  backlog : List (CompRec × Bool) := []
  deriving DecidableEq, Repr

/-- A seat's mailbox (Tables 3-5, 22-18). -/
structure Mailbox where
  /-- The command latched by the doorbell that waits for CC0 (LATCHED; R79; reset none). -/
  latched : Option Instr := none
  /-- T_POSTED of the latched command while it waits (R79; reset none). -/
  waitingSince : Option Nat := none
  /-- The operation that holds the Doorbell at 1 under DEFER_OK = 0 (DEFER_WAIT; R86, R640; reset none). -/
  deferWait : Option Nat := none
  /-- SPOILED, W1C (R79; reset 0). -/
  spoiled : Bool := false
  /-- MBX_EXT_OPCODE, 16 bits (R640; reset 0). -/
  opcode : Nat := 0
  /-- MBX_EXT_POSTED, 64 bits (R640; reset 0). -/
  posted : Nat := 0
  /-- Status.Return Code of the latest command (R80; reset 0 = Success, DESIGN CHOICE: log entry 4). -/
  returnCode : Nat := 0
  /-- Vendor Specific Extended Status (R77; reset 0, DESIGN CHOICE: log entry 4). -/
  extStatus : Nat := 0
  /-- The response in the payload (R85; reset none). -/
  resp : Option Response := none
  /-- Doorbell interrupt enabled by the host (R77; reset 0, DESIGN CHOICE: log entry 4). -/
  irqEnable : Bool := false
  /-- Commands latched before a seat reset, each with the version negotiated then: they run when CC0 takes them, and their responses are
  discarded (R83; reset empty). -/
  orphans : List (Instr × Nat) := []
  /-- The command CC0 runs now is such a one; its version (R83; reset none). -/
  orphan : Option Nat := none
  /-- BUSY answers that named no object: the opcode, and the device time until which a retry is answered BUSY (R91; reset empty). -/
  busyUntil : List (Nat × Nat) := []
  deriving DecidableEq, Repr

/-- A registered peer window (R259). -/
structure Window where
  id : Nat
  kind : Nat
  mask : Nat
  base : Nat
  len : Nat
  deriving DecidableEq, Repr

/-- One seat: what it owns (Table 3-1). -/
structure Seat where
  /-- Port and LD-ID the seat is mapped to (R42, persisted; at shipment seat 8p+n on port p, LD n). -/
  map : Option (Nat × Nat) := none
  /-- Negotiated CCS version, 16 bits (R94, R95; reset 0). -/
  negVersion : Nat := 0
  /-- The mailbox (R77–R86). -/
  mbx : Mailbox := {}
  /-- NOTICE_LOST, W1C (R88; reset 0). -/
  noticeLost : Bool := false
  /-- A notice ring is set (R87, R639; reset 0). -/
  noticeSet : Bool := false
  /-- SEAT_NOTICE_BASE, 64 bits (R639; reset 0). -/
  noticeBase : Nat := 0
  /-- SEAT_NOTICE_CFG.LOG2, 4 bits (R639; reset 0). -/
  noticeLog2 : Nat := 0
  /-- SEAT_NOTICE_TAIL, 32 bits (R639; reset 0). -/
  noticeTail : Nat := 0
  /-- SEAT_NOTICE_HEAD, 32 bits (R639; reset 0). -/
  noticeHead : Nat := 0
  /-- Notices held while the ring is full or unset, oldest first, at most 256 (R88; reset empty). -/
  noticeHeld : List CompRec := []
  /-- The four step ring sets (R96). -/
  rings : Tab RingSet := { dflt := {} }
  /-- SET_SEAT_QUOTA MAX_ENTRIES, 0 for none (R146, persisted; shipment 0, DESIGN CHOICE: log entry 5). -/
  maxEntries : Nat := 0
  /-- SET_SEAT_QUOTA MAX_FRAMES, 0 for none (R146, persisted; shipment 0, DESIGN CHOICE: log entry 5). -/
  maxFrames : Nat := 0
  /-- KV windows: partition and HDM offset (R122; reset empty). -/
  kvWindows : List (Nat × Nat) := []
  /-- Registered peer windows (R259; reset empty). -/
  windows : List Window := []
  /-- Index of the seat's latest window identifier (R259; reset 0). -/
  windowCtr : Nat := 0
  /-- SET_POOL_LIMITS values (Table 16-7, persisted). -/
  limits : PoolLimits := {}
  deriving DecidableEq, Repr

/-- A request to a SHARED line (Table 15-3). -/
inductive CohOp where
  | read (m : MetaVal)
  | readData
  | inv (m : MetaVal)
  /-- MemWr, or MemWrPtl with its byte mask. -/
  | write (m : MetaVal) (mask : Nat) (data : List Byte)
  | evict
  /-- A device read for pool operation `op`. -/
  | devRead (op : Nat)
  | devWrite
  /-- A revoke of seat `g`: its holding is invalidated (R468). -/
  | revoke (g : Nat)
  deriving DecidableEq, Repr

/-- A CXL.mem request of a host: a read, a write, or a message without data, at an HDM address (R465, R477). -/
inductive MemReq where
  | read (addr : Nat) (op : CohOp)
  | write (addr : Nat) (m : MetaVal) (mask : Nat) (data : List Byte)
  | noData (addr : Nat) (op : CohOp)
  deriving DecidableEq, Repr

/-- An HDM decoder of the component registers (R48): base and size in bytes, and its back-invalidate bit. -/
structure HdmDecoder where
  base : Nat := 0
  size : Nat := 0
  bi : Bool := false
  deriving DecidableEq, Repr

/-- One logical device of a port. -/
structure Ld where
  /-- The LD is in D3hot (R39; reset 0 = D0). -/
  d3hot : Bool := false
  /-- HDM allocation in bytes (R47; persisted; 0 at shipment, DESIGN CHOICE: log entry 6). -/
  alloc : Nat := 0
  /-- CDAT header Sequence (R50, R45; reset 0, DESIGN CHOICE: log entry 6). -/
  cdatSeq : Nat := 0
  /-- Allocated fraction in 1/256; none while the default 1/n holds (R52; reset none). -/
  allocBw : Option Nat := none
  /-- Bandwidth limit in 1/256, 0 for the whole port (R52; reset 0). -/
  limitBw : Nat := 0
  /-- Bytes read in the running collection interval (R52; reset 0). -/
  rdBytes : Nat := 0
  /-- Bytes written in the running collection interval (R52; reset 0). -/
  wrBytes : Nat := 0
  /-- U of the last completed interval in bytes (R52; reset 0). -/
  usage : Nat := 0
  /-- Secured SPDM sessions (R58; reset 0). -/
  sessions : Nat := 0
  /-- DOE Error bit (R57; reset 0). -/
  doeError : Bool := false
  /-- The data object the DOE instance is processing: its type and length (DOE Busy; R57; reset none). -/
  doeWork : Option (Nat × Nat) := none
  /-- The four HDM decoders (R48; reset 0, DESIGN CHOICE: log entry 112). -/
  decoders : Tab HdmDecoder := { dflt := {} }
  /-- Max_Payload_Size programmed, in bytes (R64; reset 128, PRESUMED: log entry 112). -/
  maxPayload : Nat := 128
  /-- CXL.mem requests held in the ingress queue over MAX_RATE, oldest first (R477; reset empty). -/
  ingress : List MemReq := []
  /-- The four CXL event logs: Informational, Warning, Failure, Fatal (R599; reset empty). -/
  infoLog : EventLog := {}
  warnLog : EventLog := {}
  failLog : EventLog := {}
  fatalLog : EventLog := {}
  /-- Latched high half of GLB_DEVTIME (R74, R619; reset none). -/
  devtimeHigh : Option Nat := none
  /-- BI Enable of the LD's BI Decoder (R435; reset 0). -/
  biEnable : Bool := false
  /-- Latched TEL_REC1–3 (R556, R619; reset none). -/
  telLatch : Option (List Nat) := none
  /-- A held low half of a 64-bit register: its offset and value (R618; reset none). -/
  heldLow : Option (Nat × Nat) := none
  deriving DecidableEq, Repr

/-- One fabric port. -/
structure Port where
  /-- PRT_STATUS.LINK_UP (Table 2-8; reset 0). -/
  linkUp : Bool := false
  /-- Trained lanes, 0, 8 or 16 (PRT_STATUS.WIDTH; reset 0). -/
  width : Nat := 0
  /-- PRT_STATUS.SPEED code, 3 bits (Table 2-8; reset 0). -/
  speed : Nat := 0
  /-- CXL_MODE (R36; reset 0). -/
  cxlMode : Bool := false
  /-- LOPT (R35; reset 0). -/
  lopt : Bool := false
  /-- REVERSED (R37; reset 0). -/
  reversed : Bool := false
  /-- MLD operation negotiated (R41; reset 0). -/
  mld : Bool := false
  /-- SRIS mode in use, PRT_CTRL.CLKMODE (R62, R632, persisted; 0 for P0–P3 and 1 for P4–P7 at shipment). -/
  clkMode : Bool := false
  /-- PRT_CTRL.CLKMODE_NEXT (R62, R632, persisted; as CLKMODE at shipment). -/
  clkModeNext : Bool := false
  /-- Group L (lanes 0–7) usable (R68, R69, persisted; reset 1). -/
  groupL : Bool := true
  /-- Group H (lanes 8–15) usable (R68, R69, persisted; reset 1). -/
  groupH : Bool := true
  /-- The partner holds the link in Disabled (R71; reset 0). -/
  disabled : Bool := false
  /-- Width and speed of the last training, on which the CDAT bandwidth rests (R50; reset 0, 0). -/
  lastTrained : Nat × Nat := (0, 0)
  /-- Key set in use of CXL IDE (R54, R55; reset none). -/
  ideKey : Option Nat := none
  /-- Key set programmed and not started (R55; reset none). -/
  ideProgrammed : Option Nat := none
  /-- IDE_FAILED (R56; reset 0). -/
  ideFailed : Bool := false
  /-- Traffic waits for fresh CXL IDE keys after an integrity failure (R56; reset 0). -/
  needKeys : Bool := false
  /-- Key set in use of the PCIe link IDE stream for CXL.io (R40, R54; reset none). -/
  ioKey : Option Nat := none
  /-- Key set of that stream programmed and not started (R54; reset none). -/
  ioProgrammed : Option Nat := none
  /-- Backpressure Sample Interval in ns (R51; reset 1,024). -/
  bsi : Nat := 1024
  /-- Egress Moderate Percentage (R51; reset 60). -/
  moderate : Nat := 60
  /-- Egress Severe Percentage (R51; reset 85). -/
  severe : Nat := 85
  /-- Completion Collection Interval in ns (R52; reset 1,024). -/
  cci : Nat := 1024
  /-- Latest occupancy samples of the 1,024-entry ingress queue, newest first (R51; reset empty). -/
  samples : List Nat := []
  /-- GLB_DEVTIME of the port's last record of a CXL.mem access in Sable (R596; reset none). -/
  sableRec : Option Nat := none
  deriving DecidableEq, Repr

/-- A long-running operation's subject. -/
inductive OpKind where
  | swapOut (part : Nat) | swapIn (part : Nat) | unload (part : Nat)
  | lookup (part tenant count tokens : Nat) (pin : Bool) | insertPfx (part handle count tokens : Nat) (pin : Bool)
  | purge (part : Nat)
  | park (handle ttl : Nat) (release : Bool) | unpark (handle ticket : Nat) | pull (handle : Nat) | cow (handle : Nat)
  | parkRegion (id : Nat) | unparkRegion (id : Nat) | loadCounts (handle count list : Nat)
  | allocRegion (id : Nat) | freeRegion (id : Nat) | grantRegion (id seat mode : Nat)
  | poolOp | joinSet | leaveSet | rebuild
  | closeRun (part run : Nat) | stash (part run : Nat) | schedule (part run : Nat)
  | testHoldup | dumpCopy (slot sec off len dst : Nat) | writeFw | activateFw | restartFw
  deriving DecidableEq, Repr

/-- How far a lookup, insert or purge of Delta has come (R198, R206, R209, R228). -/
structure DeltaRun where
  /-- DIGEST and CHECK of the identity it stands at; none before its first reach. -/
  id : Option (Nat × Nat) := none
  /-- The deepest node matched, stored or followed; none at the root. -/
  at_ : Option Nat := none
  /-- Tokens passed. -/
  len : Nat := 0
  /-- Nodes created, slots moved, nodes evicted by a purge (Table 7-6, R228). -/
  created : Nat := 0
  moved : Nat := 0
  evicted : Nat := 0
  /-- REASON (Table 7-6). -/
  reason : Nat := 0
  status : Status := .ok
  /-- A BUILDING node of this insert whose copy has not ended: its index, the slot copied from, and whether it is a tail (R213). -/
  copying : Option (Nat × Nat × Bool) := none
  /-- The node `at_` holds a pin for this operation's seat (R206). -/
  pinned : Bool := false
  /-- Its last reach is done. -/
  ended : Bool := false
  deriving DecidableEq, Repr

/-- A long-running operation (R86, R88). -/
structure Op where
  /-- The model's own number of the operation; its OPID is `Config.opid n`. -/
  n : Nat
  seat : Nat
  kind : OpKind
  /-- Accepted with DEFER_OK = 1. -/
  deferred : Bool
  tag : Nat
  hostTime : Nat
  tPosted : Nat
  tAccept : Nat
  /-- Final status once ended. -/
  done : Option Status := none
  /-- For a lookup, insert or purge: its progress. -/
  run : DeltaRun := {}
  /-- For an admission that waits for its copy: the answer it then gives (R220). -/
  reply : RespBody := .none
  /-- For a park or unpark: the device time at which it began, and the bytes it then had to move (R331, R336). -/
  began : Nat := 0
  bytes : Nat := 0
  deriving DecidableEq, Repr

/-- What an OP_DONE notice carries beside the OPID and the status (log entry 116). -/
structure OpRes where
  /-- A handle, or a third number. -/
  handle : Nat := 0
  first : Nat := 0
  second : Nat := 0
  /-- RETRY_AFTER of a response that waits for the operation, where it ends with BUSY. -/
  retry : Nat := 0
  deriving DecidableEq, Repr

/-- An object a BUSY claim is held on (R92). -/
inductive ClaimObj where
  | request (handle : Nat) | ticket (t : Nat) | region (id : Nat) | partition (p : Nat) | run (part r : Nat)
  | stashKey (run key : Nat) | swap | delta | pulls | poolOps | stashOps
  | cohSeat (seat : Nat) | firmware
  deriving DecidableEq, Repr

/-- A claim: who holds it, when its last BUSY was answered and with what RETRY_AFTER (R92). -/
structure Claim where
  obj : ClaimObj
  seat : Nat
  last : Nat
  retry : Nat
  deriving DecidableEq, Repr

/-- What the device sends out, as an outside observer sees it (the model's own record, newest first). -/
inductive OutMsg where
  /-- Posted peer write through a port (R63–R65). -/
  | peerWrite (port addr : Nat) (data : List Byte) (relaxed : Bool)
  /-- Zero-length flush read (R65). -/
  | flushRead (port addr : Nat)
  /-- A peer read of one 4 KiB unit through a port (R66). -/
  | peerRead (port addr len : Nat)
  /-- MSI-X vector of a seat's LD (R77). -/
  | msix (seat vector : Nat)
  /-- A response to a CXL.mem read: data, or none for poison, with MetaValue and DevLoad. -/
  | memData (seat hpa : Nat) (data : Option (List Byte)) (meta_ devLoad : Nat)
  /-- A no-data response to a CXL.mem request, with its completion kind (0 Cmp, 1 Cmp-S, 2 Cmp-E), and DevLoad. -/
  | memCmp (seat hpa kind devLoad : Nat)
  /-- A CXL.mem request on an LD with no seat mapped. -/
  | ldPoison (port ld : Nat)
  /-- A back-invalidate snoop: kind 0 BISnpCur, 1 BISnpData, 2 BISnpInv. -/
  | bisnp (seat line kind : Nat)
  | biConflictAck (seat line : Nat)
  /-- A CRS or a full answer to a configuration request. -/
  | cfg (port ld : Nat) (crs : Bool) (data : List Nat)
  | doe (port ld : Nat) (data : List Nat)
  | doeBusy (port ld : Nat)
  | spdm (port ld : Nat) (code : Nat) (data : List Nat)
  | spdmError (port ld : Nat) (code : Nat)
  | fm (port : Nat) (returnCode : Nat) (data : List (Nat × Nat))
  | stdMbx (seat opcode returnCode : Nat) (data : List Nat)
  | regValue (port ld offset value : Nat)
  /-- AER uncorrectable internal error (R56). -/
  | aer (port : Nat)
  | mctp (kind : Nat) (data : List Nat)
  | pldm (kind : Nat) (data : List Nat)
  | pldmEvent (data : List Nat)
  | relay (r : Response)
  | gpfDone (port phase : Nat)
  /-- A stream entry or reply to a pool-set member's aperture (R486). -/
  | stream (member seq : Nat) (data : List Nat)
  deriving DecidableEq, Repr

/-- Partition states (Table 4-1). -/
inductive PartState where
  | empty | resident | draining | swappingOut | swapped | swappingIn
  deriving DecidableEq, Repr

/-- Code of a partition state (R110). -/
def PartState.code : PartState → Nat
  | .empty => 0 | .resident => 1 | .draining => 2 | .swappingOut => 3 | .swapped => 4 | .swappingIn => 5

/-- Request states (Table 5-4). -/
inductive ReqState where
  | free | prefill | active | full | parking | parked | unparking
  deriving DecidableEq, Repr

/-- Code of a request state (Table 5-4). -/
def ReqState.code : ReqState → Nat
  | .free => 0 | .prefill => 1 | .active => 2 | .full => 3 | .parking => 4 | .parked => 5 | .unparking => 6

/-- A reach-list entry (Table 5-5). -/
structure Reach where
  sh : Bool
  slot : Nat
  deriving DecidableEq, Repr

/-- A Request Table entry (Table 5-3), its reach list, and what its admission reserved. -/
structure Rt where
  state : ReqState := .free
  gen : Nat := 0
  seat : Nat := 0
  part : Nat := 0
  tenant : Nat := 0
  prio : Nat := 0
  cancel : Bool := false
  eddy : Bool := false
  seeded : Bool := false
  cow : Bool := false
  length : Nat := 0
  promptLen : Nat := 0
  maxLen : Nat := 0
  own : Nat := 0
  pnode : Nat := 0
  rlist : Nat := 0
  sstate : Nat := 0
  dlToken : Nat := 0
  dlItem : Nat := 0
  /-- The reach list (R136). -/
  reaches : List Reach := []
  /-- Slots held, group padding included (R142). -/
  slots : List Nat := []
  /-- Frames charged (R142). -/
  frames : Nat := 0
  /-- Flash home map units charged (R143). -/
  homeUnits : Nat := 0
  /-- The state before a park (R138: "state held before the park"). -/
  before : ReqState := .active
  /-- A copy-on-write still to be made: tail node and its rows (R220). -/
  cowFrom : Option (Nat × Nat) := none
  /-- Rows the copy-on-write put into reach R_S (R220). -/
  cowRows : Nat := 0
  /-- The client seed (R159). -/
  seed : Nat := 0
  /-- Selection: SEL, SINK, RECENT (R279). -/
  sel : Nat := 0
  sink : Nat := 0
  recent : Nat := 0
  /-- The logit window: HDM address and length, none when removed (R290). -/
  logit : Option (Nat × Nat) := none
  /-- The count set: tokens recorded with their counts, in the order in which they took their entries (R287, R288). -/
  counts : List (Nat × Nat) := []
  deriving DecidableEq, Repr

/-- A tenant record (Table 5-8) with its latest journal entry (R155). -/
structure Tenant where
  exists_ : Bool := false
  unmetered : Bool := false
  rate : Nat := 0
  cap : Nat := 0
  balance : Int := 0
  consumed : Nat := 0
  journalM : Nat := 0
  journalB : Int := 0
  deriving DecidableEq, Repr

/-- Charges of the capacity accounts (Table 5-6). -/
structure Accounts where
  entries : Nat := 0
  seatEntries : Tab Nat := { dflt := 0 }
  partSlots : Tab Nat := { dflt := 0 }
  frames : Nat := 0
  partFrames : Tab Nat := { dflt := 0 }
  seatFrames : Tab Nat := { dflt := 0 }
  homes : Nat := 0
  deriving DecidableEq, Repr

/-- Step conditions (Table 6-1). -/
inductive StepCond where
  | idle | open_ | lapsed | closing
  deriving DecidableEq, Repr

/-- Code of a step condition (R196). -/
def StepCond.code : StepCond → Nat
  | .idle => 0 | .open_ => 1 | .lapsed => 2 | .closing => 3

/-- The record of an item, once consumed (R176, R184). -/
structure ItemRec where
  /-- Byte offset of the result in the result window, or of the slices in the Deliver window. -/
  off : Nat
  /-- Device time at which it was consumed. -/
  tArrive : Nat
  /-- HDM address of the query (Table 6-4). -/
  queryAt : Nat := 0
  /-- The query has been read: when the record is served (R170, R180). -/
  read : Bool := false
  /-- The BF16 query. -/
  query : List Byte := []
  /-- The query met damaged data (R589). -/
  damaged : Bool := false
  deriving DecidableEq, Repr

/-- One item of a step (R22, R176). -/
structure Item where
  handle : Nat
  layer : Nat
  /-- Its record, once consumed. -/
  rec? : Option ItemRec := none
  /-- The reaches a selection chose, ascending (R280). -/
  sel : Option (List Nat) := none
  /-- Physical numbers of the live tiles the item is numbered over (R263). -/
  tiles : Option (List Nat) := none
  /-- Passes whose staging has begun (R265). -/
  staged : Nat := 0
  /-- Passes computed (R267). -/
  passes : Nat := 0
  /-- Device time at which it came into service (R176). -/
  since : Nat := 0
  /-- Device time at which its compute or push began. -/
  started : Option Nat := none
  /-- It has left service. -/
  left : Bool := false
  /-- It left by expiry (R176). -/
  expired : Bool := false
  /-- Its staging met damaged data (R589). -/
  bad : Bool := false
  /-- Ports up as its push began (R283). -/
  ports : List Nat := []
  /-- The status with which it ends, once its completion can be written (R283). -/
  ending : Option Status := none
  /-- Its result is sent; the record waits for the flush reads: its port and address (R65). -/
  record : Option (Nat × Nat) := none
  /-- Uncorrectable tile errors met (R590). -/
  tileErrors : Nat := 0
  deriving DecidableEq, Repr

/-- A request kept in a step (R173, R174). -/
structure Kept where
  handle : Nat
  /-- L, fixed at acceptance (R174). -/
  len : Nat
  /-- Layers whose APPEND was consumed (R184). -/
  seen : List Nat := []
  /-- Layers whose APPEND was written (R190, R191). -/
  written : List Nat := []
  /-- Its length advanced in this step (R189, R190). -/
  advanced : Bool := false
  /-- Its draw of a sampling step has been queued (R292). -/
  drawQueued : Bool := false
  /-- Its draw has ended or was abandoned (R192). -/
  drawDone : Bool := false
  deriving DecidableEq, Repr

/-- A partition's step (Table 6-1). -/
structure StepSt where
  /-- The condition (Table 6-1; reset IDLE). -/
  cond : StepCond := .idle
  /-- The seat and ring that own the step (R175; reset 0, 0). -/
  ownerSeat : Nat := 0
  ownerRing : Nat := 0
  /-- The variant: Deliver, otherwise Attend (R17; reset 0). -/
  deliver : Bool := false
  /-- SAMPLE (Table 6-3; reset 0). -/
  sample : Bool := false
  /-- WAIT_US in µs, 1 to 65,535 (Table 6-3; reset 0). -/
  waitUs : Nat := 0
  /-- WINDOW (Table 6-3; reset 0). -/
  window : Nat := 0
  /-- Requests kept, in list order (R173; reset empty). -/
  kept : List Kept := []
  /-- Requests dropped, each with its status (R173, R184; reset empty). -/
  dropped : List (Nat × Status) := []
  /-- The items in the order of R22 (reset empty). -/
  items : List Item := []
  /-- The highest PRIO among the kept requests (R23; reset 0). -/
  prio : Nat := 0
  /-- Place among accepted STEP_OPENs (R23; reset 0). -/
  order : Nat := 0
  /-- Device time at which the STEP_OPEN was consumed (R102; reset 0). -/
  tOpen : Nat := 0
  /-- Device time at which the STEP_CLOSE was consumed or CLOSE_STEP served (R192, R193; reset 0). -/
  tClose : Nat := 0
  /-- The step is closed by a STEP_CLOSE record, for whose completion space is reserved (R100; reset 0). -/
  closeRec : Bool := false
  deriving DecidableEq, Repr

/-- A staged SET_REQUEST (R158). -/
structure StagedReq where
  handle : Nat
  prio : Nat
  dlToken : Nat
  dlItem : Nat
  deriving DecidableEq, Repr

/-- Changes staged to a partition's next boundary, besides ring destructions and CANCEL (Table 21-16). -/
structure Staged where
  requests : List StagedReq := []
  logit : List (Nat × Option (Nat × Nat)) := []
  select : List (Nat × Nat × Nat × Nat) := []
  digests : Option Bool := none
  /-- Parks of kept requests waiting for the boundary: operation numbers (R329). -/
  parks : List Nat := []
  unload : Option Nat := none
  deriving DecidableEq, Repr

/-- States of a prefix node (Table 7-4); a FREE way is not listed. -/
inductive NodeState where
  | building | live | held
  deriving DecidableEq, Repr

/-- A prefix node (Table 7-4). PREV, NEXT and LISTED are read from its partition's eviction list. -/
structure Node where
  /-- Node index: bucket × 8 + way (R202). -/
  idx : Nat
  digest : Nat
  check : Nat
  slot : Nat
  len : Nat
  rows : Nat
  tailRows : Nat := 0
  ref : Nat := 0
  kids : Nat := 0
  tenant : Nat := 0
  part : Nat
  state : NodeState := .live
  copied : Bool := false
  /-- The tail that TAIL_ROWS of its parent names (R209, R226). -/
  findable : Bool := false
  parent : Nat := 0
  touch : Nat := 0
  /-- Map units of flash home the node's slot carries (R212). -/
  units : Nat := 0
  deriving DecidableEq, Repr

/-- States of a stash object (Table 17-4); a FREE record is not listed. -/
inductive ObjState where
  | putting | held | spilled | mixed | dropping
  deriving DecidableEq, Repr

/-- A stash object record (Table 17-4). -/
structure StashObj where
  /-- Index of its record in the run table. -/
  idx : Nat
  key : Nat
  /-- SIZE in 4 KiB units. -/
  size : Nat
  /-- FIRST_SLOT. -/
  first : Nat
  st : ObjState
  prot : Bool := false
  noCompress : Bool := false
  parity : Bool := false
  keySlot : Nat := 0
  /-- KCV of the key under which it was put (R502). -/
  kcv : Nat := 0
  /-- HELD_FRAMES: its first frames, now in HBM (R499). -/
  held : Nat := 0
  /-- Place among the run's completed puts (R507). -/
  order : Nat := 0
  /-- A GET with RELEASE has ended while another GET reads it: dropped once no GET does (Table 17-6). -/
  dropAfter : Bool := false
  deriving DecidableEq, Repr

/-- A stash run (R497, R499). -/
structure Run where
  run : Nat
  seat : Nat
  /-- HBM_FRAMES. -/
  budget : Nat
  maxObjects : Nat
  /-- The schedule and its cursor (R505, R506; reset empty, 0). -/
  sched : List Nat := []
  cursor : Nat := 0
  objs : List StashObj := []
  /-- The key of the unspill in progress (R508; reset none). -/
  unspill : Option Nat := none
  /-- The operations accepted before that unspill: its place in the STASH queue (R341; reset 0). -/
  unspillAt : Nat := 0
  /-- Puts completed (R507; reset 0). -/
  puts : Nat := 0
  deriving DecidableEq, Repr

/-- One of the sixteen partitions. -/
structure Part where
  state : PartState := .empty
  body : LoadBody := {}
  stepNo : Nat := 0
  /-- SET_PARTITION_CAP (R146, persisted; shipment 0 = no cap, DESIGN CHOICE: log entry 5). -/
  cap : Nat := 0
  step : StepSt := {}
  staged : Staged := {}
  /-- Bytes of the KV space, by KV-space address (R120). -/
  kv : List Host.Cell := []
  /-- SET_DIGESTS is on (R276). -/
  digests : Bool := false
  /-- The digest area is charged (R276; reset 0). -/
  digestHeld : Bool := false
  /-- Slots and layers whose digest is valid (R277). -/
  digestValid : List (Nat × Nat) := []
  /-- PREFIX_CHARGE (R199, persisted; 100). -/
  pfxCharge : Nat := 100
  /-- SCOPE (R199; 0). -/
  pfxScope : Nat := 0
  /-- MAX_SLOTS (R199; 0). -/
  pfxMaxSlots : Nat := 0
  /-- INSERT_MASK, 64 bits (R199; all ones). -/
  pfxInsertMask : Nat := 2 ^ 64 - 1
  /-- The root record's TAIL_ROWS (R204; 0). -/
  rootTail : Nat := 0
  /-- The root record's KIDS (R204; 0). -/
  rootKids : Nat := 0
  /-- Slots of groups the store holds with P < 32 KiB, nodes' slots included (R212; empty). -/
  storeSlots : List Nat := []
  /-- The eviction list, coldest node first (R223; empty). -/
  cold : List Nat := []
  /-- Evictions that a lowered MAX_SLOTS has started go on (R227; reset 0). -/
  shrinking : Bool := false
  /-- Stash runs (R497; empty). -/
  runs : List Run := []
  deriving DecidableEq, Repr

/-- A flash image of a partition (R126, R132). -/
structure Image where
  modelId : Nat
  /-- The geometry. -/
  body : LoadBody
  /-- Partition number that carries it; none when it stands alone (R132). -/
  owner : Option Nat
  /-- Bytes it occupies in the image area (R132), in whole map units. -/
  metaBytes : Nat
  /-- Map units of flash home charged to account 7 for a standalone image's slots. -/
  homeUnits : Nat := 0
  /-- A standalone image's prefix nodes. -/
  nodes : List Node := []
  /-- Pins on them: node index and seat. -/
  pins : List (Nat × Nat) := []
  /-- A standalone image's root record: TAIL_ROWS, KIDS, and the slots of the store's groups (R204, R212). -/
  rootTail : Nat := 0
  rootKids : Nat := 0
  storeSlots : List Nat := []
  /-- Its prefix policy: charge, scope, cap and mask (R199). -/
  policy : Nat × Nat × Nat × Nat := (100, 0, 0, 2 ^ 64 - 1)
  /-- The eviction list as its nodes carry it (Table 7-4). -/
  cold : List Nat := []
  /-- The homes of the frames it names (R132). -/
  named : List UnitKey := []
  deriving DecidableEq, Repr

/-- The swap in progress (R129). -/
structure Swap where
  out : Bool
  part : Nat
  release : Bool
  op : Nat
  /-- A read-back after flush recovery (R427). -/
  restore : Bool := false
  /-- Device time at which its data began to move, and the bytes it then had to move (R129, R130). -/
  began : Nat := 0
  bytes : Nat := 0
  deriving DecidableEq, Repr

/-- A STEP_OPEN consumed and held (R6, R171). -/
structure HeldOpen where
  seat : Nat
  ring : Nat
  part : Nat
  tArrive : Nat
  record : List Byte
  deriving DecidableEq, Repr

/-- States of a pool region (chapter 16, R338). -/
inductive RegionSt where
  | zeroFilling | held | parking | parked | unparking | restoring | freeing
  deriving DecidableEq, Repr

/-- A pool region (R461–R464). -/
structure Region where
  id : Nat
  seat : Nat
  resident : Bool := false
  parkable : Bool := false
  shared : Bool := false
  protected_ : Bool := false
  mirrored : Bool := false
  parity : Bool := false
  noCompress : Bool := false
  stash : Bool := false
  /-- KCV recorded at allocation, with PROTECTED (R472). -/
  kcv : Nat := 0
  /-- Partition tag, 0xFF for none. -/
  part : Nat := 255
  keySlot : Nat := 0
  base : Nat
  size : Nat
  st : RegionSt := .held
  /-- CLASS of its frames in the frame table, set as they are reserved (R347; RAW 0 but for STASH). -/
  shoal : Nat := 0
  degraded : Bool := false
  grants : List (Nat × Nat) := []
  attached : List (Nat × Nat) := []
  data : List Host.Cell := []
  deriving DecidableEq, Repr

/-- Dirty tracking of one HBM frame (Table 11-6). -/
structure FrameInfo where
  key : FrameKey
  dirty : Bool := true
  wb : Bool := false
  firstDirty : Nat
  lastWrite : Nat
  deriving DecidableEq, Repr

/-- Where a write of the device or of a host lands. -/
inductive Target where
  | region (id : Nat)
  | kv (part : Nat)
  /-- The count sets of an entry's sampler state block (R286). -/
  | counts (rti : Nat)
  /-- A run table (R497). -/
  | table (part run : Nat)
  deriving DecidableEq, Repr

/-- What follows a held write once it is made (R324): the write of an APPEND (R181, R190), of a host whose completion waits, or
of a store the watcher accepts then (R99, R292). -/
inductive HeldTag where
  | none
  | append (handle layer : Nat)
  /-- Seat, HDM address and byte mask of a CXL.mem store. -/
  | host (seat hpa mask : Nat)
  /-- A store into a submission ring: seat, ring, slot, HDM address. -/
  | ring (seat ring slot hpa : Nat)
  /-- A store into a logit window header: seat, request, HDM address, and the step it names. -/
  | header (seat handle hpa step : Nat)
  /-- A write of a pool operation or stash transfer. -/
  | xfer (op : Nat)
  /-- A CLEAR_COUNTS of a request. -/
  | clear (handle : Nat)
  deriving DecidableEq, Repr

/-- A write held by the dirty ceiling (R324). -/
structure HeldWrite where
  /-- STEP work, held at the higher mark. -/
  stepWork : Bool
  target : Target
  /-- Its pieces: offsets and bytes. -/
  pieces : List (Nat × List Byte)
  /-- What follows once it is made. -/
  tag : HeldTag := .none
  deriving DecidableEq, Repr

/-- Tier settings and the dirty ceiling (chapter 11). -/
structure Tier where
  /-- Image area in GB (R316, persisted; shipment 2,000). -/
  imageGb : Nat := 2000
  /-- Park area in GB (R316, persisted; shipment 8,000). -/
  parkGb : Nat := 8000
  /-- Survival mode FLUSH; REPLAY when false (R323, R583; reset REPLAY). -/
  flushMode : Bool := false
  /-- C_D, the dirty ceiling in frames (R321–R323; reset 0). -/
  ceiling : Nat := 0
  /-- Map units lost to dead lanes, by which account 7 falls (R390; reset 0). -/
  homeLoss : Nat := 0
  /-- Writes held by the ceiling, oldest first (R324; reset empty). -/
  heldWrites : List HeldWrite := []
  deriving DecidableEq, Repr

/-- Telemetry (R554–R557). -/
structure Tel where
  /-- Window number of the next record, 32 bits (R554; reset 0). -/
  window : Nat := 0
  /-- The latest record's T_END, FLAGS, SEQ and nine currents; none until the first (R554, R634; reset none). -/
  latest : Option (Nat × Nat × Nat × List Nat) := none
  /-- Telemetry ring base in seat 0's HDM, 0 for none, and log2 of its records (R557; reset 0, 0). -/
  ringBase : Nat := 0
  ringLog2 : Nat := 0
  /-- Records written into the ring (R557; reset 0). -/
  ringTail : Nat := 0
  deriving DecidableEq, Repr

/-- A loaded key slot of the key bank (R471–R473). -/
structure KeySlot where
  slot : Nat
  owner : Nat
  /-- LOADED; EMPTY when false (R472). -/
  loaded : Bool := true
  key1 : Nat
  key2 : Nat
  kcv : Nat
  deriving DecidableEq, Repr

/-- A ticket record (Table 5-12); its other fields are those of its park. -/
structure Ticket where
  ticket : Nat
  tenant : Nat
  deriving DecidableEq, Repr

/-- What a park keeps in flash (R328–R331): named by a handle, or by a ticket. -/
structure Park where
  /-- The model's own number of the park, under which its homes and record lie. -/
  pid : Nat
  handle : Option Nat
  ticket : Option Nat
  part : Nat
  /-- The seat that parked it. -/
  seat : Nat
  expiry : Nat
  /-- P_rec map units of the park area. -/
  units : Nat
  /-- The entry as it was when parked. -/
  saved : Rt
  /-- A staged SET_REQUEST held with a ticket: PRIO, DL_TOKEN, DL_ITEM (Table 5-12; reset none). -/
  staged : Option (Nat × Nat × Nat) := none
  deriving DecidableEq, Repr

/-- A pull in progress (R339). -/
structure Pull where
  op : Nat
  handle : Nat
  seat : Nat
  window : Nat
  offset : Nat
  first : Nat
  reaches : Nat
  layer0 : Nat
  layer1 : Nat
  deriving DecidableEq, Repr

/-- A queued draw (R289, R292). -/
structure Draw where
  handle : Nat
  part : Nat
  step : Nat
  queued : Nat
  deriving DecidableEq, Repr

/-- A map entry that is not UNMAPPED (Table 13-2), with the contents of the unit. -/
structure MapEnt where
  unit : Nat
  lost : Bool := false
  /-- LEN: 0x012–0xFFE grains of an object, 0xFFF RAW. -/
  len : Nat
  /-- PAGE × 16 + SLOT. -/
  pos : Nat
  /-- The unit still lies on the die its lane moved away from (R389). -/
  old : Bool := false
  data : List Host.Cell
  deriving DecidableEq, Repr

/-- A program in flight (R372, R373). -/
structure Prog where
  key : UnitKey
  unit : Nat
  len : Nat
  pos : Nat
  /-- A frame of the unit is damaged: the home becomes LOST (R589). -/
  damaged : Bool
  data : List Host.Cell
  deriving DecidableEq, Repr

/-- Conditions of an erase block. -/
inductive BlkSt where
  | free | opened | closed | bad
  /-- A closed block whose valid units are being relocated (R375, R379, R386). -/
  | moving
  /-- A block that holds system-area data (R367). -/
  | system
  deriving DecidableEq, Repr

/-- One erase block of a lane's die (§13.1, R380, R386). -/
structure Blk where
  st : BlkSt := .free
  erase : Nat := 0
  /-- Page reads since the last erase; 100,000 for a closed block at start-up (R386). -/
  reads : Nat := 0
  /-- Park clock at its first data page. -/
  firstProg : Nat := 0
  /-- A scrub read met a refresh condition, and a refresh is queued (R387; reset 0). -/
  refresh : Bool := false
  /-- Its records, in placement order: unit number, first slot in the block, LEN (R371). -/
  recs : List (Nat × Nat × Nat) := []
  deriving DecidableEq, Repr

/-- Conditions of a lane (R368). -/
inductive LaneCond where
  | live | evacuating | dead
  deriving DecidableEq, Repr

/-- One lane (R366, R374). -/
structure Lane where
  /-- The die it moved to; none on its shipment die (R389). -/
  moved : Option (Nat × Nat) := none
  cond : LaneCond := .live
  blocks : Tab Blk := { dflt := {} }
  /-- The HOST open block and its next slot. -/
  host : Option (Nat × Nat) := none
  /-- The GC open block and its next slot. -/
  gc : Option (Nat × Nat) := none
  /-- Blocks that hold system-area data, oldest first (R367, R378; reset empty). -/
  sys : List Nat := []
  deriving DecidableEq, Repr

/-- The recalibrations of the eight stacks as they fall due after a cold reset, staggered 3 s apart (R344; log entry 115). -/
def recalStart : Tab Nat := { dflt := 0, cells := (List.range 8).map fun k => (k, 3000000000 * (k + 1)) }

/-- One copy of the anchor region's epoch counter (Table 13-4, R392). -/
structure Anchor where
  /-- The lane it lies on (R391, R390). -/
  lane : Nat
  /-- HIGH of the latest readable high record, 40 bits. -/
  high : Nat := 0
  /-- TAG of the records in the active LOW block. -/
  tag : Nat := 0
  /-- Positions of that block that hold valid records, contiguous from 0. -/
  n : Nat := 0
  /-- The next position is neither erased nor valid. -/
  torn : Bool := false
  deriving DecidableEq, Repr

/-- Flash media management (chapter 13). -/
structure Flash where
  /-- The 992 lanes. -/
  lanes : Tab Lane := { dflt := {} }
  /-- The unit number of every home, image unit and park-record unit that has been given one (R366; reset empty). -/
  homes : List (UnitKey × Nat) := []
  /-- Map entries that are not UNMAPPED (R369; reset empty). -/
  map : List MapEnt := []
  /-- The map as the programmed journal pages give it (R397, R537; reset empty). -/
  mapSafe : List MapEnt := []
  /-- Programs in flight (reset empty). -/
  inflight : List Prog := []
  /-- Channels whose spare die D31 is used (R389; reset empty). -/
  spareUsed : List Nat := []
  /-- Channels permanently failed (R389; reset empty). -/
  failed : List Nat := []
  /-- Records in the open journal page (R397; reset 0). -/
  jOpen : Nat := 0
  /-- Journal records since the start of the latest complete checkpoint (R398; reset 0). -/
  jSince : Nat := 0
  /-- The 48-bit journal sequence number (R397; reset 0). -/
  jSeq : Nat := 0
  /-- A checkpoint runs: the journal length at its start (R398; reset none). -/
  ckpt : Option Nat := none
  /-- The two copies of the epoch counter (R391, R392; on lanes 0 and 16, and 0 at manufacture: DESIGN CHOICE, log entry 118). -/
  anchor0 : Anchor := { lane := 0 }
  anchor1 : Anchor := { lane := 16 }
  /-- Device time of each channel's latest calibration (R388; reset 0). -/
  calLast : Tab Nat := { dflt := 0 }
  /-- Device time at which each HBM stack's next recalibration falls due (R344; reset 3 s × (stack + 1), the stagger of 3 s: log entry
  115). -/
  recalDue : Tab Nat := recalStart
  /-- Each HBM stack's patrol scrub: the pass number, the place reached in its order, and the device time at which the pass began (R343; reset
  0, 0, 0). -/
  hbmScrub : Tab (Nat × Nat × Nat) := { dflt := (0, 0, 0) }
  /-- Each channel's patrol scrub: the pass number, the place reached in its order, and the park clock at which the pass
  began (R387; reset 0, 0, 0). -/
  scrub : Tab (Nat × Nat × Nat) := { dflt := (0, 0, 0) }
  /-- Factory-bad and retired blocks are in `lanes`; the ticket serial S, 39 bits (R332; reset 0). -/
  ticketS : Nat := 0
  /-- E and n of the next REGION_ID (R464; reset 0, 0: E is taken with the first firmware start). -/
  regionE : Nat := 0
  regionN : Nat := 0
  /-- Number of the next park. -/
  nextPark : Nat := 0
  deriving DecidableEq, Repr

/-- A pool operation or stash transfer in progress: its remaining descriptors, first the one that runs (R481, R500). -/
structure Xfer where
  op : Nat
  seat : Nat
  pool : List PoolDesc := []
  stash : List StashDesc := []
  /-- VALUE of the first descriptor, once its writes have been issued (R481; reset none). -/
  issued : Option Nat := none
  deriving DecidableEq, Repr

/-- Where the module stands in a pool set (R484). -/
inductive SetPhase where
  | none | forming | formed
  deriving DecidableEq, Repr

/-- Kinds of stream entries (Table 16-10). -/
inductive EntryKind where
  | mirrorWrite | reserve | parityDelta | readReq | readData | reply
  deriving DecidableEq, Repr

/-- Code of an entry kind. -/
def EntryKind.code : EntryKind → Nat
  | .mirrorWrite => 1 | .reserve => 2 | .parityDelta => 3 | .readReq => 4 | .readData => 5 | .reply => 6

/-- What an entry of this module's stream stands for, so that its consumption or its answer has its effect (R487–R491). -/
inductive EntryUse where
  /-- A host's mirrored write that waits for credit: seat, HDM address of its completion. -/
  | hostWrite (seat hpa : Nat)
  /-- RESERVE of a region's replica, on which an allocation waits. -/
  | replica (region : Nat)
  /-- A read of a replica line for a host: seat, address, region, offset and MetaValue code. -/
  | lineRead (seat hpa region off metaCode : Nat)
  /-- A read of 4 KiB at an offset of another member's unit of a stripe, from which a home is rebuilt (R488). -/
  | stripe (key : UnitKey) (off : Nat)
  deriving DecidableEq, Repr

/-- A stream entry (Table 16-10). -/
structure Entry where
  kind : EntryKind
  cls : Nat := 0
  status : Status := .ok
  replyTo : Nat := 0
  target : Nat := 0
  offset : Nat := 0
  size : Nat := 0
  data : List Byte := []
  /-- What waits for it (reset none). -/
  uses : List EntryUse := []
  deriving DecidableEq, Repr

/-- Another member of the pool set. -/
structure Member where
  index : Nat
  /-- Window of kind 5 that covers its aperture (R484). -/
  window : Nat
  /-- ABSENT to this module (R489; reset 0). -/
  absent : Bool := false
  /-- Entries sent to it (R486; reset 0). -/
  sent : Nat := 0
  /-- CREDIT: entries of this module's stream that it has consumed (Table 16-9; reset 0). -/
  credit : Nat := 0
  /-- Entries of its stream applied here (R486; reset 0). -/
  applied : Nat := 0
  /-- Entries sent and not yet consumed or answered: SEQ, the device time of sending, and the entry, oldest first (reset empty). -/
  waiting : List (Nat × Nat × Entry) := []
  /-- Entries that wait for credit to be sent, oldest first (R486; reset empty). -/
  queued : List Entry := []
  deriving DecidableEq, Repr

/-- A replica held for the predecessor (R487). -/
structure Replica where
  region : Nat
  size : Nat
  data : List Host.Cell := []
  deriving DecidableEq, Repr

/-- A home being rebuilt from the rest of its stripe (R488): its index, the XOR read so far, and the reads still to come. -/
structure Stripe where
  key : UnitKey
  k : Nat
  acc : List Host.Cell := []
  left : Nat
  deriving DecidableEq, Repr

/-- The pool set (R484–R492). -/
structure PoolSet where
  /-- Membership state, persisted (R484; reset none). -/
  phase : SetPhase := .none
  /-- SET_ID, N, INDEX, SET_TO in ms and PARITY_GB, persisted (R484; reset 0). -/
  setId : Nat := 0
  n : Nat := 0
  index : Nat := 0
  setTo : Nat := 0
  parityGb : Nat := 0
  /-- The join carried REBUILD (R484, R491; reset 0). -/
  rebuild : Bool := false
  /-- The other members (reset empty). -/
  members : List Member := []
  /-- The JOIN_POOL_SET that waits and its device time (R484; reset none). -/
  joinOp : Option Nat := none
  joinAt : Nat := 0
  /-- Replicas held for the predecessor (R487; reset empty). -/
  replicas : List Replica := []
  /-- Data units of the parity space taken by PARITY homes (R488; reset empty). -/
  units : List (UnitKey × Nat) := []
  /-- Map units charged to PARITY regions and objects (R488; reset 0). -/
  charged : Nat := 0
  /-- Contents of this member's parity units whose deltas have not all come, until they are programmed (R488; reset empty). -/
  parity : List (Nat × List Host.Cell) := []
  /-- Stale stripes, journaled (R489; reset empty). -/
  stale : List Nat := []
  /-- Homes being rebuilt from their stripes (R488; reset empty). -/
  stripes : List Stripe := []
  /-- The REBUILD_MEMBER in progress (R491; reset none). -/
  rebuildOp : Option Nat := none
  deriving DecidableEq, Repr

/-- A request that waits at its line's conflict queue (R446). -/
structure CohReq where
  /-- The seat; none for the device. -/
  who : Option Nat
  op : CohOp
  region : Nat
  /-- Line index in the region. -/
  line : Nat
  /-- HDM address as the seat gave it. -/
  hpa : Nat := 0
  /-- Holders that have answered a snoop of this request. -/
  asked : List Nat := []
  /-- A capacity recall has been started for it (R450, R451). -/
  recalls : Bool := false
  deriving DecidableEq, Repr

/-- A directory entry (Table 15-2); AGE is its rank among the entries of its set, TAG and place follow from its line. -/
structure DirEnt where
  region : Nat
  line : Nat
  /-- HOLDERS. -/
  holders : BitVec 64
  /-- STATE is E. -/
  excl : Bool
  pend : Bool := false
  recalled : Bool := false
  deriving DecidableEq, Repr

/-- An outstanding snoop (R452): kind 0 BISnpCur, 1 BISnpData, 2 BISnpInv. -/
structure Snoop where
  region : Nat
  line : Nat
  seat : Nat
  kind : Nat
  /-- Device time at which it was sent, or held for a link that was down. -/
  since : Nat
  /-- SNOOP_TO as sampled, in ms. -/
  timeout : Nat
  /-- It waits for its port's link (R452). -/
  held : Bool := false
  deriving DecidableEq, Repr

/-- Coherence in the shared pool (chapter 15). -/
structure Coh where
  /-- Directory entries in use, oldest allocation first (R439; reset empty). -/
  dir : List DirEnt := []
  /-- Outstanding snoops (R441; reset empty). -/
  snoops : List Snoop := []
  /-- Conflict queues in arrival order (R446; reset empty). -/
  queue : List CohReq := []
  /-- GLB_COH_FENCED (Table 15-6; reset 0). -/
  fenced : BitVec 64 := 0
  /-- Seats whose fence sweep runs (R454; reset 0). -/
  sweeping : BitVec 64 := 0
  /-- Device time at which each running sweep began (R454; reset: none). -/
  sweepAt : List (Nat × Nat) := []
  /-- Seats whose fence may lift: the second condition of R457 has happened (reset 0). -/
  lifting : BitVec 64 := 0
  /-- Device reads done for pool operations: operation, region and line (R441, R482; reset empty). -/
  done : List (Nat × Nat × Nat) := []
  /-- BIConflicts whose acknowledgement waits for a response to the same seat: the seat and the line's HDM address (R449; reset empty). -/
  acks : List (Nat × Nat) := []
  deriving DecidableEq, Repr

/-- Charger states (Table 14-3). -/
inductive Charger where
  | absent | charging | ready | testing | fault
  deriving DecidableEq, Repr

/-- Code of a charger state (HUP_STATUS.CHG). -/
def Charger.code : Charger → Nat
  | .absent => 0 | .charging => 1 | .ready => 2 | .testing => 3 | .fault => 4

/-- Where a discharge test stands (R408): waiting for the charge range, charging to full, resting, discharging. -/
inductive TestStep where
  | waiting | charge | rest | discharge
  deriving DecidableEq, Repr

/-- The hold-up pack and its charger (§14.2, §14.3). -/
structure Hup where
  /-- PACK_PRES# is low (R403; reset 0). -/
  present : Bool := false
  /-- R404 holds but for `low` (reset 0). -/
  healthy : Bool := false
  /-- HUP_STATUS.CHG (Table 14-3; reset ABSENT). -/
  chg : Charger := .absent
  /-- The step of the test while CHG is TESTING (R408; reset waiting). -/
  step : TestStep := .waiting
  /-- The TEST_HOLDUP operation of the test (R411; reset none). -/
  testOp : Option Nat := none
  /-- A test of the seated pack has completed (R407; reset 0). -/
  tested : Bool := false
  /-- Park-clock second of the latest completed test (R408; reset 0). -/
  lastTest : Nat := 0
  /-- A test since insertion gave E_cap below 643 J (R404; reset 0). -/
  low : Bool := false
  /-- E_stored in mJ (R407; reset 0). -/
  eStored : Nat := 0
  /-- E_cap in mJ (R407; reset 0). -/
  eCap : Nat := 0
  /-- PACK_TEMP, 8 bits (Table 14-5; reset 0). -/
  temp : Nat := 0
  /-- Serial number as last read, 64 bits (R411; reset 0). -/
  serial : Nat := 0
  /-- Rated energy in J as last read, 32 bits (R411; reset 0). -/
  rated : Nat := 0
  /-- Both temperatures lie in the charge range (R406; reset 0). -/
  chargeRange : Bool := false
  /-- The charger has been stopped by a loss of charge current or a trigger (R406; reset 0). -/
  stopped : Bool := false
  /-- PERIOD_DAYS, persisted (R411; reset 90). -/
  period : Nat := 90
  deriving DecidableEq, Repr

/-- Where the module stands between power off and running (chapters 18 to 20). -/
inductive Stage where
  /-- No standby power. -/
  | off
  /-- Standby: main rails off. -/
  | standby
  /-- The main rails start (R543). -/
  | ramping
  /-- Rails good; the device waits for T_0 (R526). -/
  | waiting
  /-- From T_0 on. -/
  | up
  /-- A warm reset saves state (R570). -/
  | saving
  /-- The flush's data phase, or the end of programs in flight in REPLAY mode (R418, R420). -/
  | flushData
  /-- The flush's metadata phase (R418). -/
  | flushMeta
  deriving DecidableEq, Repr

/-- What a flush answers. -/
inductive FlushCause where
  | pwrEn | input | fatal
  deriving DecidableEq, Repr

/-- A flush in progress (R418–R421). -/
structure FlushSt where
  cause : FlushCause
  /-- Every dirty frame is saved: D ≤ C_D at the trigger, or no energy stop (R415, R419). -/
  whole : Bool
  /-- The whole device is flushed; otherwise only programs and journals in flight end (R420). -/
  full : Bool
  /-- A fatal event met during the flush, whose MINIMAL dump follows it (R605). -/
  late : Option FaultRec := none
  deriving DecidableEq, Repr

/-- Power delivery and the pins of J1 (chapters 18 and 19). -/
structure Pwr where
  /-- The stage (reset up: State.reset stands at T_0). -/
  stage : Stage := .up
  /-- The input lies in its operating range (R525; reset 1). -/
  vin : Bool := true
  /-- The input protection is open (R535; reset 0). -/
  protOpen : Bool := false
  /-- PWR_EN# debounced as asserted (R525; reset 1). -/
  pwrEn : Bool := true
  /-- PERST# asserted (R526; reset 0). -/
  perst : Bool := false
  /-- Main rails good so far, in the order of Table 19-3, 10 with the bus (R543; reset 10). -/
  rails : Nat := 10
  /-- The start has been stopped by a rail; PWR_EN# must be deasserted before a retry (R543; reset 0). -/
  startStopped : Bool := false
  /-- The rails are off after a fatal event (R602; reset 0). -/
  fatalOff : Bool := false
  /-- The flush in progress (R418; reset none). -/
  flush : Option FlushSt := none
  /-- Lost bus converters (R536; reset none). -/
  bcLost : List Nat := []
  /-- Final-stage phases disabled, persisted (R540; reset none). -/
  phasesOff : List Nat := []
  /-- Regions throttled now (R550; reset none). -/
  throttled : List Nat := []
  /-- Regions in HOLD (R552; reset none). -/
  held : List Nat := []
  /-- Permanently failed regions, persisted (R553; reset none). -/
  failed : List Nat := []
  /-- A region was throttled, or tripped, or header groups woke in the running window (Table 19-10; reset 0). -/
  winThrottle : Bool := false
  winTrip : Bool := false
  winWake : Bool := false
  /-- The ports on which a GPF Phase 2 is in progress, in the order they began (R433; reset empty). -/
  gpf : List Nat := []
  deriving DecidableEq, Repr

/-- The management endpoint at J1 (R529–R532). -/
structure Mgmt where
  /-- MCTP endpoint identifier, 0 while unassigned (R529; reset 0). -/
  eid : Nat := 0
  /-- Dynamic I3C address, 0 while unassigned (R529; reset 0). -/
  addr : Nat := 0
  /-- PLDM terminus identifier (R530; reset 0). -/
  tid : Nat := 0
  deriving DecidableEq, Repr

/-- What a half of the tile arrays holds: a pass of an item, being staged or ready (R24, R267). -/
structure Half where
  part : Nat
  idx : Nat
  pass : Nat
  ready : Bool := false
  deriving DecidableEq, Repr

/-- The tile regions under idle gating (R546). -/
inductive TileGate where
  | usable | gated | waking
  deriving DecidableEq, Repr

/-- The service of STEP items across the device (R23–R26). -/
structure Service where
  /-- The item in service: partition and index in its step's order (reset none). -/
  inService : Option (Nat × Nat) := none
  /-- The item that follows, once its staging has begun (R23; reset none). -/
  nextUp : Option (Nat × Nat) := none
  /-- The two halves of the tile arrays (R24; reset free). -/
  halfA : Option Half := none
  halfB : Option Half := none
  /-- STEP_OPENs accepted so far (R23; reset 0). -/
  opens : Nat := 0
  /-- Idle gating of the tile regions (R546; reset usable). -/
  gate : TileGate := .usable
  /-- Device time since which no partition has had an open step (R546; reset 0). -/
  idleSince : Nat := 0
  deriving DecidableEq, Repr

/-- GLB_ registers and device-wide settings. -/
structure Glb where
  /-- GLB_STEP_CTRL.HWPARSE in use (R106, R629; reset 1). -/
  hwparse : Bool := true
  /-- Its pending RWS write (R6; reset none). -/
  hwparsePend : Option Bool := none
  /-- The hardware parser is retired (R108, persisted; reset 0). -/
  parserRetired : Bool := false
  /-- GLB_DITHER_CTRL committed, 32 bits (R256; reset 0). -/
  ditherCtrl : Nat := 0
  ditherCtrlPend : Option Nat := none
  /-- GLB_DITHER_SALT committed, 64 bits (R631; reset 0). -/
  ditherSalt : Nat := 0
  ditherSaltPend : Option Nat := none
  /-- SALT drawn at the cold reset (R254; reset: the free value). -/
  salt : Nat := 0
  /-- GLB_DELTA_CFG.AREA_LOG2, persisted (R630; reset 32). -/
  areaLog2 : Nat := 32
  /-- GLB_COH_CFG.SNOOP_TO, persisted (R460; reset 128). -/
  snoopTo : Nat := 128
  /-- PWR_CTRL committed, 32 bits, persisted (R547). -/
  pwrCtrl : Nat := 1000
  pwrCtrlPend : Option Nat := none
  deriving DecidableEq, Repr

/-- The device's clocks, start-up state and reset cause. -/
structure Dev where
  /-- GLB_DEVTIME in ns, 64 bits (R74; reset 0). -/
  devtime : Nat := 0
  /-- Park clock in seconds, 48 bits (R333, persisted; 0 at shipment). -/
  parkClock : Nat := 0
  /-- Latest persisted park clock record (R333, R615; quantum 64 s). -/
  parkClockPersist : Nat := 0
  /-- BOOT, cold starts of the module modulo 65,536 (R597, persisted; reset 1: State.reset stands after the first cold start's T_0). -/
  boot : Nat := 1
  /-- FW_READY (R581; reset 0). -/
  fwReady : Bool := false
  /-- MEM_ACTIVE (R580; reset 0). -/
  memActive : Bool := false
  /-- The FTL map is loaded (R399; reset 0). -/
  mapReady : Bool := false
  /-- ADMIT_OPEN (R90; reset 0). -/
  admitOpen : Bool := false
  /-- The boot ROM is in recovery (R533; reset 0). -/
  recovery : Bool := false
  /-- The epoch values of the cold reset have not been taken yet (R254, R332, R464; reset 1). -/
  epochsDue : Bool := true
  /-- The next T_0 follows a cold reset (R569, R570; reset 0). -/
  coldDue : Bool := false
  /-- GLB_RESET_CAUSE.LAST of the next T_0 (Table 20-7; reset 0). -/
  nextCause : Nat := 0
  /-- The latest boot record marks a flush as complete and no start has consumed it (R424, persisted; reset 0: the record of
  manufacture is consumed by the first start). -/
  bootFlush : Bool := false
  /-- The latest flush did not complete (R431, persisted; reset 0). -/
  flushFailed : Bool := false
  /-- HUP_STATUS.LAST_START (Table 14-5, R583; reset 0b00). -/
  lastStart : Nat := 0
  /-- Regions and partitions still to be read back after flush recovery, in order (R427; reset empty). -/
  restoreRegions : List Nat := []
  restoreParts : List Nat := []
  /-- Device time of the latest T_0 (R562; reset 0). -/
  t0 : Nat := 0
  /-- The start in progress is a warm start (R584; reset 0). -/
  warmStart : Bool := false
  /-- GLB_RESET_CAUSE.LAST (R576; reset 0 = cold, first start of the module). -/
  causeLast : Nat := 0
  /-- GLB_RESET_CAUSE.FW (R576; reset 0). -/
  causeFw : Nat := 0
  /-- CLK_STATUS.ROOT_LOCK (R567; reset 0). -/
  rootLock : Bool := false
  /-- CLK_STATUS.ROOT_SRC, 1 for ROSC (R567; reset 1). -/
  rootRosc : Bool := true
  /-- CLK_STATUS.REFCLK_OK (R567; reset 0; T_0 needs REFCLK present, so 1 at State.reset, DEDUCED: log entry 9). -/
  refclkOk : Bool := true
  /-- CLK_STATUS.SSC_SEEN (R567; reset 0). -/
  sscSeen : Bool := false
  /-- CLK_STATUS.PORT_LOCK, 8 bits (R567; reset 0). -/
  portLock : Nat := 0
  /-- Timestamp of CXL event records set by Set Timestamp, with the device time of the setting (R81; reset 0, 0). -/
  timestamp : Nat × Nat := (0, 0)
  deriving DecidableEq, Repr

/-- One CC3 dump slot (R605, Table 21-12). -/
structure Dump where
  /-- The model's own number of the dump, on which its opaque bytes rest. -/
  id : Nat
  path : Nat
  complete : Bool
  tFatal : Nat
  pclk : Nat
  boot : Nat
  fw : Nat
  image : Nat
  cause : FaultRec
  status : Nat
  /-- Section 1, the fault log in SEQ order. -/
  log : List FaultRec
  deriving DecidableEq, Repr

/-- A firmware image slot (R607). -/
structure FwSlot where
  valid : Bool
  version : Nat
  svn : Nat
  /-- CCS version of the image. -/
  ccs : Nat := 0x0302
  /-- Length in bytes. -/
  len : Nat := 0
  /-- The model's own number of the image's content, on which its digest and signature rest. -/
  id : Nat := 0
  deriving DecidableEq, Repr

/-- A counted location: unit, index and place within it (Table 21-2). -/
structure Loc where
  unit : Nat
  index : Nat
  place : Nat
  deriving DecidableEq, Repr

/-- Faults, states and firmware (chapter 21). -/
structure Flt where
  /-- SEQ of the next fault record, 32 bits (R615, R635, persisted by quanta of 1,024; 0 at shipment, DESIGN CHOICE: log entry 7). -/
  nextSeq : Nat := 0
  /-- The quantum boundary already persisted (R615; reset 0). -/
  seqPersist : Nat := 0
  /-- The fault log, oldest first, at most 65,536 records (R598; reset empty). -/
  log : List FaultRec := []
  /-- CC3's TCM copy, oldest first, at most 4,096 (R598; reset empty). -/
  tcm : List FaultRec := []
  /-- Persisted permanent and fatal records, oldest first, at most 4,096 (R598). -/
  persisted : List FaultRec := []
  /-- Ochre cause bits of FLT_STATUS (Table 21-5; persisted; reset 0). -/
  causes : BitVec 16 := 0
  /-- The device is in Sable (R594; reset 0). -/
  sable : Bool := false
  /-- TERMINAL (R601; persisted; reset 0). -/
  terminal : Bool := false
  /-- Dump slots 0 and 1 (R605; persisted; reset empty). -/
  dump0 : Option Dump := none
  dump1 : Option Dump := none
  /-- Slot of the latest dump (R605; reset 1, so that the first dump takes slot 0, DESIGN CHOICE: log entry 7). -/
  latestDump : Nat := 1
  /-- Unexpired failures by location with their park-clock seconds (R585; persisted; reset empty). -/
  failures : List (Loc × List Nat) := []
  /-- Retired pseudo-channels (R591; persisted; reset empty). -/
  retiredPcs : List Nat := []
  /-- Pseudo-channels being retired whose copy has not ended (R591; reset empty). -/
  retiringPcs : List Nat := []
  /-- A pseudo-channel with a hard signature to retire at the next start (R603; persisted; reset none). -/
  hardPc : Option Nat := none
  /-- Uncorrectable rows seen per pseudo-channel within a second: pc, row, device time (Table 21-2; reset empty). -/
  uncRows : List (Nat × Nat × Nat) := []
  /-- Retired tiles (R593; persisted; reset empty). -/
  retiredTiles : List Nat := []
  /-- Damage table: frame and mask of its 256 units (R588; reset empty). -/
  damage : List (FrameKey × BitVec 256) := []
  /-- Park-clock seconds of the fatal events (R601; persisted; reset empty). -/
  fatalTimes : List Nat := []
  /-- SRAM structures that run on one copy (Table 21-2; persisted; reset empty). -/
  singleCopy : List (Nat × Nat) := []
  /-- Images A and B (R607; persisted). -/
  imageA : FwSlot := { valid := true, version := 0x01000000, svn := 0 }
  imageB : FwSlot := { valid := false, version := 0, svn := 0 }
  /-- The active image is B (R607; reset 0). -/
  activeB : Bool := false
  /-- Minimum SVN (R607; reset 0, DESIGN CHOICE: log entry 7). -/
  minSvn : Nat := 0
  /-- A WRITE_FIRMWARE or PLDM write runs, with its operation when it has one (R608; reset none). -/
  writing : Option (Option Nat) := none
  /-- An activation runs (R609; reset none): its operation when it has one. -/
  activating : Option (Option Nat) := none
  /-- Park-clock second since which the active image has run (R609; reset 0). -/
  activeSince : Nat := 0
  /-- A firmware restart is running (R573; reset 0). -/
  restarting : Bool := false
  /-- Device time at which that restart began, or at which it reloaded the cores (R573, R609; reset 0, the model's own). -/
  restartAt : Nat := 0
  /-- Device time at which a warm reset commanded by RESET_WARM is due (R577; reset none). -/
  warmDue : Option Nat := none
  /-- The new image waits for its FW_READY; the park-clock second is `activeSince` (R609; reset 0). -/
  newImage : Bool := false
  deriving DecidableEq, Repr

/-- The whole device. -/
structure State where
  /-- Commands that wait, first in, first out (the block's queue; reset empty). -/
  pending : List Instr := []
  /-- The 64 seats. -/
  seats : Tab Seat := { dflt := {} }
  /-- The eight ports. -/
  ports : Tab Port := { dflt := {} }
  /-- The LDs, keyed 16 × port + LD-ID. -/
  lds : Tab Ld := { dflt := {} }
  /-- The seat CC0 served last (R89; reset 63, so that seat 0 comes first, DESIGN CHOICE: log entry 8). -/
  lastServed : Nat := 63
  /-- Long-running operations, oldest first (R86, R88; reset empty). -/
  ops : List Op := []
  /-- Operations accepted so far. -/
  opCtr : Nat := 0
  /-- Stores into submission rings accepted so far (R107). -/
  accepts : Nat := 0
  /-- BUSY claims, oldest first (R92; reset empty). -/
  claims : List Claim := []
  /-- The sixteen partitions (R109). -/
  parts : Tab Part := { dflt := {} }
  /-- The Request Table (R135). -/
  rt : Tab Rt := { dflt := {}, cells := [(0, { gen := 1 })] }
  /-- Entries below this index have been used (R137; reset 0). -/
  rtNext : Nat := 0
  /-- Freed entries, longest free first (R137; reset empty). -/
  rtFree : List Nat := []
  /-- The 4,096 tenant records (R148). -/
  tenants : Tab Tenant := { dflt := {}, cells := [(0, { exists_ := true, unmetered := true })] }
  /-- Charges of the capacity accounts (R145). -/
  acct : Accounts := {}
  /-- Flash images (R132; reset empty). -/
  images : List Image := []
  /-- The one swap in progress (R129; reset none). -/
  swap : Option Swap := none
  /-- STEP_OPENs consumed and held, in posting order (R6, R171; reset empty). -/
  held : List HeldOpen := []
  /-- The service of items (R23–R26). -/
  svc : Service := {}
  /-- Device-wide registers. -/
  glb : Glb := {}
  /-- Clocks and start-up. -/
  dev : Dev := {}
  /-- Faults and firmware. -/
  flt : Flt := {}
  /-- Pool regions (R461; reset empty). -/
  regions : List Region := []
  /-- Dirty and written-back frames (R317; reset empty). -/
  frames : List FrameInfo := []
  /-- Prefix nodes of the node area (R202; reset empty). -/
  nodes : List Node := []
  /-- Pins: node index and seat (R218; reset empty). -/
  pins : List (Nat × Nat) := []
  /-- Tier settings and the dirty ceiling. -/
  tier : Tier := {}
  /-- PLDM events queued and not yet fetched (R532; reset empty). -/
  pldmQueue : List (List Nat) := []
  /-- Telemetry. -/
  tel : Tel := {}
  /-- SPDM operator certificate chains of slots 1–3 (R59, persisted; empty at shipment, DESIGN CHOICE: log entry 12). -/
  certs : Tab (List Byte) := { dflt := [] }
  /-- Key slots that hold keys (R471, R472; reset empty). -/
  keySlots : List KeySlot := []
  /-- Ticket records (R164; at most 33,554,432; reset empty). -/
  tickets : List Ticket := []
  /-- Parks held in flash (R328; reset empty). -/
  parks : List Park := []
  /-- Pulls in progress, at most two (R339; reset empty). -/
  pulls : List Pull := []
  /-- The draw queue, oldest first (R292; reset empty). -/
  draws : List Draw := []
  /-- Flash media management and HBM maintenance. -/
  flash : Flash := {}
  /-- Pool operations and stash transfers in progress (R478, R500; reset empty). -/
  xfers : List Xfer := []
  /-- The pool set (R484–R492). -/
  pset : PoolSet := {}
  /-- The directory and fences. -/
  coh : Coh := {}
  /-- The hold-up pack. -/
  hup : Hup := {}
  /-- Power delivery. -/
  pwr : Pwr := {}
  /-- The management endpoint. -/
  mgmt : Mgmt := {}
  /-- What the device has sent, newest first (the model's own field). -/
  out : List OutMsg := []
  /-- Free values drawn so far (the model's own field). -/
  freeCtr : Nat := 0
  deriving DecidableEq, Repr

/-- The seats at reset: seat 8p + n on port p, LD-ID n (R42). -/
def State.shipmentSeats : Tab Seat :=
  { dflt := {}, cells := (List.range 64).map fun n => (n, { map := some (n / 8, n % 8) }) }

/-- The ports at reset: P4–P7 in SRIS mode (Table 2-1). -/
def State.shipmentPorts : Tab Port :=
  { dflt := {}, cells := (List.range 8).map fun p => (p, { clkMode := 4 ≤ p, clkModeNext := 4 ≤ p }) }

/-- The machine right after reset: a newly shipped module at its first cold reset, at T_0, before any milestone of
Table 20-9. -/
def State.reset : State := { seats := State.shipmentSeats, ports := State.shipmentPorts }

end Sys2Proof.Machine
end

