-- ==== Sys2Proof/Machine/Geometry.lean ====
section
/-! DEFINITION. Geometry of a partition (§4.4) and the reservation arithmetic of an admission (§5.4). -/

namespace Sys2Proof

open Machine

/-- The next offset aligned to a width. -/
def Machine.alignUp (off w : Nat) : Nat := if w = 0 then off else (off + w - 1) / w * w

/-- 216 TB of user flash (Table 0-1, R47). -/
def userBytes : Nat := 216 * 10 ^ 12

/-- T, tokens per reach (Table 4-3). -/
def LoadBody.tokens (b : LoadBody) : Nat := 2 ^ b.tprLog2

/-- E, elements of a token row (R114). -/
def LoadBody.elems (b : LoadBody) : Nat := b.kvHeads * b.headDim

/-- Data and scale bytes of a token row (Table 4-4). -/
def LoadBody.rowData (b : LoadBody) : Nat :=
  let e := b.elems
  match b.format with
  | 0 => 4 * e | 1 => 2 * e | 2 => 2 * e | 3 => e | 4 => e
  | 5 => e + e / 32 | 6 => 3 * e / 4 + e / 32 | 7 => 3 * e / 4 + e / 32 | 8 => e / 2 + e / 32 | 9 => e + e / 32
  | _ => e / 2 + e / 32

/-- W, the row size (R118). -/
def LoadBody.row (b : LoadBody) : Nat := if b.mode = 1 then 0 else alignUp b.rowData 64

/-- The slice size 2 × T × W (R119). -/
def LoadBody.slice (b : LoadBody) : Nat := 2 * b.tokens * b.row

/-- The next power of two at or above `n`, from 2^k upward. -/
def pow2Up (n : Nat) : Nat → Nat → Nat
  | 0, k => 2 ^ k
  | fuel + 1, k => if n ≤ 2 ^ k then 2 ^ k else pow2Up n fuel (k + 1)

/-- P, the stride (R119); 32 KiB for a Stash partition (R121). -/
def LoadBody.stride (b : LoadBody) : Nat :=
  if b.mode = 1 then 32768
  else if b.slice ≤ 32768 then pow2Up b.slice 15 0 else alignUp b.slice 32768

/-- The KV space size LAYERS × S × P (R121). -/
def kvSpace (b : LoadBody) : Nat := b.layers * b.slots * b.stride

/-- KV-space address of the slice of a slot in a layer (R120). -/
def sliceAddr (b : LoadBody) (layer slot : Nat) : Nat := layer * b.slots * b.stride + slot * b.stride

/-- G, slots of a group; 1 when P ≥ 32 KiB (R142). -/
def LoadBody.group (b : LoadBody) : Nat := if 32768 ≤ b.stride then 1 else 32768 / b.stride

/-- Frames of own KV for `n` own slots (R142). -/
def LoadBody.kvFrames (b : LoadBody) (n : Nat) : Nat :=
  if 32768 ≤ b.stride then n * b.layers * (b.stride / 32768) else ceilDiv n b.group * b.layers

/-- OWN for `n` own slots, group padding included (R142). -/
def LoadBody.ownSlots (b : LoadBody) (n : Nat) : Nat := b.group * ceilDiv n b.group

/-- FP32 bits of a finite positive number (Table 4-3). -/
def fp32FinitePos (x : Nat) : Bool := x < 0x7F800000 && 0 < x

/-! ### Frames and map units -/

/-- Frames of one slot, or of one group of slots when P < 32 KiB (R142). -/
def LoadBody.slotFrames (b : LoadBody) : Nat := if 32768 ≤ b.stride then b.layers * (b.stride / 32768) else b.layers

/-- The first slot of the group whose slices a frame of KV space carries (R120). -/
def slotOfFrame (b : LoadBody) (n : Nat) : Nat :=
  if b.slots * b.stride = 0 then 0 else n * 32768 % (b.slots * b.stride) / b.stride

/-- A frame's place among the frames of its slot or group: by layer, then by place in the slice. -/
def frameIndex (b : LoadBody) (n : Nat) : Nat :=
  if b.slots * b.stride = 0 then 0
  else
    let l := n * 32768 / (b.slots * b.stride)
    if 32768 ≤ b.stride then l * (b.stride / 32768) + n * 32768 % b.stride / 32768 else l

/-- The frame of KV space at place `i` of a slot or group. -/
def frameAt (b : LoadBody) (slot i : Nat) : Nat :=
  if 32768 ≤ b.stride then
    let q := b.stride / 32768
    sliceAddr b (i / q) slot / 32768 + i % q
  else sliceAddr b i slot / 32768

/-- LOAD_PARTITION's body check in byte order, R112 included (R111). -/
def LoadBody.valid (b : LoadBody) : Bool :=
  let serve := b.mode = 0
  b.part ≤ 15 && b.mode ≤ 1 && (if serve then b.format ≤ 0xA else b.format ≤ 4) && 4 ≤ b.tprLog2 && b.tprLog2 ≤ 8 &&
  1 ≤ b.layers && b.layers ≤ 256 &&
  (if serve then 1 ≤ b.kvHeads && b.kvHeads ≤ 64 else b.kvHeads = 0) &&
  (if serve then 1 ≤ b.qHeads && b.qHeads ≤ 256 && b.qHeads % b.kvHeads = 0 && b.qHeads ≤ 64 * b.kvHeads else b.qHeads = 0) &&
  (if serve then 32 ≤ b.headDim && b.headDim ≤ 512 && b.headDim % (if b.format = 0xA then 64 else 32) = 0 else b.headDim = 0) &&
  (if serve then 2 ≤ b.vocab && b.vocab ≤ 524288 else b.vocab = 0) &&
  64 ≤ b.slots && b.slots ≤ 16777216 && b.slots % 64 = 0 &&
  (b.scoreScale = 0 || fp32FinitePos b.scoreScale) &&
  (!serve || b.kvHeads * b.headDim ≤ 16384) && kvSpace b ≤ 2 ^ 48

/-- What an admission reserves (R141–R143). -/
structure Reservation where
  reaches : Nat
  shared : Nat
  newSlots : Nat
  own : Nat
  kvFrames : Nat
  frames : Nat
  units : Nat
  deriving DecidableEq, Repr

/-- The reservation of a request of `total` tokens with a prefix of `nx` (R141–R143). -/
def reserve (b : LoadBody) (total nx : Nat) (eddy : Bool) : Reservation :=
  let r := ceilDiv total b.tokens
  let rs := nx / b.tokens
  let rn := r - rs
  let fkv := b.kvFrames rn
  { reaches := r, shared := rs, newSlots := rn, own := b.ownSlots rn, kvFrames := fkv
    frames := fkv + ceilDiv (4 * r) 32768 + (if eddy then 8 else 0), units := ceilDiv fkv 2 }

end Sys2Proof
end

