-- ==== Sys2Proof/Machine/Ops.lean ====
section
/-! DEFINITION. The operations the meanings share: bytes of regions and KV space, dirty frames and the ceiling's held
writes, fault records and event logs, cause bits, completions, notices, messages to the outside, and free values. -/

namespace Sys2Proof.Machine

/-! ### Bytes -/

/-- What a byte reads as; an unlisted byte reads 0 (R464; log entry 1). -/
def memByte (m : List Host.Cell) (a : Nat) : Byte := (lookupKey a m).getD 0

/-- Store one byte, keeping the canonical form: addresses rising, no listed zero. -/
def memPut : List Host.Cell → Nat → Byte → List Host.Cell
  | [], a, v => if v = 0 then [] else [(a, v)]
  | (j, w) :: rest, a, v =>
    if a < j then (if v = 0 then (j, w) :: rest else (a, v) :: (j, w) :: rest)
    else if a = j then (if v = 0 then rest else (a, v) :: rest)
    else (j, w) :: memPut rest a v

/-- The `n` bytes from `a`. -/
def memBytes (m : List Host.Cell) (a n : Nat) : List Byte := (List.range n).map fun i => memByte m (a + i)

/-- Store bytes from `a` on. -/
def memPuts (m : List Host.Cell) (a : Nat) : List Byte → List Host.Cell
  | [] => m
  | b :: rest => memPuts (memPut m a b) (a + 1) rest

/-- All cells lie at `lo` or above, rise strictly and hold no zero. -/
def memWfFrom (lo : Nat) : List Host.Cell → Bool
  | [] => true
  | (j, w) :: rest => lo ≤ j && w != 0 && memWfFrom (j + 1) rest

/-- The canonical form of a byte store. -/
def memWf (m : List Host.Cell) : Bool := memWfFrom 0 m

/-! ### The outside and free values -/

/-- Send a message to the outside. -/
def emit (o : OutMsg) (s : State) : State := { s with out := o :: s.out }

/-- Draw a fresh index for a free value. -/
def drawFree (s : State) : Nat × State := (s.freeCtr, { s with freeCtr := s.freeCtr + 1 })

/-- A time bound in µs the spec leaves to the device, from 1 to 65,535 (R91, R85; log entry 3). -/
def freeRetry (s : State) : Nat × State :=
  ((Config.retryBound s.freeCtr).toNat % 65535 + 1, { s with freeCtr := s.freeCtr + 1 })

/-! ### Seats, LDs and ports -/

/-- The key of an LD. -/
def ldKey (port ld : Nat) : Nat := 16 * port + ld

/-- The seat mapped to a port and LD-ID, if any (R42). -/
def seatOfLd (s : State) (port ld : Nat) : Option Nat :=
  (List.range 64).find? fun n => (s.seats.get n).map = some (port, ld)

/-- Change a seat. -/
def updSeat (n : Nat) (f : Seat → Seat) (s : State) : State := { s with seats := s.seats.upd n f }

/-- Change a port. -/
def updPort (p : Nat) (f : Port → Port) (s : State) : State := { s with ports := s.ports.upd p f }

/-- Change an LD. -/
def updLd (port ld : Nat) (f : Ld → Ld) (s : State) : State := { s with lds := s.lds.upd (ldKey port ld) f }

/-- Change a partition. -/
def updPart (p : Nat) (f : Part → Part) (s : State) : State := { s with parts := s.parts.upd p f }

/-- Change one of a seat's ring sets. -/
def updRing (seat ring : Nat) (f : RingSet → RingSet) (s : State) : State :=
  updSeat seat (fun t => { t with rings := t.rings.upd ring f }) s

/-- A seat's ring set. -/
def ringOf (s : State) (seat ring : Nat) : RingSet := (s.seats.get seat).rings.get ring

/-- A port whose two groups are retired (R69). -/
def Port.retired (p : Port) : Bool := !p.groupL && !p.groupH

/-- The LD allocation of a seat, 0 when the seat is unmapped (R462). -/
def seatAlloc (s : State) (seat : Nat) : Nat :=
  match (s.seats.get seat).map with
  | some (p, l) => (s.lds.get (ldKey p l)).alloc
  | none => 0

/-- The HDM-DB size of a seat (R462). -/
def seatDb (s : State) (seat : Nat) : Nat := min (s.seats.get seat).limits.dbSize (seatAlloc s seat)

/-- End of the seat's HDM-H range (R462). -/
def seatHdmH (s : State) (seat : Nat) : Nat := seatAlloc s seat - seatDb s seat

/-! ### DevLoad (R51–R53) -/

/-- Slot capacity C of a port in units of 7.5 GB/s: 0.9375 × w × s / 8 GB/s (Table 2-2). -/
def portCap (p : Port) : Nat :=
  let w := p.width / 8
  match p.speed with
  | 1 => w | 2 => 2 * w | 3 => 4 * w | 4 => 8 * w | _ => 0

/-- Bytes a port carries in one direction in its collection interval: C × interval (R52). -/
def portIntervalBytes (p : Port) : Nat := portCap p * 15 * p.cci / 2

/-- Samples averaged: the interval rounded up to whole samples of 106.67 ns, at least one (R51). -/
def sampleCount (p : Port) : Nat := max 1 (ceilDiv (p.bsi * 3) 320)

/-- The queue level Q from the average occupancy of the latest samples (R51). Before a whole interval has been sampled the samples there
are count, and with none the average is 0 (log entry 113). -/
def queueLevel (p : Port) : Nat :=
  let l := p.samples.take (sampleCount p)
  let n := max 1 l.length
  let a := l.foldl (· + ·) 0 * 100
  -- a / (n × 1,024) is A in per cent
  if a < 25 * (n * 1024) then 0
  else if a < p.moderate * (n * 1024) then 1
  else if a < p.severe * (n * 1024) then 2 else 3

/-- LDs of a port with a non-zero allocation. -/
def ldCount (s : State) (port : Nat) : Nat :=
  ((List.range 16).filter fun l => (s.lds.get (ldKey port l)).alloc != 0).length

/-- DevLoad of an LD: 0 Light, 1 Optimal, 2 Moderate, 3 Severe (R52). -/
def devLoad (s : State) (port ld : Nat) : Nat :=
  let p := s.ports.get port
  let d := s.lds.get (ldKey port ld)
  let q := queueLevel p
  let cap := portIntervalBytes p
  let fl := if d.limitBw = 0 then 256 else d.limitBw
  let n := ldCount s port
  let overA := match d.allocBw with
    | some v => (if v = 0 then 256 else v) * cap < d.usage * 256
    | none => if n ≤ 1 then cap < d.usage else cap < d.usage * n
  if fl * cap < d.usage * 256 then 3
  else if overA && 1 ≤ q then max q 2 else q

/-- DevLoad of a seat's LD; 0 when unmapped. -/
def seatDevLoad (s : State) (seat : Nat) : Nat :=
  match (s.seats.get seat).map with
  | some (p, l) => devLoad s p l
  | none => 0

/-- Count CXL.mem bytes served to a seat's LD (R52). -/
def countTraffic (seat rd wr : Nat) (s : State) : State :=
  match (s.seats.get seat).map with
  | some (p, l) => updLd p l (fun d => { d with rdBytes := d.rdBytes + rd, wrBytes := d.wrBytes + wr }) s
  | none => s

/-! ### Fault records (R597–R599) -/

/-- What a detecting unit says of an event. -/
structure FaultEv where
  cls : Nat := 0
  unit : Nat
  index : Nat := 0
  event : Nat
  count : Nat := 0
  action : Nat := 0
  seat : Nat := 255
  port : Nat := 255
  part : Nat := 255
  flags : Nat := 0
  location : Nat := 0
  handle : Nat := 0
  tag : Nat := 0
  detail : Nat := 0
  deriving DecidableEq, Repr

/-- The newest `n` of a list whose newest element stands last. -/
def keepNewest {α : Type} (n : Nat) (l : List α) : List α := l.drop (l.length - n)

/-- Enter a record into one event log (R599). -/
def EventLog.enter (l : EventLog) (r : FaultRec) : EventLog :=
  if l.records.length < 256 then { l with records := l.records ++ [r] } else { l with overflow := true }

/-- Enter a record into the logs of an LD: by class, and the Warning log with OCHRE (R599). -/
def Ld.logRec (l : Ld) (r : FaultRec) : Ld :=
  let l := if r.cls = 0 then { l with infoLog := l.infoLog.enter r }
    else if r.cls = 1 then { l with failLog := l.failLog.enter r }
    else { l with fatalLog := l.fatalLog.enter r }
  if r.flags % 2 = 1 then { l with warnLog := l.warnLog.enter r } else l

/-- Whether a seat sees a record (R599). -/
def seatSees (s : State) (n : Nat) (r : FaultRec) : Bool :=
  n = 0 || r.seat = n ||
    (r.seat = 255 && (r.port = 255 || ((s.seats.get n).map.map (·.1) = some r.port)))

/-- Enter a record into the event logs of every LD whose seat sees it (R599); with OCHRE, into the Warning log of every
LD (R595). -/
def enterLogs (r : FaultRec) (s : State) : State :=
  (List.range 64).foldl (fun s n =>
    match (s.seats.get n).map with
    | none => s
    | some (p, l) =>
      if seatSees s n r then updLd p l (·.logRec r) s
      else if r.flags % 2 = 1 then updLd p l (fun d => { d with warnLog := d.warnLog.enter r }) s
      else s) s

/-- Write a fault record (R597, R598, R615). -/
def logFault (f : FaultEv) (s : State) : State :=
  let r : FaultRec :=
    { tEvent := s.dev.devtime, pclk := s.dev.parkClock, boot := s.dev.boot % 65536, seq := s.flt.nextSeq
      cls := f.cls, unit := f.unit, index := f.index, event := f.event, count := min f.count 255
      action := f.action, seat := f.seat, port := f.port, part := f.part
      flags := f.flags
      location := f.location, handle := f.handle, tag := f.tag, detail := f.detail }
  let s := { s with flt := { s.flt with
      nextSeq := (s.flt.nextSeq + 1) % 2 ^ 32,
      seqPersist := (if s.flt.nextSeq + 1 < s.flt.seqPersist then s.flt.seqPersist else (s.flt.nextSeq / 1024 + 2) * 1024),
      log := keepNewest 65536 (s.flt.log ++ [r]),
      tcm := keepNewest 4096 (s.flt.tcm ++ [r]),
      persisted := if f.cls = 0 then s.flt.persisted else keepNewest 4096 (s.flt.persisted ++ [r]) } }
  enterLogs r s

/-! ### HDM regions -/

/-- The seat's region that holds the whole extent (R462); one being freed is seen no more (R467). -/
def regionAt (s : State) (seat addr len : Nat) : Option Region :=
  s.regions.find? fun r => r.seat = seat && r.st != .freeing && within addr len r.base r.size

/-- Change a region. -/
def updRegion (id : Nat) (f : Region → Region) (s : State) : State :=
  { s with regions := updFirst (fun r => r.id = id) f s.regions }

/-- The region of an identifier. -/
def regionOf (s : State) (id : Nat) : Option Region := s.regions.find? fun r => r.id = id

/-- The frame a byte of a target lies in. -/
def Target.frame (t : Target) (off : Nat) : FrameKey :=
  match t with
  | .region id => .region id (off / 32768)
  | .kv p => .kv p (off / 32768)
  | .counts i => .sampler i (off / 32768)
  | .table p r => .runTable p r (off / 32768)

/-- The number of the HBM frame that holds a frame, of 9,437,184 (R262, R319; log entry 44). -/
def frameNo (k : FrameKey) : Nat :=
  (match k with
    | .kv p n => Config.frameNumber 0 p n
    | .region id n => Config.frameNumber 1 id n
    | .reachList i n => Config.frameNumber 2 i n
    | .sampler i n => Config.frameNumber 3 i n
    | .digest p n => Config.frameNumber 4 p n
    | .runTable p r n => Config.frameNumber (5 + p) r n).toNat % 9437184

/-- Whether a write into this frame raises D: neither DIRTY nor WB (R317, R324). -/
def isClean (s : State) (k : FrameKey) : Bool := !(s.frames.any fun f => f.key = k)

/-- D, the dirty count (R317). -/
def dirtyCount (s : State) : Nat := s.frames.length

/-! ### Peer traffic (R63–R66) -/

/-- A port that carries peer traffic: its link is up in CXL mode (R36, R64). -/
def carriesPeer (s : State) (p : Nat) : Bool := (s.ports.get p).linkUp && (s.ports.get p).cxlMode

/-- The lowest-numbered port of a mask whose link is up (R65, R105). -/
def firstUp (s : State) (mask : Nat) : Option Nat :=
  (List.range 8).find? fun p => mask / 2 ^ p % 2 = 1 && carriesPeer s p

/-- Ports of a mask whose link is up, in ascending order (R64). -/
def upPorts (s : State) (mask : Nat) : List Nat :=
  (List.range 8).filter fun p => mask / 2 ^ p % 2 = 1 && carriesPeer s p

/-- Cut an extent at 4 KiB address boundaries (R64, R66). -/
def units4k : Nat → Nat → Nat → List (Nat × Nat)
  | 0, _, _ => []
  | fuel + 1, addr, len =>
    if len = 0 then []
    else
      let n := min len (4096 - addr % 4096)
      (addr, n) :: units4k fuel (addr + n) (len - n)

/-- The requests of at most `size` bytes that make up an extent (R64, R66). -/
def pieces (size addr len : Nat) : List (Nat × Nat) :=
  (List.range (ceilDiv len (max 1 size))).map fun i => (addr + i * max 1 size, min (max 1 size) (len - i * max 1 size))

/-- The 4 KiB units of an extent, each with the port of the list that carries it, round-robin from the lowest (R64); none without a
port. -/
def stripe (ps : List Nat) (addr len : Nat) : List (Nat × Nat × Nat) :=
  if ps.isEmpty then [] else
  let us := units4k (len / 4096 + 2) addr len
  (us.zip (List.range us.length)).map fun u => (ps.getD (u.2 % ps.length) 0, u.1.1, u.1.2)

/-- Issue the peer reads of an extent, each of at most 512 B, spread over the ports of the mask that are up (R66). -/
def peerReads (mask addr len : Nat) (s : State) : State :=
  (stripe (upPorts s mask) addr len).foldl (fun s u =>
    (pieces 512 u.2.1 u.2.2).foldl (fun s x => emit (.peerRead u.1 x.1 x.2) s) s) s

/-- The Max_Payload_Size programmed in a seat's LD (R64). -/
def seatPayload (s : State) (seat : Nat) : Nat :=
  match (s.seats.get seat).map with
  | some (p, l) => min 512 (s.lds.get (ldKey p l)).maxPayload
  | none => 512

/-- Send a data write to a window of a seat, striped over these ports, in posted writes of at most the seat's payload size; a port that has
gone down carries nothing (R64, R65). -/
def peerWritesOn (ports : List Nat) (seat addr : Nat) (data : List Byte) (s : State) : State :=
  let size := seatPayload s seat
  ((stripe ports addr data.length).filter fun u => carriesPeer s u.1).foldl (fun s u =>
    (pieces size u.2.1 u.2.2).foldl (fun s x => emit (.peerWrite u.1 x.1 ((data.drop (x.1 - addr)).take x.2) true) s) s) s

/-- Send a data write over the ports of a window's mask that are up (R64). -/
def peerWrites (seat mask addr : Nat) (data : List Byte) (s : State) : State := peerWritesOn (upPorts s mask) seat addr data s

/-- Ports that carry a data write of this length. -/
def portsUsed (s : State) (mask addr len : Nat) : List Nat :=
  (upPorts s mask).take (units4k (len / 4096 + 2) addr len).length

/-- Issue a zero-length read to a window's base on every port of a list (R65). -/
def flushReads (base : Nat) (ports : List Nat) (s : State) : State := ports.foldl (fun s q => emit (.flushRead q base) s) s

/-- Send a record on the lowest port up. The data it makes valid, if any, went over that port alone (R65). -/
def peerRecord (mask addr : Nat) (data : List Byte) (s : State) : State :=
  match firstUp s mask with
  | none => s
  | some p => emit (.peerWrite p addr data false) s

/-- A registered window of a seat. -/
def windowOf (s : State) (seat id : Nat) : Option Window := (s.seats.get seat).windows.find? fun w => w.id = id

/-! ### Pool-set streams (R485–R489) -/

/-- Another member of the pool set. -/
def memberOf (s : State) (i : Nat) : Option Member := s.pset.members.find? fun m => m.index = i

/-- Change a member. -/
def updMember (i : Nat) (f : Member → Member) (s : State) : State :=
  { s with pset := { s.pset with members := updFirst (fun m => m.index = i) f s.pset.members } }

/-- The partner, which holds this module's replicas (§16.6). -/
def partnerIx (s : State) : Nat := (s.pset.index + 1) % max 1 s.pset.n

/-- Entries of a stream sent and not consumed (R486). -/
def Member.inFlight (m : Member) : Nat := (m.sent + 2 ^ 32 - m.credit) % 2 ^ 32

/-- The 64 bytes of an entry header (Table 16-10). -/
def entryHeader (k : Nat) (e : Entry) : List Byte :=
  leBytes 4 k ++ leBytes 1 e.kind.code ++ leBytes 1 e.cls ++ leBytes 2 e.status.code ++ leBytes 4 e.data.length ++ leBytes 4 e.replyTo ++
  leBytes 8 e.target ++ leBytes 8 e.offset ++ leBytes 8 e.size ++ leBytes 24 0

/-- Write entry `k` of the stream into this module's slot of a member's aperture: its data, at most one 4 KiB unit and so on the lowest
port up, then its header on the same port (R64, R65, R486). -/
def writeEntry (m : Member) (k : Nat) (e : Entry) (s : State) : State :=
  match windowOf s 0 m.window with
  | none => s
  | some w =>
    let slot := w.base + s.pset.index * 0x200000
    let at_ := slot + 0x100000 + 4096 * (k % 256)
    peerRecord w.mask (slot + 64 * (k % 256)) (entryHeader k e) (peerWrites 0 w.mask at_ e.data s)

/-- What waited for an entry goes on: a host's mirrored write completes (R487). -/
def settleUses (l : List EntryUse) (s : State) : State :=
  l.foldl (fun s u => match u with
    | .hostWrite seat hpa => emit (.memCmp seat hpa 0 (seatDevLoad s seat)) s
    | _ => s) s

/-- Send entries that wait while the credit allows (R486). -/
def pumpStream (i : Nat) : List Entry → State → State
  | [], s => updMember i (fun m => { m with queued := [] }) s
  | e :: rest, s =>
    match memberOf s i with
    | none => s
    | some m =>
      if m.inFlight < 256 then
        let s := writeEntry m m.sent e s
        pumpStream i rest (updMember i (fun m => { m with
          sent := (m.sent + 1) % 2 ^ 32, waiting := m.waiting ++ [(m.sent, s.dev.devtime, e)] }) s)
      else updMember i (fun m => { m with queued := e :: rest }) s

/-- Two consecutive mirror writes that wait share an entry of up to 4 KiB (R487). -/
def mergeEntry (l : List Entry) (e : Entry) : List Entry :=
  match l.getLast? with
  | some f =>
    if f.kind = .mirrorWrite && e.kind = .mirrorWrite && f.target = e.target && f.cls = e.cls && f.offset + f.data.length = e.offset &&
        f.data.length + e.data.length ≤ 4096 then
      l.dropLast ++ [{ f with data := f.data ++ e.data, uses := f.uses ++ e.uses }]
    else l ++ [e]
  | none => [e]

/-- Send an entry to a member; to an ABSENT one nothing is sent, and what waits goes on without it (R486, R489). -/
def sendEntry (i : Nat) (e : Entry) (s : State) : State :=
  match memberOf s i with
  | none => settleUses e.uses s
  | some m =>
    if m.absent then settleUses e.uses s
    else pumpStream i (mergeEntry m.queued e) s

/-- A region whose writes are mirrored now (R487, R489). -/
def mirrors (s : State) (r : Region) : Bool :=
  r.mirrored && !r.degraded && s.pset.phase = .formed && (match memberOf s (partnerIx s) with
    | some m => !m.absent
    | none => false)

/-- Mirror a write in entries of at most 4 KiB; the last one carries the host's wait (R487). -/
def mirrorOut (r : Region) : Nat → Nat → List Byte → List EntryUse → State → State
  | 0, _, _, _, s => s
  | fuel + 1, off, data, uses, s =>
    if data.length ≤ 4096 then
      sendEntry (partnerIx s) { kind := .mirrorWrite, cls := (s.seats.get r.seat).limits.cls, target := r.id, offset := off, data := data
                                uses := uses } s
    else mirrorOut r fuel (off + 4096) (data.drop 4096) uses (sendEntry (partnerIx s)
      { kind := .mirrorWrite, cls := (s.seats.get r.seat).limits.cls, target := r.id, offset := off, data := data.take 4096 } s)

/-! ### Flash homes (R319, R366) -/

/-- Frames of a stash object: 32 KiB each (R501). -/
def StashObj.frames (o : StashObj) : Nat := ceilDiv (o.size * 4096) 32768

/-- The layer pool of a stash key (Table 17-3). -/
def keyLayer (k : Nat) : Nat := k / 2 ^ 16 % 256

/-- Frame `i` of a stash object within its partition's KV space (R493). -/
def StashObj.frame (o : StashObj) (b : LoadBody) (i : Nat) : Nat := keyLayer o.key * b.slots + o.first + i

/-- The run and object that hold a frame of a Stash partition. -/
def objOfFrame (p : Part) (n : Nat) : Option (Nat × StashObj) :=
  p.runs.findSome? fun r => (r.objs.find? fun o =>
    keyLayer o.key = n / p.body.slots && o.first ≤ n % p.body.slots && n % p.body.slots < o.first + o.frames).map fun o =>
      (r.run, o)

/-- Frames of a run's table (R497). -/
def Run.tableFrames (r : Run) : Nat := ceilDiv (r.maxObjects * 72) 32768

/-- The map unit a frame's home lies in, and which half of it; none for a frame that is written to flash only by a park
(R143), or has no home (§11, The model). Frames pair up within their slot or object (log entry 25). -/
def unitOfFrame (s : State) (k : FrameKey) : Option (UnitKey × Nat) :=
  match k with
  | .kv p n =>
    let b := (s.parts.get p).body
    if b.mode = 1 then
      (objOfFrame (s.parts.get p) n).map fun x =>
        (.stash p x.1 x.2.key ((n % b.slots - x.2.first) / 2), (n % b.slots - x.2.first) % 2)
    else
      let i := frameIndex b n
      some (.kv p (slotOfFrame b n) (i / 2), i % 2)
  | .region id n => some (.region id (n / 2), n % 2)
  | .runTable p r n => some (.runTab p r (n / 2), n % 2)
  | _ => none

/-- A run of a partition. -/
def runOf (s : State) (part run : Nat) : Option Run := (s.parts.get part).runs.find? fun r => r.run = run

/-- An object of a run. -/
def objOf (s : State) (part run key : Nat) : Option StashObj :=
  (runOf s part run).bind fun r => r.objs.find? fun o => o.key = key

/-- The frames of a map unit. -/
def framesOfUnit (s : State) (u : UnitKey) : List FrameKey :=
  match u with
  | .kv p slot j =>
    let b := (s.parts.get p).body
    ([2 * j, 2 * j + 1].filter (· < b.slotFrames)).map fun i => .kv p (frameAt b slot i)
  | .region id j =>
    match regionOf s id with
    | some r => ([2 * j, 2 * j + 1].filter fun n => n * 32768 < r.size).map fun n => .region id n
    | none => []
  | .stash p run key j =>
    match objOf s p run key with
    | some o => ([2 * j, 2 * j + 1].filter (· < o.frames)).map fun i => .kv p (o.frame (s.parts.get p).body i)
    | none => []
  | .runTab p run j =>
    match runOf s p run with
    | some r => ([2 * j, 2 * j + 1].filter (· < r.tableFrames)).map fun n => .runTable p run n
    | none => []
  | _ => []

/-- The unit number a home has been given. -/
def unitNo (s : State) (u : UnitKey) : Option Nat := (s.flash.homes.find? fun x => x.1 = u).map (·.2)

/-- What a unit number is the home of. -/
def keyOfUnit (s : State) (n : Nat) : Option UnitKey := (s.flash.homes.find? fun x => x.2 = n).map (·.1)

/-- The map entry of a unit; none while UNMAPPED. -/
def mapOf (s : State) (u : UnitKey) : Option MapEnt :=
  (unitNo s u).bind fun n => s.flash.map.find? fun m => m.unit = n

/-- Mapped homes of a predicate, each with its map entry. -/
def mappedHomes (s : State) (p : UnitKey → Bool) : List (UnitKey × MapEnt) :=
  (s.flash.homes.filter fun x => p x.1).filterMap fun x => (mapOf s x.1).map fun m => (x.1, m)

/-- The lane of a unit number (R366). -/
def laneOf (u : Nat) : Nat := u % 992

/-- The channel and die of a lane (R366). -/
def laneDie (s : State) (l : Nat) : Nat × Nat := ((s.flash.lanes.get l).moved).getD (l % 32, l / 32)

/-- A factory-bad block of a die: at most 66 carry marks (R367, R381; log entry 24). -/
def factoryBad (c d b : Nat) : Bool :=
  Config.factoryMark c d b && ((List.range b).filter (Config.factoryMark c d)).length < 66

/-- A block the lane may use: not factory-bad, not retired, and not one of the last eight of a lane that holds a copy of the anchor region
(R367, R390; log entry 24). -/
def goodBlock (s : State) (l b : Nat) : Bool :=
  (b < 3716 || (l != s.flash.anchor0.lane && l != s.flash.anchor1.lane)) && !factoryBad (laneDie s l).1 (laneDie s l).2 b &&
    ((s.flash.lanes.get l).blocks.get b).st != .bad

/-- The good blocks of a lane, in ascending order: its map blocks, and eight blocks' worth for the system area (R367). -/
def goodBlocks (s : State) (l : Nat) : List Nat := (List.range 3724).filter (goodBlock s l)

/-- How many good map blocks a lane has: the pool without the system area's share (R367). -/
def mapBlocks (s : State) (l : Nat) : Nat := (goodBlocks s l).length - 8

/-- A lane takes new homes: it is not DEAD (R390), and the homes in it do not exceed what its blocks hold at full size, 1,016 units each
(R383). -/
def takesHomes (s : State) (l : Nat) : Bool :=
  (s.flash.lanes.get l).cond != .dead && (s.flash.homes.filter fun x => laneOf x.2 = l).length ≤ 1016 * mapBlocks s l

/-- Unit numbers in use. -/
def unitsUsed (s : State) : List Nat := s.flash.homes.map (·.2) ++ s.flash.map.map (·.unit)

/-- The unit number the next new home is given: the first one not in use from a free value on, in a lane that takes new homes (R366,
R383, R390; log entry 23). -/
def freshUnit (s : State) : Nat :=
  let v := (Config.unitNumber s.freeCtr).toNat
  let ls := (List.range 992).filter (takesHomes s)
  let l := ls.getD (v % max 1 ls.length) 0
  let used := unitsUsed s
  (((List.range (used.length + 1)).map fun i => l + 992 * ((v / 1024 + i) % 3314602)).find? fun u => !used.contains u).getD l

/-- Give a home its unit number, where it has none. -/
def giveUnit (u : UnitKey) (s : State) : State :=
  if (unitNo s u).isSome then s
  else { s with flash := { s.flash with homes := s.flash.homes ++ [(u, freshUnit s)] }, freeCtr := s.freeCtr + 1 }

/-- The lane of a home: the one it has, or the one it would be given now. -/
def homeLane (s : State) (u : UnitKey) : Nat := laneOf ((unitNo s u).getD (freshUnit s))

/-- The lane of a frame's home; none for a frame without one. -/
def frameLane (s : State) (k : FrameKey) : Option Nat := (unitOfFrame s k).map fun u => homeLane s u.1

/-- D_ℓ (R413). -/
def laneDirty (s : State) (l : Nat) : Nat := (s.frames.filter fun f => frameLane s f.key = some l).length

/-- Set a frame DIRTY (Table 11-6). -/
def markDirty (k : FrameKey) (s : State) : State :=
  let s := match unitOfFrame s k with
    | some u => giveUnit u.1 s
    | none => s
  if s.frames.any (fun f => f.key = k) then
    let upd : FrameInfo → FrameInfo := fun f =>
      { f with firstDirty := if f.dirty then f.firstDirty else s.dev.devtime, dirty := true, lastWrite := s.dev.devtime }
    { s with frames := updFirst (fun f => f.key = k) upd s.frames }
  else { s with frames := s.frames ++ [{ key := k, firstDirty := s.dev.devtime, lastWrite := s.dev.devtime }] }

/-- The open pages of the map journal are programmed (R397, R420). -/
def programJournal (s : State) : State := { s with flash := { s.flash with jOpen := 0, mapSafe := s.flash.map } }

/-- Append map journal records (R397): a page of 1,024 is programmed when full, and the map it completes is safe. -/
def journal (n : Nat) (s : State) : State :=
  { s with flash := { s.flash with
      jOpen := (s.flash.jOpen + n) % 1024, jSince := s.flash.jSince + n, jSeq := (s.flash.jSeq + n) % 2 ^ 48
      mapSafe := if 1024 ≤ s.flash.jOpen + n then s.flash.map else s.flash.mapSafe } }

/-! ### Parity units (R488) -/

/-- Bytes of a list XORed pairwise. -/
def xorData (a b : List Byte) : List Byte := (a.zip b).map fun x => x.1 ^^^ x.2

/-- The index in the parity space of a PARITY home. -/
def parityIndex (s : State) (u : UnitKey) : Option Nat := (s.pset.units.find? fun x => x.1 = u).map (·.2)

/-- The member that holds the parity of index `k`. -/
def parityMember (s : State) (k : Nat) : Nat := k % max 1 s.pset.n

/-- A stripe joins the stale list, with a journal record (R489). -/
def addStale (k : Nat) (s : State) : State :=
  if s.pset.stale.contains k then s else journal 1 { s with pset := { s.pset with stale := s.pset.stale ++ [k] } }

/-- Contents of a PARITY unit as its parity counts it: the latest program of the unit, else its home, else zeros. -/
def parityView (s : State) (u : UnitKey) : List Byte :=
  match s.flash.inflight.reverse.find? fun q => q.key = u with
  | some q => memBytes q.data 0 65536
  | none => match mapOf s u with
    | some m => memBytes m.data 0 65536
    | none => List.replicate 65536 0

/-- Send old ⊕ new of a unit as 16 entries to the member that holds its parity; an ABSENT one leaves the stripe stale (R488,
R489). -/
def sendDelta (k : Nat) (old new : List Byte) (s : State) : State :=
  match memberOf s (parityMember s k) with
  | none => s
  | some m =>
    if m.absent then addStale k s
    else
      let d := xorData old new
      (List.range 16).foldl (fun s i => sendEntry m.index
        { kind := .parityDelta, cls := 1, target := k, offset := 4096 * i, data := (d.drop (4096 * i)).take 4096 } s) s

/-- The freed homes of PARITY units count as zeros from now on (R488). -/
def dropParity (p : UnitKey → Bool) (s : State) : State :=
  let l := s.pset.units.filter fun x => p x.1
  let s := l.foldl (fun s x => sendDelta x.2 (parityView s x.1) (List.replicate 65536 0) s) s
  { s with pset := { s.pset with
      units := s.pset.units.filter (fun x => !p x.1), stripes := s.pset.stripes.filter fun x => !p x.key } }

/-- The home of a slot an image names: the image's own while it stands alone, else that of the partition that carries it (R132). -/
def Image.homeKey (i : Image) (u : UnitKey) : UnitKey :=
  match u, i.owner with
  | .kv _ k j, none => .imageKv i.modelId k j
  | .kv _ k j, some o => .kv o k j
  | u, _ => u

/-- Free homes: their map entries become UNMAPPED, each with a journal record (R161, R226, R397). -/
def freeHomes (p : UnitKey → Bool) (s : State) : State :=
  let s := dropParity p s
  let gone := (s.flash.homes.filter fun x => p x.1).map (·.2)
  journal (s.flash.map.filter fun m => gone.contains m.unit).length
    { s with
      flash := { s.flash with
        homes := s.flash.homes.filter fun x => !p x.1
        map := s.flash.map.filter fun m => !gone.contains m.unit
        inflight := s.flash.inflight.filter fun q => !p q.key }
      images := s.images.map fun i => { i with named := i.named.filter fun u => !p (i.homeKey u) } }

/-- A store of a host: held, it still answers the host, and is judged again when it is released (R123, R314, R324). -/
def HeldTag.ofHost : HeldTag → Bool
  | .host .. | .ring .. | .header .. => true
  | _ => false

/-- Frames leave HBM: their dirty state, damage and the device's held writes into them go (R317, R588). A reach slot taken again holds
what it last held until it is written (R139). -/
def leaveHbm (p : FrameKey → Bool) (s : State) : State :=
  { s with
    frames := s.frames.filter fun f => !p f.key
    flt := { s.flt with damage := s.flt.damage.filter fun d => !p d.1 }
    tier := { s.tier with heldWrites := s.tier.heldWrites.filter fun w =>
      w.tag.ofHost || !w.pieces.any fun x => p (w.target.frame x.1) } }

/-- Freed frames: discarded without write-back, their damage forgotten and their homes freed (Table 11-6, R161). -/
def dropFrames (p : FrameKey → Bool) (s : State) : State :=
  leaveHbm p (freeHomes (fun u => (framesOfUnit s u).any p) s)

/-- Frames released with their homes kept (R126, R330, R338): clean, and no longer in HBM. -/
def forgetFrames (p : FrameKey → Bool) (s : State) : State := leaveHbm p s

/-! ### The dirty ceiling (R324, R413) -/

/-- H, the headroom kept for STEP work (R324). -/
def headroom (s : State) : Nat := min 65536 (s.tier.ceiling / 4)

/-- C_L, the lane ceiling (R413). -/
def laneCeiling (s : State) : Nat := 2 * (s.tier.ceiling / 1984)

/-- H_L, the lane headroom (R413). -/
def laneHeadroom (s : State) : Nat := 2 * (headroom s / 1984)

/-- Whether the ceiling, or its lane's, holds a write into this frame (R324, R326, R413). -/
def holdsWrite (s : State) (stepWork : Bool) (k : FrameKey) : Bool :=
  s.tier.flushMode && isClean s k &&
    ((if stepWork then s.tier.ceiling ≤ dirtyCount s else s.tier.ceiling - headroom s ≤ dirtyCount s) ||
     (match frameLane s k with
      | none => false
      | some l => if stepWork then laneCeiling s ≤ laneDirty s l else laneCeiling s - laneHeadroom s ≤ laneDirty s l))

/-- Whether unit `u` of a frame lies in an extent of a target. -/
def unitIn (t : Target) (k : FrameKey) (u : Nat) (test : Nat → Nat → Bool) : Bool :=
  match t, k with
  | .region id, .region id' n => id = id' && test (32768 * n + 128 * u) 128
  | .kv p, .kv p' n => p = p' && test (32768 * n + 128 * u) 128
  | _, _ => false

/-- A write that covers a whole damaged unit mends it (R588). -/
def mendDamage (t : Target) (off len : Nat) (l : List (FrameKey × BitVec 256)) : List (FrameKey × BitVec 256) :=
  (l.map fun d =>
    (d.1, (List.range 256).foldl (fun (m : BitVec 256) u =>
      if unitIn t d.1 u (fun a n => within a n off len) then m &&& ~~~(1#256 <<< u) else m) d.2)).filter
    fun d => d.2 != 0

/-- The frames of an extent of a target. -/
def Target.frames (t : Target) (off len : Nat) : List FrameKey :=
  if len = 0 then []
  else (List.range ((off + len - 1) / 32768 + 1 - off / 32768)).map fun i => t.frame (32768 * (off / 32768 + i))

/-- Put bytes into a target at once, mark their frames and mirror them; `uses` is what waits for the mirror's credit. -/
def putFor (uses : List EntryUse) (t : Target) (off : Nat) (data : List Byte) (s : State) : State :=
  if data.isEmpty then s else
  let s := match t with
    | .region id => updRegion id (fun r => { r with data := memPuts r.data off data }) s
    | .kv p => updPart p (fun x => { x with kv := memPuts x.kv off data }) s
    | _ => s
  let s := (t.frames off data.length).foldl (fun s k => markDirty k s) s
  let s := { s with flt := { s.flt with damage := mendDamage t off data.length s.flt.damage } }
  match t with
  | .region id => match regionOf s id with
    | some r => if mirrors s r then mirrorOut r (data.length / 4096 + 2) off data uses s else settleUses uses s
    | none => s
  | _ => settleUses uses s

/-- Put bytes into a target at once. -/
def putNow (t : Target) (off : Nat) (data : List Byte) (s : State) : State := putFor [] t off data s

/-- A write of these bytes at this place would be held by the ceiling now (R324). -/
def heldAt (s : State) (stepWork : Bool) (t : Target) (off len : Nat) : Bool :=
  (t.frames off len).any (holdsWrite s stepWork)

/-- Hold a write of one piece (R324). -/
def holdWrite (stepWork : Bool) (t : Target) (off : Nat) (data : List Byte) (tag : HeldTag) (s : State) : State :=
  { s with tier := { s.tier with heldWrites := s.tier.heldWrites ++
      [{ stepWork := stepWork, target := t, pieces := [(off, data)], tag := tag }] } }

/-- Write bytes into a target, or hold the write at the ceiling (R324). -/
def putBytes (stepWork : Bool) (t : Target) (off : Nat) (data : List Byte) (s : State) : State :=
  if data.isEmpty then s
  else if heldAt s stepWork t off data.length then holdWrite stepWork t off data .none s
  else putNow t off data s

/-- Write pieces of bytes into a target; none while the ceiling would hold any of them in its turn (R324). -/
def putAll (stepWork : Bool) (t : Target) : List (Nat × List Byte) → State → Option State
  | [], s => some s
  | x :: rest, s =>
    if heldAt s stepWork t x.1 x.2.length then none else putAll stepWork t rest (putNow t x.1 x.2 s)

/-- Whether any 128 B unit of an extent of a target is damaged (R588). -/
def damagedAt (s : State) (t : Target) (off len : Nat) : Bool :=
  s.flt.damage.any fun d =>
    (List.range 256).any fun u => d.2.getLsbD u && unitIn t d.1 u (fun a n => overlaps off len a n)

/-- Bytes of a seat's HDM that lie in one of its regions. -/
def hdmBytes (s : State) (seat addr len : Nat) : Option (List Byte) :=
  (regionAt s seat addr len).map fun r => memBytes r.data (addr - r.base) len

/-- A device write into a seat's HDM; dropped where no region holds the extent. -/
def hdmPut (stepWork : Bool) (seat addr : Nat) (data : List Byte) (s : State) : State :=
  match regionAt s seat addr data.length with
  | some r => putBytes stepWork (.region r.id) (addr - r.base) data s
  | none => s

end Sys2Proof.Machine
end

