-- ==== Sys2Proof/Machine/Directory.lean ====
section
/-! DEFINITION. What lies behind an HDM address (R462, R465), the bytes of PROTECTED regions, and the directory of SHARED lines:
its entries, snoops and conflict queues (chapter 15). -/

namespace Sys2Proof.Machine

/-! ### Bytes of regions as a seat sees them (R471, R472) -/

/-- The key slot that opens a PROTECTED region: LOADED with the KCV recorded at allocation (R472). -/
def regionKey (s : State) (r : Region) : Option KeySlot :=
  s.keySlots.find? fun k => k.slot = r.keySlot && k.loaded && k.kcv = r.kcv

/-- A PROTECTED region without its key is locked (R472). -/
def locked (s : State) (r : Region) : Bool := r.protected_ && (regionKey s r).isNone

/-- A region can be read and written now (Table 16-5). -/
def regionOpen (s : State) (r : Region) : Bool := r.st = .held && !locked s r

/-- Bytes of a region, decrypted for PROTECTED (R471). -/
def readRegion (s : State) (r : Region) (off len : Nat) : List Byte :=
  match r.protected_, regionKey s r with
  | true, some k =>
    let first := off / 64
    let n := (off + len + 63) / 64 - first
    let plain := ((List.range n).map fun i =>
      xtsLine false k.key1 k.key2 (first + i) r.id (memBytes r.data (64 * (first + i)) 64)).flatten
    (plain.drop (off % 64)).take len
  | _, _ => memBytes r.data off len

/-- What a write of plain bytes stores: the place and the bytes, encrypted for PROTECTED over whole lines (R471). -/
def storedForm (s : State) (r : Region) (off : Nat) (data : List Byte) : Nat × List Byte :=
  match r.protected_, regionKey s r with
  | true, some k =>
    let first := off / 64
    let n := (off + data.length + 63) / 64 - first
    let old := readRegion s r (64 * first) (64 * n)
    let new := old.take (off % 64) ++ data ++ old.drop (off % 64 + data.length)
    (64 * first, ((List.range n).map fun i =>
      xtsLine true k.key1 k.key2 (first + i) r.id ((new.drop (64 * i)).take 64)).flatten)
  | _, _ => (off, data)

/-! ### What lies behind an HDM address (R462, R465, R468) -/

/-- A place a seat's address names. -/
inductive Place where
  | window (part off : Nat)
  /-- Region, offset, and whether a write is allowed. -/
  | region (r : Region) (off : Nat) (write : Bool)
  | none
  deriving DecidableEq, Repr

/-- MODE of a seat's grant on a region: 0 none, 1 read-only, 2 read-write (R468). -/
def Region.mode (r : Region) (seat : Nat) : Nat := (lookupKey seat r.grants).getD 0

/-- The attachment of a seat that holds an extent, with the offset. -/
def attachAt (s : State) (seat addr len : Nat) : Option (Region × Nat) :=
  s.regions.findSome? fun r =>
    (r.attached.find? fun a => a.1 = seat && within addr len a.2 r.size).map fun a => (r, addr - a.2)

/-- The region or attachment of a seat that holds an extent: the region, the offset, and whether the seat may write it. -/
def extentOf (s : State) (seat addr len : Nat) : Option (Region × Nat × Bool) :=
  match regionAt s seat addr len with
  | some r => some (r, addr - r.base, true)
  | none => (attachAt s seat addr len).map fun x => (x.1, x.2, x.1.mode seat = 2)

/-- What lies behind an address, in the row order of Table 16-5. -/
def placeOf64 (s : State) (seat addr : Nat) : Place :=
  match (s.seats.get seat).kvWindows.find? fun w => within addr 64 w.2 (kvSpace (s.parts.get w.1).body) with
  | some w => .window w.1 (addr - w.2)
  | none => match extentOf s seat addr 64 with
    | some (r, off, wr) => .region r off wr
    | none => .none

/-! ### Answers -/

/-- The code of a MetaValue in a response: Invalid 0, Any 2, Shared 3. -/
def metaCode : MetaVal → Nat
  | .i => 0 | .a => 2 | .s => 3

/-- Answer a read of a line of a region: its bytes, the replica's for an uncorrectable mirrored line (R487), or poison. -/
def answerLine (seat hpa : Nat) (r : Region) (off : Nat) (m : MetaVal) (s : State) : State :=
  if damagedAt s (.region r.id) off 64 then
    let s := logFault { unit := 5, index := seat, event := 2, seat := seat, location := hpa } s
    if mirrors s r then
      sendEntry (partnerIx s) { kind := .readReq, cls := (s.seats.get r.seat).limits.cls, target := r.id, offset := off / 128 * 128, size := 128
                                uses := [.lineRead seat hpa r.id off (metaCode m)] } s
    else emit (.memData seat hpa none (metaCode m) (seatDevLoad s seat)) s
  else emit (.memData seat hpa (some (readRegion s r off 64)) (metaCode m) (seatDevLoad s seat)) s

/-- Merge stored bytes under a byte mask. -/
def mergeMask (mask : Nat) (old new : List Byte) : List Byte :=
  ((old.zip new).zip (List.range 64)).map fun x => if mask / 2 ^ x.2 % 2 = 1 then x.1.2 else x.1.1

/-- A write that is completed and dropped, with a transient record (Table 16-5, R580); `part` is 255 for none. -/
def dropWrite (seat part addr : Nat) (s : State) : State :=
  logFault { unit := 5, index := seat, event := 11, action := 6, seat := seat, part := part, location := addr }
    (emit (.memCmp seat addr 0 (seatDevLoad s seat)) s)

/-- A host's write of a line of a region, its completion after it (R324, R471, R487). -/
def lineNow (seat hpa : Nat) (r : Region) (off mask : Nat) (data : List Byte) (s : State) : State :=
  let full := mask = 2 ^ 64 - 1
  let plain := if full then data else mergeMask mask (readRegion s r off 64) data
  let (o, bytes) := storedForm s r off plain
  let old := s.flt.damage
  let s := putFor [.hostWrite seat hpa] (.region r.id) o bytes s
  if full then s else { s with flt := { s.flt with damage := old } }

/-- A host's store into a region, or into the ceiling's held writes: those bytes alone are held (R324). -/
def writeLine (seat hpa : Nat) (r : Region) (off mask : Nat) (data : List Byte) (s : State) : State :=
  if heldAt s false (.region r.id) off 64 then holdWrite false (.region r.id) off data (.host seat hpa mask) s
  else lineNow seat hpa r off mask data s

/-! ### Directory entries (R438–R440, R450) -/

/-- A, the line's HBM address in lines (R438; log entry 44). -/
def lineAddr (region line : Nat) : Nat := frameNo (.region region (line / 512)) * 512 + line % 512

/-- The slice of a line (R438). -/
def lineSlice (region line : Nat) : Nat := (lineAddr region line % 64) ^^^ (lineAddr region line / 2 ^ 19 % 64)

/-- The set of a line within its slice (R438). -/
def lineSet (region line : Nat) : Nat := lineAddr region line / 64 % 8192

/-- TAG of a line (R438). -/
def lineTag (region line : Nat) : Nat := lineAddr region line / 2 ^ 19

/-- A seat's bit. -/
def seatBit (n : Nat) : BitVec 64 := BitVec.ofNat 64 (2 ^ n)

/-- Change the coherence state. -/
def updCoh (f : Coh → Coh) (s : State) : State := { s with coh := f s.coh }

/-- The entry of a line. -/
def entOf (s : State) (region line : Nat) : Option DirEnt := s.coh.dir.find? fun e => e.region = region && e.line = line

/-- The unfenced holders of an entry (R454). -/
def DirEnt.live (e : DirEnt) (fenced : BitVec 64) : List Nat :=
  (List.range 64).filter fun n => (e.holders &&& ~~~fenced).getLsbD n

/-- The unfenced holders of a line. -/
def lineHolders (s : State) (region line : Nat) : List Nat := ((entOf s region line).map (·.live s.coh.fenced)).getD []

/-- A line is E. -/
def lineExcl (s : State) (region line : Nat) : Bool :=
  ((entOf s region line).map fun e => e.excl && !(e.live s.coh.fenced).isEmpty).getD false

/-- Drop entries that hold nothing and wait for nothing. -/
def sweepFree (l : List DirEnt) : List DirEnt := l.filter fun e => e.pend || e.holders != 0

/-- Set the holders of a line; an entry is taken where the line has none (R450). -/
def setLine (region line : Nat) (holders : BitVec 64) (excl : Bool) (s : State) : State :=
  let here := fun e : DirEnt => e.region == region && e.line == line
  updCoh (fun c =>
    let l := if c.dir.any here then updFirst here (fun e => { e with holders := holders, excl := excl }) c.dir
      else c.dir ++ [{ region := region, line := line, holders := holders, excl := excl }]
    { c with dir := sweepFree l }) s

/-- Remove a seat from a line's holders (R441, R447). -/
def leaveLine (region line seat : Nat) (s : State) : State :=
  match entOf s region line with
  | some e => setLine region line (e.holders &&& ~~~seatBit seat) (e.excl && !e.holders.getLsbD seat) s
  | none => s

/-- Entries of a line's set. -/
def setEntries (s : State) (region line : Nat) : List DirEnt :=
  s.coh.dir.filter fun e => lineSlice e.region e.line = lineSlice region line && lineSet e.region e.line = lineSet region line

/-- Ways of a set in use; lines whose holders are all fenced count as free (R451). -/
def waysUsed (s : State) (region line : Nat) : Nat :=
  ((setEntries s region line).filter fun e => e.pend || !(e.live s.coh.fenced).isEmpty).length

/-! ### Snoops (R441, R452) -/

/-- SNOOP_TO in ms (Table 15-6). -/
def snoopTo (s : State) : Nat := if s.glb.snoopTo = 0 then 128 else min s.glb.snoopTo 1000

/-- A seat's HDM address of a byte of a region: in its own range, or in its attachment. -/
def seatAddr (r : Region) (seat off : Nat) : Nat :=
  if r.seat = seat then r.base + off else (lookupKey seat r.attached).getD 0 + off

/-- A seat's link is up. -/
def seatLinkUp (s : State) (seat : Nat) : Bool :=
  match (s.seats.get seat).map with
  | some (p, _) => (s.ports.get p).linkUp
  | none => false

/-- Tell a seat's host of a snoop. -/
def sendSnoop (region line seat kind : Nat) (s : State) : State :=
  match regionOf s region with
  | some r => emit (.bisnp seat (seatAddr r seat (64 * line)) kind) s
  | none => s

/-- Begin a snoop; it is held while the port's link is down (R452). -/
def snoop (region line : Nat) (x : Nat × Nat) (s : State) : State :=
  let up := seatLinkUp s x.1
  let n : Snoop := { region := region, line := line, seat := x.1, kind := x.2, since := s.dev.devtime, timeout := snoopTo s, held := !up }
  let s := updCoh (fun c => { c with snoops := c.snoops ++ [n] }) s
  if up then sendSnoop region line x.1 x.2 s else s

/-- Send a line's snoop set: the line is PEND (R446). -/
def snoopSet (region line : Nat) (recalled : Bool) (l : List (Nat × Nat)) (s : State) : State :=
  let mark := updFirst (fun e : DirEnt => e.region == region && e.line == line) fun e => { e with pend := true, recalled := recalled }
  l.foldl (fun s x => snoop region line x s) (updCoh (fun c => { c with dir := mark c.dir }) s)

/-- Held snoops of a port's seats are sent when its link comes up (R452). -/
def sendHeldSnoops (port : Nat) (s : State) : State :=
  let now := s.coh.snoops.filter fun n => n.held && ((s.seats.get n.seat).map.map (·.1)) = some port
  let s := updCoh (fun c => { c with snoops := c.snoops.map fun n => if now.contains n then { n with held := false } else n }) s
  now.foldl (fun s n => sendSnoop n.region n.line n.seat n.kind s) s

/-! ### Requests (Table 15-3, R441–R444) -/

/-- A seat whose holdings are recorded: not fenced, its LD with BI Enable (R435, R456). -/
def tracked (s : State) (seat : Nat) : Bool :=
  !s.coh.fenced.getLsbD seat && (match (s.seats.get seat).map with
    | some (p, l) => (s.lds.get (ldKey p l)).biEnable
    | none => false)

/-- The MetaValue a request asks for, as it is served (R435, R456). -/
def askedMeta (s : State) (r : CohReq) : MetaVal :=
  match r.who with
  | none => .i
  | some n => if !tracked s n then .i else match r.op with
    | .read m => m
    | .inv m => m
    | .write m _ _ => m
    | .readData => .s
    | _ => .i

/-- The snoops a request needs before it completes (Table 15-3). -/
def needs (s : State) (r : CohReq) : List (Nat × Nat) :=
  let hs := lineHolders s r.region r.line
  let others := match r.who with
    | some n => hs.filter (· != n)
    | none => hs
  let excl := lineExcl s r.region r.line
  let inv := others.map fun h => (h, 2)
  match r.op with
  | .evict => []
  | .write _ _ _ => inv
  | .devWrite => inv
  | .revoke g => if hs.contains g then [(g, 2)] else []
  | .devRead _ => if excl then (others.filter fun h => !r.asked.contains h).map fun h => (h, 0) else []
  | _ =>
    match askedMeta s r with
    | .a => inv
    | .s => if excl then others.map fun h => (h, 1) else []
    | .i => if excl then (others.filter fun h => !r.asked.contains h).map fun h => (h, 0) else []

/-- What a request is granted, and the line after it (Table 15-3, R443): MetaValue, holders, E. -/
def granted (s : State) (r : CohReq) (n : Nat) : MetaVal × BitVec 64 × Bool :=
  let h := ((entOf s r.region r.line).map (·.holders)).getD 0 &&& ~~~s.coh.fenced
  let excl := lineExcl s r.region r.line
  let own := h.getLsbD n && tracked s n
  match r.op with
  | .write _ _ _ => match askedMeta s r with
    | .i => (.i, h &&& ~~~seatBit n, false)
    | .s => (.s, seatBit n, false)
    | .a => (.a, seatBit n, true)
  | _ =>
    if excl && own then (.a, h, true)
    else match askedMeta s r with
      | .i => (.i, h, excl)
      | .a => (.a, seatBit n, true)
      | .s => if h = 0 && r.op = .readData && r.asked.isEmpty then (.a, seatBit n, true) else (.s, h ||| seatBit n, false)

/-- A fenced seat's write or eviction is completed and dropped (R456). -/
def dropFenced (seat hpa : Nat) (s : State) : State :=
  logFault { unit := 15, index := seat, event := 11, action := 6, seat := seat, location := hpa }
    (emit (.memCmp seat hpa 0 (seatDevLoad s seat)) s)

/-- A request whose region has been freed is answered as for an unallocated address (R467, Table 16-5). -/
def answerFreed (r : CohReq) (s : State) : State :=
  match r.who with
  | none => s
  | some n =>
    let s := logFault { unit := 5, index := n, event := 11, action := 6, seat := n, location := r.hpa } s
    match r.op with
    | .read _ => emit (.memData n r.hpa none 0 (seatDevLoad s n)) s
    | .readData => emit (.memData n r.hpa none 0 (seatDevLoad s n)) s
    | _ => emit (.memCmp n r.hpa 0 (seatDevLoad s n)) s

/-- Complete a request whose snoops are done (R441). -/
def completeReq (r : CohReq) (s : State) : State :=
  match regionOf s r.region with
  | none => answerFreed r s
  | some reg =>
    match r.who with
    | none => match r.op with
      | .devRead op => updCoh (fun c => { c with done := c.done ++ [(op, r.region, r.line)] }) s
      | _ => s
    | some n =>
      match r.op with
      | .evict => emit (.memCmp n r.hpa 0 (seatDevLoad s n)) (leaveLine r.region r.line n s)
      | .write _ mask data =>
        if s.coh.fenced.getLsbD n then dropFenced n r.hpa s
        else
          let g := granted s r n
          writeLine n r.hpa reg (64 * r.line) mask data (setLine r.region r.line g.2.1 g.2.2 s)
      | .inv _ =>
        let g := granted s r n
        emit (.memCmp n r.hpa (match g.1 with | .a => 2 | .s => 1 | .i => 0) (seatDevLoad s n)) (setLine r.region r.line g.2.1 g.2.2 s)
      | _ =>
        let g := granted s r n
        answerLine n r.hpa reg (64 * r.line) g.1 (setLine r.region r.line g.2.1 g.2.2 s)

/-- A request needs an entry its line does not have (R450). -/
def needsWay (s : State) (r : CohReq) : Bool :=
  match r.who with
  | none => false
  | some n => (entOf s r.region r.line).isNone && (granted s r n).2.1 != 0

/-- A seat's own earlier request for a line is still unanswered: its write waits for the ceiling or the mirror, or its read for
the replica (R449). -/
def unanswered (s : State) (region line seat : Nat) : Bool :=
  match regionOf s region with
  | none => false
  | some r =>
    let a := seatAddr r seat (64 * line)
    let waits := fun (u : EntryUse) => match u with
      | .hostWrite n hpa => n = seat && hpa = a
      | .lineRead n hpa _ _ _ => n = seat && hpa = a
      | _ => false
    (s.tier.heldWrites.any fun w => match w.tag with
        | .host n hpa _ => n = seat && hpa = a
        | _ => false) ||
      s.pset.members.any fun m => (m.waiting.any fun e => e.2.2.uses.any waits) || m.queued.any fun e => e.uses.any waits

/-- Recall the oldest line of a set that is not PEND (R450). -/
def recallOne (r : CohReq) (s : State) : State × Bool :=
  match (setEntries s r.region r.line).find? fun e => !e.pend && !(e.live s.coh.fenced).isEmpty &&
      !(e.live s.coh.fenced).any (unanswered s e.region e.line) with
  | some v => (snoopSet v.region v.line true ((v.live s.coh.fenced).map fun h => (h, 2)) s, true)
  | none => (s, false)

/-- Serve a request at the head of its line: it completes, or waits for snoops or a way (R441, R446, R450). -/
def tryReq (r : CohReq) (s : State) : State × Option CohReq :=
  match needs s r with
  | [] =>
    if needsWay s r && 16 ≤ waysUsed s r.region r.line then
      if r.recalls then (s, some r)
      else
        let (s, ok) := recallOne r s
        (s, some { r with recalls := ok })
    else
      -- a way whose holders are all fenced is taken over (R451)
      let s := if needsWay s r && 16 ≤ (setEntries s r.region r.line).length then
          match (setEntries s r.region r.line).find? fun e => !e.pend && (e.live s.coh.fenced).isEmpty with
          | some v => updCoh (fun c => { c with dir := c.dir.filter fun e => e != v }) s
          | none => s
        else s
      (completeReq r s, none)
  | l => if l.any fun x => unanswered s r.region r.line x.1 then (s, some r) else (snoopSet r.region r.line false l s, some r)

/-- A request stands behind another of its line, or its line is PEND (R446). -/
def lineBusy (s : State) (r : CohReq) : Bool :=
  (s.coh.queue.any fun q => q.region = r.region && q.line = r.line) || ((entOf s r.region r.line).map (·.pend)).getD false

/-- One pass over the conflict queues in arrival order (R448). -/
def cohPass : List CohReq → State → State
  | [], s => s
  | r :: rest, s =>
    if lineBusy s r then cohPass rest (updCoh (fun c => { c with queue := c.queue ++ [r] }) s)
    else match tryReq r s with
      | (s, none) => cohPass rest s
      | (s, some r) => cohPass rest (updCoh (fun c => { c with queue := c.queue ++ [r] }) s)

/-- Serve the conflict queues as far as nothing waits. -/
def cohRun : Nat → State → State
  | 0, s => s
  | fuel + 1, s =>
    let n := s.coh.queue.length
    let s := cohPass s.coh.queue (updCoh (fun c => { c with queue := [] }) s)
    if s.coh.queue.length < n then cohRun fuel s else s

/-- Serve the conflict queues now. -/
def cohGo (s : State) : State := cohRun (s.coh.queue.length + 1) s

/-- A request arrives at its slice (R446). -/
def cohAsk (r : CohReq) (s : State) : State := cohGo (updCoh (fun c => { c with queue := c.queue ++ [r] }) s)

/-- A write or eviction of a holder that needs no other holder to give way is a write-back: it is applied on arrival (R447; log
entry 45). -/
def isWriteBack (s : State) (r : CohReq) : Bool :=
  match r.who, r.op with
  | some n, .write _ _ _ => lineHolders s r.region r.line = [n]
  | some _, .evict => true
  | _, _ => false

/-- A host's request to a SHARED line (R441–R447, R456). -/
def cohHost (seat hpa : Nat) (op : CohOp) (reg : Region) (off : Nat) (s : State) : State :=
  let r : CohReq := { who := some seat, op := op, region := reg.id, line := off / 64, hpa := hpa }
  let writes := match op with
    | .write _ _ _ => true
    | .evict => true
    | _ => false
  if writes && s.coh.fenced.getLsbD seat then dropFenced seat hpa s
  else if isWriteBack s r then
    cohGo (completeReq r s)
  else cohAsk r s

/-- Close a snoop (R444): what the holder keeps; the line stops being PEND with its last one, and a recalled way is free. -/
def closeSnoop (n : Snoop) (rsp : BiRsp) (s : State) : State :=
  let answered := updFirst (fun r : CohReq => r.region == n.region && r.line == n.line) fun r => { r with asked := n.seat :: r.asked }
  let unpend := updFirst (fun e : DirEnt => e.region == n.region && e.line == n.line) fun e => { e with pend := false, recalled := false }
  let s := updCoh (fun c => { c with snoops := c.snoops.erase n, queue := answered c.queue }) s
  let s := match entOf s n.region n.line with
    | none => s
    | some e =>
      if n.kind = 0 then s
      else if n.kind = 1 && rsp = .s then setLine n.region n.line e.holders false s
      else leaveLine n.region n.line n.seat s
  if s.coh.snoops.any fun x => x.region = n.region && x.line = n.line then s
  else updCoh (fun c => { c with dir := sweepFree (unpend c.dir) }) s

/-- A device write into a line waits until no host holds it (R441, R445). -/
def devInvalidate (region line : Nat) (s : State) : State :=
  if (lineHolders s region line).isEmpty || (s.coh.queue.any fun r => r.region = region && r.line = line && r.op = .devWrite) then s
  else cohAsk { who := none, op := .devWrite, region := region, line := line } s

/-- The SHARED line a seat's address lies in, with hosts that hold it. -/
def heldLine (s : State) (seat addr : Nat) : Option (Nat × Nat) :=
  match extentOf s seat addr 1 with
  | some (r, off, _) => if r.shared && !(lineHolders s r.id (off / 64)).isEmpty then some (r.id, off / 64) else none
  | none => none

end Sys2Proof.Machine
end

