-- ==== Sys2Proof/Machine/Rings.lean ====
section
/-! DEFINITION. What the device writes to its users: completions and notices, the device state and its Ochre causes, and
failures. -/

namespace Sys2Proof.Machine

/-! ### Completions (R102–R105) and notices (R87, R88) -/

/-- The 32 bytes of a completion record (Table 3-13). -/
def CompRec.bytes (c : CompRec) : List Byte :=
  leBytes 4 c.handle ++ leBytes 2 c.status.code ++ leBytes 1 c.kind ++
  leBytes 1 (bit c.phase + 2 * bit c.late + 4 * bit c.final + 8 * bit c.fw + 16 * (c.part % 16)) ++
  leBytes 4 c.value ++ leBytes 4 c.step ++ leBytes 8 c.tArrive ++ leBytes 4 c.dStart ++ leBytes 4 c.dDone

/-- The Request Table index of a handle (Table 0-4). -/
def handleRti (h : Nat) : Nat := bits h 9 17

/-- Whether D_DONE lies beyond the deadline in µs (R157). -/
def isLate (deadline dDone : Nat) : Bool := deadline != 0 && (deadline * 1000 < dDone || dDone = 2 ^ 32 - 1)

/-- Complete the fields a record takes when it is written: D_DONE, LATE, PHASE (R102, R103, R157). A handle that is no longer
current names no request, so its record is never late. -/
def stampRec (s : State) (j log2 : Nat) (c : CompRec) : CompRec :=
  let d := sat 32 (s.dev.devtime - c.tArrive)
  let e := s.rt.get (handleRti c.handle)
  let dl := if c.kind = 1 && c.status = .ok then e.dlToken else e.dlItem
  { c with dDone := d
           late := c.handle != 0 && e.state != .free && e.gen = c.handle % 512 && isLate dl d
           phase := j / 2 ^ log2 % 2 = 0 }

/-- HDM address of a ring's next completion record. -/
def RingSet.nextComp (r : RingSet) : Nat := r.cqBase + 32 * (r.cqTail % 2 ^ r.cqLog2)

/-- Release the completion space one consumed record reserved, where it did (R100). -/
def unreserve (own : Bool) (seat ring : Nat) (s : State) : State :=
  if own then updRing seat ring (fun r => { r with reserved := r.reserved - 1 }) s else s

/-- Write one completion that has space; `own` says that its space was reserved (R100, R103, R105). -/
def writeComp (seat ring : Nat) (own : Bool) (c : CompRec) (s : State) : State :=
  let s := unreserve own seat ring s
  let r := ringOf s seat ring
  let c := stampRec s r.cqTail r.cqLog2 c
  let slot := r.cqTail % 2 ^ r.cqLog2
  let adv := updRing seat ring fun r => { r with cqTail := (r.cqTail + 1) % 2 ^ 32 }
  if r.cqPeer then
    match windowOf s seat r.cqWindow with
    | none => s
    | some w =>
      match firstUp s w.mask with
      | some p => adv (emit (.peerWrite p (w.base + r.cqBase + 32 * slot) c.bytes false) s)
      | none => logFault { unit := 5, index := seat, event := 11, action := 6, seat := seat, handle := c.handle } s
  else adv (hdmPut true seat r.nextComp c.bytes s)

/-- Entries of a ring in use, from its 32-bit tail and head counts (R98, R104). -/
def ringUsed (tail head : Nat) : Nat := (tail + 2 ^ 32 - head) % 2 ^ 32

/-- The next completion or notice write at this HDM address waits for the ceiling (R324, R325). -/
def hdmHeld (s : State) (seat addr : Nat) : Bool :=
  match regionAt s seat addr 32 with
  | some r => heldAt s true (.region r.id) (addr - r.base) 32
  | none => false

/-- The ring has `n` entries free for completions without reserved space (R100, R104). -/
def RingSet.hasFree (r : RingSet) (n : Nat) : Bool := ringUsed r.cqTail r.cqHead + r.reserved + n ≤ 2 ^ r.cqLog2

/-- The ring has an entry for a completion: its own reserved one, or a free one (R100, R104). -/
def RingSet.hasEntry (r : RingSet) (own : Bool) : Bool :=
  if own then ringUsed r.cqTail r.cqHead < 2 ^ r.cqLog2 else r.hasFree 1

/-- The ring has an entry for its next completion, and the ceiling holds no write into it (R104, R325). -/
def compRoom (s : State) (seat ring : Nat) (own : Bool) : Bool :=
  let r := ringOf s seat ring
  r.hasEntry own && (r.cqPeer || !hdmHeld s seat r.nextComp)

/-- Whether a completion can be written now: there is room, and no host holds its line (R445). -/
def compSpace (s : State) (seat ring : Nat) (own : Bool) : Bool :=
  let r := ringOf s seat ring
  compRoom s seat ring own && (r.cqPeer || (heldLine s seat r.nextComp).isNone)

/-- A device write that finds its line held asks the holders to give it up (R441, R445). -/
def askLine (seat addr : Nat) (s : State) : State :=
  match heldLine s seat addr with
  | some (r, l) => devInvalidate r l s
  | none => s

/-- A completion that waits for the hosts that hold its line asks for it. -/
def askComp (seat ring : Nat) (own : Bool) (s : State) : State :=
  let r := ringOf s seat ring
  if r.live && !r.cqPeer && compRoom s seat ring own then askLine seat r.nextComp s else s

/-- Write waiting completions while there is space (R104). -/
def drainBacklog (seat ring : Nat) : List (CompRec × Bool) → State → State
  | [], s => updRing seat ring (fun r => { r with backlog := [] }) s
  | c :: rest, s =>
    if compSpace s seat ring c.2 then drainBacklog seat ring rest (writeComp seat ring c.2 c.1 s)
    else askComp seat ring c.2 (updRing seat ring (fun r => { r with backlog := c :: rest }) s)

/-- Work that produces `n` completions without reserved space may do so now: nothing waits before them and the ring has that much space
beyond what is reserved, or the ring is gone (R100, R104). -/
def canComplete (s : State) (seat ring n : Nat) : Bool :=
  let r := ringOf s seat ring
  !r.live || (r.backlog.isEmpty && r.hasFree n && (r.cqPeer || !hdmHeld s seat r.nextComp))

/-- HDM addresses of a ring's next `n` completions. -/
def RingSet.nextComps (r : RingSet) (n : Nat) : List Nat :=
  (List.range n).map fun i => r.cqBase + 32 * ((r.cqTail + i) % 2 ^ r.cqLog2)

/-- The ring's next `n` completions can be written as they are produced: the ceiling holds none, and no host holds a line of theirs
(R325, R445). -/
def compsFree (s : State) (seat ring n : Nat) : Bool :=
  let r := ringOf s seat ring
  !r.live || r.cqPeer || (r.nextComps n).all fun a => !hdmHeld s seat a && (heldLine s seat a).isNone

/-- Work that waits for the lines of its completions asks the hosts for them (R445). -/
def askComps (seat ring n : Nat) (s : State) : State :=
  let r := ringOf s seat ring
  if r.live && !r.cqPeer then (r.nextComps n).foldl (fun s a => askLine seat a s) s else s

/-- A record's reserved space is released without a completion (R100); what waits may take it. -/
def releaseSpace (seat ring : Nat) (s : State) : State :=
  let s := unreserve true seat ring s
  let b := (ringOf s seat ring).backlog
  if b.isEmpty then s else drainBacklog seat ring b s

/-- Produce a completion into a ring: written at once, or waiting for space (R103, R104). -/
def produceComp (own : Bool) (seat ring : Nat) (c : CompRec) (s : State) : State :=
  let r := ringOf s seat ring
  if !r.live then s
  else
    let c := { c with fw := !s.glb.hwparse }
    if r.backlog.isEmpty && compSpace s seat ring own then writeComp seat ring own c s
    else
      let s := updRing seat ring (fun r => { r with backlog := r.backlog ++ [(c, own)] }) s
      if r.backlog.isEmpty then askComp seat ring own s else s

/-- Produce a completion for which no space was reserved. -/
def postComp (seat ring : Nat) (c : CompRec) (s : State) : State := produceComp false seat ring c s

/-- Complete a consumed record into the space reserved for it (R100, R103). -/
def complete (seat ring : Nat) (c : CompRec) (s : State) : State := produceComp true seat ring c s

/-- HDM address of a seat's next notice. -/
def Seat.nextNotice (t : Seat) : Nat := t.noticeBase + 32 * (t.noticeTail % 2 ^ t.noticeLog2)

/-- The notice ring has room and no write into it waits for the ceiling (R87, R325, R639). -/
def noticeRoom (s : State) (seat : Nat) : Bool :=
  let t := s.seats.get seat
  t.noticeSet && ringUsed t.noticeTail t.noticeHead < 2 ^ t.noticeLog2 && !hdmHeld s seat t.nextNotice

/-- A notice can be written now: there is room, and no host holds its line (R445). -/
def noticeSpace (s : State) (seat : Nat) : Bool :=
  noticeRoom s seat && (heldLine s seat (s.seats.get seat).nextNotice).isNone

/-- A notice that waits for the hosts that hold its line asks for it. -/
def askNotice (seat : Nat) (s : State) : State :=
  if noticeRoom s seat then askLine seat (s.seats.get seat).nextNotice s else s

/-- Write held notices while the notice ring has space (R87, R639). -/
def flushNotices (seat : Nat) : List CompRec → State → State
  | [], s => updSeat seat (fun t => { t with noticeHeld := [] }) s
  | c :: rest, s =>
    let t := s.seats.get seat
    if noticeSpace s seat then
      let c := { stampRec s t.noticeTail t.noticeLog2 c with late := false }
      let s := hdmPut true seat t.nextNotice c.bytes s
      flushNotices seat rest (updSeat seat (fun t => { t with noticeTail := (t.noticeTail + 1) % 2 ^ 32 }) s)
    else askNotice seat (updSeat seat (fun t => { t with noticeHeld := c :: rest }) s)

/-- Post a notice: held and written as the ring allows; dropped beyond 256 held (R88). -/
def postNotice (seat : Nat) (c : CompRec) (s : State) : State :=
  let t := s.seats.get seat
  let held := t.noticeHeld ++ [{ c with tArrive := s.dev.devtime, final := true }]
  if noticeSpace s seat then flushNotices seat held s
  else if t.noticeHeld.length < 256 then askNotice seat (updSeat seat (fun t => { t with noticeHeld := held }) s)
  else updSeat seat (fun t => { t with noticeLost := true }) s

/-- Post a notice to every seat. -/
def noticeAll (c : CompRec) (s : State) : State := (List.range 64).foldl (fun s n => postNotice n c s) s

/-! ### The parser's next record (R97–R100, R106, R107) -/

/-- KIND, FLAGS, SEQ and SUBJECT of a record (Table 3-10). -/
def recKind (r : List Byte) : Nat := leNat (r.take 1)
def recFlags (r : List Byte) : Nat := leNat ((r.drop 1).take 1)
def recSeq (r : List Byte) : Nat := leNat ((r.drop 2).take 2)
def recSubject (r : List Byte) : Nat := leNat ((r.drop 4).take 4)

/-- Enter an accepted store of a slot; a store of the same slot before it counts no more (R99, R107). -/
def enterStore (seat ring slot : Nat) (s : State) : State :=
  updRing seat ring (fun r => if r.live then { r with stored := (slot, s.accepts) :: r.stored.filter (·.1 != slot) } else r)
    { s with accepts := s.accepts + 1 }

/-- The parser runs: hardware parses, or firmware serves (R106, R573), and no trigger or reset holds the device. -/
def parserRuns (s : State) : Bool := s.dev.memActive && !s.flt.sable && (s.glb.hwparse || s.dev.fwReady)

/-- The record at the head of a ring, with its place in the order of acceptance: in the slot H mod N, stored since the ring was created
(log entry 114), and carrying SEQ = H mod 65,536; no STEP_OPEN of the ring is held (R98, R100, R171). -/
def headRecord (s : State) (seat ring : Nat) : Option (Nat × List Byte) :=
  let r := ringOf s seat ring
  let slot := r.head % 2 ^ r.sqLog2
  if parserRuns s && r.live && !(s.held.any fun h => h.seat = seat && h.ring = ring) then
    match r.stored.find? (·.1 = slot), hdmBytes s seat (r.sqBase + 64 * slot) 64 with
    | some x, some b => if recSeq b = r.head % 65536 then some (x.2, b) else none
    | _, _ => none
  else none

/-- Completion space can be reserved for one more record (R100). -/
def RingSet.canReserve (r : RingSet) : Bool := r.hasFree ((r.backlog.filter (!·.2)).length + 1)

/-- The place in the order of acceptance of a ring's next record, once the parser may consume it: a NOP at once, any other with
completion space to reserve (R100). -/
def readyPlace (s : State) (seat ring : Nat) : Option Nat :=
  match headRecord s seat ring with
  | some (k, b) => if recKind b = 0 || (ringOf s seat ring).canReserve then some k else none
  | none => none

/-- Places of the records that wait for CC0 on the firmware path (R107). -/
def waitingPlaces (s : State) : List Nat :=
  ((List.range 64).map fun n => (List.range 4).filterMap fun k => readyPlace s n k).flatten

/-- On the firmware path a record waits for CC0, which takes it before any mailbox command (R107). -/
def recordsWait (s : State) : Bool := !s.glb.hwparse && !(waitingPlaces s).isEmpty

/-- It is a ring's turn: always with the hardware parser; on the firmware path CC0 takes records in the order in which they were
accepted across all rings (R107). -/
def ringsTurn (s : State) (seat ring : Nat) : Bool :=
  s.glb.hwparse || match readyPlace s seat ring with
    | some k => (waitingPlaces s).all (k ≤ ·)
    | none => false

/-- The record the parser may consume next from a ring (R98, R100, R107, R171). -/
def nextRecord (s : State) (seat ring : Nat) : Option (List Byte) :=
  if ringsTurn s seat ring then (headRecord s seat ring).map (·.2) else none

/-! ### Device state and Ochre causes (R594, R595) -/

/-- DEVSTATE: 0 Celadon, 1 Ochre, 2 Sable (R594). -/
def devState (s : State) : Nat := if s.flt.sable then 2 else if s.flt.causes != 0 then 1 else 0

/-- FLT_STATUS (Table 21-5). -/
def fltStatus (s : State) : Nat :=
  devState s * 2 ^ 30 + bit s.flt.terminal * 2 ^ 29 + bit (s.flt.dump0.isSome || s.flt.dump1.isSome) * 2 ^ 28 +
    s.flt.causes.toNat

/-- Queue a PLDM event on the management path (R532). -/
def pldmEvent (data : List Nat) (s : State) : State :=
  emit (.pldmEvent data) { s with pldmQueue := s.pldmQueue ++ [data] }

/-- A STATE notice to every seat (R595, Table 23-4). -/
def noticeState (s : State) : State := noticeAll { kind := 0x82, value := fltStatus s } s

/-- Set a cause bit; when it is first set, the event's record carries OCHRE and the replacement request is made (R595).
The record is written either way. -/
def causeFault (b : Nat) (f : FaultEv) (s : State) : State :=
  if s.flt.causes.getLsbD b then logFault f s
  else
    let s := { s with flt := { s.flt with causes := s.flt.causes ||| (1#16 <<< b) } }
    pldmEvent [1, b] (noticeState (logFault { f with flags := f.flags ||| 1 } s))

/-- Clear a cause bit (Table 21-5: bits 12 to 14 only); a change of DEVSTATE posts STATE notices (R87). -/
def clearCause (b : Nat) (s : State) : State :=
  if s.flt.causes.getLsbD b then
    let d := devState s
    let s := { s with flt := { s.flt with causes := s.flt.causes &&& ~~~(1#16 <<< b) } }
    if devState s = d then s else noticeState s
  else s

/-! ### Failures (R585) -/

/-- Park-clock seconds of a location's unexpired failures (R585). -/
def unexpired (s : State) (l : List Nat) : List Nat := l.filter fun t => s.dev.parkClock < t + 86400

/-- Count a failure against its location: the number unexpired, this one included. An injected one is not counted (R585,
R587). -/
def countFailure (loc : Loc) (injected : Bool) (s : State) : State × Nat :=
  let old := unexpired s ((s.flt.failures.find? fun f => f.1 = loc).map (·.2) |>.getD [])
  if injected then (s, old.length)
  else
    let l := old ++ [s.dev.parkClock]
    ({ s with flt := { s.flt with failures := (s.flt.failures.filter fun f => f.1 != loc) ++ [(loc, l)] } }, l.length)

end Sys2Proof.Machine
end

