-- ==== Sys2Proof/Machine/Operands.lean ====
section
/-! DEFINITION. Operand forms: request handles, the row each opcode has in the command index, and the placement of a
response body's fields. -/

namespace Sys2Proof.Machine

/-! ### Request handles (Table 0-4) -/

/-- The seat that admitted the request. -/
def handleSeat (h : Nat) : Nat := bits h 26 6

/-- The generation a handle carries. -/
def handleGen (h : Nat) : Nat := bits h 0 9

/-- A handle from its parts. -/
def mkHandle (seat rti gen : Nat) : Nat := seat % 64 * 2 ^ 26 + rti % 131072 * 2 ^ 9 + gen % 512

/-- The entry a handle names. -/
def rtOf (s : State) (h : Nat) : Rt := s.rt.get (handleRti h)

/-- The handle of the request an entry holds. -/
def handleOfRt (s : State) (i : Nat) : Nat := mkHandle (s.rt.get i).seat i (s.rt.get i).gen

/-- A handle's generation is its entry's and the entry is not FREE (R2, R137). -/
def handleGenOk (s : State) (h : Nat) : Bool :=
  let e := rtOf s h
  h != 0 && e.state != .free && e.gen = handleGen h

/-- Whether a handle is current and its SEAT is the entry's. -/
def handleCurrent (s : State) (h : Nat) : Bool := handleGenOk s h && (rtOf s h).seat = handleSeat h

/-- Change the entry a handle names. -/
def updRt (h : Nat) (f : Rt → Rt) (s : State) : State := { s with rt := s.rt.upd (handleRti h) f }

/-- The checks of R2 and R76 on a handle: STALE_GENERATION, then NOT_FOUND for another seat's request. A SEAT field that is
not the entry's seat names no request of any seat. -/
def handleCheck (s : State) (seat h : Nat) : Option Status :=
  if !handleGenOk s h then some .staleGeneration
  else if (rtOf s h).seat != handleSeat h || (seat != 0 && handleSeat h != seat) then some .notFound
  else none

/-! ### Response bodies (R644) -/

/-- Place fields in order, each at the next offset aligned to its own width (R644); widths above 8 align to 8. -/
def placeFields : List (Nat × Nat) → Nat → List Byte
  | [], _ => []
  | (w, v) :: rest, off =>
    let at_ := alignUp off (min w 8)
    List.replicate (at_ - off) 0 ++ leBytes w v ++ placeFields rest (at_ + w)

/-- Bytes padded with zeros, or cut, to a length. -/
def padTo (n : Nat) (l : List Byte) : List Byte := (l ++ List.replicate (n - l.length) 0).take n

/-- The bytes of a response body (R644). -/
def RespBody.toBytes : RespBody → List Byte
  | .none => []
  | .fields l => let b := placeFields l 0; padTo (max 64 (alignUp b.length 64)) b
  | .entries total returned head es =>
    padTo 64 (placeFields ((4, total) :: (4, returned) :: head) 0) ++ (es.map fun e => placeFields e 0).flatten
  | .bytes b => b

/-- BODY_LEN of a response body. -/
def RespBody.len (b : RespBody) : Nat := b.toBytes.length

/-- A list response from START: as many whole entries as fit in 65,472 B (R644). -/
def listBody (start size : Nat) (head : List (Nat × Nat)) (all : List (List (Nat × Nat))) : RespBody :=
  let es := (all.drop start).take ((65472 - 64) / size)
  .entries all.length es.length head es

/-! ### The command index (Table 23-3) -/

/-- A command's row: opcode, seat 0 only, body size (none: 64 × n with n from 1 to 1,023), and the flags L, A, F, S, M
and P of R647. -/
structure OpInfo where
  opcode : Nat
  seat0 : Bool := false
  body : Option Nat := some 64
  a : Bool := false
  f : Bool := false
  s : Bool := false
  m : Bool := false
  p : Bool := false
  long : Bool := false
  deriving DecidableEq, Repr

/-- IDENTIFY_SEAT (Table 23-3). -/
def Op.identifySeat : OpInfo :=
  { opcode := 0xC000, seat0 := false, body := some 0, a := false, f := true, s := true, m := true, p := false, long := false }

/-- NEGOTIATE_VERSION (Table 23-3). -/
def Op.negotiateVersion : OpInfo :=
  { opcode := 0xC001, seat0 := false, body := some 64, a := false, f := true, s := true, m := false, p := false, long := false }

/-- SET_NOTICE_RING (Table 23-3). -/
def Op.setNoticeRing : OpInfo :=
  { opcode := 0xC002, seat0 := false, body := some 64, a := false, f := false, s := false, m := false, p := false, long := false }

/-- GET_OPERATION (Table 23-3). -/
def Op.getOperation : OpInfo :=
  { opcode := 0xC003, seat0 := false, body := some 64, a := false, f := false, s := false, m := false, p := false, long := false }

/-- SET_PORT_CONFIG (Table 23-3). -/
def Op.setPortConfig : OpInfo :=
  { opcode := 0xC010, seat0 := true, body := some 64, a := false, f := true, s := false, m := true, p := true, long := false }

/-- MAP_SEAT (Table 23-3). -/
def Op.mapSeat : OpInfo :=
  { opcode := 0xC011, seat0 := true, body := some 64, a := false, f := true, s := false, m := true, p := true, long := false }

/-- LOAD_PARTITION (Table 23-3). -/
def Op.loadPartition : OpInfo :=
  { opcode := 0xC100, seat0 := true, body := some 64, a := true, f := false, s := false, m := false, p := false, long := false }

/-- QUERY_PARTITION (Table 23-3). -/
def Op.queryPartition : OpInfo :=
  { opcode := 0xC101, seat0 := false, body := some 64, a := false, f := false, s := false, m := false, p := false, long := false }

/-- SWAP_OUT_PARTITION (Table 23-3). -/
def Op.swapOutPartition : OpInfo :=
  { opcode := 0xC102, seat0 := true, body := some 64, a := true, f := false, s := false, m := false, p := false, long := true }

/-- SWAP_IN_PARTITION (Table 23-3). -/
def Op.swapInPartition : OpInfo :=
  { opcode := 0xC103, seat0 := true, body := some 64, a := true, f := false, s := false, m := false, p := false, long := true }

/-- UNLOAD_PARTITION (Table 23-3). -/
def Op.unloadPartition : OpInfo :=
  { opcode := 0xC104, seat0 := true, body := some 64, a := true, f := false, s := false, m := false, p := false, long := true }

/-- BIND_KV_WINDOW (Table 23-3). -/
def Op.bindKvWindow : OpInfo :=
  { opcode := 0xC105, seat0 := false, body := some 64, a := false, f := false, s := false, m := false, p := false, long := false }

/-- UNBIND_KV_WINDOW (Table 23-3). -/
def Op.unbindKvWindow : OpInfo :=
  { opcode := 0xC106, seat0 := false, body := some 64, a := false, f := false, s := false, m := false, p := false, long := false }

/-- LIST_IMAGES (Table 23-3). -/
def Op.listImages : OpInfo :=
  { opcode := 0xC107, seat0 := false, body := some 0, a := false, f := false, s := false, m := false, p := false, long := false }

/-- DELETE_IMAGE (Table 23-3). -/
def Op.deleteImage : OpInfo :=
  { opcode := 0xC108, seat0 := true, body := some 64, a := true, f := false, s := false, m := false, p := false, long := false }

/-- CREATE_TENANT (Table 23-3). -/
def Op.createTenant : OpInfo :=
  { opcode := 0xC200, seat0 := true, body := some 64, a := true, f := false, s := false, m := false, p := true, long := false }

/-- DELETE_TENANT (Table 23-3). -/
def Op.deleteTenant : OpInfo :=
  { opcode := 0xC201, seat0 := true, body := some 64, a := true, f := false, s := false, m := false, p := true, long := false }

/-- SET_TENANT_BUDGET (Table 23-3). -/
def Op.setTenantBudget : OpInfo :=
  { opcode := 0xC202, seat0 := true, body := some 64, a := true, f := false, s := false, m := false, p := true, long := false }

/-- GRANT_BUDGET (Table 23-3). -/
def Op.grantBudget : OpInfo :=
  { opcode := 0xC203, seat0 := true, body := some 64, a := true, f := false, s := false, m := false, p := true, long := false }

/-- QUERY_TENANT (Table 23-3). -/
def Op.queryTenant : OpInfo :=
  { opcode := 0xC204, seat0 := false, body := some 64, a := true, f := false, s := false, m := false, p := false, long := false }

/-- SET_SEAT_QUOTA (Table 23-3). -/
def Op.setSeatQuota : OpInfo :=
  { opcode := 0xC205, seat0 := true, body := some 64, a := true, f := false, s := false, m := false, p := true, long := false }

/-- SET_PARTITION_CAP (Table 23-3). -/
def Op.setPartitionCap : OpInfo :=
  { opcode := 0xC206, seat0 := true, body := some 64, a := true, f := false, s := false, m := false, p := true, long := false }

/-- QUERY_CAPACITY (Table 23-3). -/
def Op.queryCapacity : OpInfo :=
  { opcode := 0xC207, seat0 := false, body := some 0, a := true, f := false, s := false, m := false, p := false, long := false }

/-- ADMIT_REQUEST (Table 23-3). -/
def Op.admitRequest : OpInfo :=
  { opcode := 0xC210, seat0 := false, body := some 64, a := true, f := false, s := false, m := false, p := false, long := false }

/-- COMMIT_PROMPT (Table 23-3). -/
def Op.commitPrompt : OpInfo :=
  { opcode := 0xC211, seat0 := false, body := some 64, a := true, f := false, s := false, m := false, p := false, long := false }

/-- SET_REQUEST (Table 23-3). -/
def Op.setRequest : OpInfo :=
  { opcode := 0xC212, seat0 := false, body := some 64, a := true, f := false, s := false, m := false, p := false, long := false }

/-- CANCEL_REQUEST (Table 23-3). -/
def Op.cancelRequest : OpInfo :=
  { opcode := 0xC213, seat0 := false, body := some 64, a := true, f := false, s := false, m := false, p := false, long := false }

/-- QUERY_REQUEST (Table 23-3). -/
def Op.queryRequest : OpInfo :=
  { opcode := 0xC214, seat0 := false, body := some 64, a := true, f := false, s := false, m := false, p := false, long := false }

/-- LIST_REQUESTS (Table 23-3). -/
def Op.listRequests : OpInfo :=
  { opcode := 0xC215, seat0 := false, body := some 64, a := true, f := false, s := false, m := false, p := false, long := false }

/-- CREATE_STEP_RING (Table 23-3). -/
def Op.createStepRing : OpInfo :=
  { opcode := 0xC300, seat0 := false, body := some 64, a := false, f := false, s := false, m := false, p := false, long := false }

/-- DESTROY_STEP_RING (Table 23-3). -/
def Op.destroyStepRing : OpInfo :=
  { opcode := 0xC301, seat0 := false, body := some 64, a := false, f := false, s := false, m := false, p := false, long := false }

/-- CLOSE_STEP (Table 23-3). -/
def Op.closeStep : OpInfo :=
  { opcode := 0xC302, seat0 := false, body := some 64, a := false, f := false, s := false, m := false, p := false, long := false }

/-- QUERY_STEP (Table 23-3). -/
def Op.queryStep : OpInfo :=
  { opcode := 0xC303, seat0 := false, body := some 64, a := false, f := false, s := false, m := false, p := false, long := false }

/-- REGISTER_WINDOW (Table 23-3). -/
def Op.registerWindow : OpInfo :=
  { opcode := 0xC304, seat0 := false, body := some 64, a := false, f := false, s := false, m := false, p := false, long := false }

/-- RELEASE_WINDOW (Table 23-3). -/
def Op.releaseWindow : OpInfo :=
  { opcode := 0xC305, seat0 := false, body := some 64, a := false, f := false, s := false, m := false, p := false, long := false }

/-- SET_DIGESTS (Table 23-3). -/
def Op.setDigests : OpInfo :=
  { opcode := 0xC306, seat0 := true, body := some 64, a := false, f := false, s := false, m := false, p := false, long := false }

/-- SET_SELECTION (Table 23-3). -/
def Op.setSelection : OpInfo :=
  { opcode := 0xC307, seat0 := false, body := some 64, a := false, f := false, s := false, m := false, p := false, long := false }

/-- LOOKUP_PREFIX (Table 23-3). -/
def Op.lookupPrefix : OpInfo :=
  { opcode := 0xC400, seat0 := false, body := some 64, a := true, f := false, s := false, m := false, p := false, long := true }

/-- INSERT_PREFIX (Table 23-3). -/
def Op.insertPrefix : OpInfo :=
  { opcode := 0xC401, seat0 := false, body := some 64, a := true, f := false, s := false, m := false, p := false, long := true }

/-- PIN_PREFIX (Table 23-3). -/
def Op.pinPrefix : OpInfo :=
  { opcode := 0xC402, seat0 := false, body := some 64, a := true, f := false, s := false, m := false, p := false, long := false }

/-- UNPIN_PREFIX (Table 23-3). -/
def Op.unpinPrefix : OpInfo :=
  { opcode := 0xC403, seat0 := false, body := some 64, a := true, f := false, s := false, m := false, p := false, long := false }

/-- QUERY_PREFIX (Table 23-3). -/
def Op.queryPrefix : OpInfo :=
  { opcode := 0xC404, seat0 := false, body := some 64, a := true, f := false, s := false, m := false, p := false, long := false }

/-- SET_PREFIX_POLICY (Table 23-3). -/
def Op.setPrefixPolicy : OpInfo :=
  { opcode := 0xC405, seat0 := true, body := some 64, a := true, f := false, s := false, m := false, p := true, long := false }

/-- PURGE_PREFIX (Table 23-3). -/
def Op.purgePrefix : OpInfo :=
  { opcode := 0xC406, seat0 := true, body := some 64, a := true, f := false, s := false, m := false, p := false, long := true }

/-- QUERY_PREFIX_STORE (Table 23-3). -/
def Op.queryPrefixStore : OpInfo :=
  { opcode := 0xC407, seat0 := false, body := some 64, a := true, f := false, s := false, m := false, p := false, long := false }

/-- PARK_CONVERSATION (Table 23-3). -/
def Op.parkConversation : OpInfo :=
  { opcode := 0xC500, seat0 := false, body := some 64, a := true, f := false, s := false, m := false, p := false, long := true }

/-- UNPARK_CONVERSATION (Table 23-3). -/
def Op.unparkConversation : OpInfo :=
  { opcode := 0xC501, seat0 := false, body := some 64, a := true, f := false, s := false, m := false, p := false, long := true }

/-- RENEW_PARK (Table 23-3). -/
def Op.renewPark : OpInfo :=
  { opcode := 0xC502, seat0 := false, body := some 64, a := true, f := false, s := false, m := false, p := false, long := false }

/-- QUERY_TICKET (Table 23-3). -/
def Op.queryTicket : OpInfo :=
  { opcode := 0xC503, seat0 := false, body := some 64, a := true, f := false, s := false, m := false, p := false, long := false }

/-- DISCARD_TICKET (Table 23-3). -/
def Op.discardTicket : OpInfo :=
  { opcode := 0xC504, seat0 := false, body := some 64, a := true, f := false, s := false, m := false, p := false, long := false }

/-- PULL_KV (Table 23-3). -/
def Op.pullKv : OpInfo :=
  { opcode := 0xC505, seat0 := false, body := some 64, a := true, f := false, s := false, m := false, p := false, long := true }

/-- PARK_REGION (Table 23-3). -/
def Op.parkRegion : OpInfo :=
  { opcode := 0xC506, seat0 := false, body := some 64, a := true, f := false, s := false, m := false, p := false, long := true }

/-- UNPARK_REGION (Table 23-3). -/
def Op.unparkRegion : OpInfo :=
  { opcode := 0xC507, seat0 := false, body := some 64, a := true, f := false, s := false, m := false, p := false, long := true }

/-- SET_TIER_CONFIG (Table 23-3). -/
def Op.setTierConfig : OpInfo :=
  { opcode := 0xC508, seat0 := true, body := some 64, a := false, f := false, s := false, m := false, p := true, long := false }

/-- QUERY_TIERS (Table 23-3). -/
def Op.queryTiers : OpInfo :=
  { opcode := 0xC509, seat0 := false, body := some 0, a := false, f := false, s := false, m := false, p := false, long := false }

/-- QUERY_FLASH (Table 23-3). -/
def Op.queryFlash : OpInfo :=
  { opcode := 0xC50A, seat0 := false, body := some 0, a := false, f := false, s := false, m := false, p := false, long := false }

/-- SET_LOGIT_WINDOW (Table 23-3). -/
def Op.setLogitWindow : OpInfo :=
  { opcode := 0xC600, seat0 := false, body := some 64, a := true, f := false, s := false, m := false, p := false, long := false }

/-- LOAD_COUNTS (Table 23-3). -/
def Op.loadCounts : OpInfo :=
  { opcode := 0xC601, seat0 := false, body := some 64, a := true, f := false, s := false, m := false, p := false, long := true }

/-- CLEAR_COUNTS (Table 23-3). -/
def Op.clearCounts : OpInfo :=
  { opcode := 0xC602, seat0 := false, body := some 64, a := true, f := false, s := false, m := false, p := false, long := false }

/-- QUERY_COUNTS (Table 23-3). -/
def Op.queryCounts : OpInfo :=
  { opcode := 0xC603, seat0 := false, body := some 64, a := true, f := false, s := false, m := false, p := false, long := false }

/-- ALLOCATE_REGION (Table 23-3). -/
def Op.allocateRegion : OpInfo :=
  { opcode := 0xC700, seat0 := false, body := some 64, a := true, f := false, s := false, m := false, p := false, long := true }

/-- FREE_REGION (Table 23-3). -/
def Op.freeRegion : OpInfo :=
  { opcode := 0xC701, seat0 := false, body := some 64, a := true, f := false, s := false, m := false, p := false, long := true }

/-- QUERY_REGION (Table 23-3). -/
def Op.queryRegion : OpInfo :=
  { opcode := 0xC702, seat0 := false, body := some 64, a := true, f := false, s := false, m := false, p := false, long := false }

/-- GRANT_REGION (Table 23-3). -/
def Op.grantRegion : OpInfo :=
  { opcode := 0xC703, seat0 := false, body := some 64, a := true, f := false, s := false, m := false, p := false, long := true }

/-- ATTACH_REGION (Table 23-3). -/
def Op.attachRegion : OpInfo :=
  { opcode := 0xC704, seat0 := false, body := some 64, a := true, f := false, s := false, m := false, p := false, long := false }

/-- DETACH_REGION (Table 23-3). -/
def Op.detachRegion : OpInfo :=
  { opcode := 0xC705, seat0 := false, body := some 64, a := true, f := false, s := false, m := false, p := false, long := false }

/-- SET_POOL_LIMITS (Table 23-3). -/
def Op.setPoolLimits : OpInfo :=
  { opcode := 0xC706, seat0 := true, body := some 64, a := true, f := false, s := false, m := false, p := true, long := false }

/-- QUERY_POOL_LIMITS (Table 23-3). -/
def Op.queryPoolLimits : OpInfo :=
  { opcode := 0xC707, seat0 := false, body := some 64, a := true, f := false, s := false, m := false, p := false, long := false }

/-- QUERY_KEY_SLOTS (Table 23-3). -/
def Op.queryKeySlots : OpInfo :=
  { opcode := 0xC708, seat0 := false, body := some 0, a := false, f := false, s := false, m := false, p := false, long := false }

/-- POOL_OPERATION (Table 23-3). -/
def Op.poolOperation : OpInfo :=
  { opcode := 0xC710, seat0 := false, body := none, a := true, f := false, s := false, m := false, p := false, long := true }

/-- JOIN_POOL_SET (Table 23-3). -/
def Op.joinPoolSet : OpInfo :=
  { opcode := 0xC720, seat0 := true, body := some 64, a := true, f := false, s := false, m := false, p := true, long := true }

/-- LEAVE_POOL_SET (Table 23-3). -/
def Op.leavePoolSet : OpInfo :=
  { opcode := 0xC721, seat0 := true, body := some 0, a := true, f := false, s := false, m := false, p := true, long := true }

/-- QUERY_POOL_SET (Table 23-3). -/
def Op.queryPoolSet : OpInfo :=
  { opcode := 0xC722, seat0 := false, body := some 0, a := false, f := false, s := false, m := false, p := false, long := false }

/-- REBUILD_MEMBER (Table 23-3). -/
def Op.rebuildMember : OpInfo :=
  { opcode := 0xC723, seat0 := true, body := some 0, a := true, f := false, s := false, m := false, p := false, long := true }

/-- QUERY_LINE (Table 23-3). -/
def Op.queryLine : OpInfo :=
  { opcode := 0xC760, seat0 := false, body := some 64, a := false, f := false, s := false, m := false, p := false, long := false }

/-- FENCE_SEAT (Table 23-3). -/
def Op.fenceSeat : OpInfo :=
  { opcode := 0xC761, seat0 := true, body := some 64, a := false, f := false, s := false, m := false, p := false, long := false }

/-- UNFENCE_SEAT (Table 23-3). -/
def Op.unfenceSeat : OpInfo :=
  { opcode := 0xC762, seat0 := true, body := some 64, a := false, f := false, s := false, m := false, p := false, long := false }

/-- QUERY_COHERENCE (Table 23-3). -/
def Op.queryCoherence : OpInfo :=
  { opcode := 0xC763, seat0 := false, body := some 0, a := false, f := false, s := false, m := false, p := false, long := false }

/-- OPEN_RUN (Table 23-3). -/
def Op.openRun : OpInfo :=
  { opcode := 0xC800, seat0 := false, body := some 64, a := true, f := false, s := false, m := false, p := false, long := false }

/-- CLOSE_RUN (Table 23-3). -/
def Op.closeRun : OpInfo :=
  { opcode := 0xC801, seat0 := false, body := some 64, a := true, f := false, s := false, m := false, p := false, long := true }

/-- STASH_TRANSFER (Table 23-3). -/
def Op.stashTransfer : OpInfo :=
  { opcode := 0xC802, seat0 := false, body := none, a := true, f := false, s := false, m := false, p := false, long := true }

/-- SET_SCHEDULE (Table 23-3). -/
def Op.setSchedule : OpInfo :=
  { opcode := 0xC803, seat0 := false, body := some 64, a := true, f := false, s := false, m := false, p := false, long := true }

/-- QUERY_STASH (Table 23-3). -/
def Op.queryStash : OpInfo :=
  { opcode := 0xC804, seat0 := false, body := some 64, a := true, f := false, s := false, m := false, p := false, long := false }

/-- SET_TELEMETRY_RING (Table 23-3). -/
def Op.setTelemetryRing : OpInfo :=
  { opcode := 0xC900, seat0 := true, body := some 64, a := false, f := false, s := false, m := false, p := false, long := false }

/-- QUERY_POWER (Table 23-3). -/
def Op.queryPower : OpInfo :=
  { opcode := 0xC901, seat0 := false, body := some 0, a := false, f := true, s := true, m := false, p := false, long := false }

/-- QUERY_OC_REGIONS (Table 23-3). -/
def Op.queryOcRegions : OpInfo :=
  { opcode := 0xC902, seat0 := false, body := some 0, a := false, f := true, s := true, m := false, p := false, long := false }

/-- SET_POWER_CONFIG (Table 23-3). -/
def Op.setPowerConfig : OpInfo :=
  { opcode := 0xC903, seat0 := true, body := some 64, a := false, f := false, s := false, m := false, p := false, long := false }

/-- QUERY_HOLDUP (Table 23-3). -/
def Op.queryHoldup : OpInfo :=
  { opcode := 0xC940, seat0 := false, body := some 0, a := false, f := true, s := true, m := true, p := false, long := false }

/-- TEST_HOLDUP (Table 23-3). -/
def Op.testHoldup : OpInfo :=
  { opcode := 0xC941, seat0 := true, body := some 0, a := false, f := false, s := false, m := false, p := false, long := true }

/-- SET_HOLDUP_CONFIG (Table 23-3). -/
def Op.setHoldupConfig : OpInfo :=
  { opcode := 0xC942, seat0 := true, body := some 64, a := false, f := false, s := false, m := false, p := true, long := false }

/-- READ_FAULT_RECORDS (Table 23-3). -/
def Op.readFaultRecords : OpInfo :=
  { opcode := 0xCA00, seat0 := false, body := some 64, a := false, f := true, s := true, m := true, p := false, long := false }

/-- CLEAR_FAULT_RECORDS (Table 23-3). -/
def Op.clearFaultRecords : OpInfo :=
  { opcode := 0xCA01, seat0 := true, body := some 64, a := false, f := true, s := true, m := true, p := false, long := false }

/-- QUERY_FAULT_STATE (Table 23-3). -/
def Op.queryFaultState : OpInfo :=
  { opcode := 0xCA02, seat0 := false, body := some 0, a := false, f := true, s := true, m := true, p := false, long := false }

/-- QUERY_DUMP (Table 23-3). -/
def Op.queryDump : OpInfo :=
  { opcode := 0xCA03, seat0 := true, body := some 0, a := false, f := true, s := true, m := true, p := false, long := false }

/-- READ_DUMP (Table 23-3). -/
def Op.readDump : OpInfo :=
  { opcode := 0xCA04, seat0 := true, body := some 64, a := false, f := true, s := true, m := true, p := false, long := false }

/-- CLEAR_DUMP (Table 23-3). -/
def Op.clearDump : OpInfo :=
  { opcode := 0xCA05, seat0 := true, body := some 64, a := false, f := true, s := true, m := true, p := false, long := false }

/-- INJECT_FAULT (Table 23-3). -/
def Op.injectFault : OpInfo :=
  { opcode := 0xCA06, seat0 := true, body := some 64, a := false, f := false, s := true, m := true, p := false, long := false }

/-- QUERY_FIRMWARE (Table 23-3). -/
def Op.queryFirmware : OpInfo :=
  { opcode := 0xCB00, seat0 := false, body := some 0, a := false, f := true, s := true, m := true, p := false, long := false }

/-- WRITE_FIRMWARE (Table 23-3). -/
def Op.writeFirmware : OpInfo :=
  { opcode := 0xCB01, seat0 := true, body := some 64, a := false, f := false, s := true, m := false, p := false, long := true }

/-- ACTIVATE_FIRMWARE (Table 23-3). -/
def Op.activateFirmware : OpInfo :=
  { opcode := 0xCB02, seat0 := true, body := some 0, a := false, f := false, s := true, m := false, p := false, long := true }

/-- RESTART_FIRMWARE (Table 23-3). -/
def Op.restartFirmware : OpInfo :=
  { opcode := 0xCB20, seat0 := true, body := some 0, a := false, f := false, s := false, m := false, p := false, long := true }

/-- RESET_WARM (Table 23-3). -/
def Op.resetWarm : OpInfo :=
  { opcode := 0xCB21, seat0 := true, body := some 0, a := false, f := false, s := false, m := false, p := false, long := false }

/-- SHOAL_ENCODE (Table 23-3). -/
def Op.shoalEncode : OpInfo :=
  { opcode := 0xCB30, seat0 := true, body := some 64, a := false, f := false, s := false, m := false, p := false, long := false }

/-- SHOAL_DECODE (Table 23-3). -/
def Op.shoalDecode : OpInfo :=
  { opcode := 0xCB31, seat0 := true, body := some 64, a := false, f := false, s := false, m := false, p := false, long := false }

end Sys2Proof.Machine
end

