-- ==== Sys2Proof/Machine/Mailbox.lean ====
section
/-! DEFINITION. The command mailbox: the doorbell, the order of checks of R82, claims, responses and long-running
operations. -/

namespace Sys2Proof.Machine

/-- What a command answers (Table 3-7). -/
structure Reply where
  status : Status := .ok
  /-- RETRY_AFTER in µs, with BUSY. -/
  retry : Nat := 0
  /-- EFF_PART and EFF_STEP of a staged effect. -/
  staged : Option (Nat × Nat) := none
  /-- The operation started by a long-running command. -/
  op : Option Nat := none
  body : RespBody := .none
  /-- The object a BUSY is answered on (R92). -/
  busyOn : Option ClaimObj := none
  deriving DecidableEq, Repr

/-- An answer of a bare status. -/
def Reply.of (st : Status) : Reply := { status := st }

/-- A BUSY on an object. -/
def Reply.busy (retry : Nat) (o : ClaimObj) : Reply := { status := .busy, retry := max 1 (min retry 65535), busyOn := some o }

/-- A BUSY that names no object. -/
def Reply.busyAnon (retry : Nat) : Reply := { status := .busy, retry := max 1 (min retry 65535) }

/-- An OK with fields. -/
def Reply.okFields (l : List (Nat × Nat)) : Reply := { body := .fields l }

/-! ### The doorbell (R78, R79) -/

/-- A port answers for an LD: its link is up and not stopped by an IDE failure, and without MLD operation the LD is LD-ID 0 (R41,
R56). -/
def ldReached (s : State) (port ld : Nat) : Bool :=
  let p := s.ports.get port
  p.linkUp && !p.ideFailed && (p.mld || ld = 0)

/-- A port takes CXL.mem and register accesses for an LD: it answers for the LD in CXL mode, with fresh keys after an integrity failure
(R36, R41, R56). -/
def memReached (s : State) (port ld : Nat) : Bool :=
  ldReached s port ld && (s.ports.get port).cxlMode && !(s.ports.get port).needKeys

/-- Whether the seat can be reached: mapped, and its port takes accesses for its LD (R36, R41, R45, R56). -/
def seatReached (s : State) (seat : Nat) : Bool :=
  match (s.seats.get seat).map with
  | none => false
  | some (p, l) => memReached s p l

/-- The seat's LD is in D3hot (R39). -/
def seatD3 (s : State) (seat : Nat) : Bool :=
  match (s.seats.get seat).map with
  | none => false
  | some (p, l) => (s.lds.get (ldKey p l)).d3hot

/-- Mailbox Control.Doorbell (R640). -/
def doorbell (s : State) (seat : Nat) : Bool :=
  let m := (s.seats.get seat).mbx
  m.latched.isSome || m.deferWait.isSome

/-- Change a seat's mailbox. -/
def updMbx (seat : Nat) (f : Mailbox → Mailbox) (s : State) : State := updSeat seat (fun t => { t with mbx := f t.mbx }) s

/-- A command of the mailbox waits for CC0: a latched one, or one that a seat reset left without its response (R83, R89). -/
def Mailbox.waits (m : Mailbox) : Bool := m.latched.isSome || !m.orphans.isEmpty

/-- Commands that CC0 takes before one that arrives at this seat now: those of the seats from the one after the seat it served last, and
the seat's own earlier ones (R89). -/
def aheadOf (s : State) (seat : Nat) : Bool :=
  (s.seats.get seat).mbx.waits || (List.range ((seat + 63 - s.lastServed) % 64)).any fun i =>
    (s.seats.get ((s.lastServed + 1 + i) % 64)).mbx.waits

/-- The command arrives: none when CC0 takes it now, otherwise the state after the doorbell write (R79, R89). On the firmware path the
records that wait go first (R107). -/
def doorWrite (seat : Nat) (self : Instr) (opcode : Nat) (s : State) : Option State :=
  let m := (s.seats.get seat).mbx
  if m.orphan.isSome || (m.waitingSince.isSome && !doorbell s seat) then none
  else if !seatReached s seat || seatD3 s seat then some s
  else if doorbell s seat then some (updMbx seat (fun m => { m with spoiled := true }) s)
  else if s.dev.fwReady && !aheadOf s seat && !recordsWait s then none
  else some (updMbx seat (fun m =>
    { m with latched := some self, waitingSince := some s.dev.devtime, opcode := opcode, posted := s.dev.devtime }) s)

/-- CC0 takes the command: T_POSTED is the doorbell's time, T_ACCEPT the present one (R79, R85). The mailbox does not show a command
whose response a seat reset has discarded. -/
def takeCmd (seat : Nat) (opcode : Nat) (s : State) : State :=
  let s := updMbx seat (fun m => if m.orphan.isSome then m else
    { m with posted := m.waitingSince.getD s.dev.devtime, waitingSince := none, opcode := opcode }) s
  { s with lastServed := seat }

/-! ### Responses (R80, R85) -/

/-- The negotiated-version word of the seat; for a command from before a seat reset, the one of then (R83). -/
def envVersion (s : State) (seat : Nat) : Nat := (s.seats.get seat).mbx.orphan.getD (s.seats.get seat).negVersion

/-- The response of a command from before a seat reset is discarded (R83). -/
def dropResp (seat : Nat) (s : State) : State := updMbx seat (fun m => { m with orphan := none }) s

/-- The response of the command in service is one a seat reset has discarded (R83). -/
def discards (s : State) (seat : Nat) : Bool := (s.seats.get seat).mbx.orphan.isSome

/-- Place a response in the seat's mailbox and clear the Doorbell (R77, R80, R85). -/
def placeResp (seat tag hostTime tPosted tAccept : Nat) (r : Reply) (s : State) : State :=
  let resp : Response :=
    { status := r.status, version := envVersion s seat, deferred := r.op.isSome, staged := r.staged.isSome, tag := tag
      retryAfter := if r.status = .busy then r.retry else 0
      effStep := (r.staged.map (·.2)).getD 0, effPart := (r.staged.map (·.1)).getD 255
      opid := (r.op.map fun n => (Config.opid n).toNat).getD 0
      tPosted := tPosted, tAccept := tAccept, tDone := s.dev.devtime, hostTime := hostTime
      bodyLen := r.body.len, body := r.body }
  let s := updMbx seat (fun m => { m with resp := some resp, returnCode := 0, extStatus := r.status.code,
                                          deferWait := none, latched := none }) s
  if (s.seats.get seat).mbx.irqEnable then emit (.msix seat 0) s else s

/-- The answer to a wrong payload length: a CXL return code and no envelope (R80). -/
def placeBadLength (seat : Nat) (s : State) : State :=
  if discards s seat then dropResp seat s else
  let s := updMbx seat (fun m => { m with returnCode := 0x16, extStatus := Status.invalid.code, latched := none }) s
  if (s.seats.get seat).mbx.irqEnable then emit (.msix seat 0) s else s

/-! ### Claims (R91, R92) -/

/-- Device time at which a claim lapses (R92). -/
def Claim.lapse (c : Claim) : Nat := c.last + c.retry * 1000 + 1000000

/-- Record a BUSY answered to a seat on an object: a new claim behind those held, or the seat's own refreshed. -/
def addClaim (seat retry : Nat) (o : ClaimObj) (s : State) : State :=
  let c : Claim := { obj := o, seat := seat, last := s.dev.devtime, retry := retry }
  if s.claims.any (fun c => c.obj = o && c.seat = seat) then
    { s with claims := updFirst (fun c => c.obj = o && c.seat = seat) (fun _ => c) s.claims }
  else { s with claims := s.claims ++ [c] }

/-- A seat's claims on the objects end once its command on them passes check 7 (R92). -/
def endClaims (seat : Nat) (objs : List ClaimObj) (s : State) : State :=
  { s with claims := s.claims.filter fun c => !(c.seat = seat && objs.contains c.obj) }

/-- Record a BUSY that named no object: until RETRY_AFTER has passed a retry of the opcode is answered BUSY (R91). -/
def noteBusy (seat retry : Nat) (s : State) : State :=
  updMbx seat (fun m =>
    let l := m.busyUntil.filter fun x => s.dev.devtime < x.2
    { m with busyUntil := if l.any (fun x => x.1 = m.opcode) then l else l ++ [(m.opcode, s.dev.devtime + retry * 1000)] }) s

/-- BUSY because RETRY_AFTER of the seat's last BUSY has not passed, with the time that remains (R91): a last BUSY on one of the objects,
whatever the command was (log entry 114), or one of the same opcode that named no object. -/
def tooSoon (seat opcode : Nat) (objs : List ClaimObj) (s : State) : Option Reply :=
  let left := fun t => ceilDiv (t - s.dev.devtime) 1000
  match objs.findSome? fun o =>
      (s.claims.find? fun c => c.obj = o && c.seat = seat && s.dev.devtime < c.last + c.retry * 1000).map fun c =>
        Reply.busy (left (c.last + c.retry * 1000)) o with
  | some r => some r
  | none => ((s.seats.get seat).mbx.busyUntil.find? fun x => x.1 = opcode && s.dev.devtime < x.2).map fun x => .busyAnon (left x.2)

/-- Operations of Delta (R198). -/
def OpKind.isDelta : OpKind → Bool
  | .lookup .. | .insertPfx .. | .purge .. => true
  | _ => false

/-- The partition a Delta operation runs on. -/
def OpKind.deltaPart : OpKind → Option Nat
  | .lookup p .. => some p
  | .insertPfx p .. => some p
  | .purge p => some p
  | _ => none

/-- Places of an object that are free: those of a device-wide limit, or the one of any other object once its cause has ended (R92, R198,
R339, R478). -/
def placesFree (s : State) : ClaimObj → Nat
  | .delta => 16 - (s.ops.filter fun o => o.done.isNone && o.kind.isDelta).length
  | .pulls => 2 - s.pulls.length
  | .poolOps => 64 - s.xfers.length
  | .stashOps => 64 - s.xfers.length
  | _ => 1

/-- Claims on an object that have not lapsed, in the order in which they were made (R92). -/
def claimsOn (s : State) (o : ClaimObj) : List Claim := s.claims.filter fun c => c.obj = o && decide (s.dev.devtime < c.lapse)

/-- BUSY only because claims of other seats hold an object whose cause has ended, each of them a place of it: RETRY_AFTER is the time until
the first of them would lapse (R92). -/
def claimBusy (seat : Nat) (s : State) (objs : List ClaimObj) : Option Reply :=
  objs.findSome? fun o =>
    let l := claimsOn s o
    let ahead := (l.findIdx? (·.seat = seat)).getD l.length
    if placesFree s o ≤ ahead then l.head?.map fun f => .busy (ceilDiv (f.lapse - s.dev.devtime) 1000) o else none

/-! ### Long-running operations (R86, R88) -/

/-- Start an operation for a command of a seat. -/
def startOp (e : Env) (k : OpKind) (s : State) : State × Nat :=
  let m := (s.seats.get e.seat).mbx
  let o : Op := { n := s.opCtr, seat := e.seat, kind := k, deferred := e.deferOk, tag := e.tag, hostTime := e.hostTime
                  tPosted := m.posted, tAccept := s.dev.devtime }
  ({ s with ops := s.ops ++ [o], opCtr := s.opCtr + 1 }, s.opCtr)

/-- The answer of an accepted long-running command: the response when DEFER_OK is 1, otherwise the Doorbell stays 1
(R86). -/
def acceptLong (e : Env) (n : Nat) (s : State) : State × Reply :=
  if e.deferOk || discards s e.seat then (s, { op := some n })
  else (updMbx e.seat (fun m => { m with deferWait := some n }) s, { op := some n })

/-- Finished deferred operations beyond a seat's 1,024 most recent are forgotten (R88); finished undeferred ones have no
OPID. -/
def pruneOps (s : State) : State :=
  { s with ops := s.ops.filter fun o =>
      o.done.isNone || (o.deferred && (s.ops.filter fun p => p.seat = o.seat && p.deferred && o.n < p.n).length < 1024) }

/-- End operation `n` with a status: its response when the mailbox waits for it, an OP_DONE notice when it was deferred
(R86; what it carries beside is the log's, entry 116). An operation whose response a seat reset discarded ends without either (R83). -/
def finishOpWith (n : Nat) (st : Status) (b : RespBody) (r : OpRes) (s : State) : State :=
  match s.ops.find? (fun o => o.n = n && o.done.isNone) with
  | none => s
  | some o =>
    let s := { s with ops := updFirst (fun o => o.n = n) (fun o => { o with done := some st }) s.ops }
    let s := if (s.seats.get o.seat).mbx.deferWait = some n then
        placeResp o.seat o.tag o.hostTime o.tPosted o.tAccept { status := st, body := b, retry := r.retry } s
      else if o.deferred then
        postNotice o.seat
          { kind := 0x80, status := st, value := (Config.opid n).toNat, handle := r.handle, step := r.first, dStart := r.second } s
      else s
    pruneOps s

/-- End operation `n` with a status and a response body. -/
def finishOpBody (n : Nat) (st : Status) (b : RespBody) (s : State) : State := finishOpWith n st b {} s

/-- The body of a CAPACITY answer, with the ACCOUNT that is short (log entry 28). -/
def accountBody (account : Nat) : RespBody := .fields [(4, 0), (1, 0), (1, account)]

/-- An operation ends with CAPACITY: the ACCOUNT that is short stands in the body and in the notice (log entry 116). -/
def finishShort (n account : Nat) (s : State) : State := finishOpWith n .capacity (accountBody account) { handle := account } s

/-- End operation `n` with a status and no body. -/
def finishOp (n : Nat) (st : Status) (s : State) : State := finishOpBody n st .none s

/-- Whether an operation of this kind runs. -/
def opRuns (s : State) (p : OpKind → Bool) : Bool := s.ops.any fun o => o.done.isNone && p o.kind

/-- The running operation of this kind. -/
def runningOp (s : State) (p : OpKind → Bool) : Option Op := s.ops.find? fun o => o.done.isNone && p o.kind

/-! ### The checks of R82 -/

/-- µs left of the bound of Tables 20-9 and 20-10 on Memory_Active, counted from T_0 (R581). -/
def memActiveBound (s : State) : Nat :=
  let b := if s.dev.warmStart then 12000000 else 150000000
  max 1 (ceilDiv (s.dev.t0 + b - s.dev.devtime) 1000)

/-- The remaining bound of a firmware restart in µs: 5 s for the operations and 40 ms for the cores (R573). -/
def restartBound (s : State) : Nat := ceilDiv (s.flt.restartAt + 5040000000 - s.dev.devtime) 1000

/-- Checks 3 to 6 of R82 that every command shares: version, privilege, Sable, and ADMIT_OPEN. -/
def gate (o : OpInfo) (e : Env) (s : State) : Option Reply :=
  if o.opcode != 0xC000 && o.opcode != 0xC001 &&
      (envVersion s e.seat = 0 || envVersion s e.seat != e.verMajor * 256 + e.verMinor) then some (.of .version)
  else if o.seat0 && e.seat != 0 then some (.of .denied)
  else if s.flt.sable && !o.s then some (.of .fatal)
  else if o.a && !s.dev.admitOpen then some (.of .notReady)
  else none

/-- The part of check 7 of R82 that every command shares: a retry that came too soon, HBM not yet trained, and a firmware restart (R91, R573,
R581). -/
def commonBusy (o : OpInfo) (e : Env) (objs : List ClaimObj) (s : State) : Option Reply :=
  match tooSoon e.seat o.opcode objs s with
  | some r => some r
  | none =>
    if !o.a && !o.f && !s.dev.memActive then some (.busyAnon (memActiveBound s))
    else if o.long && s.flt.restarting then some (.busyAnon (restartBound s))
    else none

/-- BODY_LEN is not what Table 23-3 gives the command (R643). -/
def badBody (o : OpInfo) (e : Env) : Bool :=
  match o.body with
  | some n => e.bodyLen != n
  | none => e.bodyLen % 64 != 0 || e.bodyLen = 0 || 64 * 1023 < e.bodyLen

/-- Checks 3 to 8 of R82, for a command whose own checks answer `own`: an own NOT_READY belongs to check 6 and an own BUSY to check 7,
before a claim of another seat and the body length (R92, R643). Beside the answer, whether check 7 was passed. -/
def judge (o : OpInfo) (e : Env) (objs : List ClaimObj) (own : Option Reply) (s : State) : Option Reply × Bool :=
  match gate o e s with
  | some r => (some r, false)
  | none =>
    if own.any (·.status = .notReady) then (own, false)
    else match commonBusy o e objs s with
      | some r => (some r, false)
      | none =>
        if own.any (·.status = .busy) then (own, false)
        else match claimBusy e.seat s objs with
          | some r => (some r, false)
          | none => (if badBody o e then some (.of .invalid) else own, true)

/-- Place an answer: a BUSY on an object adds the seat's claim (R92), one without an object is noted for its retry (R91); and a response
that a seat reset has discarded is dropped (R83). -/
def answer (e : Env) (r : Reply) (s : State) : State :=
  let m := (s.seats.get e.seat).mbx
  let s := match r.status, r.busyOn with
    | .busy, some o => addClaim e.seat r.retry o s
    | .busy, none => noteBusy e.seat r.retry s
    | _, _ => s
  if discards s e.seat then dropResp e.seat s
  else match r.op with
  | some _ => if e.deferOk then placeResp e.seat e.tag e.hostTime m.posted s.dev.devtime r s else s
  | none => placeResp e.seat e.tag e.hostTime m.posted s.dev.devtime r s

/-- Serve a taken command: the checks of R82 in order, then its effect. The seat's claims on its objects end once check 7 is passed (R92). -/
def serve (o : OpInfo) (e : Env) (objs : List ClaimObj) (check : State → Option Reply)
    (effect : State → State × Reply) (s : State) : State :=
  if e.payloadLen < 64 || e.payloadLen != 64 + e.bodyLen || 65472 < e.bodyLen then placeBadLength e.seat s
  else
    let v := judge o e objs (check s) s
    let t := if v.2 then endClaims e.seat objs s else s
    match v.1 with
    | some r => answer e r t
    | none =>
      let x := effect t
      answer e x.2 x.1

/-- A Carmir command arrives at its seat's mailbox (R78–R89). -/
def mailbox (o : OpInfo) (e : Env) (self : Instr) (objs : List ClaimObj) (check : State → Option Reply)
    (effect : State → State × Reply) (s : State) : Host.Outcome State Fault Refusal :=
  if 64 ≤ e.seat then .next s
  else match doorWrite e.seat self o.opcode s with
    | some t => .next t
    | none => .next (serve o e objs check effect (takeCmd e.seat o.opcode s))

end Sys2Proof.Machine
end

