-- ==== Sys2Proof/Machine/Flags.lean ====
section
/-! DEFINITION. The flags and status words the device computes: DevLoad, the port, seat, ring, mailbox and device
registers as a read of them returns. -/

namespace Sys2Proof.Machine

/-! ### Register views -/

/-- PRT_STATUS (Table 2-8). -/
def prtStatus (s : State) (port : Nat) : Nat :=
  let p := s.ports.get port
  ldCount s port * 2 ^ 16 + bit p.ideFailed * 2 ^ 15 + bit (p.ideKey.isSome || p.ioKey.isSome) * 2 ^ 14 + bit p.groupH * 2 ^ 13 +
  bit p.groupL * 2 ^ 12 + bit p.reversed * 2 ^ 11 + bit p.cxlMode * 2 ^ 10 + bit p.lopt * 2 ^ 9 +
  bit p.clkMode * 2 ^ 8 + (if p.width = 16 then 2 else if p.width = 8 then 1 else 0) * 2 ^ 6 + p.speed % 8 * 2 ^ 3 +
  bit p.mld * 4 + bit p.linkUp * 2 + bit p.retired

/-- PRT_CTRL (Table 22-10). -/
def prtCtrl (s : State) (port : Nat) : Nat := bit (s.ports.get port).clkModeNext * 2 + bit (s.ports.get port).clkMode

/-- One LDMAP entry (Table 22-11a). -/
def ldmapEntry (s : State) (port ld : Nat) : Nat :=
  match seatOfLd s port ld with
  | some n => 128 + n
  | none => 0

/-- PRT_LDMAPk (Table 22-11). -/
def prtLdmap (s : State) (port k : Nat) : Nat :=
  ldmapEntry s port (4 * k) + ldmapEntry s port (4 * k + 1) * 2 ^ 8 + ldmapEntry s port (4 * k + 2) * 2 ^ 16 +
  ldmapEntry s port (4 * k + 3) * 2 ^ 24

/-- SEAT_STATUS (Table 3-3); the fields firmware supplies read 0 without FW_READY (R623). -/
def seatStatus (s : State) (seat : Nat) : Nat :=
  let t := s.seats.get seat
  seat % 64 * 2 ^ 26 + (if s.dev.fwReady then t.negVersion else 0) * 2 ^ 10 + devState s * 2 ^ 8 +
  bit (s.dev.admitOpen && s.dev.fwReady) * 2 ^ 7 + bit s.dev.memActive * 2 ^ 6 + bit s.dev.fwReady * 2 ^ 5 +
  bit t.noticeLost * 2 ^ 4 + bit s.glb.hwparse * 2 ^ 3 + bit (seat = 0) * 2 ^ 2 + bit (seatD3 s seat) * 2 +
  bit t.map.isSome

/-- SEAT_NOTICE_CFG (Table 22-17). -/
def seatNoticeCfg (s : State) (seat : Nat) : Nat :=
  bit (s.seats.get seat).noticeSet * 2 ^ 31 + (s.seats.get seat).noticeLog2 % 16

/-- STP_CFG (Table 3-11). -/
def stpCfg (r : RingSet) : Nat :=
  bit r.live * 2 ^ 31 + r.part % 16 * 2 ^ 24 + r.sqLog2 % 16 * 2 ^ 16 + r.cqLog2 % 16 * 2 ^ 8 + bit r.cqPeer

/-- MBX_EXT_STATUS (Table 22-18). -/
def mbxExtStatus (s : State) (seat : Nat) : Nat :=
  let m := (s.seats.get seat).mbx
  bit m.deferWait.isSome * 8 + bit m.deferWait.isSome * 4 + bit m.latched.isSome * 2 + bit m.spoiled

/-- GLB_ID (Table 22-5). -/
def glbId (s : State) : Nat :=
  0x4800 * 2 ^ 48 + 1 * 2 ^ 40 + (if s.dev.fwReady then 3 * 2 ^ 32 + 2 * 2 ^ 24 else 0) + 0x1C5E

/-- GLB_RESET_CAUSE (Table 20-7). -/
def glbResetCause (s : State) : Nat := s.dev.causeFw % 16 * 16 + s.dev.causeLast % 16

/-- GLB_STEP_CTRL as read: the value last written (R4, R629). -/
def glbStepCtrl (s : State) : Nat := bit (s.glb.hwparsePend.getD s.glb.hwparse)

/-- CLK_STATUS (Table 20-4). -/
def clkStatus (s : State) : Nat :=
  bit s.dev.rootLock * 2 ^ 31 + bit s.dev.rootRosc * 2 ^ 30 + bit s.dev.refclkOk * 2 ^ 29 + bit s.dev.sscSeen * 2 ^ 28 +
  s.dev.portLock % 256 * 2 ^ 8 + Config.roscTrim.toNat

/-- Memory Device Status, Media Status (Table 22-16). -/
def mediaStatus (s : State) : Nat :=
  if s.flt.sable && s.flt.terminal then 2 else if s.dev.memActive then 1 else 0

/-- Device Status, Event Status of an LD (Table 22-16). -/
def eventStatus (d : Ld) : Nat :=
  bit (!d.infoLog.records.isEmpty) + 2 * bit (!d.warnLog.records.isEmpty) + 4 * bit (!d.failLog.records.isEmpty) +
  8 * bit (!d.fatalLog.records.isEmpty)

end Sys2Proof.Machine
end

