-- ==== Sys2Proof/Machine/Requests.lean ====
section
/-! DEFINITION. Operations on requests the families share: the capacity accounts, slots, prefix references, the ledger, and
freeing a request (chapters 5 and 7). -/

namespace Sys2Proof.Machine

/-! ### Capacity accounts (R145) -/

/-- Frames of the reserved areas (R315): the node area and the rest. -/
def reservedFrames (s : State) : Nat := 2 ^ s.glb.areaLog2 / 32768 + 737280

/-- R_k, remap frames for k retired pseudo-channels (R591): ⌈k × 9,437,184 / (256 − k)⌉. -/
def remapFor (k : Nat) : Nat := ceilDiv (k * 9437184) (256 - k)

/-- Limit of account 4 (R315, R591). -/
def frameLimit (s : State) : Nat :=
  9437184 - reservedFrames s - remapFor (s.flt.retiredPcs.length + s.flt.retiringPcs.length)

/-- GB set aside for the parity space (R488). -/
def parityGbHeld (s : State) : Nat := if s.pset.phase = .formed then s.pset.parityGb else 0

/-- Account 7's limit in map units with these area sizes: user flash outside the system, image and park areas and the parity
space (R316, R488), less what dead lanes take away (R390). -/
def homeLimitWith (s : State) (imageGb parkGb : Nat) : Nat :=
  (userBytes - (512 + imageGb + parkGb + parityGbHeld s) * 10 ^ 9) / 65536 - s.tier.homeLoss

/-- Limit of account 7 (R316). -/
def homeLimit (s : State) : Nat := homeLimitWith s s.tier.imageGb s.tier.parkGb

/-- An account's limit; 0 with no cap stands for none (Table 5-6). -/
def acctLimit (s : State) (code seat part : Nat) : Option Nat :=
  match code with
  | 1 => some 131072
  | 2 => some (if (s.seats.get seat).maxEntries = 0 then 131072 else (s.seats.get seat).maxEntries)
  | 3 => some (s.parts.get part).body.slots
  | 4 => some (frameLimit s)
  | 5 => if (s.parts.get part).cap = 0 then none else some (s.parts.get part).cap
  | 6 => if (s.seats.get seat).maxFrames = 0 then none else some (s.seats.get seat).maxFrames
  | 7 => some (homeLimit s)
  | _ => some 33554432

/-- An account's charge. -/
def acctCharge (s : State) (code seat part : Nat) : Nat :=
  match code with
  | 1 => s.acct.entries
  | 2 => s.acct.seatEntries.get seat
  | 3 => s.acct.partSlots.get part
  | 4 => s.acct.frames
  | 5 => s.acct.partFrames.get part
  | 6 => s.acct.seatFrames.get seat
  | 7 => s.acct.homes
  | _ => s.tickets.length

/-- Whether an account can absorb an amount. -/
def acctFits (s : State) (code seat part amount : Nat) : Bool :=
  match acctLimit s code seat part with
  | some l => amount = 0 || acctCharge s code seat part + amount ≤ l
  | none => true

/-- A charge to the accounts. -/
structure Charge where
  seat : Nat
  part : Nat
  entries : Nat := 0
  slots : Nat := 0
  frames : Nat := 0
  homes : Nat := 0
  /-- The frames also count against the seat (account 6). -/
  seatFrames : Bool := true
  deriving DecidableEq, Repr

/-- The amounts of a charge by account code, in table order. -/
def Charge.amounts (c : Charge) : List (Nat × Nat) :=
  [(1, c.entries), (2, c.entries), (3, c.slots), (4, c.frames), (5, c.frames),
   (6, if c.seatFrames then c.frames else 0), (7, c.homes)]

/-- The first account, in table order, that cannot absorb a charge (R145). -/
def shortAccount (s : State) (c : Charge) : Option Nat :=
  (c.amounts.find? fun a => !acctFits s a.1 c.seat c.part a.2).map (·.1)

/-- Make a charge. -/
def chargeAcct (c : Charge) (s : State) : State :=
  { s with acct := { s.acct with
      entries := s.acct.entries + c.entries,
      seatEntries := s.acct.seatEntries.upd c.seat (· + c.entries),
      partSlots := s.acct.partSlots.upd c.part (· + c.slots),
      frames := s.acct.frames + c.frames,
      partFrames := s.acct.partFrames.upd c.part (· + c.frames),
      seatFrames := (if c.seatFrames then s.acct.seatFrames.upd c.seat (· + c.frames) else s.acct.seatFrames),
      homes := s.acct.homes + c.homes } }

/-- Release a charge. -/
def releaseAcct (c : Charge) (s : State) : State :=
  { s with acct := { s.acct with
      entries := s.acct.entries - c.entries,
      seatEntries := s.acct.seatEntries.upd c.seat (· - c.entries),
      partSlots := s.acct.partSlots.upd c.part (· - c.slots),
      frames := s.acct.frames - c.frames,
      partFrames := s.acct.partFrames.upd c.part (· - c.frames),
      seatFrames := (if c.seatFrames then s.acct.seatFrames.upd c.seat (· - c.frames) else s.acct.seatFrames),
      homes := s.acct.homes - c.homes } }

/-! ### Reach slots (R144) -/

/-- Slots of a partition in use: by requests and by prefix nodes. -/
def usedSlots (s : State) (part : Nat) : List Nat :=
  ((s.rt.cells.filter fun c => c.2.part = part && c.2.state != .free).map fun c => c.2.slots).flatten ++
  (s.nodes.filter (·.part = part)).map (·.slot) ++
  ((s.parts.get part).storeSlots)

/-- The lowest `n` groups of `g` slots, from group `k` on, wholly free. -/
def lowestGroups (used : List Nat) (g : Nat) : Nat → Nat → Nat → List Nat
  | 0, _, _ => []
  | _ + 1, _, 0 => []
  | fuel + 1, k, n + 1 =>
    let slots := (List.range g).map fun i => k * g + i
    if slots.any used.contains then lowestGroups used g fuel (k + 1) (n + 1)
    else slots ++ lowestGroups used g fuel (k + 1) n

/-- The slots an admission of `n` own slots takes: the lowest free slots, or the lowest free aligned groups (R144). -/
def takeSlots (s : State) (part n : Nat) : List Nat :=
  let b := (s.parts.get part).body
  lowestGroups (usedSlots s part) b.group (b.slots / b.group) 0 (ceilDiv n b.group)

/-- Whether a frame carries slices of one of these slots of a partition. -/
def frameOfSlots (b : LoadBody) (part : Nat) (slots : List Nat) (k : FrameKey) : Bool :=
  match k with
  | .kv p n => p = part && slots.contains (slotOfFrame b n)
  | _ => false

/-! ### Prefix nodes and references (R214, R219–R226) -/

/-- The node of an index. -/
def nodeOf (s : State) (i : Nat) : Option Node := s.nodes.find? (·.idx = i)

/-- Change a node. -/
def updNode (i : Nat) (f : Node → Node) (s : State) : State := { s with nodes := updFirst (fun n => n.idx = i) f s.nodes }

/-- The LIVE node a prefix handle resolves to in a partition and tenant scope (R214). -/
def resolvePrefix (s : State) (part tenant h : Nat) : Option Node :=
  if h = 0 then none
  else s.nodes.find? fun n => n.state = .live && n.digest = h && n.part = part &&
    ((s.parts.get part).pfxScope = 0 || n.tenant = tenant)

/-- The path from the root to a node, root end first. -/
def pathTo (s : State) : Nat → Node → List Node
  | 0, n => [n]
  | fuel + 1, n =>
    if n.len = n.rows then [n]
    else match nodeOf s n.parent with
      | some p => pathTo s fuel p ++ [n]
      | none => [n]

/-- Evictable: LIVE with no holder and no child (R223). -/
def Node.evictable (n : Node) : Bool := n.state = .live && n.ref = 0 && n.kids = 0

/-- Remove a node from its partition's eviction list. -/
def unlist (n : Node) (s : State) : State := updPart n.part (fun p => { p with cold := p.cold.filter (· != n.idx) }) s

/-- A holder takes a reference (R223). -/
def takeRef (i : Nat) (s : State) : State :=
  match nodeOf s i with
  | some n => unlist n (updNode i (fun n => { n with ref := n.ref + 1 }) s)
  | none => s

/-- A holder releases its reference; a node that becomes evictable joins the warm end (R222, R223). -/
def dropRef (i : Nat) (s : State) : State :=
  let s := updNode i (fun n => { n with ref := n.ref - 1 }) s
  match nodeOf s i with
  | some n => if n.evictable then updPart n.part (fun p => { p with cold := p.cold.filter (· != i) ++ [i] }) s else s
  | none => s

/-- The node that owns a slot of a partition. -/
def nodeOfSlot (s : State) (part slot : Nat) : Option Node := s.nodes.find? fun n => n.part = part && n.slot = slot

/-- Release the references of reach-list entries with SH = 1 (R222). -/
def dropReachRefs (part : Nat) (l : List Reach) (s : State) : State :=
  l.foldl (fun s r => if r.sh then
    match nodeOfSlot s part r.slot with
    | some n => dropRef n.idx s
    | none => s
    else s) s

/-! ### The ledger (R150–R155) -/

/-- The journal quantum Q (R155). -/
def ledgerQ : Nat := 1024000

/-- Charge a tenant (R151, R155). -/
def chargeTenant (t amount : Nat) (s : State) : State :=
  let r := s.tenants.get t
  let consumed := r.consumed + amount
  let balance : Int := if r.unmetered then 0 else r.balance - amount
  let m := ceilDiv consumed ledgerQ * ledgerQ
  let r' := { r with consumed := consumed, balance := balance }
  let r' := if r.journalM < consumed then
      { r' with journalM := m, journalB := if r.unmetered then 0 else balance - (m - consumed : Nat) } else r'
  { s with tenants := s.tenants.set t r' }

/-- LIVE of a tenant: entries not FREE and tickets (Table 5-8). -/
def tenantLive (s : State) (t : Nat) : Nat :=
  (s.rt.cells.filter fun c => c.2.state != .free && c.2.tenant = t).length + (s.tickets.filter (·.tenant = t)).length

/-! ### The Request Table -/

/-- The entry Weir takes: the one free longest; never-used entries in ascending order first (R137; log entry 15). -/
def nextFreeRt (s : State) : Option Nat := if s.rtNext < 131072 then some s.rtNext else s.rtFree.head?

/-- Take that entry out of the free order. -/
def takeRt (s : State) : State :=
  if s.rtNext < 131072 then { s with rtNext := s.rtNext + 1 } else { s with rtFree := s.rtFree.drop 1 }

/-- GEN after an entry is freed; entry 0 never holds 0 (R137). -/
def nextGen (i g : Nat) : Nat := if i = 0 && g = 511 then 1 else (g + 1) % 512

/-- Free an entry: it keeps its advanced GEN and reads 0 in every other field (R135, R137). -/
def freeEntry (i : Nat) (s : State) : State :=
  { s with rt := s.rt.set i { gen := nextGen i (s.rt.get i).gen }, rtFree := s.rtFree ++ [i] }

/-- A request's slots and frames are held in HBM (Table 5-4). -/
def ReqState.holds : ReqState → Bool
  | .prefill | .active | .full | .parking | .unparking => true
  | _ => false

/-- Whether a frame belongs to an entry: own slices, reach list or sampler state (R142). -/
def frameOfRt (s : State) (i : Nat) (k : FrameKey) : Bool :=
  let e := s.rt.get i
  match k with
  | .reachList j _ => j = i
  | .sampler j _ => j = i
  | k => frameOfSlots (s.parts.get e.part).body e.part e.slots k

/-- Frames of an entry that are charged: none while its partition is SWAPPED (R126). -/
def heldFrames (s : State) (e : Rt) : Nat := if (s.parts.get e.part).state = .swapped then 0 else e.frames

/-- The digests of slots that are freed become invalid (R278). -/
def dropDigests (part : Nat) (slots : List Nat) (s : State) : State :=
  updPart part (fun p => { p with digestValid := p.digestValid.filter fun d => !slots.contains d.1 }) s

/-- Advance a request's length by one token; FULL at MAX_LEN (R138). -/
def advanceLength (h : Nat) (s : State) : State :=
  updRt h (fun e => { e with length := e.length + 1, state := if e.length + 1 = e.maxLen then .full else e.state }) s

/-- Change a request kept in its partition's step. -/
def updKept (part h : Nat) (f : Kept → Kept) (s : State) : State :=
  updPart part (fun p => { p with step := { p.step with kept := updFirst (fun k => k.handle = h) f p.step.kept } }) s

/-- An APPEND of a request has been written (R190): after the last layer's, a request that Eddy does not draw for in this
step advances its length. -/
def appendWritten (h layer : Nat) (s : State) : State :=
  let e := rtOf s h
  let p := s.parts.get e.part
  let s := updKept e.part h (fun k => { k with written := layer :: k.written }) s
  if layer + 1 = p.body.layers && !(p.step.sample && e.eddy) && p.step.kept.any (fun k => k.handle = h && !k.advanced) then
    advanceLength h (updKept e.part h (fun k => { k with advanced := true }) s)
  else s

/-- The little-endian field of `n` bytes at `off` of a record. -/
def fld (b : List Byte) (off n : Nat) : Nat := leNat ((b.drop off).take n)

/-- The first 64 bytes of a request's logit window. -/
def logitHeader (s : State) (h : Nat) : Option (List Byte) :=
  (rtOf s h).logit.bind fun w => hdmBytes s (rtOf s h).seat w.1 64

/-- The header of a request's window names a step (R292). -/
def headerNames (s : State) (h step : Nat) : Bool :=
  match logitHeader s h with
  | some b => fld b 0 4 = step
  | none => false

/-- Queue a request's draw (R292, R304). -/
def queueDraw (part h : Nat) (s : State) : State :=
  updKept part h (fun k => { k with drawQueued := true })
    { s with draws := s.draws ++ [{ handle := h, part := part, step := (s.parts.get part).stepNo, queued := s.dev.devtime }] }

/-- A request's window becomes ready (R292): kept in an OPEN or LAPSED sampling step whose number the header names, and no draw
queued before. -/
def becomesReady (s : State) (h step : Nat) : Bool :=
  let e := rtOf s h
  let x := (s.parts.get e.part).step
  (x.cond = .open_ || x.cond = .lapsed) && x.sample && e.eddy && step = (s.parts.get e.part).stepNo &&
    x.kept.any fun k => k.handle = h && !k.drawQueued && !k.drawDone

/-! ### KV windows (R122, R123) -/

/-- The KV space behind a window is in HBM (R123). -/
def windowOpen (s : State) (part : Nat) : Bool :=
  (s.parts.get part).state = .resident || (s.parts.get part).state = .draining

/-- Requests of a partition whose slices a window may reach: those that hold slots, but for one being parked or unparked
(R123, R337). -/
def windowRequests (s : State) (part : Nat) : List (Nat × Rt) := s.rt.cells.filter fun c => c.2.part = part &&
  (c.2.state = .prefill || c.2.state = .active || c.2.state = .full)

/-- A request's slot is its own. -/
def Rt.owns (e : Rt) (slot : Nat) : Bool := e.slots.contains slot

/-- A request references a prefix node's slot (R219, R220). -/
def refsSlot (s : State) (e : Rt) (slot : Nat) : Bool :=
  (e.reaches.any fun r => r.sh && r.slot = slot) ||
    (match e.cowFrom with
      | some (i, _) => ((nodeOf s i).map (·.slot)) = some slot
      | none => false)

/-- A slice is open to a seat (R123). -/
def sliceOpen (s : State) (seat part slot : Nat) : Bool :=
  (windowRequests s part).any fun c => c.2.seat = seat && (c.2.owns slot || refsSlot s c.2 slot)

/-- A step of the partition is open (Table 6-1: OPEN, LAPSED or CLOSING). -/
def stepOpen (s : State) (part : Nat) : Bool := (s.parts.get part).step.cond != .idle

/-- A request is kept in its partition's step. -/
def isKept (s : State) (part h : Nat) : Bool := (s.parts.get part).step.kept.any fun k => k.handle = h

/-- A seat may store into a slice (R123). -/
def sliceWritable (s : State) (seat part slot : Nat) : Bool :=
  (windowRequests s part).any fun c => c.2.seat = seat && c.2.owns slot &&
    !((windowRequests s part).any fun d => d.1 != c.1 && (d.2.owns slot || refsSlot s d.2 slot)) &&
    (nodeOfSlot s part slot).isNone && !(stepOpen s part && isKept s part (handleOfRt s c.1))

/-- The slot and layer of a KV-space offset. -/
def slotAt (b : LoadBody) (off : Nat) : Nat := off % (b.slots * b.stride) / b.stride
def layerAt (b : LoadBody) (off : Nat) : Nat := off / (b.slots * b.stride)

/-- Rows of the request's reach `j` that a copy-on-write fills: rows 0 to r − 1 of reach R_S (R220). -/
def Rt.copiedRows (e : Rt) (j : Nat) : Nat :=
  let shared := (e.reaches.filter (·.sh)).length
  if e.cow && j = shared then (match e.cowFrom with | some (_, r) => r | none => e.cowRows) else 0

/-- A line lies in rows that a copy-on-write gives a request in PREFILL (R220). -/
def inCopiedRows (s : State) (part off : Nat) : Bool :=
  let b := (s.parts.get part).body
  let o := off % b.stride
  s.rt.cells.any fun c => c.2.part = part && c.2.state = .prefill && c.2.cow &&
    (match c.2.reaches.find? (fun r => !r.sh) with
      | some r =>
        let n := c.2.copiedRows (c.2.reaches.filter (·.sh)).length * b.row
        r.slot = slotAt b off && (overlaps o 64 0 n || overlaps o 64 (b.tokens * b.row) n)
      | none => false)

/-- A KV window takes a store of a seat: the partition's KV is in HBM, the line lies in a slice that the seat may write, and in no row a
copy-on-write gives (R123, R220). -/
def windowTakes (s : State) (seat part off : Nat) : Bool :=
  let b := (s.parts.get part).body
  windowOpen s part && off % b.stride + 64 ≤ b.slice && sliceWritable s seat part (slotAt b off) && !inCopiedRows s part off

/-- A store through a KV window is written; the digest of its slice is invalid (R123, R278). -/
def windowNow (seat addr part off mask : Nat) (data : List Byte) (s : State) : State :=
  let b := (s.parts.get part).body
  let new := mergeMask mask (memBytes (s.parts.get part).kv off 64) data
  putFor [.hostWrite seat addr] (.kv part) off new
    (updPart part (fun p => { p with digestValid := p.digestValid.filter fun d => d != (slotAt b off, layerAt b off) }) s)

/-! ### The dirty ceiling's held writes (R324) -/

/-- What follows a held write of the device, or of a store that the watcher accepts, once it is made (R190, R292, R324). -/
def afterHeld (t : HeldTag) (s : State) : State :=
  match t with
  | .append h l => appendWritten h l s
  | .ring seat ring slot hpa =>
    enterStore seat ring slot (emit (.memCmp seat hpa 0 (seatDevLoad s seat)) s)
  | .header seat h hpa step =>
    let s := emit (.memCmp seat hpa 0 (seatDevLoad s seat)) s
    if becomesReady s h step then queueDraw (rtOf s h).part h s else s
  | .clear h => if handleCurrent s h then updRt h (fun e => { e with counts := [] }) s else s
  | _ => s

/-- Make a held write: a host's store is judged by what stands behind its address now (R123, R314); any other is written as it is. -/
def makeWrite (w : HeldWrite) (s : State) : State :=
  match w.tag, w.pieces with
  | .host seat hpa mask, (_, data) :: _ =>
    match placeOf64 s seat hpa with
    | .window part off => if windowTakes s seat part off then windowNow seat hpa part off mask data s else dropWrite seat part hpa s
    | .region r off wr => if regionOpen s r && wr then lineNow seat hpa r off mask data s else dropWrite seat 255 hpa s
    | .none => dropWrite seat 255 hpa s
  | t, l => afterHeld t (l.foldl (fun s x => putNow w.target x.1 x.2 s) s)

/-- Release held writes, oldest first, as far as each one's mark allows (R324). -/
def releaseHeld : List HeldWrite → State → State
  | [], s => s
  | w :: rest, s =>
    if w.pieces.any fun x => heldAt s w.stepWork w.target x.1 x.2.length then
      releaseHeld rest { s with tier := { s.tier with heldWrites := s.tier.heldWrites ++ [w] } }
    else releaseHeld rest (makeWrite w s)

/-- Write the completions and notices that waited for the ceiling (R325). -/
def releaseRings (s : State) : State :=
  s.seats.cells.foldl (fun s c =>
    let s := c.2.rings.cells.foldl (fun s r =>
      if r.2.backlog.isEmpty then s else drainBacklog c.1 r.1 (ringOf s c.1 r.1).backlog s) s
    if c.2.noticeHeld.isEmpty then s else flushNotices c.1 (s.seats.get c.1).noticeHeld s) s

/-- Release what the present D allows. -/
def releaseWrites (s : State) : State :=
  releaseRings (cohGo (releaseHeld s.tier.heldWrites { s with tier := { s.tier with heldWrites := [] } }))

/-- Release what an entry holds in accounts 3 to 6 (R147). -/
def releaseSlots (i : Nat) (s : State) : State :=
  let e := s.rt.get i
  releaseWrites (releaseAcct { seat := e.seat, part := e.part, slots := e.slots.length, frames := heldFrames s e }
    (dropDigests e.part e.slots s))

/-- Release what an entry holds in accounts 3 to 6, discarding its frames and homes (R147, R161). -/
def releaseHeld3to6 (i : Nat) (s : State) : State := releaseSlots i (dropFrames (frameOfRt s i) s)

/-! ### Evicting prefix nodes (R226) -/

/-- Nodes of a partition. -/
def partNodes (s : State) (part : Nat) : List Node := s.nodes.filter (·.part = part)

/-- Release a slot that no node owns any more: the slot itself, or its group once no node owns a slot of it (R212, R226). -/
def releaseSlot (n : Node) (s : State) : State :=
  let b := (s.parts.get n.part).body
  let k := n.slot
  let s := dropDigests n.part [k] s
  if 32768 ≤ b.stride then
    releaseWrites (releaseAcct { seat := 0, part := n.part, slots := 1, frames := b.slotFrames, homes := n.units, seatFrames := false }
      (dropFrames (frameOfSlots b n.part [k]) s))
  else
    let g := (List.range b.group).map fun i => k / b.group * b.group + i
    if (partNodes s n.part).any fun m => g.contains m.slot then s
    else
      let s := dropFrames (frameOfSlots b n.part g) s
      let s := updPart n.part (fun p => { p with storeSlots := p.storeSlots.filter fun x => !g.contains x }) s
      releaseWrites (releaseAcct
        { seat := 0, part := n.part, slots := b.group, frames := b.slotFrames, homes := ceilDiv b.slotFrames 2, seatFrames := false } s)

/-- A node loses a child, and with it its findable tail when the child was that; when the last is gone and it is evictable, it joins the
cold end (R223, R226). -/
def dropChild (n : Node) (s : State) : State :=
  if n.len = n.rows then
    updPart n.part (fun p => { p with rootKids := p.rootKids - 1, rootTail := if n.findable then 0 else p.rootTail }) s
  else
    let s := updNode n.parent (fun m => { m with kids := m.kids - 1, tailRows := if n.findable then 0 else m.tailRows }) s
    match nodeOf s n.parent with
    | some m => if m.evictable then updPart m.part (fun p => { p with cold := m.idx :: p.cold.filter (· != m.idx) }) s else s
    | none => s

/-- Evict a node, or take away one still BUILDING (R226). -/
def evict (n : Node) (s : State) : State :=
  let s := unlist n s
  dropChild n (releaseSlot n { s with nodes := s.nodes.filter (·.idx != n.idx) })

/-- Whether an operation works on a request. -/
def OpKind.onRequest (h : Nat) : OpKind → Bool
  | .pull g => g = h
  | .cow g => g = h
  | .loadCounts g _ _ => g = h
  | .insertPfx _ g _ _ _ => g = h
  | .park g _ _ => g = h
  | .unpark g _ => g = h
  | _ => false

/-- The answer of an insert (Table 7-6). -/
def insertBody (r : DeltaRun) : RespBody :=
  .fields [(8, if r.at_.isSome then (r.id.map (·.1)).getD 0 else 0), (4, r.len), (4, r.created), (4, r.moved), (1, r.reason), (1, bit r.pinned)]

/-- Take away the node an insert was still building. -/
def dropBuilding (o : Op) (s : State) : State :=
  match o.run.copying with
  | some (i, _, _) => match nodeOf s i with
    | some n => evict n s
    | none => s
  | none => s

/-- End every operation running for a request, with STALE_GENERATION; an insert keeps the nodes it has made (R161, R210). -/
def endRequestOps (h : Nat) (s : State) : State :=
  (s.ops.filter fun o => o.done.isNone && o.kind.onRequest h).foldl (fun s o => match o.kind with
    | .insertPfx .. => finishOpBody o.n .staleGeneration (insertBody { o.run with reason := 5 }) (dropBuilding o s)
    | _ => finishOp o.n .staleGeneration s) s

/-- Whether a unit belongs to a park: a home of its own slots, or its record. -/
def UnitKey.ofPark (pid : Nat) : UnitKey → Bool
  | .park p _ _ => p = pid
  | .parkRec p _ => p = pid
  | _ => false

/-- Free the flash of the parks a predicate names (R161, R334). -/
def freeParks (p : Park → Bool) (s : State) : State :=
  let s := (s.parks.filter p).foldl (fun s k => freeHomes (UnitKey.ofPark k.pid) s) s
  { s with parks := s.parks.filter fun k => !p k }

/-- Free a request (R161). -/
def freeRequest (h : Nat) (s : State) : State :=
  let i := handleRti h
  let e := s.rt.get i
  let s := endRequestOps h s
  let s := if e.state.holds then releaseHeld3to6 i s else s
  let s := dropReachRefs e.part e.reaches s
  let s := match e.cowFrom with
    | some (n, _) => dropRef n s
    | none => s
  let s := releaseAcct { seat := e.seat, part := e.part, entries := 1, homes := e.homeUnits } s
  let s := freeParks (fun p => p.handle = some h) s
  let s := { s with pulls := s.pulls.filter fun p => p.handle != h
                    draws := s.draws.filter fun d => d.handle != h }
  freeEntry i s

/-! ### Data a command or record names (R169) -/

/-- The extent lies in one region of the seat allocated with RESIDENT and without SHARED or PROTECTED, and is aligned
(R169). -/
def placedOk (s : State) (seat addr len align_ : Nat) : Bool :=
  addr % align_ = 0 &&
    (match regionAt s seat addr len with
      | some r => r.resident && !r.shared && !r.protected_
      | none => false)

/-- Cut a list of bytes into `n` little-endian 32-bit values. -/
def cut32 : Nat → List Byte → List Nat
  | 0, _ => []
  | n + 1, l => leNat (l.take 4) :: cut32 n (l.drop 4)

/-- A list of 32-bit values in a seat's HDM. -/
def words32 (s : State) (seat addr count : Nat) : Option (List Nat) :=
  (hdmBytes s seat addr (4 * count)).map (cut32 count)

/-- Whether data in a seat's HDM is damaged (R588). -/
def hdmDamaged (s : State) (seat addr len : Nat) : Bool :=
  match regionAt s seat addr len with
  | some r => damagedAt s (.region r.id) (addr - r.base) len
  | none => false

/-! ### Copy-on-write (R220) -/

/-- Rows 0 to `rows` − 1 of K and of V in every layer of one slot, each at its place in another. -/
def copyPieces (s : State) (part src dst rows : Nat) : List (Nat × List Byte) :=
  let b := (s.parts.get part).body
  ((List.range b.layers).map fun l => (List.range 2).map fun v =>
    let off := v * b.tokens * b.row
    (sliceAddr b l dst + off, memBytes (s.parts.get part).kv (sliceAddr b l src + off) (rows * b.row))).flatten

/-- Copy rows 0 to `rows` − 1 of K and of V in every layer from one slot to another; not while the ceiling holds a write of it (R209,
R220, R324). -/
def copyRows (part src dst rows : Nat) (s : State) : Option State := putAll false (.kv part) (copyPieces s part src dst rows) s

/-- End the copy-on-write of a request: the rows are copied into its first own reach and the tail's reference is
released; an admission that waited for it answers (R220). -/
def endCow (h : Nat) (s : State) : Option State :=
  let e := rtOf s h
  match e.cowFrom with
  | none => some s
  | some (i, rows) =>
    let copied := match nodeOf s i, e.reaches.find? (fun r => !r.sh) with
      | some n, some r => copyRows e.part n.slot r.slot rows (dropDigests e.part [r.slot] s)
      | _, _ => some s
    copied.map fun s =>
      let s := dropRef i (updRt h (fun e => { e with cowFrom := none }) s)
      match runningOp s (fun k => k = .cow h) with
      | some o => finishOpBody o.n .ok o.reply s
      | none => s

end Sys2Proof.Machine
end

