-- ==== Sys2Proof/Machine/Bulk.lean ====
section
/-! DEFINITION. BULK scheduling (§11.7): which queues have work, when only write-back is served, and the bounds that answers carry. The
shares of the round-robin appear in those bounds alone (log entry 105). -/

namespace Sys2Proof.Machine

/-! ### Blocks of a lane (R370, R371, R374, R375) -/

/-- Slots a stored unit takes (R370). -/
def slotsOf (len : Nat) : Nat := if len = 0xFFF then 64 else ceilDiv len 64

/-- Slots of a block's data pages: 4,064 pages of 16. -/
def blockSlots : Nat := 65024

/-- The block with the least value, the lowest number first. -/
def leastBlock (v : Nat → Nat) : List Nat → Option Nat
  | [] => none
  | b :: rest => match leastBlock v rest with
    | some c => if v c < v b then some c else some b
    | none => some b

/-- The map entry of a unit number. -/
def entOfUnit (s : State) (n : Nat) : Option MapEnt := s.flash.map.find? fun m => m.unit = n

/-- Whether a block's record still names the unit's place (R371). -/
def recValid (s : State) (b : Nat) (r : Nat × Nat × Nat) : Bool :=
  match entOfUnit s r.1 with
  | some m => !m.lost && !m.old && m.pos = b * 65536 + r.2.1
  | none => false

/-- Valid slots of a block. -/
def validSlots (s : State) (l b : Nat) : Nat :=
  ((((s.flash.lanes.get l).blocks.get b).recs.filter (recValid s b)).map fun r => slotsOf r.2.2).foldl (· + ·) 0

/-- Good blocks of a lane in a condition, in ascending order. -/
def blocksIn (s : State) (l : Nat) (c : BlkSt) : List Nat :=
  (goodBlocks s l).filter fun b => ((s.flash.lanes.get l).blocks.get b).st = c

/-- F, the free good map blocks of a lane: the free ones without those the system area still has to come (R367, R374). -/
def freeCount (s : State) (l : Nat) : Nat := (blocksIn s l .free).length - (8 - (s.flash.lanes.get l).sys.length)

/-- The next collection victim (R375). -/
def victimOf (s : State) (l : Nat) : Option Nat := leastBlock (validSlots s l) (blocksIn s l .closed)

/-! ### Queues (R341, Table 11-11) -/

/-- The BULK queues. -/
inductive BulkQ where
  | writeback | unpark | park | swap | stash | pool | prefixes | digest
  deriving DecidableEq, Repr

/-- All of them. -/
def BulkQ.all : List BulkQ := [.writeback, .unpark, .park, .swap, .stash, .pool, .prefixes, .digest]

/-- An M region is in HOLD: every frame spans every stack, so reads and writes of HBM wait (R552). -/
def hbmHalted (s : State) : Bool := s.pwr.held.any fun r => 40 ≤ r && r < 48

/-- D has reached C_D − H in FLUSH mode, where write-back is the only BULK work served (R324, R341). -/
def onlyWriteback (s : State) : Bool := s.tier.flushMode && s.tier.ceiling - headroom s ≤ dirtyCount s

/-- BULK does not go on: only write-back is served (R341), or HBM waits (R552). -/
def bulkClosed (s : State) : Bool := hbmHalted s || onlyWriteback s

/-- BULK work on flash does not go on; the F region's HOLD stops every channel transfer (R552). -/
def flashClosed (s : State) : Bool := s.pwr.held.contains 57 || bulkClosed s

/-- A dirty frame is eligible for write-back (R319, R413); a GPF Phase 2 writes back every one (R433). -/
def eligible (s : State) (f : FrameInfo) : Bool :=
  f.dirty && (unitOfFrame s f.key).isSome &&
    (f.lastWrite + 500000000 ≤ s.dev.devtime || !s.pwr.gpf.isEmpty ||
     (s.tier.flushMode && (s.tier.ceiling ≤ 2 * dirtyCount s ||
       (match frameLane s f.key with
         | some l => laneCeiling s ≤ 2 * laneDirty s l
         | none => false))))

/-- Slots of a partition that a request or node holds. -/
def heldSlots (s : State) (part : Nat) : List Nat := usedSlots s part

/-- The next digest to build: the lowest slot, then layer, that is held and invalid (R277). -/
def nextDigest (s : State) (part : Nat) : Option (Nat × Nat) :=
  let p := s.parts.get part
  if !p.digests || p.state != .resident then none
  else (heldSlots s part).foldl (fun (m : Option (Nat × Nat)) k =>
    match (List.range p.body.layers).find? fun l => !p.digestValid.contains (k, l) with
    | none => m
    | some l => match m with
      | none => some (k, l)
      | some (j, _) => if k < j then some (k, l) else m) none

/-- A queue has work (R342). -/
def BulkQ.hasWork (s : State) : BulkQ → Bool
  | .writeback => s.frames.any (eligible s)
  | .unpark => opRuns s fun k => match k with
    | .unpark .. => true
    | .unparkRegion _ => true
    | _ => false
  | .park => opRuns s fun k => match k with
    | .park h _ _ => (rtOf s h).state = .parking
    | .parkRegion _ => true
    | _ => false
  | .swap => match s.swap with
    | some w => (s.parts.get w.part).state != .draining
    | none => false
  | .stash => (s.xfers.any fun x => !x.stash.isEmpty) || (List.range 16).any fun p => (s.parts.get p).runs.any fun r => r.unspill.isSome
  | .pool => (s.xfers.any fun x => !x.pool.isEmpty) || opRuns s fun k => match k with
    | .allocRegion _ => true
    | _ => false
  | .prefixes => (s.ops.any fun o => o.done.isNone && o.run.copying.isSome) || (opRuns s fun k => match k with
    | .purge _ => true
    | _ => false) || (List.range 16).any fun p => (s.parts.get p).shrinking && !(s.parts.get p).cold.isEmpty
  | .digest => (List.range 16).any fun p => (nextDigest s p).isSome

/-- A queue's weight (Table 11-11). -/
def BulkQ.weight (s : State) : BulkQ → Nat
  | .writeback => if s.tier.flushMode && s.tier.ceiling ≤ 2 * dirtyCount s then 4 else 1
  | .unpark => 2
  | .stash => 2
  | _ => 1

/-- A time in ns that assumes a queue to be alone, scaled by Σw / w for the queues that have work now (R342). -/
def BulkQ.scaled (s : State) (q : BulkQ) (ns : Nat) : Nat :=
  ceilDiv (ns * ((BulkQ.all.filter fun k => k = q || k.hasWork s).map (·.weight s)).foldl (· + ·) 0) (q.weight s)

/-! ### Rates (R376) -/

/-- Valid slots of the worst victim among the lanes that collect now; the others rewrite nothing. -/
def worstValid (s : State) : Nat :=
  ((List.range 992).filter fun l => freeCount s l < 32).foldl (fun m l =>
    max m ((victimOf s l).map (validSlots s l) |>.getD 0)) 0

/-- A time in ns computed at 60 GB/s of writing, multiplied by 60 / w, w the write rate with nothing read (R376). -/
def atWriteRate (s : State) (ns : Nat) : Nat :=
  let v := worstValid s
  if blockSlots ≤ v then 2 ^ 64
  else max ns (max (ceilDiv (ns * 60 * blockSlots) (75 * (blockSlots - v)))
    (ceilDiv (ns * 60 * (blockSlots + v)) (95 * (blockSlots - v))))

/-- What is left of a time in ns that began at a device time. -/
def leftOf (s : State) (ns began : Nat) : Nat := ns - (s.dev.devtime - began)

/-- A time in ns as an answer carries it, in whole µs. -/
def usOf (ns : Nat) : Nat := ceilDiv ns 1000

/-! ### Bounds of Delta's operations (R198, R207, R213) -/

/-- Lookups, inserts and purges in progress (R198). -/
def deltaOps (s : State) : List Op := s.ops.filter fun o => o.done.isNone && o.kind.isDelta

/-- What is left of the bound of a Delta operation, in ns, with `k` in progress; a purge's is that of the evictions left (R226; log entry
117). -/
def deltaLeft (s : State) (o : Op) : Nat :=
  let k := max 1 (deltaOps s).length
  match o.kind with
  | .lookup part _ count _ _ =>
    let b := (s.parts.get part).body
    let n := count - o.run.len
    1000 + k * (60 * (n / max 1 b.tokens + 1) + ceilDiv n 4)
  | .insertPfx part _ count _ _ =>
    let b := (s.parts.get part).body
    let n := count - o.run.len
    let copied := if 32768 ≤ b.stride then n % max 1 b.tokens else n
    1000 + k * (100 * (n / max 1 b.tokens + 1) + ceilDiv n 4) +
      BulkQ.scaled s .prefixes (ceilDiv (2 * copied * b.row * b.layers) 9000)
  | .purge part => 100 * k * (partNodes s part).length
  | _ => 0

/-! ### Bounds of swaps, parks and unparks (R129, R130, R331, R336) -/

/-- A frame belongs to a partition. -/
def frameOfPart (s : State) (part : Nat) : FrameKey → Bool
  | .kv p _ => p = part
  | .reachList j _ => (s.rt.get j).part = part && (s.rt.get j).state != .free
  | .sampler j _ => (s.rt.get j).part = part && (s.rt.get j).state != .free
  | .digest p _ => p = part
  | .runTable p _ _ => p = part
  | _ => false

/-- Bytes of a partition's metadata: geometry, entries, reach lists and prefix nodes (R132), in whole map units (log entry
34). Run tables are frames with homes of their own. -/
def imageBytes (s : State) (part : Nat) : Nat :=
  let rs := (s.rt.cells.filter fun c => c.2.part = part && c.2.state != .free).map (·.2)
  alignUp (64 + 32 * rs.length + 4 * (rs.map fun e => e.reaches.length).foldl (· + ·) 0 + 64 * (partNodes s part).length) 65536

/-- Bytes a swap out of a partition writes: its dirty frames and its image (R126, R130). -/
def swapOutBytes (s : State) (part : Nat) : Nat := 32768 * (s.frames.filter fun f => frameOfPart s part f.key).length + imageBytes s part

/-- What is left of the bound of the swap in progress, in µs: none while its partition drains with a step open (R129, R130). -/
def swapLeft (s : State) (w : Swap) : Option Nat :=
  let p := s.parts.get w.part
  if p.state = .draining then
    if p.step.cond != .idle then none
    else
      let waits := (deltaOps s).filter fun o => o.kind.deltaPart = some w.part
      some (usOf (BulkQ.scaled s .swap (atWriteRate s (ceilDiv (swapOutBytes s w.part) 60)) + (waits.map (deltaLeft s)).foldl max 0))
  else if w.out then some (usOf (BulkQ.scaled s .swap (atWriteRate s (leftOf s (ceilDiv w.bytes 60) w.began))))
  else some (usOf (BulkQ.scaled s .swap (leftOf s (ceilDiv w.bytes 95) w.began)))

/-- RETRY_AFTER of an answer given because of the swap in progress (R129). -/
def swapRetry (s : State) : Nat := min 65535 ((s.swap.bind (swapLeft s)).getD 65535)

/-- VALUE of a STEP_OPEN completion given because of it (R129). -/
def swapValue (s : State) : Nat := min (2 ^ 32 - 1) ((s.swap.bind (swapLeft s)).getD (2 ^ 32 - 1))

/-- BUSY on a partition that is draining or being swapped (R129). -/
def swapBusy (s : State) (part : Nat) : Reply := .busy (swapRetry s) (.partition part)

/-- What is left of a park's bound, in µs (R331). -/
def parkLeft (s : State) (o : Op) : Nat :=
  usOf (BulkQ.scaled s .park (leftOf s (10000 + atWriteRate s (ceilDiv o.bytes 60)) o.began))

/-- What is left of an unpark's bound, in µs (R336). -/
def unparkLeft (s : State) (o : Op) : Nat := usOf (BulkQ.scaled s .unpark (leftOf s (10000 + ceilDiv o.bytes 95) o.began))

/-- BUSY on a request being parked or unparked, with what is left of that bound (R328). -/
def requestBusy (s : State) (h : Nat) : Reply :=
  let left := match runningOp s (fun k => match k with
      | .park g _ _ => g = h
      | .unpark g _ => g = h
      | _ => false) with
    | some o => match o.kind with
      | .park .. => parkLeft s o
      | _ => unparkLeft s o
    | none => 1
  .busy left (.request h)

/-- BUSY on a ticket that is being unparked. -/
def ticketBusy (s : State) (t : Nat) : Reply :=
  .busy ((runningOp s (fun k => match k with
    | .unpark _ u => u = t && t != 0
    | _ => false)).map (unparkLeft s) |>.getD 1) (.ticket t)

end Sys2Proof.Machine
end

