-- ==== Sys2Proof/Machine/Seats.lean ====
section
/-! DEFINITION. Seats and mailboxes (chapter 3): identity, version, notice ring, operations, the seat map, step rings,
the watcher and the parser's NOP and undefined kinds, and the pointer registers. -/

namespace Sys2Proof.Machine

/-! ### 0xC0: seat and identity -/

/-- The 16 bitmaps of implemented minor versions, one for each major version: bit 2 of major 3 alone (R94; log entry 10). -/
def versionBitmaps : List (Nat × Nat) := (List.range 16).map fun m => (8, if m = 3 then 4 else 0)

/-- Version of the active image (R607). -/
def activeVersion (s : State) : Nat := if s.flt.activeB then s.flt.imageB.version else s.flt.imageA.version

/-- What IDENTIFY_SEAT returns (§3.6): seat, port and LD-ID (0xFF when unmapped), DEVSTATE, firmware version, bitmaps
and quotas. -/
def identifyBody (s : State) (seat : Nat) : RespBody :=
  let t := s.seats.get seat
  .fields ([(1, seat), (1, (t.map.map (·.1)).getD 255), (1, (t.map.map (·.2)).getD 255), (1, devState s),
            (4, activeVersion s)] ++ versionBitmaps ++ [(4, t.maxEntries), (4, t.maxFrames)])

/-- IDENTIFY_SEAT (0xC000, §3.6). -/
def execIdentifySeat (e : Env) (s : State) : Host.Outcome State Fault Refusal :=
  mailbox Op.identifySeat e (.identifySeat e) [] (fun _ => none) (fun s => (s, { body := identifyBody s e.seat })) s

/-- NEGOTIATE_VERSION (0xC001, R94): 3.2 is the one version implemented. A range without it answers VERSION with version 0 and
the bitmaps (log entry 10). -/
def execNegotiateVersion (e : Env) (low high : Nat) (s : State) : Host.Outcome State Fault Refusal :=
  mailbox Op.negotiateVersion e (.negotiateVersion e low high) []
    (fun _ => if low ≤ 0x0302 && 0x0302 ≤ high then none
      else some { status := .version, body := .fields ([(2, 0)] ++ versionBitmaps) })
    (fun s => (updSeat e.seat (fun t => { t with negVersion := 0x0302 }) s,
               .okFields ([(2, 0x0302)] ++ versionBitmaps))) s

/-- The telemetry ring's extent in seat 0's HDM (R557). -/
def telRingExtent (s : State) : List (Nat × Nat) :=
  if s.tel.ringBase = 0 then [] else [(s.tel.ringBase, 32 * 2 ^ s.tel.ringLog2)]

/-- Extents in a seat's HDM taken by rings: submission and completion rings in HDM, the notice ring, and the telemetry
ring in seat 0's HDM (R87, R96). -/
def ringExtents (s : State) (seat : Nat) : List (Nat × Nat) :=
  let t := s.seats.get seat
  ((List.range 4).map fun n =>
    let r := t.rings.get n
    if r.live then (r.sqBase, 64 * 2 ^ r.sqLog2) :: (if r.cqPeer then [] else [(r.cqBase, 32 * 2 ^ r.cqLog2)])
    else []).flatten ++
  (if t.noticeSet then [(t.noticeBase, 32 * 2 ^ t.noticeLog2)] else []) ++
  (if seat = 0 then telRingExtent s else [])

/-- Whether an extent meets one of those. -/
def meetsRing (s : State) (seat addr len : Nat) : Bool :=
  (ringExtents s seat).any fun x => overlaps addr len x.1 x.2

/-- SET_NOTICE_RING's own checks (R87): entries, alignment and place, then overlap with any ring, the seat's present notice ring among
them. -/
def setNoticeRingCheck (e : Env) (base log2 : Nat) (s : State) : Option Reply :=
  if base = 0 then none
  else if log2 < 6 || 12 < log2 || base % (32 * 2 ^ log2) != 0 || (regionAt s e.seat base (32 * 2 ^ log2)).isNone then
    some (.of .invalid)
  else if meetsRing s e.seat base (32 * 2 ^ log2) then some (.of .conflict)
  else none

/-- SET_NOTICE_RING's effect (R87, R639). -/
def setNoticeRing (e : Env) (base log2 : Nat) (s : State) : State × Reply :=
  let s := updSeat e.seat (fun t => { t with
    noticeSet := base != 0, noticeBase := base, noticeLog2 := if base = 0 then 0 else log2
    noticeTail := 0, noticeHead := 0 }) s
  (flushNotices e.seat (s.seats.get e.seat).noticeHeld s, {})

/-- SET_NOTICE_RING (0xC002, R87). -/
def execSetNoticeRing (e : Env) (base log2 : Nat) (s : State) : Host.Outcome State Fault Refusal :=
  mailbox Op.setNoticeRing e (.setNoticeRing e base log2) [] (setNoticeRingCheck e base log2)
    (setNoticeRing e base log2) s

/-- The deferred operation an OPID names for a seat; seat 0 sees every seat's (R76, R88). -/
def opOfId (s : State) (seat opid : Nat) : Option Op :=
  s.ops.reverse.find? fun o => o.deferred && (seat = 0 || o.seat = seat) && (Config.opid o.n).toNat = opid

/-- GET_OPERATION (0xC003, R88): 0 running or 1 ended, and the final status. -/
def execGetOperation (e : Env) (opid : Nat) (s : State) : Host.Outcome State Fault Refusal :=
  mailbox Op.getOperation e (.getOperation e opid) []
    (fun s => if (opOfId s e.seat opid).isSome then none else some (.of .notFound))
    (fun s => (s, match opOfId s e.seat opid with
      | some o => .okFields [(1, bit o.done.isSome), (2, (o.done.map Status.code).getD 0)]
      | none => .of .notFound)) s

/-- SET_PORT_CONFIG (0xC010, R62, R651). -/
def setPortConfigCheck (port clkMode : Nat) (s : State) : Option Reply :=
  if 7 < port || 1 < clkMode then some (.of .invalid)
  else if (s.ports.get port).retired then some (.of .retired)
  else none

/-- SET_PORT_CONFIG writes CLKMODE_NEXT (R632). -/
def setPortConfig (port clkMode : Nat) (s : State) : State × Reply :=
  (updPort port (fun p => { p with clkModeNext := clkMode = 1 }) s, {})

/-- SET_PORT_CONFIG (0xC010, R62). -/
def execSetPortConfig (e : Env) (port clkMode : Nat) (s : State) : Host.Outcome State Fault Refusal :=
  mailbox Op.setPortConfig e (.setPortConfig e port clkMode) [] (setPortConfigCheck port clkMode)
    (setPortConfig port clkMode) s

/-- MAP_SEAT's own checks (R43, R651). -/
def mapSeatCheck (seat port ldId : Nat) (s : State) : Option Reply :=
  let cur := (s.seats.get seat).map
  let curAlloc := match cur with
    | some (p, l) => (s.lds.get (ldKey p l)).alloc
    | none => 0
  if 63 < seat || (7 < port && port != 255) || (port != 255 && 15 < ldId) || (port = 255 && seat = 0) then
    some (.of .invalid)
  else if port = 255 then (if curAlloc != 0 then some (.of .conflict) else none)
  else if cur = some (port, ldId) then none
  else if curAlloc != 0 || (s.lds.get (ldKey port ldId)).alloc != 0 then some (.of .conflict)
  else if (seatOfLd s port ldId).isSome then some (.of .conflict)
  else if (s.ports.get port).retired then some (.of .retired)
  else none

/-- MAP_SEAT's effect (R43, R45): the map changes, and each LD that gains or loses its seat increments its CDAT
Sequence. -/
def mapSeat (seat port ldId : Nat) (s : State) : State × Reply :=
  let cur := (s.seats.get seat).map
  let new := if port = 255 then none else some (port, ldId)
  if cur = new then (s, {}) else
  let bump := fun (m : Option (Nat × Nat)) (s : State) => match m with
    | some (p, l) => updLd p l (fun d => { d with cdatSeq := (d.cdatSeq + 1) % 2 ^ 32 }) s
    | none => s
  (bump new (bump cur (updSeat seat (fun t => { t with map := new }) s)), {})

/-- MAP_SEAT (0xC011, R43). -/
def execMapSeat (e : Env) (seat port ldId : Nat) (s : State) : Host.Outcome State Fault Refusal :=
  mailbox Op.mapSeat e (.mapSeat e seat port ldId) [] (mapSeatCheck seat port ldId) (mapSeat seat port ldId) s

/-- An opcode in 0xC000–0xCFFF that CCS 3.2 does not define: UNSUPPORTED right after the payload length check, and no
other effect (R9, R82). -/
def execUnsupportedOpcode (e : Env) (opcode : Nat) (s : State) : Host.Outcome State Fault Refusal :=
  if 64 ≤ e.seat then .next s
  else match doorWrite e.seat (.unsupportedOpcode e opcode) opcode s with
    | some t => .next t
    | none =>
      let t := takeCmd e.seat opcode s
      if e.payloadLen < 64 || e.payloadLen != 64 + e.bodyLen || 65472 < e.bodyLen then .next (placeBadLength e.seat t)
      else .next (answer e (.of .unsupported) t)

/-! ### Step rings (R96–R101) -/

/-- Live ring sets of the device. -/
def liveRings (s : State) : Nat :=
  ((List.range 64).map fun n => ((List.range 4).filter fun k => (ringOf s n k).live).length).foldl (· + ·) 0

/-- CREATE_STEP_RING's own checks, in R96's order. -/
def createStepRingCheck (e : Env) (b : RingBody) (s : State) : Option Reply :=
  let p := s.parts.get b.part
  let sqLen := 64 * 2 ^ b.sqLog2
  let cqLen := 32 * 2 ^ b.cqLog2
  let sq := regionAt s e.seat b.sqBase sqLen
  let cq := regionAt s e.seat b.cqBase cqLen
  if 3 < b.ring || 15 < b.part || b.sqLog2 < 6 || 15 < b.sqLog2 || b.cqLog2 < 6 || 15 < b.cqLog2 ||
      b.sqBase % sqLen != 0 || b.cqBase % cqLen != 0 ||
      !(match sq with | some r => !r.shared && !r.protected_ | none => false) ||
      !(b.cqPeer || (match cq with | some r => !r.protected_ | none => false)) ||
      (p.state != .empty && p.body.mode = 1) then some (.of .invalid)
  else if b.cqPeer && !(match windowOf s e.seat b.cqWindow with
      | some w => w.kind = 3 && b.cqBase + cqLen ≤ w.len
      | none => false) then some (.of .invalid)
  else match p.state with
    | .empty => some (.of .notFound)
    | .swapped => some (.of .notReady)
    | .draining | .swappingOut | .swappingIn => some (swapBusy s b.part)
    | .resident =>
      if (ringOf s e.seat b.ring).live then some (.of .conflict)
      else if !b.cqPeer && overlaps b.sqBase sqLen b.cqBase cqLen then some (.of .conflict)
      else if meetsRing s e.seat b.sqBase sqLen || (!b.cqPeer && meetsRing s e.seat b.cqBase cqLen) then
        some (.of .conflict)
      else if 64 ≤ liveRings s then some (.of .capacity)
      else none

/-- CREATE_STEP_RING's effect (R96). -/
def createStepRing (e : Env) (b : RingBody) (s : State) : State × Reply :=
  (updRing e.seat b.ring (fun _ =>
    { live := true, part := b.part, sqLog2 := b.sqLog2, cqLog2 := b.cqLog2, sqBase := b.sqBase, cqBase := b.cqBase
      cqPeer := b.cqPeer, cqWindow := b.cqWindow }) s, {})

/-- CREATE_STEP_RING (0xC300, R96). -/
def execCreateStepRing (e : Env) (b : RingBody) (s : State) : Host.Outcome State Fault Refusal :=
  mailbox Op.createStepRing e (.createStepRing e b) [.partition b.part] (createStepRingCheck e b)
    (createStepRing e b) s

/-- Free a ring set: unconsumed records and a held STEP_OPEN are discarded without completions (R101). -/
def freeRing (seat ring : Nat) (s : State) : State :=
  updRing seat ring (fun _ => {}) { s with held := s.held.filter fun h => !(h.seat = seat && h.ring = ring) }

/-- DESTROY_STEP_RING for a ring that exists: at once with no step open, otherwise staged (R101). -/
def destroyRing (seat ring : Nat) (s : State) : State × Reply :=
  let p := (ringOf s seat ring).part
  if (s.parts.get p).step.cond = .idle then (freeRing seat ring s, {})
  else (updRing seat ring (fun r => { r with destroying := true }) s,
        { staged := some (p, (s.parts.get p).stepNo) })

/-- DESTROY_STEP_RING (0xC301, R101). -/
def execDestroyStepRing (e : Env) (ring seat : Nat) (s : State) : Host.Outcome State Fault Refusal :=
  mailbox Op.destroyStepRing e (.destroyStepRing e ring seat) []
    (fun s => if 3 < ring || 63 < seat then some (.of .invalid)
      else if e.seat != 0 && seat != e.seat then some (.of .notFound)
      else if (ringOf s seat ring).live then none else some (.of .notFound))
    (destroyRing seat ring) s

/-! ### The watcher (R99) -/

/-- A fault record about a step ring record (Table 21-8a, unit 5). -/
def ringFault (seat ring seq action : Nat) (part handle : Nat) (s : State) : State :=
  logFault { unit := 5, index := seat, event := 10, action := action, seat := seat, part := part
             location := ring * 65536 + seq, handle := handle } s

/-- In Sable a port's CXL.mem accesses leave one transient record a second (R596; log entry 110). -/
def sableRecord (port : Nat) (s : State) : State :=
  let due := match (s.ports.get port).sableRec with
    | none => true
    | some t => t + 1000000000 ≤ s.dev.devtime || s.dev.devtime < t
  if due then
    logFault { unit := 4, index := port, event := 11, action := 6, port := port }
      (updPort port (fun p => { p with sableRec := some s.dev.devtime }) s)
  else s

/-- The port a seat is mapped to; 0 for an unmapped one, which no CXL.mem access reaches. -/
def portOfSeat (s : State) (seat : Nat) : Nat := ((s.seats.get seat).map.map (·.1)).getD 0

/-- The record of a seat's write that finds no memory: in Sable R596's, before Memory_Active one for each write (R580). -/
def closedWrite (seat addr : Nat) (s : State) : State :=
  if s.flt.sable then sableRecord (portOfSeat s seat) s
  else logFault { unit := 5, index := seat, event := 11, action := 6, seat := seat, location := addr } s

/-- A whole record stored in time: written, or held by the ceiling with its completion (R99, R324). -/
def acceptRecord (seat ring slot hpa : Nat) (data : List Byte) (s : State) : State :=
  let cmp := fun s => emit (.memCmp seat hpa 0 (seatDevLoad s seat)) s
  match regionAt s seat hpa 64 with
  | none => cmp s
  | some r =>
    let off := hpa - r.base
    if heldAt s false (.region r.id) off 64 then holdWrite false (.region r.id) off data (.ring seat ring slot hpa) s
    else enterStore seat ring slot (putNow (.region r.id) off data (cmp s))

/-- A store into the submission memory of a live ring (R99). -/
def ringStore (seat ring slot : Nat) (full : Bool) (data : List Byte) (s : State) : State :=
  let r := ringOf s seat ring
  let addr := r.sqBase + 64 * slot
  let s := countTraffic seat 0 data.length s
  let s1 := emit (.memCmp seat addr 0 (seatDevLoad s seat)) s
  let seq := recSeq data
  if !s.dev.memActive || s.flt.sable then closedWrite seat addr s1
  else if r.destroying then ringFault seat ring seq 6 r.part 0 s1
  else if !full || data.length != 64 then
    ringFault seat ring seq 6 r.part 0 (updRing seat ring (fun r => { r with partialStore := true }) s1)
  else if 2 ^ r.sqLog2 ≤ (seq + 65536 - r.head % 65536) % 65536 then
    ringFault seat ring seq 6 r.part 0 (updRing seat ring (fun r => { r with overrun := true }) s1)
  else acceptRecord seat ring slot addr data s

/-- RING_STORE (R99): a store of a seat into slot `slot` of a live ring set's submission memory. -/
def execRingStore (seat ring slot : Nat) (full : Bool) (data : List Byte) (s : State) :
    Host.Outcome State Fault Refusal :=
  if 64 ≤ seat || 4 ≤ ring then .next s
  else
    let r := ringOf s seat ring
    if !seatReached s seat || !r.live || 2 ^ r.sqLog2 ≤ slot then .next s
    else .next (ringStore seat ring slot full data s)

/-! ### The parser (R100) -/

/-- The next record of one of these kinds, with completion space to reserve (R100). -/
def nextOfKind (s : State) (seat ring : Nat) (k : Nat → Bool) : Option (List Byte) :=
  match nextRecord s seat ring with
  | some b => if k (recKind b) && (ringOf s seat ring).canReserve then some b else none
  | none => none

/-- Consume the record at the head: H advances, and completion space is reserved (R100). -/
def consume (seat ring reserve : Nat) (s : State) : State :=
  updRing seat ring (fun r => { r with
    head := (r.head + 1) % 2 ^ 32, stored := r.stored.filter (·.1 != r.head % 2 ^ r.sqLog2), reserved := r.reserved + reserve }) s

/-- A completion about a record of a ring: its partition, that partition's step number, and T_ARRIVE (R102). -/
def compOf (s : State) (seat ring kind : Nat) (st : Status) (value handle tArrive : Nat) : CompRec :=
  let p := (ringOf s seat ring).part
  { kind := kind, status := st, value := value, handle := handle, tArrive := tArrive, part := p
    step := (s.parts.get p).stepNo, dStart := sat 32 (s.dev.devtime - tArrive) }

/-- A field of a record whose value the spec does not state (log entry 36). -/
def openValue (s : State) : Nat × State := ((Config.openValue s.freeCtr).toNat, { s with freeCtr := s.freeCtr + 1 })

/-- NOP (KIND 0x00): consumes its slot; needs no completion space (R100). -/
def execNop (seat ring : Nat) (s : State) : Host.Outcome State Fault Refusal :=
  if 64 ≤ seat || 4 ≤ ring then .next s
  else match nextRecord s seat ring with
    | some b => if recKind b = 0 then .next (consume seat ring 0 s) else .next s
    | none => .next s

/-- A record of undefined KIND: MALFORMED, a transient fault record, and an INVALID completion (R100). -/
def execUndefinedKind (seat ring : Nat) (s : State) : Host.Outcome State Fault Refusal :=
  if 64 ≤ seat || 4 ≤ ring then .next s
  else match nextOfKind s seat ring (fun k => 6 ≤ k) with
    | some b =>
      let s1 := updRing seat ring (fun r => { r with malformed := true }) (consume seat ring 1 s)
      let s2 := ringFault seat ring (recSeq b) 6 (ringOf s seat ring).part 0 s1
      let (v, s3) := openValue s2
      .next (complete seat ring (compOf s3 seat ring (recKind b) .invalid v 0 s.dev.devtime) s3)
    | none => .next s

/-! ### Pointer registers and claims -/

/-- A write of SEAT_NOTICE_HEAD (R639). -/
def execSeatNoticeHeadWrite (seat value : Nat) (s : State) : Host.Outcome State Fault Refusal :=
  if 64 ≤ seat then .next s
  else
    let t := s.seats.get seat
    if !seatReached s seat then .next s
    else if ringUsed t.noticeTail t.noticeHead < ringUsed value t.noticeHead then
      .next (logFault { unit := 5, index := seat, event := 10, action := 6, seat := seat } s)
    else
      let s := updSeat seat (fun t => { t with noticeHead := value % 2 ^ 32 }) s
      .next (flushNotices seat (s.seats.get seat).noticeHeld s)

/-- CLAIM_LAPSE (R92): every claim whose RETRY_AFTER plus 1 ms has passed since its last BUSY ends. -/
def execClaimLapse (s : State) : Host.Outcome State Fault Refusal :=
  .next { s with claims := s.claims.filter fun c => s.dev.devtime < c.lapse }

end Sys2Proof.Machine
end

