-- ==== Sys2Proof/Machine/Admission.lean ====
section
/-! DEFINITION. Admission, tenants and the Request Table (chapter 5). -/

namespace Sys2Proof.Machine

/-! ### Tenants and the ledger (R148–R155) -/

/-- The budget of a body breaks its limits: MODE is one bit, RATE and CAP are 32 bits (Table 5-8). -/
def badBudget (tenant mode rate cap : Nat) : Bool := 4095 < tenant || 1 < mode || 2 ^ 32 ≤ rate || 2 ^ 32 ≤ cap

/-- A tenant's present values as a journal entry (R154, R155). -/
def Tenant.journal (t : Tenant) : Tenant :=
  { t with journalM := max t.journalM t.consumed
           journalB := if t.unmetered then 0 else t.balance - ((max t.journalM t.consumed) - t.consumed : Nat) }

/-- CREATE_TENANT (0xC200, R148): a METERED tenant starts at BALANCE = CAP × 1,000 (R154; log entry 17). -/
def createTenant (tenant mode rate cap : Nat) (s : State) : State × Reply :=
  ({ s with tenants := s.tenants.set tenant (Tenant.journal
      { exists_ := true, unmetered := mode = 1, rate := rate, cap := cap
        balance := if mode = 1 then 0 else cap * 1000 }) }, {})

/-- CREATE_TENANT (0xC200, R148). -/
def execCreateTenant (e : Env) (tenant mode rate cap : Nat) (s : State) : Host.Outcome State Fault Refusal :=
  mailbox Op.createTenant e (.createTenant e tenant mode rate cap) []
    (fun s => if badBudget tenant mode rate cap then some (.of .invalid)
      else if (s.tenants.get tenant).exists_ then some (.of .conflict) else none)
    (createTenant tenant mode rate cap) s

/-- DELETE_TENANT (0xC201, R148). -/
def execDeleteTenant (e : Env) (tenant : Nat) (s : State) : Host.Outcome State Fault Refusal :=
  mailbox Op.deleteTenant e (.deleteTenant e tenant) []
    (fun s => if tenant = 0 || 4095 < tenant then some (.of .invalid)
      else if !(s.tenants.get tenant).exists_ then some (.of .notFound)
      else if tenantLive s tenant != 0 then some (.of .conflict) else none)
    (fun s => ({ s with tenants := s.tenants.set tenant {} }, {})) s

/-- SET_TENANT_BUDGET's effect (R154): a change to METERED starts with BALANCE = CAP × 1,000; a change to UNMETERED keeps
BALANCE at 0 (R151). -/
def setTenantBudget (tenant mode rate cap : Nat) (s : State) : State × Reply :=
  let t := s.tenants.get tenant
  let bal : Int := if mode = 1 then 0 else if t.unmetered then cap * 1000 else t.balance
  ({ s with tenants := s.tenants.set tenant (Tenant.journal
      { t with unmetered := mode = 1, rate := rate, cap := cap, balance := bal }) }, {})

/-- SET_TENANT_BUDGET (0xC202, R154). -/
def execSetTenantBudget (e : Env) (tenant mode rate cap : Nat) (s : State) : Host.Outcome State Fault Refusal :=
  mailbox Op.setTenantBudget e (.setTenantBudget e tenant mode rate cap) []
    (fun s => if badBudget tenant mode rate cap then some (.of .invalid)
      else if (s.tenants.get tenant).exists_ then none else some (.of .notFound))
    (setTenantBudget tenant mode rate cap) s

/-- GRANT_BUDGET's effect (R154): limited to CAP × 1,000; an UNMETERED tenant keeps BALANCE at 0 (R151). -/
def grantBudget (tenant : Nat) (amount : Int) (s : State) : State × Reply :=
  let t := s.tenants.get tenant
  let bal : Int := if t.unmetered then 0 else min (t.balance + amount) (t.cap * 1000)
  ({ s with tenants := s.tenants.set tenant (Tenant.journal { t with balance := bal }) }, {})

/-- GRANT_BUDGET (0xC203, R154). -/
def execGrantBudget (e : Env) (tenant : Nat) (amount : Int) (s : State) : Host.Outcome State Fault Refusal :=
  mailbox Op.grantBudget e (.grantBudget e tenant amount) []
    (fun s => if 4095 < tenant then some (.of .invalid)
      else if (s.tenants.get tenant).exists_ then none else some (.of .notFound))
    (grantBudget tenant amount) s

/-- The fields of a tenant record (Table 5-8). -/
def tenantBody (s : State) (tenant : Nat) : RespBody :=
  let t := s.tenants.get tenant
  .fields [(1, bit t.unmetered), (4, t.rate), (4, t.cap), (8, ofInt 64 t.balance), (8, t.consumed), (4, tenantLive s tenant)]

/-- QUERY_TENANT (0xC204, R149). -/
def execQueryTenant (e : Env) (tenant : Nat) (s : State) : Host.Outcome State Fault Refusal :=
  mailbox Op.queryTenant e (.queryTenant e tenant) []
    (fun s => if 4095 < tenant then some (.of .invalid)
      else if (s.tenants.get tenant).exists_ then none else some (.of .notFound))
    (fun s => (s, { body := tenantBody s tenant })) s

/-- One refill of a tenant (R150). -/
def Tenant.refill (t : Tenant) : Tenant :=
  if t.exists_ && !t.unmetered then { t with balance := min (t.balance + t.rate) (t.cap * 1000) } else t

/-- TENANT_REFILL (R150): every metered tenant gains RATE milli-tokens, up to CAP × 1,000, once admission is open. -/
def execTenantRefill (s : State) : Host.Outcome State Fault Refusal :=
  if s.dev.admitOpen then
    .next { s with tenants := { s.tenants with cells := s.tenants.cells.map fun c => (c.1, c.2.refill) } }
  else .next s

/-! ### Quotas, caps and capacity (R146) -/

/-- SET_SEAT_QUOTA (0xC205, R146). -/
def execSetSeatQuota (e : Env) (seat maxEntries maxFrames : Nat) (s : State) : Host.Outcome State Fault Refusal :=
  mailbox Op.setSeatQuota e (.setSeatQuota e seat maxEntries maxFrames) []
    (fun _ => if 63 < seat || 131072 < maxEntries || 2 ^ 32 ≤ maxFrames then some (.of .invalid) else none)
    (fun s => (updSeat seat (fun t => { t with maxEntries := maxEntries, maxFrames := maxFrames }) s, {})) s

/-- SET_PARTITION_CAP (0xC206, R146). -/
def execSetPartitionCap (e : Env) (part cap : Nat) (s : State) : Host.Outcome State Fault Refusal :=
  mailbox Op.setPartitionCap e (.setPartitionCap e part cap) []
    (fun _ => if 15 < part || 2 ^ 32 ≤ cap then some (.of .invalid) else none)
    (fun s => (updPart part (fun p => { p with cap := cap }) s, {})) s

/-- One account as QUERY_CAPACITY lists it: code, seat or partition, limit (0 for none) and charge. -/
def accountEntry (s : State) (code n : Nat) : List (Nat × Nat) :=
  [(1, code), (1, n), (4, (acctLimit s code n n).getD 0), (4, acctCharge s code n n)]

/-- Every account a seat sees: the seat accounts of its own, or of every seat from seat 0; the partition accounts of every
partition that is not EMPTY (R146; log entry 18). -/
def accountList (s : State) (seat : Nat) : List (List (Nat × Nat)) :=
  let seats := if seat = 0 then List.range 64 else [seat]
  let parts := (List.range 16).filter fun p => (s.parts.get p).state != .empty
  [accountEntry s 1 0] ++ seats.map (accountEntry s 2) ++ parts.map (accountEntry s 3) ++ [accountEntry s 4 0] ++
  parts.map (accountEntry s 5) ++ seats.map (accountEntry s 6) ++ [accountEntry s 7 0, accountEntry s 8 0]

/-- QUERY_CAPACITY (0xC207, R146). -/
def execQueryCapacity (e : Env) (s : State) : Host.Outcome State Fault Refusal :=
  mailbox Op.queryCapacity e (.queryCapacity e) [] (fun _ => none)
    (fun s => (s, { body := listBody 0 12 [] (accountList s e.seat) })) s

/-! ### ADMIT_REQUEST (R141–R145, R159, R160, R219–R221) -/

/-- TENANT of a body: bits 11:0; bits 15:12 are reserved, ignored (Table 5-9, R5). -/
def chargedTenantOf (b : AdmitBody) : Nat := b.tenant % 4096

/-- The prefix an admission names (R160 check 4). -/
def admitPrefix (b : AdmitBody) (s : State) : Option Node := resolvePrefix s b.part (chargedTenantOf b) b.pfx

/-- N_X (R141). -/
def admitCovered (b : AdmitBody) (s : State) : Nat := ((admitPrefix b s).map (·.len)).getD 0

/-- The reservation of an admission (R141–R143). -/
def admitReserve (b : AdmitBody) (s : State) : Reservation :=
  reserve (s.parts.get b.part).body (b.promptLen + b.maxNew) (admitCovered b s) b.eddy

/-- What an admission charges to the accounts (Table 5-6). -/
def admitCharge (b : AdmitBody) (seat : Nat) (s : State) : Charge :=
  let r := admitReserve b s
  { seat := seat, part := b.part, entries := 1, slots := r.own, frames := r.frames, homes := r.units }

/-- The admission charge in milli-tokens (R151, R221). -/
def admitCost (b : AdmitBody) (s : State) : Nat :=
  1000 * (b.promptLen - admitCovered b s) + (s.parts.get b.part).pfxCharge * admitCovered b s

/-- A body that breaks Table 5-9. -/
def admitBad (b : AdmitBody) : Bool :=
  15 < b.part || 255 < b.prio || b.promptLen = 0 || b.maxNew = 0 ||
  2097152 < b.promptLen + b.maxNew || 1048575 < b.dlToken || 4095 < b.dlItem

/-- An answer to ADMIT_REQUEST that admits nothing: HANDLE 0, and ACCOUNT with CAPACITY (Table 5-10). -/
def admitNo (st : Status) (account : Nat) : Reply :=
  { status := st, body := .fields [(4, 0), (1, 0), (1, account), (4, 0), (4, 0), (4, 0), (4, 0), (8, 0), (8, 0)] }

/-- The slots an admission takes are all there: enough free groups (R144, R145). -/
def admitSlotsFree (b : AdmitBody) (s : State) : Bool :=
  (takeSlots s b.part (admitReserve b s).newSlots).length = (admitReserve b s).own

/-- ADMIT_REQUEST's own checks (R160). -/
def admitCheck (e : Env) (b : AdmitBody) (s : State) : Option Reply :=
  let p := s.parts.get b.part
  if admitBad b then some (admitNo .invalid 0)
  else match p.state with
    | .empty => some (admitNo .notFound 0)
    | st =>
      if p.body.mode = 1 then some (admitNo .invalid 0)
      else if st = .swapped then some (admitNo .notReady 0)
      else if st != .resident then some (swapBusy s b.part)
      else if !(s.tenants.get (chargedTenantOf b)).exists_ then some (admitNo .notFound 0)
      else if b.pfx != 0 && (admitPrefix b s).isNone then some (admitNo .notFound 0)
      else if b.promptLen < admitCovered b s then some (admitNo .invalid 0)
      else if !(s.tenants.get (chargedTenantOf b)).unmetered && (s.tenants.get (chargedTenantOf b)).balance < admitCost b s then
        some (admitNo .budget 0)
      else match shortAccount s (admitCharge b e.seat s) with
        | some a => some (admitNo .capacity a)
        | none => if admitSlotsFree b s then none else some (admitNo .capacity 3)

/-- The entry of an admitted request: its reach list names the prefix's slots with SH = 1, then its own slots in ascending
order (R136, R141, R144). LENGTH is PROMPT_LEN (log entry 19). -/
def admitEntry (b : AdmitBody) (seat gen : Nat) (s : State) : Rt :=
  let p := (s.parts.get b.part).body
  let r := admitReserve b s
  let own := takeSlots s b.part r.newSlots
  let path := match admitPrefix b s with
    | some n => pathTo s s.nodes.length n
    | none => []
  let shared := path.take r.shared
  let covered := admitCovered b s
  { state := if b.promptLen = covered then .active else .prefill
    gen := gen, seat := seat, part := b.part, tenant := chargedTenantOf b, prio := b.prio, eddy := b.eddy, seeded := b.seeded
    cow := covered % p.tokens != 0, length := b.promptLen, promptLen := b.promptLen, maxLen := b.promptLen + b.maxNew
    own := r.own, pnode := (shared.getLast?.map (·.idx)).getD 0
    rlist := (Config.rlistAddr s.freeCtr).toNat, sstate := if b.eddy then (Config.sstateFrame s.freeCtr).toNat else 0
    dlToken := b.dlToken, dlItem := b.dlItem
    reaches := shared.map (fun n => { sh := true, slot := n.slot }) ++
      (own.take r.newSlots).map (fun k => { sh := false, slot := k })
    slots := own, frames := r.frames, homeUnits := r.units
    cowFrom := if covered % p.tokens = 0 then none else (admitPrefix b s).map fun n => (n.idx, n.rows)
    cowRows := covered % p.tokens
    seed := if b.seeded then b.seed else 0 }

/-- References an admission takes: one for each shared reach, and the tail's until its copy has ended (R219, R220). -/
def admitRefs (b : AdmitBody) (s : State) : List Nat :=
  match admitPrefix b s with
  | none => []
  | some n =>
    let r := admitReserve b s
    ((pathTo s s.nodes.length n).take r.shared).map (·.idx) ++
      (if n.len % (s.parts.get b.part).body.tokens = 0 then [] else [n.idx])

/-- An admission whose copy the ceiling holds answers once the copy has ended (R220, R324). -/
def waitCow (e : Env) (h : Nat) (body : RespBody) (s : State) : State × Reply :=
  let (s, n) := startOp e (.cow h) s
  acceptLong e n { s with ops := updFirst (fun o => o.n = n) (fun o => { o with reply := body }) s.ops }

/-- ADMIT_REQUEST's effect: entry, reservation, references and charge together (R19, R160). -/
def admitNow (e : Env) (b : AdmitBody) (s : State) : State × Reply :=
  match nextFreeRt s with
  | none => (s, admitNo .capacity 1)
  | some i =>
    let r := admitReserve b s
    let ent := admitEntry b e.seat (s.rt.get i).gen s
    let cost := admitCost b s
    let h := mkHandle e.seat i ent.gen
    let t := chargeAcct (admitCharge b e.seat s) (takeRt s)
    let t := (admitRefs b s).foldl (fun t n => takeRef n t) t
    let t := { t with rt := t.rt.set i ent, freeCtr := t.freeCtr + 1 }
    let t := chargeTenant (chargedTenantOf b) cost t
    let body := .fields [(4, h), (1, ent.state.code), (1, 0), (4, r.shared), (4, r.own), (4, r.frames), (4, r.units), (8, cost),
                         (8, ofInt 64 (t.tenants.get (chargedTenantOf b)).balance)]
    if ent.state = .active then
      match endCow h t with
      | some t => (t, { body := body })
      | none => waitCow e h body t
    else (t, { body := body })

/-- ADMIT_REQUEST (0xC210, R160); it ignores DEFER_OK (R86). -/
def execAdmitRequest (e : Env) (b : AdmitBody) (s : State) : Host.Outcome State Fault Refusal :=
  mailbox Op.admitRequest { e with deferOk := false } (.admitRequest e b) [.partition b.part] (admitCheck e b)
    (admitNow { e with deferOk := false } b) s

/-! ### Commands on a request -/

/-- The checks of R2 and R76, then a command's own (§5.1). -/
def onHandle (e : Env) (h : Nat) (own : State → Option Reply) (s : State) : Option Reply :=
  match handleCheck s e.seat h with
  | some st => some (.of st)
  | none => own s

/-- COMMIT_PROMPT (0xC211, R138, R139, R220). -/
def execCommitPrompt (e : Env) (handle : Nat) (s : State) : Host.Outcome State Fault Refusal :=
  mailbox Op.commitPrompt e (.commitPrompt e handle) [.request handle]
    (onHandle e handle fun s =>
      if (rtOf s handle).state != .prefill then some (.of .conflict)
      else if s.pulls.any (fun p => p.handle = handle) || (rtOf s handle).cowFrom.isSome then
        some (.busy (Config.retryBound s.freeCtr).toNat (.request handle))
      else none)
    (fun s => (updRt handle (fun r => { r with state := .active }) s, {})) s

/-- The staged answer for a partition's open step (R85). -/
def stagedNow (s : State) (part : Nat) : Reply := { staged := some (part, (s.parts.get part).stepNo) }

/-- Write SET_REQUEST's values into an entry. -/
def StagedReq.apply (r : StagedReq) (s : State) : State :=
  if handleCurrent s r.handle then
    updRt r.handle (fun e => { e with prio := r.prio, dlToken := r.dlToken, dlItem := r.dlItem }) s
  else s

/-- SET_REQUEST's effect (R158): at once, or staged to the open step's boundary; it replaces one staged earlier. -/
def setRequest (r : StagedReq) (s : State) : State × Reply :=
  let t := rtOf s r.handle
  if stepOpen s t.part && (t.state = .prefill || t.state = .active || t.state = .full) then
    (updPart t.part (fun p => { p with staged := { p.staged with
        requests := p.staged.requests.filter (fun x => x.handle != r.handle) ++ [r] } }) s, stagedNow s t.part)
  else (r.apply (updPart t.part (fun p => { p with staged := { p.staged with
      requests := p.staged.requests.filter fun x => x.handle != r.handle } }) s), {})

/-- SET_REQUEST (0xC212, R158). -/
def execSetRequest (e : Env) (handle prio dlToken dlItem : Nat) (s : State) : Host.Outcome State Fault Refusal :=
  mailbox Op.setRequest e (.setRequest e handle prio dlToken dlItem) []
    (onHandle e handle fun _ =>
      if 255 < prio || 1048575 < dlToken || 4095 < dlItem then some (.of .invalid) else none)
    (setRequest { handle := handle, prio := prio, dlToken := dlToken, dlItem := dlItem }) s

/-- CANCEL_REQUEST's own checks: BUSY on a partition being swapped (R129) and on a park or unpark (Table 5-7). -/
def cancelCheck (handle : Nat) (s : State) : Option Reply :=
  let t := rtOf s handle
  match (s.parts.get t.part).state with
  | .draining | .swappingOut | .swappingIn => some (swapBusy s t.part)
  | _ =>
    if t.state = .parking || t.state = .unparking then some (requestBusy s handle) else none

/-- CANCEL_REQUEST's effect (R161, R162; Table 5-7). -/
def cancelRequest (handle : Nat) (s : State) : State × Reply :=
  let t := rtOf s handle
  if t.state = .parked || !stepOpen s t.part then (freeRequest handle s, {})
  else (updRt handle (fun r => { r with cancel := true }) s, stagedNow s t.part)

/-- CANCEL_REQUEST (0xC213, R161). -/
def execCancelRequest (e : Env) (handle : Nat) (s : State) : Host.Outcome State Fault Refusal :=
  mailbox Op.cancelRequest e (.cancelRequest e handle) [.request handle, .partition (rtOf s handle).part]
    (onHandle e handle (cancelCheck handle)) (cancelRequest handle) s

/-- The 256 bits of an entry (Table 5-3). -/
def Rt.word (r : Rt) : Nat :=
  r.state.code * 2 ^ 252 + r.gen % 512 * 2 ^ 243 + r.seat % 64 * 2 ^ 237 + r.part % 16 * 2 ^ 233 +
  r.tenant % 4096 * 2 ^ 221 + r.prio % 256 * 2 ^ 213 + bit r.cancel * 2 ^ 212 + bit r.eddy * 2 ^ 211 +
  bit r.seeded * 2 ^ 210 + bit r.cow * 2 ^ 209 + r.length % 2 ^ 22 * 2 ^ 184 + r.promptLen % 2 ^ 22 * 2 ^ 162 +
  r.maxLen % 2 ^ 22 * 2 ^ 140 + r.own % 2 ^ 18 * 2 ^ 122 + r.pnode % 2 ^ 26 * 2 ^ 96 + r.rlist % 2 ^ 32 * 2 ^ 64 +
  r.sstate % 2 ^ 32 * 2 ^ 32 + r.dlToken % 2 ^ 20 * 2 ^ 12 + r.dlItem % 2 ^ 12

/-- QUERY_REQUEST (0xC214, R135): the entry unchanged. -/
def execQueryRequest (e : Env) (handle : Nat) (s : State) : Host.Outcome State Fault Refusal :=
  mailbox Op.queryRequest e (.queryRequest e handle) []
    (onHandle e handle fun _ => none)
    (fun s => (s, { body := .bytes (leBytes 32 (rtOf s handle).word) })) s

/-- Handles of the requests a seat sees, in ascending RT index (R134, R644). -/
def requestList (s : State) (seat : Nat) : List (List (Nat × Nat)) :=
  (s.rt.cells.filter fun c => c.2.state != .free && (seat = 0 || c.2.seat = seat)).map fun c => [(4, handleOfRt s c.1)]

/-- LIST_REQUESTS (0xC215, R134). -/
def execListRequests (e : Env) (start : Nat) (s : State) : Host.Outcome State Fault Refusal :=
  mailbox Op.listRequests e (.listRequests e start) [] (fun _ => none)
    (fun s => (s, { body := listBody start 4 [] (requestList s e.seat) })) s

/-- COW_COPY_COMPLETE (R220): the copy of a request ends, unless the ceiling holds its writes (R324). -/
def execCowCopyComplete (handle : Nat) (s : State) : Host.Outcome State Fault Refusal :=
  if handleCurrent s handle && s.dev.memActive && !s.flt.sable then .next ((endCow handle s).getD s) else .next s

end Sys2Proof.Machine
end

