-- ==== Sys2Proof/Machine/Arith.lean ====
section
/-! DEFINITION. Arithmetic without multipliers (chapter 8): FP32 sums in fixed orders, element formats, the log-domain unit,
the random streams, and the result of one Attend item (§9.4). The tables of the log-domain unit are free values (log entry
31). -/

namespace Sys2Proof.Machine

/-! ### FP32 (R245) -/

/-- A finite number ± mant × 2^exp. -/
structure Dy where
  neg : Bool
  mant : Nat
  exp : Int
  deriving DecidableEq, Repr

/-- A number, an infinity or a NaN. -/
inductive Num where
  | nan
  | inf (neg : Bool)
  | fin (d : Dy)
  deriving DecidableEq, Repr

/-- m / 2^k rounded to nearest, ties to even. -/
def rneShift (m k : Nat) : Nat :=
  let q := m / 2 ^ k
  let r := m % 2 ^ k
  if 2 * r < 2 ^ k || (2 * r = 2 ^ k && q % 2 = 0) then q else q + 1

/-- n / d rounded to nearest, ties to even. -/
def rneDiv (n d : Nat) : Nat :=
  let q := n / d
  let r := n % d
  if 2 * r < d || (2 * r = d && q % 2 = 0) then q else q + 1

/-- The sign bit of FP32. -/
def signBit (neg : Bool) : Nat := bit neg * 2 ^ 31

/-- FP32 infinity. -/
def fpInf (neg : Bool) : Nat := signBit neg + 0x7F800000

/-- The NaN the arithmetic makes: a NaN, its sign and payload free (log entry 33). -/
def fpNan : Nat := signBit (Config.nanBits.toNat / 2 ^ 23 = 1) + 0x7F800001 + Config.nanBits.toNat % 8388607

/-- Round ± mant × 2^exp to FP32, to nearest even, with subnormals (R245). -/
def roundFp (neg : Bool) (mant : Nat) (exp : Int) : Nat :=
  if mant = 0 then signBit neg
  else
    let q : Int := max (exp + Nat.log2 mant - 23) (-149)
    let m := if q ≤ exp then mant * 2 ^ (exp - q).toNat else rneShift mant (q - exp).toNat
    let (m, q) := if m = 2 ^ 24 then (2 ^ 23, q + 1) else (m, q)
    if m < 2 ^ 23 then signBit neg + m
    else if 255 ≤ q + 150 then fpInf neg
    else signBit neg + (q + 150).toNat * 2 ^ 23 + (m - 2 ^ 23)

/-- What FP32 bits stand for. -/
def fpNum (x : Nat) : Num :=
  let neg := x / 2 ^ 31 % 2 = 1
  let e : Nat := x / 2 ^ 23 % 256
  let m := x % 2 ^ 23
  if e = 255 then (if m = 0 then .inf neg else .nan)
  else if e = 0 then .fin { neg := neg, mant := m, exp := -149 }
  else .fin { neg := neg, mant := 2 ^ 23 + m, exp := (e : Int) - 150 }

/-- FP32 bits of a number. -/
def Num.fp : Num → Nat
  | .nan => fpNan
  | .inf n => fpInf n
  | .fin d => roundFp d.neg d.mant d.exp

/-- A finite number's signed mantissa at an exponent at or below its own. -/
def Dy.at (d : Dy) (e : Int) : Int :=
  let v : Int := (d.mant * 2 ^ (d.exp - e).toNat : Nat)
  if d.neg then -v else v

/-- FP32 addition, to nearest even (R245). -/
def fpAdd (a b : Nat) : Nat :=
  match fpNum a, fpNum b with
  | .nan, _ => fpNan
  | _, .nan => fpNan
  | .inf x, .inf y => if x = y then fpInf x else fpNan
  | .inf x, _ => fpInf x
  | _, .inf y => fpInf y
  | .fin x, .fin y =>
    let e := min x.exp y.exp
    let v := x.at e + y.at e
    if v = 0 then signBit (x.neg && y.neg && x.mant = 0 && y.mant = 0) else roundFp (v < 0) v.natAbs e

/-- FP32 negation. -/
def fpNeg (a : Nat) : Nat := (a + 2 ^ 31) % 2 ^ 32

/-- FP32 subtraction. -/
def fpSub (a b : Nat) : Nat := fpAdd a (fpNeg b)

/-- A NaN pattern. -/
def fpIsNan (a : Nat) : Bool := 0x7F800000 < a % 2 ^ 31

/-- The order of FP32 values that are no NaN, as an integer. -/
def fpKey (a : Nat) : Int :=
  let v : Int := (a % 2 ^ 31 : Nat)
  if a / 2 ^ 31 % 2 = 1 then -v else v

/-- The maximum by exact comparison; NaN when any is NaN (R243). -/
def fpMax : List Nat → Nat
  | [] => fpInf true
  | [a] => if fpIsNan a then fpNan else a
  | a :: rest =>
    let m := fpMax rest
    if fpIsNan a || fpIsNan m then fpNan else if fpKey m < fpKey a then a else m

/-! ### Sums in fixed orders (Table 8-4) -/

/-- One level of a pairwise tree. -/
def pairUp : List Nat → List Nat
  | a :: b :: rest => fpAdd a b :: pairUp rest
  | l => l

/-- A list padded with zeros to a length. -/
def padZero (n : Nat) (l : List Nat) : List Nat := l ++ List.replicate (n - l.length) 0

/-- A group of 64 terms by a 6-level pairwise tree. -/
def treeGroup (l : List Nat) : Nat := (pairUp (pairUp (pairUp (pairUp (pairUp (pairUp (padZero 64 l))))))).headD 0

/-- Add the remaining groups to a sum, in ascending order. -/
def treeRest : Nat → Nat → List Nat → Nat
  | 0, acc, _ => acc
  | fuel + 1, acc, l => if l.isEmpty then acc else treeRest fuel (fpAdd acc (treeGroup (l.take 64))) (l.drop 64)

/-- Tree mode (Table 8-4). -/
def treeSum (l : List Nat) : Nat := treeRest l.length (treeGroup (l.take 64)) (l.drop 64)

/-- One of the 8 partial sums of lane mode. -/
def lanePartial (l : List Nat) (i : Nat) : Nat :=
  match ((l.zip (List.range l.length)).filter fun x => x.2 % 8 = i).map (·.1) with
  | [] => 0
  | a :: rest => rest.foldl fpAdd a

/-- Lane mode (Table 8-4). -/
def laneSum (l : List Nat) : Nat := (pairUp (pairUp (pairUp ((List.range 8).map (lanePartial l))))).headD 0

/-- Block mode (Table 8-4). -/
def blockSum : List Nat → Nat
  | [] => 0
  | a :: rest => rest.foldl fpAdd a

/-! ### Elements (R114–R118, R234) -/

/-- A small floating-point element: `eb` exponent bits, `mb` mantissa bits and a bias. -/
def smallFloat (eb mb bias x : Nat) : Dy :=
  let neg := x / 2 ^ (eb + mb) % 2 = 1
  let e := x / 2 ^ mb % 2 ^ eb
  let m := x % 2 ^ mb
  if e = 0 then { neg := neg, mant := m, exp := 1 - (bias : Int) - mb }
  else { neg := neg, mant := 2 ^ mb + m, exp := (e : Int) - bias - mb }

/-- An element of OFP8 E5M2 (R115). -/
def e5m2Num (x : Nat) : Num :=
  if x / 4 % 32 = 31 then (if x % 4 = 0 then .inf (x / 128 % 2 = 1) else .nan) else .fin (smallFloat 5 2 15 x)

/-- An element's value, its block scale left out (R115). -/
def elemNum (format x : Nat) : Num :=
  match format with
  | 0 => fpNum x
  | 1 => fpNum (x * 65536)
  | 2 => if x / 1024 % 32 = 31 then (if x % 1024 = 0 then .inf (x / 32768 % 2 = 1) else .nan) else .fin (smallFloat 5 10 15 x)
  | 4 => e5m2Num x
  | 6 => .fin (smallFloat 3 2 3 x)
  | 7 => .fin (smallFloat 2 3 1 x)
  | 8 => .fin (smallFloat 2 1 1 x)
  | 9 => .fin { neg := toInt 8 x < 0, mant := (toInt 8 x).natAbs, exp := -6 }
  | 10 => .fin { neg := toInt 4 x < 0, mant := (toInt 4 x).natAbs, exp := 0 }
  | _ => if x % 128 = 127 then .nan else .fin (smallFloat 4 3 7 x)

/-- Bits of an element (Table 4-4). -/
def elemBits : Nat → Nat
  | 0 => 32 | 1 => 16 | 2 => 16 | 6 => 6 | 7 => 6 | 8 => 4 | 10 => 4 | _ => 8

/-- Elements of a block that share a scale; 0 for formats without one (Table 4-4). -/
def blockOf : Nat → Nat
  | 10 => 64
  | f => if 5 ≤ f then 32 else 0

/-- Bit string of the element at index `i` of a row (R116). -/
def rowElem (b : LoadBody) (row : List Byte) (i : Nat) : Nat :=
  let w := elemBits b.format
  leNat ((row.drop (i * w / 8)).take (w / 8 + 2)) / 2 ^ (i * w % 8) % 2 ^ w

/-- The scale of a head's block (R118): an E8M0 byte, or BF16 for INT4G. -/
def rowScale (b : LoadBody) (row : List Byte) (head blk : Nat) : Nat :=
  let n := head * (b.headDim / blockOf b.format) + blk
  let data := b.elems * elemBits b.format / 8
  if b.format = 10 then leNat ((row.drop (data + 2 * n)).take 2) else leNat ((row.drop (data + n)).take 1)

/-- The value of element `i` of a head, block scale included (R115). -/
def kvNum (b : LoadBody) (row : List Byte) (head i : Nat) : Num :=
  let v := elemNum b.format (rowElem b row (head * b.headDim + i))
  let k := blockOf b.format
  if k = 0 then v
  else
    let sc := rowScale b row head (i / k)
    if b.format = 10 then
      match v, fpNum (sc * 65536) with
      | .fin x, .fin y => .fin { neg := x.neg != y.neg, mant := x.mant * y.mant, exp := x.exp + y.exp }
      | .fin x, .inf n => if x.mant = 0 then .nan else .inf (x.neg != n)
      | _, _ => .nan
    else match v with
      | .fin x => if sc = 255 then .nan else .fin { x with exp := x.exp + sc - 127 }
      | .inf n => if sc = 255 then .nan else .inf n
      | .nan => .nan

/-- A number is finite. -/
def Num.finite : Num → Bool
  | .fin _ => true
  | _ => false

/-- F of a bit-serial format (Table 8-3). -/
def serialF : Nat → Nat
  | 6 => 4 | 7 => 3 | 8 => 1 | 9 => 6 | _ => 0

/-- The scores phase runs bit-serially (Table 8-3). -/
def bitSerial (format : Nat) : Bool := 6 ≤ format

/-- The integer k of an element, its value times 2^F (R234). -/
def serialInt (format x : Nat) : Int :=
  match elemNum format x with
  | .fin d => d.at (-(serialF format : Int))
  | _ => 0

/-! ### The log-domain unit (R240–R242) -/

/-- An operand of the unit: a sign and a logarithm in units of 2^−16, or a special value. -/
inductive LogV where
  | nan
  | zero (neg : Bool)
  | inf (neg : Bool)
  | fin (neg : Bool) (l : Int)
  deriving DecidableEq, Repr

/-- log₂ m in units of 2^−16, rounded down. -/
def logFloor (m : Nat) : Nat := Nat.log2 (m ^ 65536)

/-- The log table: the 16-bit fraction of the logarithm of 1 + f / 2^23, exact for 1 and else one of its two neighbours (R240; log entry 31). -/
def logTable (f : Nat) : Nat :=
  if f = 0 then 0 else min 65535 (logFloor (2 ^ 23 + f) - 23 * 65536 + bit (Config.logUp f))

/-- 2^(f / 4,096) in units of 2^−16, rounded down: the bits of the result from 2^15 down, each set where its 4,096th power allows (R241). -/
def antilogFloor (f : Nat) : Nat :=
  (List.range 16).foldl (fun g i => if (g + 2 ^ (15 - i)) ^ 4096 ≤ 2 ^ (f + 65536) then g + 2 ^ (15 - i) else g) 65536

/-- The antilog table: the significand to 16 fractional bits, exact for 0 and else one of its two neighbours (R241; log entry 31). -/
def antilogTable (f : Nat) : Nat := if f = 0 then 65536 else antilogFloor f + bit (Config.antilogUp f)

/-- ⌊2^64 × log₂ e⌋. -/
def log2e64 : Nat := 26613026195688644983

/-- log₂ (m × 2^e × c) in units of 2^−16, rounded down, where c = SCORE_SCALE × log₂ e and SCORE_SCALE 0 stands for 1/√HEAD_DIM (Table 4-3,
§8.3). -/
def scaledLog (m : Nat) (e : Int) (scale headDim : Nat) : Int :=
  if scale = 0 then (Nat.log2 ((m * log2e64) ^ 65536 / headDim ^ 32768) : Int) + (e - 64) * 65536
  else match fpNum scale with
    | .fin d => (logFloor (m * log2e64 * d.mant) : Int) + (e + d.exp - 64) * 65536
    | _ => 0

/-- Convert a number (R240). -/
def Num.log : Num → LogV
  | .nan => .nan
  | .inf n => .inf n
  | .fin d =>
    if d.mant = 0 then .zero d.neg
    else
      let k := Nat.log2 d.mant
      let frac := if k ≤ 23 then (d.mant - 2 ^ k) * 2 ^ (23 - k) else (d.mant - 2 ^ k) / 2 ^ (k - 23)
      .fin d.neg ((d.exp + k) * 65536 + logTable frac)

/-- A product: logarithms add and signs multiply (R240, R242). -/
def LogV.mul : LogV → LogV → LogV
  | .nan, _ => .nan
  | _, .nan => .nan
  | .inf _, .zero _ => .nan
  | .zero _, .inf _ => .nan
  | .inf a, .inf b => .inf (a != b)
  | .inf a, .fin b _ => .inf (a != b)
  | .fin a _, .inf b => .inf (a != b)
  | .zero a, .zero b => .zero (a != b)
  | .zero a, .fin b _ => .zero (a != b)
  | .fin a _, .zero b => .zero (a != b)
  | .fin a x, .fin b y => .fin (a != b) (x + y)

/-- An element's logarithm, its block scale included: an E8M0 scale adds to the exponent, an INT4G scale as its own logarithm (R240). -/
def kvLog (b : LoadBody) (row : List Byte) (head i : Nat) : LogV :=
  if b.format = 10 then
    (elemNum b.format (rowElem b row (head * b.headDim + i))).log.mul (fpNum (rowScale b row head (i / 64) * 65536)).log
  else (kvNum b row head i).log

/-- The inverse: the negated logarithm (R270 step 5). -/
def LogV.inv : LogV → LogV
  | .nan => .nan
  | .inf n => .zero n
  | .zero n => .inf n
  | .fin n l => .fin n (-l)

/-- The two dithered roundings and the antilog (R241, R242). -/
def LogV.antilog (v : LogV) (dither : Nat) : Nat :=
  match v with
  | .nan => fpNan
  | .inf n => fpInf n
  | .zero n => signBit n
  | .fin n l =>
    let f := ((l % 65536).toNat + dither % 16) / 16
    let e := l / 65536 + (f / 4096 : Nat)
    let sig := (antilogTable (f % 4096) + dither / 16 % 16) / 16
    let e := e + (sig / 8192 : Nat)
    if 127 < e then fpInf n
    else if e < -126 then signBit n
    else signBit n + (e + 127).toNat * 2 ^ 23 + (if 8192 ≤ sig then 0 else sig - 4096) * 2048

/-- 2^(x − m) as a logarithm to 16 fractional bits, to nearest even (R243). -/
def diffLog (x m : Nat) : LogV :=
  match fpNum (fpSub x m) with
  | .nan => .nan
  | .inf n => if n then .zero false else .inf false
  | .fin d =>
    let a := if -16 ≤ d.exp then d.mant * 2 ^ (d.exp + 16).toNat else rneShift d.mant (-16 - d.exp).toNat
    .fin false (if d.neg then -(a : Int) else a)

/-! ### Philox4x32-10 (§8.9) -/

/-- One round. -/
def philoxRound (k : Nat × Nat) (c : Nat × Nat × Nat × Nat) : Nat × Nat × Nat × Nat :=
  let p0 := 0xD2511F53 * c.1
  let p1 := 0xCD9E8D57 * c.2.2.1
  (p1 / 2 ^ 32 ^^^ c.2.1 ^^^ k.1, p1 % 2 ^ 32, p0 / 2 ^ 32 ^^^ c.2.2.2 ^^^ k.2, p0 % 2 ^ 32)

/-- `n` rounds. -/
def philoxRounds : Nat → Nat × Nat → Nat × Nat × Nat × Nat → Nat × Nat × Nat × Nat
  | 0, _, c => c
  | n + 1, k, c => philoxRounds n ((k.1 + 0x9E3779B9) % 2 ^ 32, (k.2 + 0xBB67AE85) % 2 ^ 32) (philoxRound k c)

/-- The 16 bytes of one call (R253). -/
def philox (key c0 c1 c2 c3 : Nat) : List Byte :=
  let x := philoxRounds 10 (key % 2 ^ 32, key / 2 ^ 32 % 2 ^ 32) (c0, c1, c2, c3)
  leBytes 4 x.1 ++ leBytes 4 x.2.1 ++ leBytes 4 x.2.2.1 ++ leBytes 4 x.2.2.2

/-- The key of a purpose for a handle (R252). -/
def streamKey (salt purpose h : Nat) : Nat := salt ^^^ (purpose * 2 ^ 62 + h * 2 ^ 30)

/-- The salt in use (R254, R256). -/
def saltInUse (s : State) : Nat := if s.glb.ditherCtrl / 2 ^ 30 % 2 = 1 then s.glb.ditherSalt else s.glb.salt

/-! ### One item (§9.4) -/

/-- What an item's arithmetic rests on. -/
structure Attn where
  b : LoadBody
  salt : Nat
  ditherCtrl : Nat
  handle : Nat
  /-- L at STEP_OPEN. -/
  len : Nat
  step : Nat
  layer : Nat
  /-- The BF16 query, heads in ascending order. -/
  query : List Nat
  /-- Physical numbers of the live tiles (R263). -/
  live : List Nat
  deriving DecidableEq, Repr

/-- The tile field of a purpose-2 stream under the override (R256). -/
def Attn.tileField (a : Attn) (tile : Nat) : Nat :=
  let src := bits a.ditherCtrl 16 10
  let dst := bits a.ditherCtrl 0 10
  if a.ditherCtrl / 2 ^ 31 % 2 = 1 && src ≤ 319 && dst ≤ 319 && src != dst && tile = dst then src else tile

/-- c1 of purposes 1 and 2 (Table 8-7). -/
def Attn.c1 (a : Attn) (pass phase tile : Nat) : Nat :=
  a.layer % 256 * 2 ^ 24 + pass % 64 * 2 ^ 18 + phase % 4 * 2 ^ 16 + tile % 1024

/-- The dither byte of an LDU lane at a clock (R253). -/
def Attn.byte (a : Attn) (pass phase tile clock lane : Nat) : Nat :=
  leNat (((philox (streamKey a.salt 2 a.handle) (4 * clock + lane / 16) (a.c1 pass phase (a.tileField tile)) a.step a.len).drop
    (lane % 16)).take 1)

/-- A free order of a list: the `k`-th pick chooses among what is left. -/
def freeOrder (pick : Nat → Nat) : Nat → List Nat → List Nat
  | 0, _ => []
  | n + 1, l =>
    let i := pick n % l.length
    l.getD i 0 :: freeOrder pick n (l.eraseIdx i)

/-- The place of item `x` among `c` places, in a free order of its own for each kind of work (log entry 32): no two share one (R251). -/
def freePlace (kind c x : Nat) : Nat := (freeOrder (Config.lduPick kind c) c (List.range c)).getD x 0

/-- The LDU work of an item: kinds of products, each with the clocks of Table 8-2, R270 and R281. -/
inductive LduWork where
  /-- The product of element `i` of a log-path score (R236), of head `h` and position `j` of `n`. -/
  | score (n h j i : Nat)
  /-- The scaling of block `i` of a bit-serial score, and of the score itself, the last of `p` products (R235, R239). -/
  | scale (n p h j i : Nat)
  /-- The weight of a position (R243). -/
  | weight (n h j : Nat)
  /-- A weight times element `i` of V (R244). -/
  | value (n h j i : Nat)
  /-- The rescaling of element `i` of U, or of S as element HEAD_DIM (R270). -/
  | rescale (h i : Nat)
  /-- The normalisation (R270). -/
  | norm (h i : Nat)
  /-- The product of element `i` of a reach's bound, the `r`-th of `n` reaches of the tile (R280). -/
  | bound (n h r i : Nat)
  deriving DecidableEq, Repr

/-- Clock and lane of a product in its phase (R253): in tree mode lane i takes term i of its group of 64 (Table 8-4); elsewhere, and among the
clocks, the order is free (log entry 32). -/
def Attn.slot (a : Attn) (w : LduWork) : Nat × Nat :=
  let qh := a.b.qHeads
  let hd := a.b.headDim
  let g := ceilDiv hd 64
  match w with
  | .score n h j i => (freePlace 0 (qh * n * g) ((h * n + j) * g + i / 64), i % 64)
  | .scale n p h j i =>
    let v := freePlace 1 (64 * ceilDiv (qh * n * p) 64) ((h * n + j) * p + i)
    (v / 64, v % 64)
  | .weight n h j => (freePlace 2 (qh * ceilDiv n 64) (h * ceilDiv n 64 + j / 64), j % 64)
  | .value n h j i =>
    let c := ceilDiv (qh * hd) 64
    let v := freePlace 3 (64 * c) (h * hd + i)
    (freePlace 4 (c * n) (v / 64 * n + j), v % 64)
  | .rescale h i =>
    let v := freePlace 5 (64 * ceilDiv (qh * (hd + 1)) 64) (h * (hd + 1) + i)
    (v / 64, v % 64)
  | .norm h i =>
    let v := freePlace 6 (64 * ceilDiv (qh * hd) 64) (h * hd + i)
    (v / 64, v % 64)
  | .bound n h r i => (freePlace 7 (n * qh * g) ((r * qh + h) * g + i / 64), i % 64)

/-- The dither byte of a product (R253). -/
def Attn.dither (a : Attn) (pass phase tile : Nat) (w : LduWork) : Nat := a.byte pass phase tile (a.slot w).1 (a.slot w).2

/-- Element `i` of a head's query. -/
def Attn.q (a : Attn) (h i : Nat) : Nat := a.query.getD (h * a.b.headDim + i) 0

/-- The KV head of a query head (R113). -/
def Attn.kvHead (a : Attn) (h : Nat) : Nat := h * a.b.kvHeads / a.b.qHeads

/-- A head holds a NaN or an infinity (R238). -/
def Attn.badHead (a : Attn) (h : Nat) : Bool := (List.range a.b.headDim).any fun i => a.q h i / 128 % 256 = 255

/-- A query element on the log path, c included (R236). -/
def Attn.qLog (a : Attn) (h i : Nat) : LogV :=
  match fpNum (a.q h i * 65536) with
  | .nan => .nan
  | .inf n => .inf n
  | .fin d => if d.mant = 0 then .zero d.neg
    else .fin d.neg (scaledLog d.mant d.exp a.b.scoreScale a.b.headDim + bit (Config.queryUp (a.q h i) a.b.scoreScale a.b.headDim))

/-- s of a head on the bit-serial path (R237). -/
def Attn.s (a : Attn) (h : Nat) : Nat :=
  let m := ((List.range a.b.headDim).map fun i => a.q h i % 2 ^ 15).foldl max 0
  match fpNum (m * 65536) with
  | .fin d => roundFp false (rneDiv (d.mant * 2 ^ 64) 127) (d.exp - 64)
  | n => n.fp

/-- The stochastically rounded element a_i (R237). -/
def Attn.aInt (a : Attn) (h i : Nat) : Int :=
  match fpNum (a.q h i * 65536), fpNum (a.s h) with
  | .fin x, .fin s =>
    if s.mant = 0 then 0
    else
      let k : Int := x.exp - s.exp + 16
      let r := min (127 * 65536) (if 0 ≤ k then rneDiv (x.mant * 2 ^ k.toNat) s.mant else rneDiv x.mant (s.mant * 2 ^ (-k).toNat))
      let r : Int := if x.neg then -(r : Int) else r
      let e := h * a.b.headDim + i
      let u := leNat (((philox (streamKey a.salt 1 a.handle) (e / 8) (a.c1 0 0 1023) a.step a.len).drop (2 * (e % 8))).take 2)
      r / 65536 + (if (u : Int) < r % 65536 then 1 else 0)
  | _, _ => 0

/-- The logarithm of c × s of a head (R239). -/
def Attn.scaleLog (a : Attn) (h : Nat) : LogV :=
  match fpNum (a.s h) with
  | .fin d => .fin false (scaledLog d.mant d.exp a.b.scoreScale a.b.headDim + bit (Config.scaleUp (a.s h) a.b.scoreScale a.b.headDim))
  | .inf n => .inf n
  | .nan => .nan

/-- A log-path score (R240, R245). -/
def Attn.logScore (a : Attn) (pass tile n j h : Nat) (krow : List Byte) : Nat :=
  treeSum ((List.range a.b.headDim).map fun i =>
    ((a.qLog h i).mul (kvLog a.b krow (a.kvHead h) i)).antilog (a.dither pass 0 tile (.score n h j i)))

/-- The block term t_b of a bit-serial score (R235, R239). -/
def Attn.blockTerm (a : Attn) (pass tile n p j h blk : Nat) (krow : List Byte) : Nat :=
  let k := blockOf a.b.format
  let kvh := a.kvHead h
  let g : Int := ((List.range k).map fun i =>
    a.aInt h (blk * k + i) * serialInt a.b.format (rowElem a.b krow (kvh * a.b.headDim + blk * k + i))).foldl (· + ·) (0 : Int)
  let sc := rowScale a.b krow kvh blk
  if a.b.format = 10 then
    ((Num.fin { neg := g < 0, mant := g.natAbs, exp := 0 }).log.mul (fpNum (sc * 65536)).log).antilog
      (a.dither pass 0 tile (.scale n p h j blk))
  else if sc = 255 then fpNan
  else roundFp (g < 0) g.natAbs ((sc : Int) - 127 - serialF a.b.format)

/-- A bit-serial score (R235, R237–R239). -/
def Attn.serialScore (a : Attn) (pass tile n j h : Nat) (krow : List Byte) : Nat :=
  if a.badHead h then fpNan
  else if a.s h = 0 then 0
  else
    let p := if a.b.format = 10 then a.b.headDim / 64 + 1 else 1
    let t := blockSum ((List.range (a.b.headDim / blockOf a.b.format)).map fun blk => a.blockTerm pass tile n p j h blk krow)
    ((fpNum t).log.mul (a.scaleLog h)).antilog (a.dither pass 0 tile (.scale n p h j (p - 1)))

/-- A score (R233). -/
def Attn.score (a : Attn) (pass tile n j h : Nat) (krow : List Byte) : Nat :=
  if bitSerial a.b.format then a.serialScore pass tile n j h krow else a.logScore pass tile n j h krow

/-- m, S and U of a head in one tile (R243, R244). -/
structure HeadSt where
  m : Nat
  s : Nat
  u : List Nat
  deriving DecidableEq, Repr

/-- One tile's pass over its positions, each a K row and a V row (R243, R244). -/
def Attn.passHead (a : Attn) (pass tile h : Nat) (rows : List (List Byte × List Byte)) : HeadSt :=
  let n := rows.length
  let ys := (rows.zip (List.range n)).map fun x => a.score pass tile n x.2 h x.1.1
  let m := fpMax ys
  let d := ys.map fun y => diffLog y m
  let ws := (d.zip (List.range n)).map fun x => x.1.antilog (a.dither pass 1 tile (.weight n h x.2))
  let kvh := a.kvHead h
  { m := m, s := treeSum ws
    u := (List.range a.b.headDim).map fun i =>
      laneSum ((d.zip (rows.zip (List.range n))).map fun x =>
        (x.1.mul (kvLog a.b x.2.1.2 kvh i)).antilog (a.dither pass 2 tile (.value n h x.2.2 i))) }

/-- Rescale a state's S and U by 2^(m − goal) (R270). -/
def Attn.rescale (a : Attn) (pass tile h goal : Nat) (x : HeadSt) : HeadSt :=
  let f := diffLog x.m goal
  let d := fun i => a.dither pass 3 tile (.rescale h i)
  { m := goal, s := (f.mul (fpNum x.s).log).antilog (d a.b.headDim)
    u := (x.u.zip (List.range x.u.length)).map fun y => (f.mul (fpNum y.1).log).antilog (d y.2) }

/-- Fold pass `pass` into a tile's running state (R270 step 1). -/
def Attn.fold (a : Attn) (pass tile h : Nat) (x y : HeadSt) : HeadSt :=
  let m := fpMax [x.m, y.m]
  let x := if fpIsNan m then x else if fpKey x.m < fpKey m then a.rescale pass tile h m x else x
  let y := if fpIsNan m then y else if fpKey y.m < fpKey m then a.rescale pass tile h m y else y
  { m := m, s := fpAdd x.s y.s, u := (x.u.zip y.u).map fun z => fpAdd z.1 z.2 }

/-- A tile's state of a head over its passes; none without positions (R270). -/
def Attn.tileHead (a : Attn) (tile h : Nat) : Nat → List (List (List Byte × List Byte)) → Option HeadSt → Option HeadSt
  | _, [], acc => acc
  | k, rows :: rest, acc =>
    a.tileHead tile h (k + 1) rest (if rows.isEmpty then acc else
      let y := a.passHead k tile h rows
      match acc with
      | none => some y
      | some x => some (a.fold k tile h x y))

/-- Rows of each pass that fall to live tile number `t` (R263, R265): the staged positions come numbered. -/
def tileRows (t nT : Nat) (passes : List (List (Nat × List Byte × List Byte))) : List (List (List Byte × List Byte)) :=
  passes.map fun p => (p.filter fun x => x.1 % nT = t).map (·.2)

/-- A head attends over a NaN, an infinity or a scale that is not finite, in K or in V (R117). -/
def Attn.badRows (a : Attn) (h : Nat) (passes : List (List (Nat × List Byte × List Byte))) : Bool :=
  let bad := fun (row : List Byte) => (List.range a.b.headDim).any fun i => !(kvNum a.b row (a.kvHead h) i).finite
  passes.any fun p => p.any fun x => bad x.2.1 || bad x.2.2

/-- O, M and S of one head (R268, R270); what is not finite in what the head attends over makes O and S NaN (R117). -/
def Attn.head (a : Attn) (h : Nat) (passes : List (List (Nat × List Byte × List Byte))) : List Nat × Nat × Nat :=
  let nT := a.live.length
  let st := (List.range 320).map fun p =>
    match a.live.findIdx? (· = p) with
    | some t => a.tileHead p h 0 (tileRows t nT passes) none
    | none => none
  let m := fpMax (st.filterMap fun x => x.map (·.m))
  let hd := a.b.headDim
  if fpIsNan m || a.badHead h || a.badRows h passes then (List.replicate hd fpNan, m, fpNan)
  else
    let st := (st.zip (List.range 320)).map fun x => x.1.map (a.rescale passes.length x.2 h m)
    let s := treeSum (st.map fun x => (x.map (·.s)).getD 0)
    let inv := (fpNum s).log.inv
    let o := (List.range hd).map fun i =>
      ((fpNum (treeSum (st.map fun x => (x.map fun y => y.u.getD i 0).getD 0))).log.mul inv).antilog
        (a.dither 0 3 1023 (.norm h i))
    (o, m, s)

/-- The bytes of an item's result before its completion record (Table 9-4). -/
def Attn.result (a : Attn) (passes : List (List (Nat × List Byte × List Byte))) : List Byte :=
  let hs := (List.range a.b.qHeads).map fun h => a.head h passes
  let body := (hs.map fun x => (x.1.map (leBytes 4)).flatten).flatten ++ (hs.map fun x => leBytes 4 x.2.1 ++ leBytes 4 x.2.2).flatten
  body ++ List.replicate (alignUp body.length 64 - body.length) 0

/-- B_item (R269). -/
def resultLen (b : LoadBody) : Nat := ceilDiv (b.qHeads * (4 * b.headDim + 8)) 64 * 64 + 64

/-- R_pass (R265). -/
def passReaches (b : LoadBody) (nT : Nat) : Nat := if b.row = 0 then 0 else nT * (1048576 / (2 * b.row)) / b.tokens

/-! ### Digests (R277, R280) -/

/-- The order of two finite numbers. -/
def Dy.le (x y : Dy) : Bool := let e := min x.exp y.exp; x.at e ≤ y.at e

/-- The order of numbers that are no NaN. -/
def Num.le : Num → Num → Bool
  | .nan, _ => true
  | _, .nan => true
  | .inf true, _ => true
  | _, .inf false => true
  | .inf false, _ => false
  | _, .inf true => false
  | .fin x, .fin y => x.le y

/-- The finite and infinite values of E5M2 in ascending order, as bit patterns. -/
def e5m2Asc : List Nat := (List.range 125).map (fun i => 252 - i) ++ List.range 125

/-- HI of a slice's element: the maximum over its K rows, rounded up to E5M2 (R277). -/
def digestHi (vs : List Num) : Num :=
  if vs.contains .nan then .nan
  else
    let m := vs.foldl (fun (m : Num) v => if m.le v then v else m) (.inf true)
    e5m2Num ((e5m2Asc.find? fun x => m.le (e5m2Num x)).getD 124)

/-- LO of a slice's element: the minimum, rounded down to E5M2 (R277). -/
def digestLo (vs : List Num) : Num :=
  let vs := vs.filter (· != .nan)
  let m := vs.foldl (fun (m : Num) v => if v.le m then v else m) (.inf false)
  e5m2Num ((e5m2Asc.reverse.find? fun x => (e5m2Num x).le m).getD 252)

/-- B(r), the bound of a reach whose K rows are given, in live tile `tile` (R280). A NaN bound counts as +infinity. -/
def Attn.bound (a : Attn) (tile n r : Nat) (krows : List (List Byte)) : Int :=
  let bs := (List.range a.b.qHeads).map fun h =>
    treeSum ((List.range a.b.headDim).map fun i =>
      let vs := krows.map fun row => kvNum a.b row (a.kvHead h) i
      let d := if a.q h i / 2 ^ 15 % 2 = 0 || a.q h i % 2 ^ 15 = 0 then digestHi vs else digestLo vs
      ((a.qLog h i).mul d.log).antilog (a.dither 63 0 tile (.bound n h (r / max 1 a.live.length) i)))
  let m := fpMax bs
  if fpIsNan m then fpKey (fpInf false) else fpKey m

/-- The reaches a selecting item attends to, in ascending order: forced ones, then those of highest bound, ties to the lower
(R280). -/
def chooseReaches (n sel : Nat) (forced : Nat → Bool) (bound : Nat → Int) : List Nat :=
  let fs := (List.range n).filter forced
  let cand := (List.range n).filter fun r => !forced r
  let better := fun r => (cand.filter fun x => bound r < bound x || (bound r = bound x && x < r)).length
  let picked := cand.filter fun r => better r < sel - fs.length
  (List.range n).filter fun r => fs.contains r || picked.contains r

end Sys2Proof.Machine
end

