-- ==== Sys2Proof/Machine/Shoal.lean ====
section
/-! DEFINITION. The Shoal codec (chapter 12): classes, code tables, the coded block, the map-unit object, its decoding and
the two test commands. -/

namespace Sys2Proof.Machine

/-! ### Classes and tables (R348–R350) -/

/-- CLASS of a KV frame from the partition's format (Table 12-3). -/
def classOfFormat (f : Nat) : Nat :=
  match f with
  | 0 => 1 | 1 => 2 | 2 => 3 | 3 => 4 | 4 => 4 | 5 => 4 | 6 => 0 | 7 => 0 | 8 => 6 | 9 => 5 | _ => 7

/-- T_H, codes by symbol, first bit first (Table 12-5). -/
def shoalTH : List (List Bool) :=
  [[false, false], [true, false, false], [true, true, true, true, false, false, false], [true, true, true, true,
   false, false, true], [true, true, true, true, true, true, false, false], [true, true, true, true, true, true,
   false, true], [true, true, true, true, false, true, false], [true, true, true, false], [false, true], [true,
   false, true], [true, true, true, true, false, true, true], [true, true, true, true, true, true, true, false],
   [true, true, true, true, true, true, true, true], [true, true, true, true, true, false, false], [true, true,
   true, true, true, false, true], [true, true, false]]

/-- T_L (Table 12-5). -/
def shoalTL : List (List Bool) :=
  [[false], [true, false, false], [true, true, false, false], [true, true, true, false, false], [true, true, true,
   true, false, false], [true, true, true, true, true, false, false], [true, true, true, true, true, true, false,
   false], [true, true, true, true, true, true, true, true, false], [true, true, true, true, true, true, false,
   true], [true, true, true, true, true, true, true, true, true], [true, true, true, true, true, true, true,
   false], [true, true, true, true, true, false, true], [true, true, true, true, false, true], [true, true, true,
   false, true], [true, true, false, true], [true, false, true]]

/-- How a nibble is coded: with T_H or T_L, and relative to centre B or A; none for a literal. -/
structure Lane12 where
  high : Bool
  centreB : Bool
  deriving DecidableEq, Repr

/-- The lane of the nibble of byte `i` of a block (Table 12-4). -/
def nibLane (cls i : Nat) (hi : Bool) : Option Lane12 :=
  match cls with
  | 1 => if i % 4 = 3 then (if hi then some ⟨true, false⟩ else some ⟨false, true⟩) else none
  | 2 => if i % 2 = 1 then (if hi then some ⟨true, false⟩ else some ⟨false, true⟩) else none
  | 3 => if i % 2 = 1 && hi then some ⟨true, false⟩ else none
  | 4 => if hi then some ⟨true, false⟩ else none
  | 5 => if hi then some ⟨false, false⟩ else none
  | 6 => some ⟨true, false⟩
  | 7 => some ⟨false, false⟩
  | _ => none

/-- A lane's table. -/
def Lane12.table (l : Lane12) : List (List Bool) := if l.high then shoalTH else shoalTL

/-- The code of a symbol. -/
def codeOf (l : Lane12) (sym : Nat) : List Bool := l.table.getD (sym % 16) []

/-- The 8,192 nibbles of a block with their lanes, in stream order: each byte's low nibble, then its high one (R351). -/
def nibbles (cls : Nat) : Nat → List Byte → List (Nat × Option Lane12)
  | _, [] => []
  | i, b :: rest => (b.toNat % 16, nibLane cls i false) :: (b.toNat / 16, nibLane cls i true) :: nibbles cls (i + 1) rest

/-- Bits a lane's nibbles take with a centre (R353). -/
def laneCost (ns : List (Nat × Option Lane12)) (b : Bool) (c : Nat) : Nat :=
  ns.foldl (fun t n => match n.2 with
    | some l => if l.centreB = b then t + (codeOf l (n.1 + 16 - c)).length else t
    | none => t) 0

/-- The centre of a lane: least cost, ties to the lowest (R353); 0 where the class has no such lane (R351). -/
def centreOf (ns : List (Nat × Option Lane12)) (b : Bool) : Nat :=
  ((List.range 16).foldl (fun (m : Nat × Option Nat) c =>
    let k := laneCost ns b c
    match m.2 with
    | some best => if k < best then (c, some k) else m
    | none => (c, some k)) (0, none)).1

/-- The four bits of a literal nibble, bit 0 first (R351). -/
def literalBits (v : Nat) : List Bool := [v % 2 = 1, v / 2 % 2 = 1, v / 4 % 2 = 1, v / 8 % 2 = 1]

/-- The stream of a block (R351). -/
def blockStream (ns : List (Nat × Option Lane12)) (a b : Nat) : List Bool :=
  literalBits b ++ literalBits a ++
  (ns.map fun n => match n.2 with
    | some l => codeOf l (n.1 + 16 - (if l.centreB then b else a))
    | none => literalBits n.1).flatten

/-- Pack bits into `n` bytes, stream bit k at bit k mod 8 (R351). -/
def packBits : Nat → List Bool → List Byte
  | 0, _ => []
  | n + 1, l =>
    BitVec.ofNat 8 ((l.take 8).foldr (fun b t => bit b + 2 * t) 0) :: packBits n (l.drop 8)

/-- One block of 4,096 B as stored: its length code L and its bytes (R352). -/
def shoalBlock (cls : Nat) (data : List Byte) : Nat × List Byte :=
  if cls = 0 then (255, data)
  else
    let ns := nibbles cls 0 data
    let st := blockStream ns (centreOf ns false) (centreOf ns true)
    let g := ceilDiv st.length 128
    if g ≤ 255 then (g - 1, packBits (16 * g) st) else (255, data)

/-- Block `i` of a unit. -/
def unitBlock (data : List Byte) (i : Nat) : List Byte := (data.drop (4096 * i)).take 4096

/-- A map unit as stored: raw, or an object (R354, R355). -/
def shoalUnit (c0 c1 : Nat) (data : List Byte) : Bool × List Byte :=
  if c0 = 0 && c1 = 0 then (true, data)
  else
    let bs := (List.range 16).map fun i => shoalBlock (if i < 8 then c0 else c1) (unitBlock data i)
    let index := bs.map (fun b => BitVec.ofNat 8 b.1) ++ leBytes 1 c0 ++ leBytes 1 c1 ++ [1#8] ++ List.replicate 13 0
    let obj := index ++ (bs.map (·.2)).flatten
    if obj.length ≤ 65504 then (false, obj) else (true, data)

/-- LEN of a stored unit in its map entry (Table 13-2). -/
def storedLen (c0 c1 : Nat) (data : List Byte) : Nat :=
  let (raw, b) := shoalUnit c0 c1 data
  if raw then 0xFFF else b.length / 16

/-! ### Decoding (R362) -/

/-- The bits of a byte, bit 0 first. -/
def byteBits (b : Byte) : List Bool := (List.range 8).map fun i => b.getLsbD i

/-- Drop a prefix; none where the list does not begin with it. -/
def stripPrefix : List Bool → List Bool → Option (List Bool)
  | [], l => some l
  | a :: p, b :: l => if a = b then stripPrefix p l else none
  | _ :: _, [] => none

/-- Read one code: the symbol and what is left. -/
def readCode (l : Lane12) (st : List Bool) : Option (Nat × List Bool) :=
  (List.range 16).findSome? fun k => (stripPrefix (codeOf l k) st).map fun r => (k, r)

/-- Read one nibble. -/
def readNibble (l : Option Lane12) (a b : Nat) (st : List Bool) : Option (Nat × List Bool) :=
  match l with
  | some t => (readCode t st).map fun x => ((x.1 + (if t.centreB then b else a)) % 16, x.2)
  | none => if st.length < 4 then none else some ((st.take 4).foldr (fun b t => bit b + 2 * t) 0, st.drop 4)

/-- Decode the bytes of a coded block from byte `i` on. -/
def readBlock (cls a b : Nat) : Nat → Nat → List Bool → Option (List Byte)
  | 0, _, _ => some []
  | n + 1, i, st =>
    match readNibble (nibLane cls i false) a b st with
    | none => none
    | some (lo, st) =>
      match readNibble (nibLane cls i true) a b st with
      | none => none
      | some (hi, st) => (readBlock cls a b n (i + 1) st).map fun r => BitVec.ofNat 8 (lo + 16 * hi) :: r

/-- Decode one stored block. -/
def decodeBlock (cls len : Nat) (data : List Byte) : Option (List Byte) :=
  if len = 255 then some data
  else if cls = 0 then none
  else
    let h := ((data.headD 0).toNat)
    readBlock cls (h / 16) (h % 16) 4096 0 ((data.drop 1).map byteBits).flatten

/-- Decode the blocks of an object. -/
def decodeBlocks (c0 c1 : Nat) : Nat → List Nat → List Byte → Option (List Byte)
  | _, [], _ => some []
  | i, l :: ls, data =>
    match decodeBlock (if i < 8 then c0 else c1) l (data.take (16 * (l + 1))) with
    | none => none
    | some b => (decodeBlocks c0 c1 (i + 1) ls (data.drop (16 * (l + 1)))).map fun r => b ++ r

/-- Decode an object; none where a check of R362 fails. -/
def shoalDecode (obj : List Byte) : Option (List Byte) :=
  let at_ := fun i => (obj.getD i 0).toNat
  let ls := (List.range 16).map at_
  let len := 32 + 16 * (ls.foldl (fun t l => t + l + 1) 0)
  if obj.length < 32 || at_ 18 != 1 || 7 < at_ 16 || 7 < at_ 17 || obj.length != len ||
      (List.range 13).any (fun i => at_ (19 + i) != 0) ||
      (List.range 16).any (fun i => (if i < 8 then at_ 16 else at_ 17) = 0 && ls.getD i 0 != 255) then none
  else decodeBlocks (at_ 16) (at_ 17) 0 ls (obj.drop 32)

/-! ### Test commands (R364) -/

/-- What SHOAL_ENCODE makes of its source. -/
def encodeResult (src class0 class1 : Nat) (s : State) : Bool × List Byte :=
  shoalUnit class0 class1 ((hdmBytes s 0 src 65536).getD [])

/-- SHOAL_ENCODE (0xCB30, R364). -/
def execShoalEncode (e : Env) (src dst class0 class1 : Nat) (s : State) : Host.Outcome State Fault Refusal :=
  mailbox Op.shoalEncode e (.shoalEncode e src dst class0 class1) []
    (fun s => if !placedOk s 0 src 65536 64 || 7 < class0 || 7 < class1 ||
          !placedOk s 0 dst (encodeResult src class0 class1 s).2.length 64 || hdmDamaged s 0 src 65536 then
        some (.of .invalid) else none)
    (fun s =>
      let r := encodeResult src class0 class1 s
      (hdmPut false 0 dst r.2 s, .okFields [(8, r.2.length), (1, bit r.1)])) s

/-- SHOAL_DECODE (0xCB31, R364). -/
def execShoalDecode (e : Env) (src dst length : Nat) (s : State) : Host.Outcome State Fault Refusal :=
  mailbox Op.shoalDecode e (.shoalDecode e src dst length) []
    (fun s => if length < 32 || 65504 < length || !placedOk s 0 src length 64 || !placedOk s 0 dst 65536 64 ||
          hdmDamaged s 0 src length || (((hdmBytes s 0 src length).bind shoalDecode).isNone) then
        some (.of .invalid) else none)
    (fun s => match (hdmBytes s 0 src length).bind shoalDecode with
      | some d => (hdmPut false 0 dst d s, .okFields [(8, d.length)])
      | none => (s, .of .invalid)) s

end Sys2Proof.Machine
end

