-- ==== Sys2Proof/Machine/Flash.lean ====
section
/-! DEFINITION. Flash media management (chapter 13), write-back (§11.3) and HBM maintenance (§11.8). -/

namespace Sys2Proof.Machine

/-! ### Lanes and blocks (R366–R368, R374, R378) -/

/-- Change a lane. -/
def updLane (l : Nat) (f : Lane → Lane) (s : State) : State := { s with flash := { s.flash with lanes := s.flash.lanes.upd l f } }

/-- Change a block of a lane. -/
def updBlk (l b : Nat) (f : Blk → Blk) (s : State) : State := updLane l (fun x => { x with blocks := x.blocks.upd b f }) s

/-- Mean erase count of a lane's good blocks reaches 2,700: FLASH_WEAR (R402). -/
def checkWear (l : Nat) (s : State) : State :=
  let g := goodBlocks s l
  let sum := (g.map fun b => ((s.flash.lanes.get l).blocks.get b).erase).foldl (· + ·) 0
  if !g.isEmpty && 2700 * g.length ≤ sum && !s.flt.causes.getLsbD 9 then
    causeFault 9 { cls := 1, unit := 7, index := l, event := 15, location := 0xFFFFFFFF } s
  else s

/-- Erase a block: its count rises and it is free (R375, R380). -/
def eraseBlk (l b : Nat) (s : State) : State :=
  checkWear l (updBlk l b (fun x => { x with st := .free, erase := x.erase + 1, reads := 0, firstProg := 0, refresh := false, recs := [] }) s)

/-- A writer may take a free block of a lane: the flush any, GC while F is above 8, HOST while it is above 10 (Table 13-3). -/
def mayOpen (s : State) (l : Nat) (gc flush : Bool) : Bool :=
  flush || (if gc then 8 < freeCount s l else 10 < freeCount s l)

/-- The free good block with the lowest erase count, the lowest number first (R378). -/
def leastWorn (s : State) (l : Nat) : Option Nat :=
  leastBlock (fun b => ((s.flash.lanes.get l).blocks.get b).erase) (blocksIn s l .free)

/-- Open a block for HOST or GC, closing the one before it; none while no free block may be taken (R370, R374, R378). -/
def openBlk (l : Nat) (gc flush : Bool) (s : State) : Option State :=
  if !mayOpen s l gc flush then none
  else (leastWorn s l).map fun b =>
    let x := s.flash.lanes.get l
    let s := match if gc then x.gc else x.host with
      | some (c, _) => updBlk l c (fun y => { y with st := .closed }) s
      | none => s
    let s := updBlk l b (fun y => { y with st := .opened, firstProg := s.dev.parkClock, recs := [] }) s
    updLane l (fun y => if gc then { y with gc := some (b, 0) } else { y with host := some (b, 0) }) s

/-- Append a unit's slots to the open block (R370); its position. -/
def appendUnit (l : Nat) (gc : Bool) (unit len : Nat) (s : State) : State × Nat :=
  let x := s.flash.lanes.get l
  match if gc then x.gc else x.host with
  | some (b, at_) =>
    let s := updBlk l b (fun y => { y with recs := y.recs ++ [(unit, at_, len)] }) s
    let next := some (b, at_ + slotsOf len)
    (updLane l (fun y => if gc then { y with gc := next } else { y with host := next }) s, b * 65536 + at_)
  | none => (s, 0)

/-- The open block holds a unit of this LEN. -/
def hasRoom (s : State) (l : Nat) (gc : Bool) (len : Nat) : Bool :=
  match if gc then (s.flash.lanes.get l).gc else (s.flash.lanes.get l).host with
  | some (_, at_) => at_ + slotsOf len ≤ blockSlots
  | none => false

/-- The map entry of a unit moves to a new place, with its journal record (R397). -/
def moveEntry (unit pos : Nat) (s : State) : State :=
  journal 1 { s with flash := { s.flash with
    map := updFirst (fun m => m.unit = unit) (fun m => { m with pos := pos, old := false }) s.flash.map } }

/-- Rewrite a block's valid units in summary order, each placed by `place` (R375, R379, R382, R386); none when one finds no place. -/
def relocateWith (place : Nat → Nat → State → Option (State × Nat)) (l b : Nat) (s : State) : Option State :=
  (((s.flash.lanes.get l).blocks.get b).recs.filter (recValid s b)).foldl (fun (x : Option State) r =>
    x.bind fun s => (place r.1 r.2.2 s).map fun y => moveEntry r.1 y.2 y.1) (some s)

/-- Place a unit in a lane (R370), opening a block where it does not fit; for each block opened while F is below 32, one
victim is collected (R374, R375). The flush starts no collection. The fuel bounds collections started by collections. -/
def placeUnit : Nat → Nat → Bool → Bool → Nat → Nat → State → Option (State × Nat)
  | 0, l, gc, _, unit, len, s => if hasRoom s l gc len then some (appendUnit l gc unit len s) else none
  | fuel + 1, l, gc, flush, unit, len, s =>
    if hasRoom s l gc len then some (appendUnit l gc unit len s)
    else (openBlk l gc flush s).map fun s =>
      let s := if flush || 32 ≤ freeCount s l then s
        else match victimOf s l with
          | none => s
          | some v =>
            match relocateWith (placeUnit fuel l true false) l v (updBlk l v (fun x => { x with st := .moving }) s) with
            | some t => eraseBlk l v (programJournal t)
            | none => s
      appendUnit l gc unit len s

/-- In REPLAY mode writes wait while the journal since the latest checkpoint holds 2^28 records (R398). -/
def journalFull (s : State) : Bool := !s.tier.flushMode && 2 ^ 28 ≤ s.flash.jSince

/-- Place a unit in its lane; none in a DEAD lane (R390), while no block may be taken (R374), or while the journal is full (R398), which does
not bind the flush. -/
def place (gc flush : Bool) (unit len : Nat) (s : State) : Option (State × Nat) :=
  if (s.flash.lanes.get (laneOf unit)).cond = .dead || (!flush && journalFull s) then none else placeUnit 3724 (laneOf unit) gc flush unit len s

/-- Relocate a block's valid units through the GC block and erase it (R379, R386); nothing moves while no block may be taken. -/
def relocate (l b : Nat) (s : State) : State :=
  match relocateWith (place true false) l b (updBlk l b (fun x => { x with st := .moving }) s) with
  | some t => eraseBlk l b (programJournal t)
  | none => s

/-- Whether writers other than GC and the flush may take space in a lane (Table 13-3). -/
def laneOpen (s : State) (l : Nat) : Bool :=
  (s.flash.lanes.get l).cond != .dead && (10 < freeCount s l || hasRoom s l false 0xFFF)

/-! ### Contents of units (R354, R589) -/

/-- The bytes of one HBM frame. -/
def frameBytes (s : State) (k : FrameKey) : List Byte :=
  match k with
  | .kv p n => memBytes (s.parts.get p).kv (32768 * n) 32768
  | .region id n => match regionOf s id with
    | some r => memBytes r.data (32768 * n) 32768
    | none => List.replicate 32768 0
  | _ => List.replicate 32768 0

/-- CLASS of a frame (Table 12-2). -/
def frameClass (s : State) (k : FrameKey) : Nat :=
  match k with
  | .kv p n =>
    let b := (s.parts.get p).body
    if b.mode = 0 then classOfFormat b.format
    else match objOfFrame (s.parts.get p) n with
      | some (_, o) => if o.prot || o.noCompress then 0 else classOfFormat b.format
      | none => 0
  | .region id _ =>
    match regionOf s id with
    | some r => r.shoal
    | none => 0
  | _ => 0

/-- The 65,536 bytes of a unit as its frames hold them. -/
def unitBytes (s : State) (u : UnitKey) : List Byte := padTo 65536 ((framesOfUnit s u).map (frameBytes s)).flatten

/-- Bytes as canonical cells. -/
def cellsOf (l : List Byte) : List Host.Cell := memPuts [] 0 l

/-- A frame holds a damaged unit (R588). -/
def frameDamaged (s : State) (k : FrameKey) : Bool := s.flt.damage.any fun d => d.1 = k

/-- The program of a unit: its new stored form (R354, R372). -/
def progOf (s : State) (u : UnitKey) (unit pos : Nat) : Prog :=
  let fs := framesOfUnit s u
  let data := unitBytes s u
  { key := u, unit := unit, pos := pos, damaged := fs.any (frameDamaged s), data := cellsOf data
    len := storedLen (frameClass s (fs.getD 0 (.kv 0 0))) (fs[1]?.map (frameClass s) |>.getD 0) data }

/-! ### Parity of PARITY homes (R488, R489) -/

/-- The unit is a home of a PARITY region or object. -/
def parityUnit (s : State) (u : UnitKey) : Bool :=
  match u with
  | .region id _ => ((regionOf s id).map (·.parity)).getD false
  | .stash p r k _ => ((objOf s p r k).map (·.parity)).getD false
  | _ => false

/-- The lowest free data unit of this member in the parity space (R488). -/
def freeParity (s : State) : Nat :=
  let used := s.pset.units.map (·.2)
  ((List.range (2 * (used.length + 1) + 1)).find? fun k => parityMember s k != s.pset.index && !used.contains k).getD 0

/-- Give a PARITY home its place in the parity space. -/
def takeParity (u : UnitKey) (s : State) : State :=
  if !parityUnit s u || (parityIndex s u).isSome then s
  else { s with pset := { s.pset with units := s.pset.units ++ [(u, freeParity s)] } }

/-- A PARITY unit is about to be programmed with these contents: its delta goes out; in a flush, with the links down, its stripe
becomes stale (R488, R489). -/
def parityProgram (flush : Bool) (u : UnitKey) (new : List Byte) (s : State) : State :=
  let s := takeParity u s
  match parityIndex s u with
  | none => s
  | some k => if flush then addStale k s else sendDelta k (parityView s u) new s

/-- The parity entries of a unit are not covered by the credit yet (R488). -/
def parityWaits (s : State) (u : UnitKey) : Bool :=
  match parityIndex s u with
  | none => false
  | some k => s.pset.members.any fun m =>
      (m.waiting.any fun e => e.2.2.kind = .parityDelta && e.2.2.target = k) ||
        m.queued.any fun e => e.kind = .parityDelta && e.target = k

/-- A unit is programmed with its journal record: the map entry changes, and a damaged frame leaves the home LOST
(R372, R589). -/
def programDone (q : Prog) (s : State) : State :=
  let m : MapEnt := { unit := q.unit, lost := q.damaged, len := q.len, pos := q.pos, data := q.data }
  programJournal (journal 1 { s with flash := { s.flash with map := (s.flash.map.filter fun x => x.unit != q.unit) ++ [m] } })

/-- Program a unit from its frames and make its map entry current, as parks, swaps and flushes do; none while its lane takes no writes
(R374). -/
def programUnit (flush : Bool) (u : UnitKey) (s : State) : Option State :=
  let s := giveUnit u s
  let unit := (unitNo s u).getD 0
  let q := progOf s u unit 0
  let s := parityProgram flush u (memBytes q.data 0 65536) s
  (place false flush unit q.len s).map fun x => programDone { q with pos := x.2 } x.1

/-- Program a unit of metadata, stored raw (Table 12-2). -/
def programMeta (u : UnitKey) (s : State) : Option State :=
  let s := giveUnit u s
  let unit := (unitNo s u).getD 0
  (place false false unit 0xFFF s).map fun x =>
    programDone { key := u, unit := unit, len := 0xFFF, pos := x.2, damaged := false, data := [] } x.1

/-- Program several units of metadata. -/
def programMetas (us : List UnitKey) (s : State) : Option State :=
  us.foldl (fun (x : Option State) u => x.bind (programMeta u)) (some s)

/-- Units with a dirty frame among those of a predicate. -/
def dirtyUnits (s : State) (p : FrameKey → Bool) : List UnitKey :=
  ((s.frames.filter fun f => p f.key).filterMap fun f => (unitOfFrame s f.key).map (·.1)).eraseDups

/-- Write back every dirty frame of a predicate and leave them clean (R126, R330, R338); none while a lane takes no writes. -/
def writeBackAll (p : FrameKey → Bool) (s : State) : Option State :=
  let us := dirtyUnits s p
  (us.foldl (fun (x : Option State) u => x.bind (programUnit false u)) (some s)).map fun s =>
    { s with frames := s.frames.filter fun f => !p f.key
             flash := { s.flash with inflight := s.flash.inflight.filter fun q => !us.contains q.key } }

/-- Pages a stored unit spans, read in its block (R386). -/
def countReads (m : MapEnt) (s : State) : State :=
  if m.old then s
  else updBlk (laneOf m.unit) (m.pos / 65536) (fun b =>
    { b with reads := b.reads + ((m.pos % 65536 + slotsOf m.len - 1) / 16 + 1 - m.pos % 65536 / 16) }) s

/-- Put the contents of a home into the frames of a unit, clean; a LOST home zero-fills and damages them (R336, R385, R589). -/
def readHome (m : MapEnt) (u : UnitKey) (s : State) : State :=
  let s := if m.lost then s else countReads m s
  let fs := framesOfUnit s u
  (fs.zip (List.range fs.length)).foldl (fun s x =>
    let data := if m.lost then List.replicate 32768 0 else memBytes m.data (32768 * x.2) 32768
    let s := match x.1 with
      | .kv p n => updPart p (fun t => { t with kv := memPuts t.kv (32768 * n) data }) s
      | .region id n => updRegion id (fun r => { r with data := memPuts r.data (32768 * n) data }) s
      | _ => s
    { s with flt := { s.flt with damage :=
        (s.flt.damage.filter fun d => d.1 != x.1) ++ (if m.lost then [(x.1, BitVec.allOnes 256)] else []) } }) s

/-! ### Write-back (R319, R372, R373) -/

/-- A write to a lane waits: too few free blocks, a DEAD lane, or the journal's limit in REPLAY mode (Table 13-3, R390,
R398). -/
def programWaits (s : State) (l : Nat) : Bool :=
  !laneOpen s l || journalFull s

/-- A lane at or above its mark goes first (R413). -/
def laneMarked (s : State) (l : Nat) : Bool := s.tier.flushMode && laneCeiling s - laneHeadroom s ≤ laneDirty s l

/-- The lane of a frame's home. -/
def laneOfFrame (s : State) (f : FrameInfo) : Nat := (frameLane s f.key).getD 0

/-- The dirty frame whose unit is written back next: lanes at their mark first, then oldest first, then by frame number (R319, R413). -/
def nextWriteBack (s : State) : Option FrameInfo :=
  (s.frames.filter fun f => eligible s f && !programWaits s (laneOfFrame s f) &&
    !(s.flash.inflight.any fun q => (unitOfFrame s f.key).map (·.1) = some q.key)).foldl
    (fun (m : Option FrameInfo) f => match m with
      | none => some f
      | some g =>
        let a := laneMarked s (laneOfFrame s f)
        let b := laneMarked s (laneOfFrame s g)
        if (a && !b) || (a = b && (f.firstDirty < g.firstDirty || (f.firstDirty = g.firstDirty && frameNo f.key < frameNo g.key))) then
          some f
        else m) none

/-- The frames of a unit have been read for write-back: DIRTY 0 and WB 1, the clean one of a pair too (Table 11-6). -/
def readForWb (fs : List FrameKey) (s : State) : State :=
  let new := fs.filter fun k => !(s.frames.any fun g => g.key = k)
  { s with frames := (s.frames.map fun g => if fs.contains g.key then { g with dirty := false, wb := true } else g) ++
      new.map fun k => { key := k, dirty := false, wb := true, firstDirty := s.dev.devtime, lastWrite := s.dev.devtime } }

/-- WRITEBACK_UNIT (R319, R361; none while an M region or the F region is in HOLD, R552): both frames of the unit are read, their DIRTY becomes 0 and WB 1, and the unit is
placed in its lane. -/
def execWritebackUnit (s : State) : Host.Outcome State Fault Refusal :=
  if !s.dev.memActive || s.pwr.held.contains 57 || hbmHalted s then .next s
  else match nextWriteBack s with
    | none => .next s
    | some f => match unitOfFrame s f.key with
      | none => .next s
      | some (u, _) =>
        let s := giveUnit u s
        let unit := (unitNo s u).getD 0
        let q := progOf s u unit 0
        match place false false unit q.len (parityProgram false u (memBytes q.data 0 65536) s) with
        | none => .next s
        | some (t, pos) =>
          let t := readForWb (framesOfUnit t u) t
          .next { t with flash := { t.flash with inflight := t.flash.inflight ++ [{ q with pos := pos }] } }

/-- GPF Phase 2 completes once no dirty frame but those of DEAD lanes is left, with the open journal pages programmed (R433,
R414). -/
def gpfSettle (s : State) : State :=
  if s.pwr.gpf.isEmpty || s.frames.any fun f => (unitOfFrame s f.key).isSome && (s.flash.lanes.get (laneOfFrame s f)).cond != .dead then s
  else s.pwr.gpf.foldl (fun s p => emit (.gpfDone p 2) s) { programJournal s with pwr := { s.pwr with gpf := [] } }

/-- FLASH_PROGRAM_COMPLETE (R372): the program at place `idx` of those in flight and its journal record are complete. -/
def execFlashProgramComplete (idx : Nat) (s : State) : Host.Outcome State Fault Refusal :=
  match s.flash.inflight[idx]? with
  | none => .next s
  | some q =>
    if parityWaits s q.key then .next s else
    let fs := framesOfUnit s q.key
    let s := programDone q { s with flash := { s.flash with inflight := s.flash.inflight.eraseIdx idx } }
    .next (gpfSettle (releaseWrites { s with frames :=
      (s.frames.map fun g => if fs.contains g.key then { g with wb := false } else g).filter fun g => g.dirty || g.wb }))

/-! ### Moving a lane (R383, R389, R390) -/

/-- Units bound to a lane (Table 13-1). -/
def laneUnits (l : Nat) : Nat := ceilDiv (3288085937 - l) 992

/-- The index of a unit in the parity space: of a data unit, or of a parity unit of this member (R488). -/
def stripeOf (s : State) (u : UnitKey) : Option Nat :=
  match u with
  | .parity k => some k
  | _ => parityIndex s u

/-- Units of a stripe this module can read: every other member is present (R488). -/
def stripeWhole (s : State) : Bool := s.pset.phase = .formed && s.pset.members.all fun m => !m.absent

/-- Rebuild a unit of index `k` from the rest of its stripe: 16 reads of every other member (R488). -/
def startStripe (u : UnitKey) (k : Nat) (s : State) : State :=
  if s.pset.stripes.any fun x => x.key = u then s
  else
    let x : Stripe := { key := u, k := k, left := 16 * s.pset.members.length }
    let ask := fun (i : Nat) => ({ kind := .readReq, cls := 1, target := k, offset := 4096 * i, size := 4096,
                                   uses := [.stripe u (4096 * i)] } : Entry)
    s.pset.members.foldl (fun s m => (List.range 16).foldl (fun s i => sendEntry m.index (ask i) s) s)
      { s with pset := { s.pset with stripes := s.pset.stripes ++ [x] } }

/-- A frame is held in HBM: its partition or region has its frames there, and for a stash object the frame is among those held
(R126, R338, R385, R499). -/
def inHbm (s : State) : FrameKey → Bool
  | .kv p n =>
    let x := s.parts.get p
    (x.state = .resident || x.state = .draining || x.state = .swappingOut) &&
      (x.body.mode = 0 || (match objOfFrame x n with
        | some (_, o) => n % x.body.slots - o.first < o.held || o.st = .putting
        | none => false))
  | .region id _ => match regionOf s id with
    | some r => r.st = .held || r.st = .parking || r.st = .zeroFilling
    | none => false
  | .runTable p _ _ => (s.parts.get p).state != .swapped && (s.parts.get p).state != .empty
  | _ => true

/-- Units found uncorrectable become LOST, each with its journal record, and frames held in HBM with such a home are set DIRTY (R385, R389); a PARITY unit is
rebuilt from its stripe instead, while every other member is present (R488). -/
def loseUnits (p : MapEnt → Bool) (s : State) : State :=
  let hit := s.flash.map.filter fun m => p m && !m.lost
  let keyOf := fun (m : MapEnt) => keyOfUnit s m.unit
  let saved := fun (m : MapEnt) => stripeWhole s && (match (keyOf m).bind (stripeOf s) with
    | some k => !s.pset.stale.contains k
    | none => false)
  let lost := hit.filter fun m => !saved m
  let rebuilt := hit.filter saved
  let s := rebuilt.foldl (fun s m => match keyOf m with
    | some u => startStripe u ((stripeOf s u).getD 0) s
    | none => s) s
  let s := journal lost.length
    { s with flash := { s.flash with map := s.flash.map.map fun m => if lost.contains m then { m with lost := true } else m } }
  (lost.filterMap keyOf).foldl (fun s u => (framesOfUnit s u).foldl (fun s k =>
    if frameDamaged s k || !inHbm s k then s else markDirty k s) s) s

/-- The channel whose free spare die a lane may take: the lowest other than its own (R383, R389). -/
def freeSpare (s : State) (own : Nat) : Option Nat :=
  (List.range 32).find? fun c => c != own && !s.flash.spareUsed.contains c && !s.flash.failed.contains c

/-- The frames of a program that has not come to its end are DIRTY again (Table 11-6), and its parity delta is taken back (R488). -/
def dirtyAgain (q : Prog) (s : State) : State :=
  let fs := framesOfUnit s q.key
  let s := { s with frames := s.frames.map fun g => if fs.contains g.key then { g with dirty := true, wb := false } else g }
  match parityIndex s q.key with
  | some k => sendDelta k (memBytes q.data 0 65536) (parityView s q.key) s
  | none => s

/-- Programs in flight come to nothing. -/
def dropProgs (p : Prog → Bool) (s : State) : State :=
  (s.flash.inflight.filter p).foldl (fun s q => dirtyAgain q s)
    { s with flash := { s.flash with inflight := s.flash.inflight.filter fun q => !p q } }

/-- Programs in flight in a block that is retired, or on a die that a lane leaves, are written again elsewhere; one that finds no place makes
its frames DIRTY again (R317, R382, R389). -/
def replaceProgs (p : Prog → Bool) (s : State) : State :=
  (s.flash.inflight.filter p).foldl (fun s q => match place false false q.unit q.len s with
    | some (t, pos) => { t with flash := { t.flash with inflight := t.flash.inflight ++ [{ q with pos := pos }] } }
    | none => dirtyAgain q s) { s with flash := { s.flash with inflight := s.flash.inflight.filter fun q => !p q } }

/-- Move a lane to a spare die: later writes go there; units already stored are read from the old die until copied, or with
`gone` are LOST at once (R389). -/
def moveLane (l c : Nat) (gone : Bool) (s : State) : State :=
  let old := fun (m : MapEnt) => if laneOf m.unit = l then { m with old := true } else m
  let s := updLane l (fun x => { x with
    moved := some (c, 31), cond := if gone then .live else .evacuating, blocks := { dflt := {} }, host := none, gc := none, sys := [] }) s
  let s := { s with flash := { s.flash with
    spareUsed := s.flash.spareUsed ++ [c]
    map := s.flash.map.map old
    mapSafe := s.flash.mapSafe.map old } }
  let s := replaceProgs (fun q => laneOf q.unit = l) s
  if gone then loseUnits (fun m => m.old && laneOf m.unit = l) s else s

/-- A lane with no spare left is DEAD: its units are LOST, its programs in flight come to nothing, and account 7's limit falls (R390). -/
def killLane (l : Nat) (s : State) : State :=
  let s := dropProgs (fun q => laneOf q.unit = l) (updLane l (fun x => { x with cond := .dead }) s)
  let s := { s with tier := { s.tier with homeLoss := s.tier.homeLoss + laneUnits l } }
  loseUnits (fun m => laneOf m.unit = l) s

/-- A lane whose good map blocks fall to 3,300 moves to a spare die; with none free it stays, and each further block it loses lowers
account 7's limit (R383). -/
def checkLane (l : Nat) (s : State) : State :=
  if 3300 < mapBlocks s l || (s.flash.lanes.get l).cond != .live then s
  else
    let spare := freeSpare s (laneDie s l).1
    let s := causeFault 7 { cls := 1, unit := 7, index := l, event := 15, action := 3, location := 0xFFFFFFFF } s
    match spare with
    | some c => moveLane l c false s
    | none => if mapBlocks s l < 3300 then { s with tier := { s.tier with homeLoss := s.tier.homeLoss + 1016 } } else s

/-- Valid units of a block that is retired: relocated as far as a block may be taken, the rest LOST (R382, R385). -/
def rescueBlock (l b : Nat) (s : State) : State :=
  match relocateWith (place true false) l b s with
  | some t => programJournal t
  | none =>
    let us := (((s.flash.lanes.get l).blocks.get b).recs.filter (recValid s b)).map (·.1)
    us.foldl (fun s u => match entOfUnit s u with
      | some m => match place true true u m.len s with
        | some (t, pos) => programJournal (moveEntry u pos t)
        | none => loseUnits (fun x => x.unit = u) s
      | none => s) s

/-- Retire a block: it closes, its valid units are relocated, and it is never used again; a failure of the die (R382,
Table 21-2). -/
def retireBlock (l b : Nat) (s : State) : State :=
  let s := updLane l (fun x => { x with
    host := if x.host.map (·.1) = some b then none else x.host, gc := if x.gc.map (·.1) = some b then none else x.gc
    sys := x.sys.filter (· != b) }) s
  let s := replaceProgs (fun q => laneOf q.unit = l && q.pos / 65536 = b)
    (rescueBlock l b (updBlk l b (fun x => { x with st := .moving }) s))
  let s := updBlk l b (fun x => { x with st := .bad, recs := [] }) s
  let (s, n) := countFailure { unit := 7, index := l, place := 0 } false s
  let s := logFault { unit := 7, index := l, event := 4, count := n, action := 3, location := 0xFFFFFFFF } s
  if 3 ≤ n && (s.flash.lanes.get l).cond = .live then
    match freeSpare s (laneDie s l).1 with
    | some c => moveLane l c false
        (causeFault 7 { cls := 1, unit := 7, index := l, event := 15, count := n, action := 3, location := 0xFFFFFFFF } s)
    | none => checkLane l
        (causeFault 7 { cls := 1, unit := 7, index := l, event := 15, count := n, action := 3, location := 0xFFFFFFFF } s)
  else checkLane l s

/-- FLASH_PROGRAM_FAIL (R317, R382): the frames are DIRTY again and the block is retired. -/
def execFlashProgramFail (idx : Nat) (s : State) : Host.Outcome State Fault Refusal :=
  match s.flash.inflight[idx]? with
  | none => .next s
  | some q =>
    let s := dirtyAgain q { s with flash := { s.flash with inflight := s.flash.inflight.eraseIdx idx } }
    .next (retireBlock (laneOf q.unit) (q.pos / 65536) s)

/-- FLASH_ERASE_FAIL (R382). -/
def execFlashEraseFail (lane block : Nat) (s : State) : Host.Outcome State Fault Refusal :=
  if 992 ≤ lane || 3724 ≤ block then .next s
  else if goodBlock s lane block then .next (retireBlock lane block s) else .next s

/-- FLASH_READ_UNCORRECTABLE (R385): the unit at place `idx` of the mapped units fails its last read-retry level. -/
def execFlashReadUncorrectable (idx : Nat) (s : State) : Host.Outcome State Fault Refusal :=
  match s.flash.map[idx]? with
  | none => .next s
  | some m =>
    if m.lost then .next s
    else .next (loseUnits (fun x => x.unit = m.unit)
      (logFault { unit := 7, index := laneOf m.unit, event := 2, location := m.unit } s))

/-- A refresh condition of a closed block (R386): 200,000 page reads, 90 days of park clock, or one that a read of it found, now or in
a patrol scrub (R387). -/
def refreshDue (s : State) (b : Blk) (readFound : Bool) : Bool :=
  readFound || b.refresh || 200000 ≤ b.reads || b.firstProg + 7776000 ≤ s.dev.parkClock

/-- BLOCK_REFRESH (R386): a closed block that meets a refresh condition is relocated through the GC block and erased; `readFound` says
that a read of it needed retry level 3 or above, or corrected more than 75 % of the decoder's capability. -/
def execBlockRefresh (place : BlockAt) (readFound : Bool) (s : State) : Host.Outcome State Fault Refusal :=
  if 992 ≤ place.lane || 3724 ≤ place.block then .next s
  else
    let b := (s.flash.lanes.get place.lane).blocks.get place.block
    if b.st = .closed && refreshDue s b readFound then .next (relocate place.lane place.block s) else .next s

/-- The lanes on a channel, in ascending order. -/
def lanesOn (s : State) (c : Nat) : List Nat := (List.range 992).filter fun l => (laneDie s l).1 = c

/-- Place of a block in the order of a scrub pass: X0 of its purpose-3 block, then its index (R252, R253). -/
def scrubPlace (s : State) (h pass block : Nat) : Nat :=
  leNat ((philox (streamKey (saltInUse s) 3 h) block 0 pass 0).take 4) * 2 ^ 20 + block

/-- The block of a list that a scrub pass reads next, by its place: the first at or after the place reached. -/
def scrubNext (s : State) (h pass reached : Nat) (blocks : List Nat) : Option Nat :=
  (blocks.map (scrubPlace s h pass)).foldl (fun (m : Option Nat) k =>
    if k < reached then m else some (match m with
      | some x => min x k
      | none => k)) none

/-- The closed blocks of a channel, as die × 3,724 + block, each with its lane. -/
def channelBlocks (s : State) (c : Nat) : List (Nat × Nat) :=
  ((lanesOn s c).map fun l => (blocksIn s l .closed).map fun b => ((laneDie s l).2 * 3724 + b, l)).flatten

/-- A channel's scrub begins its next pass. -/
def nextFlashPass (c : Nat) (s : State) : State :=
  { s with flash := { s.flash with scrub := s.flash.scrub.upd c fun x => (x.1 + 1, 0, s.dev.parkClock) } }

/-- FLASH_PATROL_SCRUB (R387): every data page of the next block of a channel's pass is read once, counted towards its refresh (R386), which
a read that meets a condition (`readFound`) queues; a new pass begins 7 days of park clock after the one before. -/
def execFlashPatrolScrub (channel : Nat) (readFound : Bool) (s : State) : Host.Outcome State Fault Refusal :=
  if 32 ≤ channel then .next s
  else
    let x := s.flash.scrub.get channel
    let s := if x.2.2 + 604800 ≤ s.dev.parkClock then nextFlashPass channel s else s
    let x := s.flash.scrub.get channel
    let bs := channelBlocks s channel
    match scrubNext s (256 + channel) x.1 x.2.1 (bs.map (·.1)) with
    | none => .next s
    | some k =>
      let s := { s with flash := { s.flash with scrub := s.flash.scrub.set channel (x.1, k + 1, x.2.2) } }
      .next (match lookupKey (k % 2 ^ 20) bs with
        | some l => updBlk l (k % 2 ^ 20 % 3724) (fun b => { b with reads := b.reads + 4064, refresh := b.refresh || readFound }) s
        | none => s)

/-- STATIC_LEVELLING (R379): when the spread exceeds 200, the least-worn closed block is relocated and erased. -/
def execStaticLevelling (lane : Nat) (s : State) : Host.Outcome State Fault Refusal :=
  if 992 ≤ lane then .next s
  else
    let er := fun b => ((s.flash.lanes.get lane).blocks.get b).erase
    match leastBlock er (blocksIn s lane .closed) with
    | some b => if er b + 200 < ((goodBlocks s lane).map er).foldl max 0 then .next (relocate lane b s) else .next s
    | none => .next s

/-! ### Journal and checkpoints (R397, R398) -/

/-- JOURNAL_PAGE_FLUSH (R397): the open page is programmed 200 µs after its first record. -/
def execJournalPageFlush (s : State) : Host.Outcome State Fault Refusal :=
  .next (programJournal s)

/-- Start a map checkpoint, with the open journal page programmed (R398). -/
def startCheckpoint (s : State) : State :=
  let s := programJournal s
  { s with flash := { s.flash with ckpt := some (s.flash.ckpt.getD s.flash.jSince) } }

/-- MAP_CHECKPOINT (R398): a checkpoint starts at the journal's threshold. -/
def execMapCheckpoint (s : State) : Host.Outcome State Fault Refusal :=
  if s.flash.ckpt.isNone && (if s.tier.flushMode then 2 ^ 30 else 2 ^ 27) ≤ s.flash.jSince then .next (startCheckpoint s)
  else .next s

/-- Map lanes take a block each for the system area as data is written there: the least-worn free one, and the oldest beyond eight is
erased (R367, R378). -/
def takeSysBlock (l : Nat) (s : State) : State :=
  match leastWorn s l with
  | none => s
  | some b =>
    let s := updLane l (fun x => { x with sys := x.sys ++ [b] }) (updBlk l b (fun y => { y with st := .system, recs := [] }) s)
    match (s.flash.lanes.get l).sys with
    | old :: rest => if rest.length < 8 then s else eraseBlk l old (updLane l (fun x => { x with sys := rest }) s)
    | [] => s

/-- MAP_CHECKPOINT_COMPLETE (R398): the boot record names the new checkpoint, and the journal counts from its start. The checkpoint takes a
system-area block of every lane that is not DEAD (DESIGN CHOICE: log entry 24). -/
def execMapCheckpointComplete (s : State) : Host.Outcome State Fault Refusal :=
  match s.flash.ckpt with
  | none => .next s
  | some n =>
    let s := ((List.range 992).filter fun l => (s.flash.lanes.get l).cond != .dead).foldl (fun s l => takeSysBlock l s) s
    .next (releaseWrites { s with flash := { s.flash with ckpt := none, jSince := s.flash.jSince - n } })

/-! ### Channels (R388–R390) -/

/-- Rebuild an anchor copy from the other on the lane R390 names: lane 1 beside lane 16, lane 17 otherwise. -/
def rebuildFrom (good : Anchor) : Anchor := { good with lane := if good.lane = 16 then 1 else 17 }

/-- Rebuild the anchor copy whose lane died (R390). -/
def rebuildAnchor (l : Nat) (s : State) : State :=
  let f := s.flash
  if l = f.anchor0.lane then { s with flash := { f with anchor0 := rebuildFrom f.anchor1 } }
  else if l = f.anchor1.lane then { s with flash := { f with anchor1 := rebuildFrom f.anchor0 } }
  else s

/-- Evacuate the lanes of a failed channel: the nth lane to the nth other channel that still has its spare, and DEAD when
none is left (R389, R390). -/
def evacuate (c : Nat) (hard : Bool) : List Nat → State → State
  | [], s => s
  | l :: rest, s =>
    let s := if (s.flash.lanes.get l).cond = .dead then s else match freeSpare s c with
      | some d => moveLane l d hard s
      | none => rebuildAnchor l (causeFault 8 { cls := 1, unit := 7, index := l, event := 15, action := 3, location := 0xFFFFFFFF }
          (killLane l s))
    evacuate c hard rest s

/-- A channel is permanently failed (R389): Ochre, a replacement request and an MCTP event. -/
def failChannel (c : Nat) (hard : Bool) (count : Nat) (s : State) : State :=
  let s := { s with flash := { s.flash with failed := s.flash.failed ++ [c] } }
  let s := causeFault 6 { cls := 1, unit := 6, index := c, event := 15, count := count, action := 3, location := 255 } s
  evacuate c hard (lanesOn s c) s

/-- A failure of a channel, counted: at the third, or on a hard signature, it is permanently failed (R389, Table 21-2). -/
def channelFails (channel : Nat) (hard : Bool) (s : State) : State :=
  let (s, n) := countFailure { unit := 6, index := channel, place := 0 } false s
  if hard || 3 ≤ n then failChannel channel hard n s
  else logFault { unit := 6, index := channel, event := 4, count := n, action := 1, location := 255 } s

/-- The hard signature of a lane's die: the lane moves as R383 gives, nothing is copied, and its units become LOST (Table 21-2); with no spare
it is DEAD, as R390 gives for a channel (log entry 121). -/
def dieFails (lane : Nat) (s : State) : State :=
  let s := causeFault 7 { cls := 1, unit := 7, index := lane, event := 6, count := 1, action := 3, location := 0xFFFFFFFF } s
  evacuate (laneDie s lane).1 true [lane] s

/-- The lane that a die of a channel serves; none where it is a spare or its lane is DEAD. -/
def laneOfDie (s : State) (channel die : Nat) : Option Nat :=
  (lanesOn s channel).find? fun l => (laneDie s l).2 = die && (s.flash.lanes.get l).cond != .dead

/-- A die of a channel fails: its lane's hard signature, or a spare die that is free no more (log entry 121). -/
def dieOff (channel die : Nat) (s : State) : State :=
  match laneOfDie s channel die with
  | some l => dieFails l s
  | none =>
    if die = 31 && !s.flash.spareUsed.contains channel then
      { s with flash := { s.flash with spareUsed := s.flash.spareUsed ++ [channel] } }
    else s

/-- CHANNEL_FAILURE (R389, Table 21-2): an error of a channel, or a hard signature of it or of one of its dies; a failed channel counts
no more. -/
def execChannelFailure (channel : Nat) (fail : FlashFail) (s : State) : Host.Outcome State Fault Refusal :=
  .next (if 32 ≤ channel || s.flash.failed.contains channel then s
    else match fail with
      | .error => channelFails channel false s
      | .noDie => channelFails channel true s
      | .die die => dieOff channel die s)

/-- LANE_EVACUATION_COMPLETE (R389): the units still on the old die are copied, and the lane is LIVE; not while the new die has no block
for them. -/
def execLaneEvacuationComplete (lane : Nat) (s : State) : Host.Outcome State Fault Refusal :=
  if 992 ≤ lane then .next s
  else if (s.flash.lanes.get lane).cond != .evacuating then .next s
  else
    let ms := s.flash.map.filter fun m => m.old && !m.lost && laneOf m.unit = lane
    match ms.foldl (fun (x : Option State) m => x.bind fun s => (place true false m.unit m.len s).map fun y => moveEntry m.unit y.2 y.1) (some s) with
    | none => .next s
    | some s => .next (updLane lane (fun x => { x with cond := .live }) (programJournal s))

/-- FLASH_CAL_DEADLINE (R388): a calibration not done within 30 s is forced. -/
def execFlashCalDeadline (channel : Nat) (s : State) : Host.Outcome State Fault Refusal :=
  if 32 ≤ channel then .next s
  else if s.flash.calLast.get channel + 30000000000 ≤ s.dev.devtime then
    .next { s with flash := { s.flash with calLast := s.flash.calLast.set channel s.dev.devtime } }
  else .next s

/-- HBM_RECAL_DEADLINE (R344): a recalibration not done within 30 s of the one before, 6 s after it fell due, is forced; the next falls due
24 s later. -/
def execHbmRecalDeadline (stack : Nat) (s : State) : Host.Outcome State Fault Refusal :=
  if 8 ≤ stack then .next s
  else if s.flash.recalDue.get stack + 6000000000 ≤ s.dev.devtime then
    .next { s with flash := { s.flash with recalDue := s.flash.recalDue.set stack (s.dev.devtime + 24000000000) } }
  else .next s

/-- Recalibrations that run at a step boundary: one stack due 24 s after its last, and at most four channels due after
20 s, lowest first (R344, R388). -/
def boundaryCal (s : State) : State :=
  let s := match (List.range 8).find? fun k => s.flash.recalDue.get k ≤ s.dev.devtime with
    | some k => { s with flash := { s.flash with recalDue := s.flash.recalDue.set k (s.dev.devtime + 24000000000) } }
    | none => s
  let due := ((List.range 32).filter fun c => s.flash.calLast.get c + 20000000000 ≤ s.dev.devtime).take 4
  { s with flash := { s.flash with calLast := due.foldl (fun t c => t.set c s.dev.devtime) s.flash.calLast } }

/-- The 64 KiB blocks of a stack (R343). -/
def stackBlocks : List Nat := List.range 589824

/-- The pass a stack is in, how far it has come and when it began; a pass begins 24 h after the one before (R343). -/
def hbmPass (s : State) (stack : Nat) : Nat × Nat × Nat :=
  let x := s.flash.hbmScrub.get stack
  if x.2.2 + 86400000000000 ≤ s.dev.devtime then (x.1 + 1, 0, s.dev.devtime) else x

/-- HBM_PATROL_SCRUB (R343): the next 64 KiB block of a stack's pass is read, in the order of the purpose-3 stream. -/
def execHbmPatrolScrub (stack : Nat) (s : State) : Host.Outcome State Fault Refusal :=
  if 8 ≤ stack then .next s
  else if !s.dev.memActive then .next s
  else
    let x := hbmPass s stack
    let reached := ((scrubNext s stack x.1 x.2.1 stackBlocks).map (· + 1)).getD x.2.1
    .next { s with flash := { s.flash with hbmScrub := s.flash.hbmScrub.set stack (x.1, reached, x.2.2) } }

/-! ### The epoch counter (R391–R396) -/

/-- The program of high record HIGH + 1, the erase of the LOW block, and the program of the next low position, each whole or cut short by
a loss of power (R393). -/
def Anchor.programHigh (whole : Bool) (a : Anchor) : Anchor := if whole then { a with high := a.high + 1 } else a
def Anchor.eraseLow (whole : Bool) (a : Anchor) : Anchor := { a with n := 0, torn := !whole }
def Anchor.programLow (whole : Bool) (a : Anchor) : Anchor :=
  if whole then { a with tag := a.high, n := a.n + 1 } else { a with torn := true }

/-- The programs and erases of a take on the two copies, in order: those of a carry, with all 256 positions programmed, then the low
position (R393). -/
def takeSteps (n : Nat) : List (Bool → Anchor × Anchor → Anchor × Anchor) :=
  (if n = 256 then
    [fun w x => (x.1.programHigh w, x.2), fun w x => (x.1, x.2.programHigh w), fun w x => (x.1.eraseLow w, x.2), fun w x => (x.1, x.2.eraseLow w)]
   else []) ++ [fun w x => (x.1.programLow w, x.2), fun w x => (x.1, x.2.programLow w)]

/-- Put the copies back. -/
def setAnchors (x : Anchor × Anchor) (s : State) : State := { s with flash := { s.flash with anchor0 := x.1, anchor1 := x.2 } }

/-- Take an epoch value (R393). -/
def takeEpoch (s : State) : State × Nat :=
  let x := (takeSteps s.flash.anchor0.n).foldl (fun x f => f true x) (s.flash.anchor0, s.flash.anchor1)
  (setAnchors x s, 256 * x.1.high + x.1.n)

/-- Power is lost while `k` − 1 programs or erases of a take are done and the next one is under way; with 0 no take is under way
(R393, R394; log entry 118). -/
def cutTake (torn : Bool) (k : Nat) (s : State) : State :=
  if k = 0 then s
  else
    let l := takeSteps s.flash.anchor0.n
    let x := (l.take (k - 1)).foldl (fun x f => f true x) (s.flash.anchor0, s.flash.anchor1)
    setAnchors (match l[k - 1]? with
      | some f => f (!torn) x
      | none => x) s

/-- CC2's scan of one copy at start-up (R394): the positions under TAG = H, one more for a torn take; an interrupted carry is completed; a
LOW block that cannot be read or erased counts as full. -/
def Anchor.scan (lowFails : Bool) (a : Anchor) : Anchor :=
  let k := if a.tag = a.high then a.n else 0
  if lowFails then { a with n := 256, tag := a.high, torn := false }
  else if k = 0 && (a.n != 0 || a.torn) then { a with n := 0, tag := a.high, torn := false }
  else { a with n := k + bit a.torn, tag := a.high, torn := false }

/-- The counter's value of a copy (R392). -/
def Anchor.value (a : Anchor) : Nat := 256 * a.high + a.n

/-- A copy programmed up to the other (R395). -/
def Anchor.upTo (b a : Anchor) : Anchor := { b with lane := a.lane }

/-- The start-up scan of both copies, and the one behind programmed up to the one ahead (R394, R395). -/
def scanAnchors (s : State) : State :=
  let a := s.flash.anchor0.scan (Config.lowFails s.freeCtr)
  let b := s.flash.anchor1.scan (Config.lowFails (s.freeCtr + 1))
  let m := if a.value < b.value then b else a
  setAnchors (m.upTo a, m.upTo b) { s with freeCtr := s.freeCtr + 2 }

/-! ### QUERY_FLASH (R368) -/

/-- What QUERY_FLASH returns of a lane; v in 1/65,536 (log entry 26). -/
def laneEntry (s : State) (l : Nat) : List (Nat × Nat) :=
  let x := s.flash.lanes.get l
  let er := (goodBlocks s l).map fun b => (x.blocks.get b).erase
  let valid := ((s.flash.map.filter fun m => laneOf m.unit = l && !m.lost).map fun m =>
    if m.len = 0xFFF then 65536 else 16 * m.len).foldl (· + ·) 0
  let v := match victimOf s l with
    | some b => validSlots s l b * 65536 / blockSlots
    | none => 0
  [(1, (laneDie s l).1), (1, (laneDie s l).2), (1, match x.cond with | .live => 0 | .evacuating => 1 | .dead => 2),
   (4, mapBlocks s l), (4, freeCount s l), (8, valid), (4, v), (4, er.foldl (· + ·) 0 / max 1 er.length), (4, er.foldl max 0)]

/-- Spare dies still free: on channels that have not failed (R368, R389). -/
def sparesFree (s : State) : Nat :=
  ((List.range 32).filter fun c => !s.flash.spareUsed.contains c && !s.flash.failed.contains c).length

/-- QUERY_FLASH (0xC50A, R368). -/
def execQueryFlash (e : Env) (s : State) : Host.Outcome State Fault Refusal :=
  mailbox Op.queryFlash e (.queryFlash e) [] (fun _ => none)
    (fun s =>
      let head := [(4, sparesFree s), (4, s.flash.jSince)]
      (s, { body := listBody 0 36 head ((List.range 992).map (laneEntry s)) })) s

end Sys2Proof.Machine
end

