-- ==== Sys2Proof/Machine/Prefix.lean ====
section
/-! DEFINITION. The prefix store (chapter 7): identities, lookup, insert, pins, policy, eviction and purge. Lookups, inserts and purges in
progress advance one reach each in turn (R198). -/

namespace Sys2Proof.Machine

/-! ### Identity (R200) -/

/-- DIGEST and CHECK. -/
structure Ident where
  digest : Nat
  check : Nat
  deriving DecidableEq, Repr

/-- The identity's 16 bytes. -/
def Ident.bytes (i : Ident) : List Byte := leBytes 8 i.digest ++ leBytes 8 i.check

/-- An identity from 16 bytes. -/
def Ident.ofBytes (l : List Byte) : Ident := { digest := leNat (l.take 8), check := leNat ((l.drop 8).take 8) }

/-- The tenant an identity carries: under SCOPE = 1 alone (R200). -/
def scopeTenant (p : Part) (tenant : Nat) : Nat := if p.pfxScope = 1 then tenant else 0

/-- The identity of a partition's root (R200). -/
def rootIdent (p : Part) (tenant : Nat) : Ident :=
  .ofBytes (leBytes 8 p.body.modelId ++ leBytes 1 p.body.tprLog2 ++ leBytes 2 (scopeTenant p tenant) ++ List.replicate 5 0)

/-- The identity of a node whose rows hold these tokens (R200). -/
def nodeIdent (parent : Ident) (tokens : List Nat) : Ident :=
  .ofBytes (sha384 (parent.bytes ++ leBytes 2 tokens.length ++ (tokens.map (leBytes 4)).flatten))

/-- The matching LIVE node, or none (R201, R204). -/
def probe (s : State) (part tenant : Nat) (i : Ident) : Option Node :=
  s.nodes.find? fun n => n.state = .live && n.digest = i.digest && n.check = i.check && n.part = part &&
    n.tenant = scopeTenant (s.parts.get part) tenant

/-- TAIL_ROWS of a parent, or the root record's. -/
def tailRowsOf (s : State) (part : Nat) (parent : Option Nat) : Nat :=
  match parent with
  | some i => ((nodeOf s i).map (·.tailRows)).getD 0
  | none => (s.parts.get part).rootTail

/-! ### Shared steps -/

/-- Move a listed node to the warm end (R206). -/
def warm (i : Nat) (s : State) : State :=
  match nodeOf s i with
  | some n => if (s.parts.get n.part).cold.contains i then
      updPart n.part (fun p => { p with cold := p.cold.filter (· != i) ++ [i] }) s else s
  | none => s

/-- TOUCH (Table 7-4). -/
def touchNow (s : State) : Nat := s.dev.devtime / 2 ^ 20 % 2 ^ 32

/-- Pin a node for a seat; refused with the pin table full (R218). -/
def pinNode (i seat : Nat) (s : State) : State × Bool :=
  if 262144 ≤ s.pins.length then (s, false) else (takeRef i { s with pins := s.pins ++ [(i, seat)] }, true)

/-! ### Slots of the store and eviction (R212, R223–R226) -/

/-- The coldest listed node of a partition. -/
def coldest (s : State) (part : Nat) : Option Node := ((s.parts.get part).cold.head?).bind (nodeOf s)

/-- Reach slots the store holds in a partition: one for each node, or whole groups (R199, R212). -/
def storeHeld (s : State) (part : Nat) : Nat :=
  let p := s.parts.get part
  if 32768 ≤ p.body.stride then (partNodes s part).length else p.storeSlots.length

/-- The most it may hold (Table 7-3). -/
def storeCap (s : State) (part : Nat) : Nat :=
  let p := s.parts.get part
  if p.pfxMaxSlots = 0 then p.body.slots else p.pfxMaxSlots

/-- The charge of a new store slot, or of a new group (R212). -/
def slotCharge (b : LoadBody) (part : Nat) : Charge :=
  { seat := 0, part := part, slots := if 32768 ≤ b.stride then 1 else b.group, frames := b.slotFrames
    homes := ceilDiv b.slotFrames 2, seatFrames := false }

/-- A free slot of the store's partly used groups, lowest first (R212). -/
def freeStoreSlot (s : State) (part : Nat) : Option Nat :=
  ((s.parts.get part).storeSlots.filter fun k => !(partNodes s part).any fun n => n.slot = k).foldl
    (fun m k => some (match m with | some x => min x k | none => k)) none

/-- A store slot that MAX_SLOTS and the accounts allow at once: a free one of a used group, or a new one (R212, R224). -/
def tryStoreSlot (s : State) (part : Nat) : Option (Nat × State) :=
  let b := (s.parts.get part).body
  let c := slotCharge b part
  match freeStoreSlot s part with
  | some k => if storeHeld s part ≤ storeCap s part then some (k, s) else none
  | none =>
    if storeCap s part < storeHeld s part + c.slots || (shortAccount s c).isSome then none
    else
      let l := takeSlots s part 1
      l.head?.map fun k =>
        let s := chargeAcct c s
        (k, if 32768 ≤ b.stride then s else updPart part (fun p => { p with storeSlots := p.storeSlots ++ l }) s)

/-- Buckets of the node area (R202). -/
def bucketOf (s : State) (digest : Nat) : Nat := digest % 2 ^ (s.glb.areaLog2 - 9)

/-- The lowest free way of a bucket. -/
def freeWay (s : State) (bucket : Nat) : Option Nat :=
  (List.range 8).find? fun w => !(s.nodes.any fun n => n.idx = bucket * 8 + w)

/-- The coldest evictable node of a bucket: within a partition by its eviction list, across partitions by TOUCH, then the lower way
(R225). -/
def coldestInBucket (s : State) (bucket : Nat) : Option Node :=
  let ns := (s.nodes.filter fun n => n.idx / 8 = bucket && n.evictable)
  ((List.range 16).filterMap fun p => (s.parts.get p).cold.findSome? fun i => ns.find? fun n => n.idx = i && n.part = p).foldl
    (fun (m : Option Node) n => match m with
      | some x => if n.touch < x.touch || (n.touch = x.touch && n.idx < x.idx) then some n else m
      | none => some n) none

/-- Take a way of a bucket, evicting when none is free (R225). -/
def takeWay (digest : Nat) (s : State) : State × Option Nat :=
  let b := bucketOf s digest
  match freeWay s b with
  | some w => (s, some (b * 8 + w))
  | none =>
    match coldestInBucket s b with
    | some n => (evict n s, some n.idx)
    | none => (s, none)

/-! ### Nodes made by an insert (R209–R213) -/

/-- A node of this DIGEST in the partition and tenant scope with another CHECK (R211). -/
def clashes (s : State) (part tenant : Nat) (i : Ident) : Bool :=
  s.nodes.any fun n => n.part = part && n.tenant = scopeTenant (s.parts.get part) tenant && n.digest = i.digest && n.check != i.check

/-- Hang a new node under its parent; a tail is findable when the parent had none (R204, R209, R223). -/
def addNode (n : Node) (parent : Option Nat) (tail : Bool) (s : State) : State :=
  let found := tail && tailRowsOf s n.part parent = 0
  let s := match parent with
    | none => updPart n.part (fun p => { p with rootKids := p.rootKids + 1, rootTail := if found then n.rows else p.rootTail }) s
    | some i =>
      let s := updNode i (fun m => { m with kids := m.kids + 1, tailRows := if found then n.rows else m.tailRows }) s
      match nodeOf s i with
      | some m => unlist m s
      | none => s
  { s with nodes := s.nodes ++ [{ n with findable := found }] }

/-- A node's slot holds its data: it is LIVE, and without a holder it joins the warm end (R204, R213, R223). -/
def setLive (i : Nat) (s : State) : State :=
  let s := updNode i (fun n => { n with state := .live }) s
  match nodeOf s i with
  | some n => if n.ref = 0 && n.kids = 0 then updPart n.part (fun p => { p with cold := p.cold ++ [i] }) s else s
  | none => s

/-- The parent still exists (an eviction of this insert may have taken it; log entry 21). -/
def parentThere (s : State) (p : Option Nat) : Bool :=
  match p with
  | some i => (nodeOf s i).isSome
  | none => true

/-- Give a request's slot to the store (R209, R212, R213): its reach-list entry gets SH = 1 and the node REF = 1. -/
def transferSlot (h j slot idx : Nat) (s : State) : State × Nat :=
  let e := rtOf s h
  let b := (s.parts.get e.part).body
  let f := b.slotFrames
  let u := e.homeUnits - ceilDiv (e.frames - f - (ceilDiv (4 * e.reaches.length) 32768) - (if e.eddy then 8 else 0)) 2
  let s := updRt h (fun e => { e with
    own := e.own - 1, slots := e.slots.filter (· != slot), frames := e.frames - f, homeUnits := e.homeUnits - u, pnode := idx
    reaches := e.reaches.set j { sh := true, slot := slot } }) s
  ({ s with acct := { s.acct with seatFrames := s.acct.seatFrames.upd e.seat (· - f) } }, u)

/-! ### Operations in progress (R198, R206, R209, R228) -/

/-- Change an operation's progress. -/
def setRun (n : Nat) (r : DeltaRun) (s : State) : State :=
  { s with ops := updFirst (fun o => o.n = n) (fun o => { o with run := r }) s.ops }

/-- Where an operation stands: the identity of its deepest node, or the root's. -/
def runIdent (p : Part) (tenant : Nat) (r : DeltaRun) : Ident :=
  match r.id with
  | some (d, c) => { digest := d, check := c }
  | none => rootIdent p tenant

/-- A lookup's pin moves to the node it has just met (R206). -/
def movePin (seat i : Nat) (r : DeltaRun) (s : State) : State × Bool :=
  let s := match r.pinned, r.at_ with
    | true, some j => dropRef j { s with pins := s.pins.erase (j, seat) }
    | _, _ => s
  pinNode i seat s

/-- A lookup passes a node of its path (R206). -/
def passNode (o : Op) (pin : Bool) (n : Node) (last : Bool) (s : State) : State :=
  let r := o.run
  let s := warm n.idx s
  let (s, pinned) := if pin then movePin o.seat n.idx r s else (s, false)
  setRun o.n { r with id := some (n.digest, n.check), at_ := some n.idx, len := n.len, pinned := pinned, ended := last } s

/-- A lookup ends: its deepest node gets a new TOUCH (R206). -/
def endLookup (o : Op) (pin : Bool) (s : State) : State :=
  let r := o.run
  let s := match r.at_ with
    | some i => updNode i (fun n => { n with touch := touchNow s }) s
    | none => s
  setRun o.n { r with ended := true, status := if pin && r.at_.isSome && !r.pinned then .capacity else .ok } s

/-- One reach of a lookup (R206). -/
def lookupReach (o : Op) (part tenant : Nat) (pin : Bool) (tokens : List Nat) (s : State) : State :=
  let p := s.parts.get part
  let id := runIdent p tenant o.run
  let rest := tokens.drop o.run.len
  let t := p.body.tokens
  match (if t ≤ rest.length then probe s part tenant (nodeIdent id (rest.take t)) else none) with
  | some n => passNode o pin n false s
  | none =>
    let r := tailRowsOf s part o.run.at_
    match (if 0 < r && r ≤ rest.length then probe s part tenant (nodeIdent id (rest.take r)) else none) with
    | some n =>
      let s := passNode o pin n true s
      endLookup ((s.ops.find? fun x => x.n = o.n).getD o) pin s
    | none => endLookup o pin s

/-- An operation stops (R210). -/
def haltRun (o : Op) (reason : Nat) (st : Status) (s : State) : State :=
  setRun o.n { o.run with reason := reason, status := st, ended := true } s

/-- An insert ends, with its pin when it asked for one (R209, R218). -/
def endInsert (o : Op) (pin : Bool) (s : State) : State :=
  let (s, pinned) := match o.run.at_ with
    | some i => if pin && (nodeOf s i).isSome then pinNode i o.seat s else (s, false)
    | none => (s, false)
  setRun o.n { o.run with
    pinned := pinned, ended := true
    status := if o.run.status = .ok && pin && o.run.at_.isSome && !pinned then .capacity else o.run.status } s

/-- Stop an insert, keeping the nodes made so far (R210). -/
def stopInsert (o : Op) (pin : Bool) (reason : Nat) (st : Status) (s : State) : State :=
  endInsert { o with run := { o.run with reason := reason, status := st } } pin s

/-- The copy into a node under construction ends, unless the ceiling holds it: the node is LIVE (R213, R324). -/
def endCopy (o : Op) (i src : Nat) (tail : Bool) (s : State) : State :=
  match nodeOf s i with
  | none => haltRun o 1 .ok s
  | some n =>
    if bulkClosed s then s
    else match copyRows n.part src n.slot n.rows s with
      | none => s
      | some s =>
        let b := (s.parts.get n.part).body
        let s := if (s.parts.get n.part).digests && !tail then
            updPart n.part (fun p => { p with digestValid := p.digestValid ++ (List.range b.layers).map fun l => (n.slot, l) }) s
          else s
        setRun o.n { o.run with
          copying := none, id := some (n.digest, n.check), at_ := some i, len := n.len, created := o.run.created + 1 } (setLive i s)

/-- The rows of a request's slot that an insert would store are damaged (R588). -/
def reachDamaged (s : State) (part slot rows : Nat) : Bool :=
  let b := (s.parts.get part).body
  (List.range b.layers).any fun l =>
    damagedAt s (.kv part) (sliceAddr b l slot) (rows * b.row) ||
      damagedAt s (.kv part) (sliceAddr b l slot + b.tokens * b.row) (rows * b.row)

/-- Make the node of a reach that is not stored yet: by transfer, or BUILDING with a store slot to copy into. Each eviction it needs takes
the operation's turn (R209, R224–R226). -/
def makeNode (o : Op) (pin : Bool) (h part tenant j : Nat) (toks : List Nat) (id : Ident) (s : State) : State :=
  let b := (s.parts.get part).body
  let tail := toks.length != b.tokens
  let r := (rtOf s h).reaches.getD j { sh := false, slot := 0 }
  let bucket := bucketOf s id.digest
  match freeWay s bucket with
  | none => match coldestInBucket s bucket with
    | some n => evict n s
    | none => stopInsert o pin 2 .ok s
  | some w =>
    let idx := bucket * 8 + w
    let node : Node :=
      { idx := idx, digest := id.digest, check := id.check, slot := r.slot, len := o.run.len + toks.length, rows := toks.length
        tenant := scopeTenant (s.parts.get part) tenant, part := part, parent := o.run.at_.getD 0, touch := touchNow s }
    if !parentThere s o.run.at_ then stopInsert o pin 1 .ok s
    else if 32768 ≤ b.stride && !tail then
      let (s, u) := transferSlot h j r.slot idx s
      setRun o.n { o.run with
        id := some (id.digest, id.check), at_ := some idx, len := node.len, created := o.run.created + 1, moved := o.run.moved + 1 }
        (addNode { node with ref := 1, units := u } o.run.at_ false s)
    else if reachDamaged s part r.slot toks.length then stopInsert o pin 0 .invalid s
    else match tryStoreSlot s part with
      | none => match coldest s part with
        | some n => evict n s
        | none => stopInsert o pin 1 .ok s
      | some (k, s) =>
        setRun o.n { o.run with copying := some (idx, r.slot, tail) }
          (addNode { node with slot := k, copied := true, units := ceilDiv b.slotFrames 2, state := .building } o.run.at_ tail s)

/-- One reach of an insert (R209–R211, Table 7-7). -/
def insertReach (o : Op) (part h : Nat) (pin : Bool) (tokens : List Nat) (s : State) : State :=
  match o.run.copying with
  | some (i, src, tail) => endCopy o i src tail s
  | none =>
    let p := s.parts.get part
    let tenant := (rtOf s h).tenant
    let rest := tokens.drop o.run.len
    let toks := rest.take p.body.tokens
    let tail := toks.length != p.body.tokens
    let j := o.run.len / max 1 p.body.tokens
    let id := nodeIdent (runIdent p tenant o.run) toks
    let r := (rtOf s h).reaches.getD j { sh := false, slot := 0 }
    if !(rtOf s h).state.holds then haltRun o 5 .staleGeneration s
    else if rest.isEmpty then endInsert o pin s
    else match probe s part tenant id with
      | some n =>
        if r.sh && r.slot != n.slot && !tail then stopInsert o pin 6 .invalid s
        else
          setRun o.n { o.run with id := some (id.digest, id.check), at_ := some n.idx, len := o.run.len + toks.length }
            (updNode n.idx (fun m => { m with touch := touchNow s }) s)
      | none =>
        if s.nodes.any fun n => n.state = .building && n.digest = id.digest && n.check = id.check && n.part = part then s
        else if r.sh && !tail then stopInsert o pin 6 .invalid s
        else if clashes s part tenant id then stopInsert o pin 3 .ok s
        else if id.digest = 0 then stopInsert o pin 4 .ok s
        else makeNode o pin h part tenant j toks id s

/-- One eviction of a purge, in list order; none left ends it (R228). It is BULK work (Table 11-11). -/
def purgeOne (o : Op) (part : Nat) (s : State) : State :=
  match coldest s part with
  | some n => if bulkClosed s then s else setRun o.n { o.run with evicted := o.run.evicted + 1 } (evict n s)
  | none => setRun o.n { o.run with ended := true } s

/-- One turn of an operation (R198). A partition gone meanwhile ends it with NOT_FOUND, a token list no longer readable with INVALID (log
entry 20). -/
def deltaTurn (n : Nat) (s : State) : State :=
  match s.ops.find? fun o => o.n = n && o.done.isNone && !o.run.ended with
  | none => s
  | some o =>
    if (o.kind.deltaPart.map fun p => (s.parts.get p).state) = some .empty then haltRun o 0 .notFound s
    else match o.kind with
      | .lookup part tenant count tokens pin =>
        match words32 s o.seat tokens count with
        | some l => lookupReach o part tenant pin l s
        | none => haltRun o 0 .invalid s
      | .insertPfx part h count tokens pin =>
        match words32 s o.seat tokens count with
        | some l => insertReach o part h pin l s
        | none => haltRun o 0 .invalid s
      | .purge part => purgeOne o part s
      | _ => s

/-- A store above a lowered MAX_SLOTS evicts from its cold end, in BULK, until it is within the cap (R227). -/
def shrinkOne (part : Nat) (s : State) : State :=
  if !(s.parts.get part).shrinking then s
  else if storeHeld s part ≤ storeCap s part then updPart part (fun p => { p with shrinking := false }) s
  else if bulkClosed s then s
  else match coldest s part with
    | some n => evict n s
    | none => s

/-- Every lookup, insert and purge in progress advances one reach, in the order in which they were accepted; and the stores above their cap
lose a node (R198, R227). -/
def deltaRound (s : State) : State :=
  (List.range 16).foldl (fun s p => shrinkOne p s) ((deltaOps s).foldl (fun s o => deltaTurn o.n s) s)

/-- The operation has come to its end. -/
def deltaEnded (s : State) (n : Nat) : Bool := s.ops.any fun o => o.n = n && o.run.ended

/-- Rounds until an operation has ended. -/
def deltaRounds : Nat → Nat → State → State
  | 0, _, s => s
  | k + 1, n, s => if deltaEnded s n then s else deltaRounds k n (deltaRound s)

/-- Turns an operation takes at most, with none waiting: its reaches, their copies, and the evictions. -/
def OpKind.turns (nodes : Nat) : OpKind → Nat
  | .lookup _ _ count _ _ => count + 2
  | .insertPfx _ _ count _ _ => 2 * count + nodes + 2
  | _ => nodes + 2

/-- What an ended operation answers (R206, Table 7-6, R228). -/
def deltaBody (o : Op) : RespBody :=
  match o.kind with
  | .lookup .. => .fields [(4, o.run.len), (8, (o.run.id.map (·.1)).getD 0), (1, bit o.run.pinned)]
  | .purge _ => .fields [(4, o.run.evicted)]
  | _ => insertBody o.run

/-- End an operation whose last reach is done; a purge's OP_DONE carries the number evicted (R228; log entry 116). -/
def finishDelta (n : Nat) (s : State) : State :=
  match s.ops.find? fun o => o.n = n && o.done.isNone && o.run.ended with
  | none => s
  | some o =>
    let res : OpRes := match o.kind with
      | .purge _ => { first := o.run.evicted }
      | _ => {}
    finishOpWith n o.run.status (deltaBody o) res s

/-! ### Commands -/

/-- R197's checks on the partition a prefix command names. -/
def prefixPart (s : State) (part : Nat) : Option Reply :=
  let p := s.parts.get part
  if 15 < part then some (.of .invalid)
  else match p.state with
    | .empty => some (.of .notFound)
    | st =>
      if p.body.mode = 1 then some (.of .invalid)
      else if st = .swapped then some (.of .notReady)
      else if st != .resident then some (swapBusy s part)
      else none

/-- BUSY when sixteen lookups, inserts and purges run, with the shortest of what is left of their bounds (R198). -/
def deltaBusy (s : State) : Option Reply :=
  let l := deltaOps s
  if 16 ≤ l.length then some (.busy (usOf ((l.map (deltaLeft s)).foldl min (2 ^ 32))) .delta) else none

/-- Start a long-running operation and answer for it (R86). -/
def startLong (e : Env) (k : OpKind) (s : State) : State × Reply :=
  let (s, n) := startOp e k s
  acceptLong e n s

/-- A tenant a SCOPE = 1 lookup names must exist (R205). -/
def scopeTenantThere (s : State) (part tenant : Nat) : Bool :=
  (s.parts.get part).pfxScope = 0 || (s.tenants.get tenant).exists_

/-- LOOKUP_PREFIX's own checks (R197, R198, R205). -/
def lookupCheck (e : Env) (part tenant count tokens : Nat) (s : State) : Option Reply :=
  match deltaBusy s with
  | some r => some r
  | none =>
    if 15 < part || 4095 < tenant || count = 0 || 2097152 < count || !placedOk s e.seat tokens (4 * count) 64 then
      some (.of .invalid)
    else match prefixPart s part with
      | some r => some r
      | none => if scopeTenantThere s part tenant then none else some (.of .notFound)

/-- LOOKUP_PREFIX (0xC400, R205, R206). -/
def execLookupPrefix (e : Env) (part : Nat) (pin : Bool) (tenant count tokens : Nat) (s : State) :
    Host.Outcome State Fault Refusal :=
  mailbox Op.lookupPrefix e (.lookupPrefix e part pin tenant count tokens) [.delta, .partition part]
    (lookupCheck e part tenant count tokens) (startLong e (.lookup part tenant count tokens pin)) s

/-- Whether INSERT_MASK excludes a seat (R199, R208). -/
def insertDenied (s : State) (part seat : Nat) : Bool := (s.parts.get part).pfxInsertMask / 2 ^ seat % 2 = 0

/-- INSERT_PREFIX's own checks (R197, R198, R208). -/
def insertCheck (e : Env) (part count tokens handle : Nat) (s : State) : Option Reply :=
  if insertDenied s part e.seat then some (.of .denied)
  else match deltaBusy s with
  | some r => some r
  | none => onHandle e handle (fun s =>
      match prefixPart s part with
      | some r => some r
      | none =>
        let r := rtOf s handle
        if r.state != .active && r.state != .full then some (.of .conflict)
        else if r.length < count || count = 0 || part != r.part || !placedOk s e.seat tokens (4 * count) 64 then
          some (.of .invalid)
        else none) s

/-- INSERT_PREFIX (0xC401, R208–R213). A seat INSERT_MASK excludes has no privilege (R82 check 4, Table 7-2). -/
def execInsertPrefix (e : Env) (part : Nat) (pin : Bool) (count tokens handle : Nat) (s : State) :
    Host.Outcome State Fault Refusal :=
  mailbox { Op.insertPrefix with seat0 := insertDenied s part e.seat } e (.insertPrefix e part pin count tokens handle)
    [.delta, .request handle, .partition part]
    (insertCheck e part count tokens handle) (startLong e (.insertPfx part handle count tokens pin)) s

/-- PIN_PREFIX's own checks (R218). -/
def pinCheck (part tenant pfx : Nat) (s : State) : Option Reply :=
  match prefixPart s part with
  | some r => some r
  | none =>
    if (resolvePrefix s part tenant pfx).isNone then some (.of .notFound)
    else if 262144 ≤ s.pins.length then some (.of .capacity) else none

/-- PIN_PREFIX (0xC402, R218). -/
def execPinPrefix (e : Env) (part tenant pfx : Nat) (s : State) : Host.Outcome State Fault Refusal :=
  mailbox Op.pinPrefix e (.pinPrefix e part tenant pfx) [.partition part] (pinCheck part tenant pfx)
    (fun s => match resolvePrefix s part tenant pfx with
      | some n => ((pinNode n.idx e.seat s).1, {})
      | none => (s, .of .notFound)) s

/-- The pin an UNPIN_PREFIX removes: the issuing seat's, or from seat 0, failing its own, the lowest seat's (R218; log
entry 22). -/
def pinToRemove (s : State) (seat idx : Nat) : Option (Nat × Nat) :=
  if s.pins.contains (idx, seat) then some (idx, seat)
  else if seat = 0 then ((List.range 64).find? fun n => s.pins.contains (idx, n)).map fun n => (idx, n)
  else none

/-- The pin a handle's UNPIN_PREFIX would remove. -/
def unpinTarget (s : State) (seat part tenant pfx : Nat) : Option (Nat × Nat) :=
  (resolvePrefix s part tenant pfx).bind fun n => pinToRemove s seat n.idx

/-- UNPIN_PREFIX (0xC403, R218). -/
def execUnpinPrefix (e : Env) (part tenant pfx : Nat) (s : State) : Host.Outcome State Fault Refusal :=
  mailbox Op.unpinPrefix e (.unpinPrefix e part tenant pfx) [.partition part]
    (fun s => match prefixPart s part with
      | some r => some r
      | none => if (unpinTarget s e.seat part tenant pfx).isSome then none else some (.of .notFound))
    (fun s => match unpinTarget s e.seat part tenant pfx with
      | some p => (dropRef p.1 { s with pins := s.pins.erase p }, {})
      | none => (s, .of .notFound)) s

/-- The neighbour of a node in a list. -/
def nextIn (i : Nat) : List Nat → Nat
  | a :: b :: rest => if a = i then b else nextIn i (b :: rest)
  | _ => 0

/-- Code of a node state (Table 7-4). -/
def NodeState.code : NodeState → Nat
  | .building => 1 | .live => 2 | .held => 3

/-- The 512 bits of a node (Table 7-4). -/
def nodeWord (s : State) (n : Node) : Nat :=
  let cold := (s.parts.get n.part).cold
  n.digest * 2 ^ 448 + n.check * 2 ^ 384 + n.slot * 2 ^ 360 + n.len * 2 ^ 338 + n.rows * 2 ^ 329 + n.tailRows * 2 ^ 320 +
  n.ref * 2 ^ 288 + nextIn n.idx cold.reverse * 2 ^ 262 + nextIn n.idx cold * 2 ^ 236 + n.kids * 2 ^ 210 +
  n.tenant * 2 ^ 198 + n.part * 2 ^ 194 + n.state.code * 2 ^ 192 + bit (cold.contains n.idx) * 2 ^ 191 +
  bit n.copied * 2 ^ 190 + n.parent * 2 ^ 164 + n.touch * 2 ^ 132

/-- QUERY_PREFIX (0xC404, R203): the node a handle names, unchanged. -/
def execQueryPrefix (e : Env) (part tenant pfx : Nat) (s : State) : Host.Outcome State Fault Refusal :=
  mailbox Op.queryPrefix e (.queryPrefix e part tenant pfx) [.partition part]
    (fun s => match prefixPart s part with
      | some r => some r
      | none => if (resolvePrefix s part tenant pfx).isSome then none else some (.of .notFound))
    (fun s => match resolvePrefix s part tenant pfx with
      | some n => (s, { body := .bytes (leBytes 64 (nodeWord s n)) })
      | none => (s, .of .notFound)) s

/-- SET_PREFIX_POLICY's own checks (R197, R199). -/
def prefixPolicyCheck (part charge scope maxSlots insertMask : Nat) (s : State) : Option Reply :=
  if 15 < part || 1000 < charge || 1 < scope || 2 ^ 32 ≤ maxSlots || 2 ^ 64 ≤ insertMask then some (.of .invalid)
  else match prefixPart s part with
    | some r => some r
    | none =>
      if scope != (s.parts.get part).pfxScope && !(partNodes s part).isEmpty then some (.of .conflict) else none

/-- SET_PREFIX_POLICY (0xC405, R199, R227). -/
def execSetPrefixPolicy (e : Env) (part charge scope maxSlots insertMask : Nat) (s : State) :
    Host.Outcome State Fault Refusal :=
  mailbox Op.setPrefixPolicy e (.setPrefixPolicy e part charge scope maxSlots insertMask) [.partition part]
    (prefixPolicyCheck part charge scope maxSlots insertMask)
    (fun s =>
      let old := storeCap s part
      let s := updPart part (fun p => { p with
        pfxCharge := charge, pfxScope := scope, pfxMaxSlots := maxSlots, pfxInsertMask := insertMask }) s
      (updPart part (fun p => { p with shrinking := p.shrinking || (storeCap s part < old && storeCap s part < storeHeld s part) }) s, {})) s

/-- PURGE_PREFIX (0xC406, R228). -/
def execPurgePrefix (e : Env) (part : Nat) (s : State) : Host.Outcome State Fault Refusal :=
  mailbox Op.purgePrefix e (.purgePrefix e part) [.delta, .partition part]
    (fun s => match deltaBusy s with
      | some r => some r
      | none => prefixPart s part)
    (startLong e (.purge part)) s

/-- The counts of a partition's root record (R204). -/
def prefixStoreBody (s : State) (part : Nat) : RespBody :=
  let p := s.parts.get part
  let l := (partNodes s part).length
  let k := storeHeld s part
  let f := if 32768 ≤ p.body.stride then l * p.body.slotFrames else p.storeSlots.length / p.body.group * p.body.slotFrames
  .fields [(4, ((partNodes s part).filter (·.state = .live)).length), (4, k), (4, f), (4, p.cold.length)]

/-- QUERY_PREFIX_STORE (0xC407, R204). -/
def execQueryPrefixStore (e : Env) (part : Nat) (s : State) : Host.Outcome State Fault Refusal :=
  mailbox Op.queryPrefixStore e (.queryPrefixStore e part) [.partition part] (fun s => prefixPart s part)
    (fun s => (s, { body := prefixStoreBody s part })) s

end Sys2Proof.Machine
end

