-- ==== Sys2Proof/Machine/Tiers.lean ====
section
/-! DEFINITION. Memory tiers and the Sluice engine (chapter 11): parks and tickets, unparks, pulls, region parks, the park
clock and the tier settings. -/

namespace Sys2Proof.Machine

/-! ### Areas (R316) -/

/-- P_rec (R330). -/
def parkUnits (s : State) (e : Rt) : Nat :=
  ceilDiv (64 + 4 * ceilDiv e.maxLen (s.parts.get e.part).body.tokens + 262144 * bit e.eddy) 65536

/-- Map units of the park area in use: those of the parks held, and of the parks accepted that still run (R328, R330). -/
def parkUse (s : State) : Nat :=
  (s.parks.map (·.units)).foldl (· + ·) 0 +
  (s.ops.map fun o => match o.done, o.kind with
    | none, .park h _ _ => parkUnits s (rtOf s h)
    | _, _ => 0).foldl (· + ·) 0

/-- Bytes of the image area in use (R132). -/
def imageUse (s : State) : Nat := (s.images.map (·.metaBytes)).foldl (· + ·) 0

/-- SET_TIER_CONFIG's own checks (R316). -/
def tierConfigCheck (imageGb parkGb : Nat) (s : State) : Option Reply :=
  if imageGb * 10 ^ 9 < imageUse s || parkGb * 10 ^ 9 < 65536 * parkUse s then some (.of .conflict)
  else if 216000 < 512 + imageGb + parkGb || homeLimitWith s imageGb parkGb < s.acct.homes then some (.of .invalid)
  else none

/-- SET_TIER_CONFIG (0xC508, R316). -/
def execSetTierConfig (e : Env) (imageGb parkGb : Nat) (s : State) : Host.Outcome State Fault Refusal :=
  mailbox Op.setTierConfig e (.setTierConfig e imageGb parkGb) [] (tierConfigCheck imageGb parkGb)
    (fun s => ({ s with tier := { s.tier with imageGb := imageGb, parkGb := parkGb } }, {})) s

/-- E_meas in mJ (R407). -/
def eMeas (s : State) : Nat := min s.hup.eCap s.hup.eStored

/-- C_E, the frames a usable energy in mJ flushes (R322): ⌊(0.80 × E − 480 J) / 2.62144 × 10⁻⁴ J⌋. -/
def ceilingE (mJ : Nat) : Nat := (800000 * mJ - 480000 * 10 ^ 6) / 262144

/-- C_T (R322). -/
def ceilingT : Nat := 6958007

/-- C_D for a usable energy in mJ (R322): the lesser of C_E and C_T, and 0 below 131,072. -/
def ceilingFor (mJ : Nat) : Nat :=
  let c := min (ceilingE mJ) ceilingT
  if c < 131072 then 0 else c

/-- Size and use in bytes of the four areas, then D, C_D and MODE, then E_meas in 0.1 J, C_E, C_T and H (R316, R321, R322, R324; the system
area is fixed and reads as in use, log entry 27). -/
def tiersBody (s : State) : RespBody :=
  .fields [(8, 512 * 10 ^ 9), (8, 512 * 10 ^ 9), (8, s.tier.imageGb * 10 ^ 9), (8, imageUse s),
    (8, s.tier.parkGb * 10 ^ 9), (8, 65536 * parkUse s), (8, 65536 * homeLimit s), (8, 65536 * s.acct.homes),
    (4, dirtyCount s), (4, s.tier.ceiling), (1, bit (!s.tier.flushMode)),
    (4, sat 32 (eMeas s / 100)), (4, sat 32 (ceilingE (eMeas s))), (4, ceilingT), (4, headroom s)]

/-- QUERY_TIERS (0xC509, R316). -/
def execQueryTiers (e : Env) (s : State) : Host.Outcome State Fault Refusal :=
  mailbox Op.queryTiers e (.queryTiers e) [] (fun _ => none) (fun s => (s, { body := tiersBody s })) s

/-! ### Homes of a request's slots -/

/-- The first slot of each group of a list of whole groups. -/
def groupHeads (g : Nat) : Nat → List Nat → List Nat
  | 0, _ => []
  | _ + 1, [] => []
  | n + 1, k :: rest => k :: groupHeads g n (rest.drop (g - 1))

/-- The slots, or first slots of groups, under which a request's homes lie. -/
def homeSlots (s : State) (e : Rt) : List Nat := groupHeads (s.parts.get e.part).body.group e.slots.length e.slots

/-- Place of an element in a list. -/
def placeOf (k : Nat) : List Nat → Option Nat
  | [] => none
  | a :: rest => if a = k then some 0 else (placeOf k rest).map (· + 1)

/-- Homes keep their unit numbers and change what they are the homes of. -/
def renameHomes (f : UnitKey → UnitKey) (s : State) : State :=
  { s with flash := { s.flash with homes := s.flash.homes.map fun x => (f x.1, x.2) } }

/-- A home of the slots of a list. -/
def homeOfSlots (part : Nat) (heads : List Nat) : UnitKey → Bool
  | .kv p k _ => p = part && heads.contains k
  | _ => false

/-- Images name these homes no longer (R132). -/
def unnameHomes (p : UnitKey → Bool) (s : State) : State :=
  { s with images := s.images.map fun i => { i with named := i.named.filter fun u => !p (i.homeKey u) } }

/-- Give the homes of a request's slots to its park (R330). -/
def homesToPark (part pid : Nat) (heads : List Nat) (s : State) : State :=
  renameHomes (fun u => match u with
    | .kv p k j => if p = part then (match placeOf k heads with
        | some i => .park pid i j
        | none => u) else u
    | _ => u) (unnameHomes (homeOfSlots part heads) s)

/-- Give a park's homes to the slots an unpark took (R336). -/
def homesFromPark (part pid : Nat) (heads : List Nat) : State → State :=
  renameHomes fun u => match u with
    | .park q i j => if q = pid then .kv part (heads.getD i 0) j else u
    | _ => u

/-- Read mapped homes into their frames (R128, R336, R338). -/
def readHomes (l : List (UnitKey × MapEnt)) (s : State) : State := l.foldl (fun s x => readHome x.2 x.1 s) s

/-! ### PARK_CONVERSATION (R328–R331) -/

/-- CAPACITY of a park or unpark, with ACCOUNT in byte 5 as in Table 5-10 (log entry 28). -/
def capacityReply (account : Nat) : Reply := { status := .capacity, body := accountBody account }

/-- The partition's answer to a park, unpark or pull (R127, R129). -/
def partGate (s : State) (part : Nat) : Option Reply :=
  match (s.parts.get part).state with
  | .swapped => some (.of .notReady)
  | .draining | .swappingOut | .swappingIn => some (swapBusy s part)
  | .empty => some (.of .notFound)
  | .resident => none

/-- The kind is a park of a handle. -/
def OpKind.isParkOf (h : Nat) : OpKind → Bool
  | .park g _ _ => g = h
  | _ => false

/-- PARK_CONVERSATION's own checks (R311, R328). -/
def parkCheck (e : Env) (handle : Nat) (release : Bool) (ttl : Nat) (s : State) : Option Reply :=
  onHandle e handle (fun s =>
    let r := rtOf s handle
    if ttl = 0 || 2 ^ 32 ≤ ttl then some (.of .invalid)
    else match partGate s r.part with
      | some g => some g
      | none =>
        if r.state = .prefill || r.state = .parked then some (.of .conflict)
        else if r.state = .parking || r.state = .unparking then some (requestBusy s handle)
        else if opRuns s (OpKind.isParkOf handle) then some (.busy 65535 (.request handle))
        else if release && 33554432 ≤ s.tickets.length then some (capacityReply 8)
        else if s.tier.parkGb * 10 ^ 9 < 65536 * (parkUse s + parkUnits s r) then some (capacityReply 7)
        else none) s

/-- The request is kept in the open step of its partition (R329). -/
def keptInStep (s : State) (h : Nat) : Bool :=
  let p := s.parts.get (rtOf s h).part
  p.step.cond != .idle && p.step.kept.any fun k => k.handle = h

/-- A park starts: the request is PARKING, and its data begins to move (R329, R331). -/
def beginPark (n h : Nat) (s : State) : State :=
  let bytes := 65536 * ((dirtyUnits s (frameOfRt s (handleRti h))).length + parkUnits s (rtOf s h))
  updRt h (fun r => { r with before := r.state, state := .parking })
    { s with ops := updFirst (fun o => o.n = n) (fun o => { o with began := s.dev.devtime, bytes := bytes }) s.ops }

/-- PARK_CONVERSATION's effect (R329): at once, or at the boundary for a request kept in an open step. -/
def parkStart (e : Env) (handle : Nat) (release : Bool) (ttl : Nat) (s : State) : State × Reply :=
  let part := (rtOf s handle).part
  let n := s.opCtr
  if keptInStep s handle then
    let (s, r) := startLong e (.park handle ttl release) s
    (updPart part (fun p => { p with staged := { p.staged with parks := p.staged.parks ++ [n] } }) s,
     { r with staged := (stagedNow s part).staged })
  else
    let (s, r) := startLong e (.park handle ttl release) s
    (beginPark n handle s, r)

/-- PARK_CONVERSATION (0xC500, R328). -/
def execParkConversation (e : Env) (handle : Nat) (release : Bool) (ttl : Nat) (s : State) :
    Host.Outcome State Fault Refusal :=
  mailbox Op.parkConversation e (.parkConversation e handle release ttl) [.request handle, .partition (rtOf s handle).part]
    (parkCheck e handle release ttl) (parkStart e handle release ttl) s

/-- The nodes a request's path references. -/
def refNodes (s : State) (e : Rt) : List Node := (e.reaches.filter (·.sh)).filterMap fun r => nodeOfSlot s e.part r.slot

/-- A node is durable: LIVE with every frame of its slot clean (R422). -/
def nodeDurable (s : State) (n : Node) : Bool :=
  n.state != .building &&
    !(s.frames.any fun f => frameOfSlots (s.parts.get n.part).body n.part [n.slot] f.key)

/-- A park may end now: in REPLAY mode only once every node its path references is durable (R423). -/
def parkMayEnd (s : State) (e : Rt) : Bool := s.tier.flushMode || (refNodes s e).all (nodeDurable s)

/-- S rises by one, taking a new epoch value when its low 16 bits wrap (R332). -/
def nextSerial (s : State) : State :=
  let n := s.flash.ticketS + 1
  let (s, n) := if n % 65536 = 0 then
      let (s, v) := takeEpoch s
      (s, v % 2 ^ 23 * 2 ^ 16)
    else (s, n)
  { s with flash := { s.flash with ticketS := n } }

/-- The record index a new ticket takes: the lowest free one (log entry 29). -/
def ticketIndex (s : State) : Nat :=
  ((List.range (s.tickets.length + 1)).find? fun i => !(s.tickets.map fun t => t.ticket % 2 ^ 25).contains i).getD 0

/-- A ticket of the present S, and S after it (R332; log entry 29); a serial number that would make ticket 0 is passed over. -/
def issueTicket (s : State) : State × Nat :=
  let i := ticketIndex s
  let s := if s.flash.ticketS % 2 ^ 39 = 0 && i = 0 then nextSerial s else s
  (nextSerial s, s.flash.ticketS % 2 ^ 39 * 2 ^ 25 + i)

/-- The operation a number names, while it runs. -/
def opOf (s : State) (n : Nat) : Option Op := s.ops.find? fun o => o.n = n && o.done.isNone

/-- A staged SET_REQUEST of a handle (R158). -/
def stagedRequest (s : State) (part h : Nat) : Option StagedReq := (s.parts.get part).staged.requests.find? fun r => r.handle = h

/-- A park's data is in flash: its dirty frames written back, its homes and its record under its own number, and its slots and frames
released (R330). None while a lane takes no writes. -/
def parkData (h pid : Nat) (s : State) : Option State :=
  let e := rtOf s h
  let heads := homeSlots s e
  let mine := frameOfRt s (handleRti h)
  ((writeBackAll mine s).bind fun s =>
    programMetas ((List.range (parkUnits s e)).map fun j => .parkRec pid j) (homesToPark e.part pid heads s)).map fun s =>
      releaseSlots (handleRti h) (forgetFrames mine { s with flash := { s.flash with nextPark := pid + 1 } })

/-- End a park (R330): write-back, record, release of slots and frames, and PARKED or a ticket. The ticket keeps a SET_REQUEST that was
staged for the request (R164). -/
def parkEnd (o : Op) (h ttl : Nat) (release : Bool) (s : State) : Option State :=
  let e := rtOf s h
  let pid := s.flash.nextPark
  let staged := stagedRequest s e.part h
  let units := parkUnits s e
  (parkData h pid s).map fun s =>
    let k : Park := { pid := pid, handle := some h, ticket := none, part := e.part, seat := o.seat, expiry := s.dev.parkClock + ttl
                      units := units, saved := { e with state := e.before } }
    if !release then
      let s := updRt h (fun r => { r with state := .parked, slots := [] }) { s with parks := s.parks ++ [k] }
      finishOpWith o.n .ok (.fields [(4, h), (4, 0), (4, 0), (4, e.own), (8, 0)]) { handle := h } s
    else
      let (s, t) := issueTicket s
      let k := { k with handle := none, ticket := some t, staged := staged.map fun r => (r.prio, r.dlToken, r.dlItem) }
      let s := { s with parks := s.parks ++ [k], tickets := s.tickets ++ [{ ticket := t, tenant := e.tenant }] }
      let s := updPart e.part (fun p => { p with staged := { p.staged with requests := p.staged.requests.filter fun r => r.handle != h } }) s
      let s := freeEntry (handleRti h) (releaseAcct { seat := e.seat, part := e.part, entries := 1 } s)
      finishOpWith o.n .ok (.fields [(4, 0), (4, 0), (4, 0), (4, e.own), (8, t)]) { first := t % 2 ^ 32, second := t / 2 ^ 32 } s

/-- A park of a conversation or region whose work can end now (R341, R423). -/
def parkReady (s : State) (o : Op) : Bool :=
  match o.kind with
  | .park h _ _ => handleCurrent s h && (rtOf s h).state = .parking && parkMayEnd s (rtOf s h)
  | .parkRegion id => ((regionOf s id).map (·.st)) = some .parking
  | _ => false

/-- Write zeros into the frames of slots just taken (R336). -/
def zeroSlots (part : Nat) (heads : List Nat) (s : State) : State :=
  let b := (s.parts.get part).body
  updPart part (fun p => { p with kv := p.kv.filter fun c => !heads.contains (slotOfFrame b (c.1 / 32768)) }) s

/-- An operation is the first in acceptance order among those of its queue that can end, and BULK serves more than write-back (R341). -/
def bulkTurn (s : State) (ready : Op → Bool) (op : Nat) : Bool :=
  s.dev.memActive && !flashClosed s && (s.ops.find? fun o => o.done.isNone && ready o).any fun o => o.n = op

/-- PARK_COMPLETE (R330, R341, R423). -/
def execParkComplete (op : Nat) (s : State) : Host.Outcome State Fault Refusal :=
  match opOf s op with
  | some o => match o.kind with
    | .park h ttl release => .next (if bulkTurn s (parkReady s) op then (parkEnd o h ttl release s).getD s else s)
    | _ => .next s
  | none => .next s

/-- Parks staged to a boundary start, after action 3; one whose request was freed ends with STALE_GENERATION (R329). -/
def startParks (part : Nat) (s : State) : State :=
  let l := (s.parts.get part).staged.parks
  let s := updPart part (fun p => { p with staged := { p.staged with parks := [] } }) s
  l.foldl (fun s n => match opOf s n with
    | some o => match o.kind with
      | .park h _ _ => if handleCurrent s h then beginPark n h s else finishOp n .staleGeneration s
      | _ => s
    | none => s) s

/-! ### Tickets (R332–R335) -/

/-- The park a ticket names for a seat (R311). -/
def parkOfTicket (s : State) (seat t : Nat) : Option Park :=
  s.parks.find? fun p => p.ticket = some t && t != 0 && (seat = 0 || p.seat = seat)

/-- The park of a handle. -/
def parkOfHandle (s : State) (h : Nat) : Option Park := s.parks.find? fun p => p.handle = some h

/-- An unpark of this ticket runs. -/
def unparkRuns (s : State) (t : Nat) : Bool := opRuns s fun k => match k with
  | .unpark _ u => u = t && t != 0
  | _ => false

/-- Free a park: its homes and record, its references, its home charge, and its ticket or entry (R334). -/
def freePark (k : Park) (s : State) : State :=
  let s := freeParks (fun p => p.pid = k.pid) s
  let s := dropReachRefs k.part k.saved.reaches s
  let s := releaseAcct { seat := k.saved.seat, part := k.part, homes := k.saved.homeUnits } s
  match k.handle with
  | some h => freeEntry (handleRti h) (releaseAcct { seat := k.saved.seat, part := k.part, entries := 1 } s)
  | none => { s with tickets := s.tickets.filter fun t => some t.ticket != k.ticket }

/-- RENEW_PARK (0xC502, R333, R335). -/
def renewCheck (e : Env) (handle ticket ttl : Nat) (s : State) : Option Reply :=
  if handle != 0 then
    onHandle e handle (fun s =>
      if ttl = 0 || 2 ^ 32 ≤ ttl then some (.of .invalid)
      else if (rtOf s handle).state = .unparking then some (requestBusy s handle)
      else if (parkOfHandle s handle).isNone then some (.of .conflict) else none) s
  else if ttl = 0 || 2 ^ 32 ≤ ttl then some (.of .invalid)
  else if (parkOfTicket s e.seat ticket).isNone then some (.of .notFound)
  else if unparkRuns s ticket then some (ticketBusy s ticket)
  else none

/-- RENEW_PARK (0xC502, R333): a new EXPIRY from the park clock. -/
def execRenewPark (e : Env) (handle ticket ttl : Nat) (s : State) : Host.Outcome State Fault Refusal :=
  mailbox Op.renewPark e (.renewPark e handle ticket ttl) [if handle != 0 then .request handle else .ticket ticket]
    (renewCheck e handle ticket ttl)
    (fun s => ({ s with parks := s.parks.map fun p =>
        if (if handle != 0 then p.handle = some handle else p.ticket = some ticket) then
          { p with expiry := s.dev.parkClock + ttl } else p }, {})) s

/-- The 64 bytes of a ticket record (Table 5-12). -/
def ticketBytes (s : State) (k : Park) : List Byte :=
  let e := k.saved
  let t := k.ticket.getD 0
  let staged := k.staged.isSome
  leBytes 8 t ++ leBytes 4 e.length ++ leBytes 4 e.maxLen ++ leBytes 4 e.promptLen ++ leBytes 1 k.part ++ leBytes 1 e.prio ++
  leBytes 2 (e.tenant % 4096) ++ leBytes 1 (bit e.eddy + 2 * bit e.seeded + 4 * bit e.cow + 8 * bit staged) ++
  leBytes 1 (k.seat % 64) ++ leBytes 2 0 ++ leBytes 4 (e.dlToken * 4096 + e.dlItem) ++
  leBytes 8 (((mapOf s (.parkRec k.pid 0)).map (·.unit)).getD 0) ++ leBytes 4 (e.pnode % 2 ^ 26) ++ leBytes 4 0 ++
  leBytes 8 k.expiry ++ leBytes 8 0

/-- QUERY_TICKET (0xC503, R333). -/
def execQueryTicket (e : Env) (ticket : Nat) (s : State) : Host.Outcome State Fault Refusal :=
  mailbox Op.queryTicket e (.queryTicket e ticket) []
    (fun s => if (parkOfTicket s e.seat ticket).isSome then none else some (.of .notFound))
    (fun s => match parkOfTicket s e.seat ticket with
      | some k => (s, { body := .bytes (ticketBytes s k) })
      | none => (s, .of .notFound)) s

/-- DISCARD_TICKET (0xC504, R334, R335). -/
def execDiscardTicket (e : Env) (ticket : Nat) (s : State) : Host.Outcome State Fault Refusal :=
  mailbox Op.discardTicket e (.discardTicket e ticket) [.ticket ticket]
    (fun s => if (parkOfTicket s e.seat ticket).isNone then some (.of .notFound)
      else if unparkRuns s ticket then some (ticketBusy s ticket) else none)
    (fun s => match parkOfTicket s e.seat ticket with
      | some k => (freePark k s, {})
      | none => (s, .of .notFound)) s

/-- PARK_CLOCK_SECOND (R333): the park clock advances; a record is journaled for each quantum of 64 s. -/
def execParkClockSecond (s : State) : Host.Outcome State Fault Refusal :=
  let n := (s.dev.parkClock + 1) % 2 ^ 48
  .next { s with dev := { s.dev with
    parkClock := n, parkClockPersist := if n ≤ s.dev.parkClockPersist then s.dev.parkClockPersist else ceilDiv n 64 * 64 } }

/-- The EXPIRED notice of a park (Table 23-4). -/
def expiredNotice (k : Park) : CompRec :=
  match k.handle with
  | some h => { kind := 0x83, handle := h }
  | none => { kind := 0x83, value := k.ticket.getD 0 % 2 ^ 32, step := k.ticket.getD 0 / 2 ^ 32 }

/-- A park that has reached its EXPIRY and is not being unparked (R334, R335). -/
def parkExpired (s : State) (k : Park) : Bool :=
  k.expiry ≤ s.dev.parkClock &&
    (match k.handle with
      | some h => (rtOf s h).state = .parked
      | none => !unparkRuns s (k.ticket.getD 0))

/-- PARK_EXPIRY (R334): every park that has reached its EXPIRY is freed, with a notice to the seat that parked it. -/
def execParkExpiry (s : State) : Host.Outcome State Fault Refusal :=
  if !s.dev.memActive then .next s
  else .next ((s.parks.filter (parkExpired s)).foldl (fun s k => postNotice k.seat (expiredNotice k) (freePark k s)) s)

/-! ### UNPARK_CONVERSATION (R166, R167, R336) -/

/-- The park an unpark names. -/
def unparkTarget (s : State) (seat handle ticket : Nat) : Option Park :=
  if handle != 0 then parkOfHandle s handle else parkOfTicket s seat ticket

/-- Own reaches of a park. -/
def ownReaches (k : Park) : Nat := (k.saved.reaches.filter fun r => !r.sh).length

/-- What an unpark charges: accounts 3 to 6 again, and from a ticket 1 and 2 too (R147, R166). -/
def unparkCharge (s : State) (seat : Nat) (fromTicket : Bool) (k : Park) : Charge :=
  let b := (s.parts.get k.part).body
  { seat := if fromTicket then seat else k.saved.seat, part := k.part, entries := bit fromTicket
    slots := b.ownSlots (ownReaches k)
    frames := b.kvFrames (ownReaches k) + ceilDiv (4 * k.saved.reaches.length) 32768 + (if k.saved.eddy then 8 else 0) }

/-- UNPARK_CONVERSATION's checks on the park it found (R336). -/
def unparkParkCheck (s : State) (seat : Nat) (fromTicket : Bool) (k : Park) : Option Reply :=
  match partGate s k.part with
  | some g => some g
  | none => match shortAccount s (unparkCharge s seat fromTicket k) with
    | some a => some (capacityReply a)
    | none =>
      if (takeSlots s k.part (ownReaches k)).length = (s.parts.get k.part).body.ownSlots (ownReaches k) then none
      else some (capacityReply 3)

/-- UNPARK_CONVERSATION's own checks (R311, R336, R167); a request in no state that Table 5-7 lists for it answers INVALID (R138). -/
def unparkCheck (e : Env) (handle ticket : Nat) (s : State) : Option Reply :=
  if handle != 0 then
    onHandle e handle (fun s =>
      let r := rtOf s handle
      match partGate s r.part with
      | some g => some g
      | none =>
        if r.state = .parking || r.state = .unparking then some (requestBusy s handle)
        else match parkOfHandle s handle with
          | none => some (.of .invalid)
          | some k => if r.state = .parked then unparkParkCheck s e.seat false k else some (.of .invalid)) s
  else match parkOfTicket s e.seat ticket with
    | none => some (.of .notFound)
    | some k =>
      if unparkRuns s ticket then some (ticketBusy s ticket)
      else unparkParkCheck s e.seat true k

/-- Put the new own slots into a reach list, in order. -/
def rewriteReaches : List Reach → List Nat → List Reach
  | [], _ => []
  | r :: rest, slots =>
    if r.sh then r :: rewriteReaches rest slots
    else { r with slot := slots.headD 0 } :: rewriteReaches rest (slots.drop 1)

/-- The bytes an unpark reads: 64 KiB for each unit of the park (R336). -/
def unparkBytes (s : State) (k : Park) : Nat :=
  65536 * ((mappedHomes s fun u => match u with
    | .park p _ _ => p = k.pid
    | _ => false).length + k.units)

/-- An unpark's operation, with the bytes it has to move: the mapped homes and the record (R336). -/
def startUnpark (e : Env) (h ticket : Nat) (k : Park) (s : State) : State × Reply :=
  let n := s.opCtr
  let bytes := unparkBytes s k
  let (s, r) := startLong e (.unpark h ticket) s
  ({ s with ops := updFirst (fun o => o.n = n) (fun o => { o with began := s.dev.devtime, bytes := bytes }) s.ops }, r)

/-- UNPARK_CONVERSATION's effect: the reservation, and UNPARKING (R336); from a ticket a new entry is taken (R166). -/
def unparkStart (e : Env) (handle ticket : Nat) (s : State) : State × Reply :=
  match unparkTarget s e.seat handle ticket with
  | none => (s, .of .notFound)
  | some k =>
    let fromTicket := handle = 0
    let c := unparkCharge s e.seat fromTicket k
    let slots := takeSlots s k.part (ownReaches k)
    let s := chargeAcct c s
    let reaches := rewriteReaches k.saved.reaches slots
    if fromTicket then
      match nextFreeRt s with
      | none => (s, capacityReply 1)
      | some i =>
        let g := (s.rt.get i).gen
        let h := mkHandle e.seat i g
        let s := takeRt s
        let s := { s with
          rt := s.rt.set i { k.saved with
            state := .unparking, before := k.saved.state, gen := g, seat := e.seat, slots := slots, reaches := reaches
            frames := c.frames, cancel := false, logit := none, rlist := (Config.rlistAddr s.freeCtr).toNat
            sstate := if k.saved.eddy then (Config.sstateFrame s.freeCtr).toNat else 0 }
          freeCtr := s.freeCtr + 1 }
        startUnpark e h ticket k s
    else
      let s := updRt handle (fun r => { r with
        state := .unparking, before := k.saved.state, slots := slots, reaches := reaches, frames := c.frames }) s
      startUnpark e handle 0 k s

/-- UNPARK_CONVERSATION (0xC501, R336). -/
def execUnparkConversation (e : Env) (handle ticket : Nat) (s : State) : Host.Outcome State Fault Refusal :=
  mailbox Op.unparkConversation e (.unparkConversation e handle ticket)
    (if handle != 0 then [.request handle, .partition (rtOf s handle).part]
     else .ticket ticket :: ((parkOfTicket s e.seat ticket).map fun k => ClaimObj.partition k.part).toList)
    (unparkCheck e handle ticket) (unparkStart e handle ticket) s

/-- End an unpark: the homes go to the new slots and are read, the record is freed, and the request has the state it held
before the park, with a SET_REQUEST its ticket held (R158, R336, R589). -/
def unparkEnd (o : Op) (h : Nat) (k : Park) (s : State) : State :=
  let heads := homeSlots s (rtOf s h)
  let s := homesFromPark k.part k.pid heads s
  let l := mappedHomes s (homeOfSlots k.part heads)
  let s := readHomes l (zeroSlots k.part heads s)
  let s := freeParks (fun p => p.pid = k.pid) s
  let s := { s with tickets := s.tickets.filter fun t => some t.ticket != k.ticket }
  let s := updRt h (fun r => { r with state := r.before }) s
  let s := match k.staged with
    | some (p, t, i) => updRt h (fun r => { r with prio := p, dlToken := t, dlItem := i }) s
    | none => s
  finishOpWith o.n (if l.any (·.2.lost) then .invalid else .ok) (.fields [(4, h)]) { handle := h } s

/-- The park an unpark in progress brings back. -/
def unparkSource (s : State) (h t : Nat) : Option Park :=
  if t = 0 then parkOfHandle s h else s.parks.find? fun p => p.ticket = some t

/-- An unpark of a conversation or region whose work can end now (R341). -/
def unparkReady (s : State) (o : Op) : Bool :=
  match o.kind with
  | .unpark h t => (unparkSource s h t).isSome
  | .unparkRegion id => ((regionOf s id).map (·.st)) = some .unparking
  | _ => false

/-- UNPARK_COMPLETE (R336, R341). -/
def execUnparkComplete (op : Nat) (s : State) : Host.Outcome State Fault Refusal :=
  match opOf s op with
  | some o => match o.kind with
    | .unpark h t =>
      match unparkSource s h t with
      | some k => .next (if bulkTurn s (unparkReady s) op then unparkEnd o h k s else s)
      | none => .next s
    | _ => .next s
  | none => .next s

/-! ### PULL_KV (R339, R340) -/

/-- PULL_KV's own checks (R339). -/
def pullCheck (e : Env) (handle window offset first reaches layer0 layer1 : Nat) (s : State) : Option Reply :=
  if 2 ≤ s.pulls.length then some (.busy (Config.retryBound s.freeCtr).toNat .pulls)
  else onHandle e handle (fun s =>
    let r := rtOf s handle
    let b := (s.parts.get r.part).body
    let total := reaches * (layer1 + 1 - layer0) * b.slice
    match partGate s r.part with
    | some g => some g
    | none =>
      if r.state != .prefill then some (.of .conflict)
      else if offset % 64 != 0 || reaches = 0 || r.reaches.length < first + reaches || b.layers ≤ layer1 || layer1 < layer0 ||
          512 * 2 ^ 20 < total ||
          !(match windowOf s e.seat window with | some w => w.kind = 4 && offset + total ≤ w.len | none => false) ||
          (((r.reaches.drop first).take reaches).any (·.sh)) then some (.of .invalid)
      else none) s

/-- PULL_KV's effect: the peer reads are issued, or with no port of the window up the operation ends with INVALID (R66, R261, R340). -/
def pullStart (e : Env) (handle window offset first reaches layer0 layer1 : Nat) (s : State) : State × Reply :=
  let b := (s.parts.get (rtOf s handle).part).body
  let n := s.opCtr
  let p : Pull := { op := n, handle := handle, seat := e.seat, window := window, offset := offset, first := first
                    reaches := reaches, layer0 := layer0, layer1 := layer1 }
  match windowOf s e.seat window with
  | none => startLong e (.pull handle) s
  | some w =>
    if (firstUp s w.mask).isNone then
      let (s, r) := startLong e (.pull handle) s
      (finishOp n .invalid (logFault { unit := 5, index := e.seat, event := 11, action := 6, seat := e.seat
                                       tag := (Config.opid n).toNat, detail := Status.invalid.code } s), r)
    else
      startLong e (.pull handle)
        (peerReads w.mask (w.base + offset) (reaches * (layer1 + 1 - layer0) * b.slice) { s with pulls := s.pulls ++ [p] })

/-- PULL_KV (0xC505, R339). -/
def execPullKv (e : Env) (handle window offset first reaches layer0 layer1 : Nat) (s : State) :
    Host.Outcome State Fault Refusal :=
  mailbox Op.pullKv e (.pullKv e handle window offset first reaches layer0 layer1)
    [.request handle, .pulls, .partition (rtOf s handle).part]
    (pullCheck e handle window offset first reaches layer0 layer1)
    (pullStart e handle window offset first reaches layer0 layer1) s

/-- The pieces of one pulled slice, without the rows a copy-on-write fills (R220, R340). -/
def slicePieces (b : LoadBody) (slot layer skip : Nat) (data : List Byte) : List (Nat × List Byte) :=
  let half := b.tokens * b.row
  let a := sliceAddr b layer slot
  [(a + skip * b.row, (data.take half).drop (skip * b.row)), (a + half + skip * b.row, (data.drop half).drop (skip * b.row))].filter
    fun x => !x.2.isEmpty

/-- The writes of a pull (R339, R340). -/
def pullPieces (s : State) (p : Pull) (data : List Byte) : List (Nat × List Byte) :=
  let e := rtOf s p.handle
  let b := (s.parts.get e.part).body
  ((List.range (p.layer1 + 1 - p.layer0)).map fun l =>
    ((List.range p.reaches).map fun j =>
      slicePieces b (e.reaches.getD (p.first + j) { sh := false, slot := 0 }).slot (p.layer0 + l) (e.copiedRows (p.first + j))
        (padTo b.slice ((data.drop ((l * p.reaches + j) * b.slice)).take b.slice))).flatten).flatten

/-- Write a pull's slices; none while the ceiling holds a write of it (R324, R340). -/
def writePull (p : Pull) (data : List Byte) (s : State) : Option State :=
  let e := rtOf s p.handle
  putAll false (.kv e.part) (pullPieces s p data)
    (dropDigests e.part ((List.range p.reaches).map fun j => (e.reaches.getD (p.first + j) { sh := false, slot := 0 }).slot) s)

/-- PULL_COMPLETE (R340): every read has completed, with this data; the slices are written, unless the ceiling holds them. -/
def execPullComplete (op : Nat) (data : List Byte) (s : State) : Host.Outcome State Fault Refusal :=
  match s.pulls.find? (fun p => p.op = op), opOf s op with
  | some p, some _ => match writePull p data s with
    | some s => .next (finishOp op .ok { s with pulls := s.pulls.filter fun q => q.op != op })
    | none => .next s
  | _, _ => .next s

/-! ### PARK_REGION and UNPARK_REGION (R338) -/

/-- The region of a seat that begins at an HDM address. -/
def regionBase (s : State) (seat base : Nat) : Option Region := s.regions.find? fun r => r.seat = seat && r.base = base

/-- A ring lies in a region (R338). -/
def ringInRegion (s : State) (r : Region) : Bool := meetsRing s r.seat r.base r.size

/-- BUSY on a region. -/
def regionBusy (s : State) (id : Nat) : Reply := .busy (Config.retryBound s.freeCtr).toNat (.region id)

/-- PARK_REGION's own checks (R338; log entry 30). -/
def parkRegionCheck (e : Env) (base : Nat) (s : State) : Option Reply :=
  match regionBase s e.seat base with
  | none => some (.of .notFound)
  | some r =>
    if !r.parkable then some (.of .invalid)
    else match r.st with
      | .held => if ringInRegion s r then some (.of .conflict) else none
      | .parked => some (.of .conflict)
      | _ => some (regionBusy s r.id)

/-- The region a seat's base names, as an object of claims. -/
def regionObj (s : State) (seat base : Nat) : List ClaimObj :=
  ((regionBase s seat base).map fun r => ClaimObj.region r.id).toList

/-- PARK_REGION (0xC506, R338). -/
def execParkRegion (e : Env) (base : Nat) (s : State) : Host.Outcome State Fault Refusal :=
  mailbox Op.parkRegion e (.parkRegion e base) (regionObj s e.seat base) (parkRegionCheck e base)
    (fun s => match regionBase s e.seat base with
      | some r => startLong e (.parkRegion r.id) (updRegion r.id (fun r => { r with st := .parking }) s)
      | none => (s, .of .notFound)) s

/-- Frames of a region. -/
def regionFrames (r : Region) : Nat := ceilDiv r.size 32768

/-- A frame belongs to a region. -/
def frameOfRegion (id : Nat) : FrameKey → Bool
  | .region i _ => i = id
  | _ => false

/-- What a region's frames charge: accounts 4, 5 and 6 (R338, R466). -/
def framesCharge (r : Region) : Charge := { seat := r.seat, part := r.part, frames := regionFrames r }

/-- End a park of a region: its dirty frames are written back and its frames released (R338). -/
def regionParkEnd (op : Nat) (r : Region) (s : State) : Option State :=
  (writeBackAll (frameOfRegion r.id) s).map fun s =>
    let s := updRegion r.id (fun r => { r with st := .parked, data := [] }) (forgetFrames (frameOfRegion r.id) s)
    finishOp op .ok (releaseWrites (releaseAcct (framesCharge r) s))

/-- REGION_PARK_COMPLETE (R338, R341). -/
def execRegionParkComplete (op : Nat) (s : State) : Host.Outcome State Fault Refusal :=
  match opOf s op with
  | some o => match o.kind with
    | .parkRegion id => match regionOf s id with
      | some r => .next (if r.st = .parking && bulkTurn s (parkReady s) op then (regionParkEnd op r s).getD s else s)
      | none => .next s
    | _ => .next s
  | none => .next s

/-- UNPARK_REGION's own checks (R338). -/
def unparkRegionCheck (e : Env) (base : Nat) (s : State) : Option Reply :=
  match regionBase s e.seat base with
  | none => some (.of .notFound)
  | some r =>
    if !r.parkable then some (.of .invalid)
    else match r.st with
      | .parked => if (shortAccount s (framesCharge r)).isNone then none else some (capacityReply 4)
      | .held => some (.of .conflict)
      | _ => some (regionBusy s r.id)

/-- UNPARK_REGION (0xC507, R338). -/
def execUnparkRegion (e : Env) (base : Nat) (s : State) : Host.Outcome State Fault Refusal :=
  mailbox Op.unparkRegion e (.unparkRegion e base) (regionObj s e.seat base) (unparkRegionCheck e base)
    (fun s => match regionBase s e.seat base with
      | some r =>
        startLong e (.unparkRegion r.id) (updRegion r.id (fun r => { r with st := .unparking }) (chargeAcct (framesCharge r) s))
      | none => (s, .of .notFound)) s

/-- A home of a region. -/
def homeOfRegion (id : Nat) : UnitKey → Bool
  | .region i _ => i = id
  | _ => false

/-- End an unpark of a region: every mapped home is read, and the rest reads as zeros (R320, R336, R338, R589). -/
def regionUnparkEnd (op id : Nat) (s : State) : State :=
  let l := mappedHomes s (homeOfRegion id)
  let s := readHomes l (updRegion id (fun r => { r with data := [] }) s)
  finishOp op (if l.any (·.2.lost) then .invalid else .ok) (updRegion id (fun r => { r with st := .held }) s)

/-- REGION_UNPARK_COMPLETE (R338, R341). -/
def execRegionUnparkComplete (op : Nat) (s : State) : Host.Outcome State Fault Refusal :=
  match opOf s op with
  | some o => match o.kind with
    | .unparkRegion id => match regionOf s id with
      | some r => .next (if r.st = .unparking && bulkTurn s (unparkReady s) op then regionUnparkEnd op id s else s)
      | none => .next s
    | _ => .next s
  | none => .next s

end Sys2Proof.Machine
end

