-- ==== Sys2Proof/Machine/Holdup.lean ====
section
/-! DEFINITION. The hold-up pack (§14.2 to §14.4): health, the charger, the discharge test, the ceiling and the survival mode,
and the hold-up commands. -/

namespace Sys2Proof.Machine

/-! ### Registers (R407, R408, R412) -/

/-- Change the pack's state. -/
def updHup (f : Hup → Hup) (s : State) : State := { s with hup := f s.hup }

/-- Park-clock seconds of PERIOD_DAYS. -/
def periodSeconds (s : State) : Nat := s.hup.period * 86400

/-- The pack is qualified: a test has completed and is at most 7 days of park clock overdue (R408). -/
def hupQualified (s : State) : Bool :=
  s.hup.present && s.hup.tested && s.dev.parkClock ≤ s.hup.lastTest + periodSeconds s + 7 * 86400

/-- The pack is healthy (R404). -/
def hupHealthy (s : State) : Bool := s.hup.present && s.hup.healthy && !s.hup.low

/-- The pack is aged: E_cap below 2,880 J (R410, Table 14-5). -/
def hupAged (s : State) : Bool := s.hup.tested && s.hup.eCap < 2880000

/-- HUP_STATUS (Table 14-5). -/
def hupStatus (s : State) : Nat :=
  s.hup.chg.code * 2 ^ 29 + bit s.hup.present * 2 ^ 28 + bit (hupQualified s) * 2 ^ 27 + bit (hupHealthy s) * 2 ^ 26 +
  bit (!s.tier.flushMode) * 2 ^ 25 + bit (hupAged s) * 2 ^ 24 + s.dev.lastStart % 4 * 2 ^ 22 + s.hup.temp % 256 * 2 ^ 8

/-- HUP_ENERGY and HUP_CAPACITY, in units of 0.1 J (R412). -/
def hupEnergy (s : State) : Nat := sat 32 (s.hup.eStored / 100)
def hupCapacity (s : State) : Nat := sat 32 (s.hup.eCap / 100)

/-! ### The ceiling and the mode (R321–R323) -/

/-- The ceiling the present pack gives (R321). -/
def newCeiling (s : State) : Nat := if hupQualified s && hupHealthy s then ceilingFor (eMeas s) else 0

/-- Recompute C_D and the mode (R323); entering REPLAY forces a checkpoint (R398), and held writes are judged anew (R324). -/
def setCeiling (s : State) : State :=
  let c := newCeiling s
  let left := s.tier.flushMode && c = 0
  let s := { s with tier := { s.tier with ceiling := c, flushMode := c != 0 } }
  releaseWrites (if left then startCheckpoint s else s)

/-! ### The test (R408) -/

/-- End the TEST_HOLDUP operation of the test, if any. -/
def endTestOp (st : Status) (s : State) : State :=
  match s.hup.testOp with
  | some n => finishOp n st (updHup (fun h => { h with testOp := none }) s)
  | none => s

/-- A status the spec does not state for an operation that ends early: a free value (log entry 36). -/
def openStatus (s : State) : Status × State :=
  let v := (Config.openValue s.freeCtr).toNat
  let l := [Status.ok, .busy, .invalid, .capacity, .budget, .notFound, .staleGeneration, .conflict, .notReady, .retired, .fatal, .denied,
    .unsupported, .version, .late]
  (l.getD (v % 15) .ok, { s with freeCtr := s.freeCtr + 1 })

/-- Abandon a running test (R430): its operation ends with a status the spec does not state. -/
def abandonTest (s : State) : State :=
  if s.hup.testOp.isSome then
    let (st, s) := openStatus s
    endTestOp st s
  else s

/-- A test begins: it charges, or waits for the charge range (R408). -/
def startTest (op : Option Nat) (s : State) : State :=
  updHup (fun h => { h with
    chg := .testing, step := if h.chargeRange then .charge else .waiting, testOp := op, stopped := false }) s

/-! ### Events of the pack -/

/-- PACK_INSERT (R405, R432): the pack is present and in TESTING at once; a lack of pack no longer holds the device in Ochre. -/
def execPackInsert (s : State) : Host.Outcome State Fault Refusal :=
  if s.hup.present then .next s
  else
    let s := updHup (fun h => { h with present := true, healthy := true, tested := false, low := false, eCap := 0, eStored := 0 }) s
    .next (clearCause 12 (startTest none s))

/-- What a removal of the pack does while no flush runs (R430): the charger stops, E_cap is forgotten, C_D is 0, a checkpoint is
forced, held writes are released, and the device is in Ochre with an MCTP event and STATE notices. -/
def packGone (s : State) : State :=
  let s := updHup (fun h => { h with
    present := false, healthy := false, chg := .absent, tested := false, low := false, eCap := 0, eStored := 0, temp := 0, serial := 0
    rated := 0, chargeRange := false, stopped := true }) (abandonTest s)
  let s := { s with tier := { s.tier with ceiling := 0, flushMode := false } }
  let s := releaseWrites (startCheckpoint s)
  clearCause 14 (clearCause 13 (causeFault 12 { cls := 1, unit := 11, event := 19 } s))

/-- Both temperatures lie in a range of °C. -/
def tempsWithin (r : PackReading) (lo hi : Int) : Bool := lo ≤ r.tempLow && r.tempHigh ≤ hi

/-- R404's conditions on a reading; the limits of a range belong to it (DEDUCED: log entry 67). -/
def readingOk (r : PackReading) : Bool :=
  r.cells = 20 && 8000 ≤ r.rated && !r.fault && 1500 ≤ r.minMv && r.maxMv ≤ 2800 && tempsWithin r (-20) 60

/-- A pack that stops being healthy is in FAULT: no energy is drawn, it is not charged, and the device is in Ochre and REPLAY
(R404, R405, R410). -/
def packFaulted (s : State) : State :=
  let s := updHup (fun h => { h with chg := .fault }) (abandonTest s)
  causeFault 13 { cls := 1, unit := 11, event := 19 } (setCeiling s)

/-- What a poll judges once its reading is stored. -/
def judgePack (s : State) : State :=
  if !hupHealthy s then (if s.hup.chg = .fault then s else packFaulted s)
  else if s.hup.chg = .fault then clearCause 13 (startTest none s)
  else if s.hup.chg = .testing && s.hup.step = .waiting && s.hup.chargeRange then updHup (fun h => { h with step := .charge }) s
  else setCeiling s

/-- PACK_POLL (R404): what the pack's target reports, none where it does not answer. -/
def execPackPoll (reading : Option PackReading) (s : State) : Host.Outcome State Fault Refusal :=
  if !s.hup.present then .next s
  else match reading with
    | none => .next (judgePack (updHup (fun h => { h with healthy := false }) s))
    | some r =>
      .next (judgePack (updHup (fun h => { h with
        healthy := readingOk r, temp := ofInt 8 r.tempHigh, serial := r.serial, rated := r.rated, chargeRange := tempsWithin r 0 50 }) s))

/-- HOLDUP_MEASUREMENT (R407, R323): E_stored in mJ; a READY pack 2 % below E_cap charges again (Table 14-3). -/
def execHoldupMeasurement (eStored : Nat) (s : State) : Host.Outcome State Fault Refusal :=
  if !s.hup.present then .next s
  else
    let s := updHup (fun h => { h with eStored := eStored }) s
    let s := if s.hup.chg = .ready && 100 * eStored ≤ 98 * s.hup.eCap then
        updHup (fun h => { h with chg := .charging, stopped := false }) s else s
    .next (setCeiling s)

/-- CHARGE_COMPLETE (R405, R408); the charger pauses outside the charge range (R406). -/
def execChargeComplete (s : State) : Host.Outcome State Fault Refusal :=
  if !s.hup.present || s.hup.stopped || !s.hup.chargeRange then .next s
  else match s.hup.chg, s.hup.step with
    | .charging, _ => .next (updHup (fun h => { h with chg := .ready }) s)
    | .testing, .charge => .next (updHup (fun h => { h with step := .rest }) s)
    | _, _ => .next s

/-- TEST_DUE (R408): PERIOD_DAYS of park clock have passed since the last test. -/
def execTestDue (s : State) : Host.Outcome State Fault Refusal :=
  if s.hup.present && (s.hup.chg = .charging || s.hup.chg = .ready) && s.hup.lastTest + periodSeconds s ≤ s.dev.parkClock then
    .next (startTest none s)
  else .next s

/-- TEST_REST_END (R408). -/
def execTestRestEnd (s : State) : Host.Outcome State Fault Refusal :=
  if s.hup.chg = .testing && s.hup.step = .rest then .next (updHup (fun h => { h with step := .discharge }) s) else .next s

/-- TEST_DISCHARGE_END (R408, R410): the energy delivered, in mJ, becomes E_cap; the pack is qualified and recharges. -/
def execTestDischargeEnd (energy : Nat) (s : State) : Host.Outcome State Fault Refusal :=
  if s.hup.chg = .testing && s.hup.step = .discharge then
    let s := updHup (fun h => { h with
      chg := .charging, step := .waiting, eCap := energy, tested := true, lastTest := s.dev.parkClock, low := energy < 643000 }) s
    let s := if energy < 2880000 then causeFault 14 { cls := 1, unit := 11, event := 19, detail := energy / 1000 } s else clearCause 14 s
    .next (endTestOp .ok (if energy < 643000 then packFaulted s else setCeiling s))
  else .next s

/-- CHARGER_CURRENT_LOSS (R406): the charger stops; it starts again with the next charge or test (log entry 67). -/
def execChargerCurrentLoss (s : State) : Host.Outcome State Fault Refusal :=
  match s.hup.chg, s.hup.step with
  | .charging, _ => .next (updHup (fun h => { h with stopped := true }) s)
  | .testing, .charge => .next (updHup (fun h => { h with stopped := true }) s)
  | _, _ => .next s

/-! ### The hold-up commands (R411) -/

/-- What QUERY_HOLDUP returns. -/
def holdupBody (s : State) : RespBody :=
  .fields [(4, hupStatus s), (4, hupEnergy s), (4, hupCapacity s), (4, s.tier.ceiling), (4, dirtyCount s), (8, s.hup.serial),
    (4, s.hup.rated), (1, s.hup.period)]

/-- QUERY_HOLDUP (0xC940, R411). -/
def execQueryHoldup (e : Env) (s : State) : Host.Outcome State Fault Refusal :=
  mailbox Op.queryHoldup e (.queryHoldup e) [] (fun _ => none) (fun s => (s, { body := holdupBody s })) s

/-- TEST_HOLDUP's own checks (R411). -/
def testHoldupCheck (s : State) : Option Reply :=
  if !s.hup.present then some (.of .notFound)
  else if s.hup.chg = .testing || s.hup.chg = .fault then some (.of .conflict) else none

/-- TEST_HOLDUP (0xC941, R411): the operation ends with the test's discharge. -/
def execTestHoldup (e : Env) (s : State) : Host.Outcome State Fault Refusal :=
  mailbox Op.testHoldup e (.testHoldup e) [] testHoldupCheck
    (fun s =>
      let n := s.opCtr
      let (s, r) := startLong e .testHoldup s
      (startTest (some n) s, r)) s

/-- SET_HOLDUP_CONFIG (0xC942, R411). -/
def execSetHoldupConfig (e : Env) (periodDays : Nat) (s : State) : Host.Outcome State Fault Refusal :=
  mailbox Op.setHoldupConfig e (.setHoldupConfig e periodDays) []
    (fun _ => if 7 ≤ periodDays && periodDays ≤ 180 then none else some (.of .invalid))
    (fun s => (updHup (fun h => { h with period := periodDays }) s, {})) s

end Sys2Proof.Machine
end

