-- ==== Sys2Proof/Machine/Fabric.lean ====
section
/-! DEFINITION. Fabric ports (chapter 2): the FM API, configuration requests, DOE, CDAT, SPDM and IDE key management, link
training, DevLoad sampling and integrity failures. Port and seat resets stand in Resets.lean. -/

namespace Sys2Proof.Machine

/-! ### FM API (R46, R47, R51–R53) -/

/-- Highest end of memory a seat holds in its LD allocation: regions, attachments and KV windows (R47; log entry 13). -/
def seatMemTop (s : State) (seat : Nat) : Nat :=
  let own := (s.regions.filter (·.seat = seat)).map fun r => r.base + r.size
  let att := (s.regions.map fun r => (r.attached.filter (·.1 = seat)).map fun a => a.2 + r.size).flatten
  let win := (s.seats.get seat).kvWindows.map fun w => w.2 + kvSpace (s.parts.get w.1).body
  (own ++ att ++ win).foldl max 0

/-- Whether Set LD Allocations is rejected (R47). An LD named twice gets the last size named (log entry 112). -/
def badAllocs (s : State) (port : Nat) (allocs : List (Nat × Nat)) : Bool :=
  let new := fun k : Nat => if k / 16 = port then
      (lookupKey (k % 16) allocs.reverse).getD (s.lds.get k).alloc else (s.lds.get k).alloc
  let sum := (List.range 128).foldl (fun a k => a + new k) 0
  userBytes < sum ||
  allocs.any fun a =>
    15 < a.1 || a.2 % (256 * 10 ^ 6) != 0 ||
    (match seatOfLd s port a.1 with
     | none => a.2 != 0
     | some n => a.2 < (s.lds.get (ldKey port a.1)).alloc && a.2 < seatMemTop s n)

/-- CXL return codes of the FM API and the standard mailbox (PRESUMED from CXL 3.1; log entry 14). -/
def rcSuccess : Nat := 0
def rcInvalidInput : Nat := 2
def rcUnsupported : Nat := 3
def rcBusy : Nat := 6

/-- Average occupancy A in per cent (R51, R53). -/
def averageA (p : Port) : Nat :=
  let l := p.samples.take (sampleCount p)
  l.foldl (· + ·) 0 * 100 / (max 1 l.length * 1024)

/-- Serve an FM API command on an MLD port from FW_READY: the return code, its data and the new state. -/
def fmServe (port : Nat) (c : FmCmd) (s : State) : Nat × List (Nat × Nat) × State :=
  let p := s.ports.get port
  let lds := List.range 16
  match c with
  | .getLdInfo => (rcSuccess, [(8, userBytes), (2, 16)], s)
  | .getLdAllocations => (rcSuccess, lds.map fun l => (8, (s.lds.get (ldKey port l)).alloc), s)
  | .setLdAllocations allocs =>
    if badAllocs s port allocs then (rcInvalidInput, [], s)
    else (rcSuccess, [], allocs.foldl (fun s a => updLd port a.1 (fun d => { d with alloc := a.2 }) s) s)
  | .getQosControl => (rcSuccess, [(2, p.bsi), (1, p.moderate), (1, p.severe), (2, p.cci), (1, 0)], s)
  | .setQosControl bsi moderate severe cci =>
    if !(25 < moderate && moderate < severe && severe ≤ 100) || !([128, 256, 512, 1024, 2048, 4096, 8192].contains cci) then
      (rcInvalidInput, [], s)
    else (rcSuccess, [], updPort port (fun p => { p with bsi := bsi, moderate := moderate, severe := severe, cci := cci }) s)
  | .getQosStatus => (rcSuccess, [(1, averageA p)], s)
  | .getQosAllocatedBw =>
    let n := ldCount s port
    (rcSuccess, lds.map fun l => (1, match (s.lds.get (ldKey port l)).allocBw with
      | some v => v
      | none => if 2 ≤ n then 256 / n else 0), s)
  | .setQosAllocatedBw values =>
    if values.any (fun v => 15 < v.1 || 255 < v.2) then (rcInvalidInput, [], s)
    else (rcSuccess, [], values.foldl (fun s v => updLd port v.1 (fun d => { d with allocBw := some v.2 }) s) s)
  | .getQosBwLimit => (rcSuccess, lds.map fun l => (1, (s.lds.get (ldKey port l)).limitBw), s)
  | .setQosBwLimit values =>
    if values.any (fun v => 15 < v.1 || 255 < v.2) then (rcInvalidInput, [], s)
    else (rcSuccess, [], values.foldl (fun s v => updLd port v.1 (fun d => { d with limitBw := v.2 }) s) s)
  | .identify => (rcSuccess, [(2, 0x1C5E), (2, 0x4800), (2, 0x0480)], s)
  | .other _ => (rcUnsupported, [], s)

/-- An FM API command reaches a port: nothing arrives while the link is down; Unsupported without MLD operation (R41);
Busy until FW_READY (R579). -/
def fmCommand (port : Nat) (c : FmCmd) (s : State) : Host.Outcome State Fault Refusal :=
  if 8 ≤ port then .next s
  else
    let p := s.ports.get port
    if !p.linkUp || p.ideFailed then .next s
    else if !p.mld then .next (emit (.fm port rcUnsupported []) s)
    else if !s.dev.fwReady then .next (emit (.fm port rcBusy []) s)
    else
      let (rc, d, t) := fmServe port c s
      .next (emit (.fm port rc d) t)

/-- GET_LD_INFO: 16 LDs and 216 TB (R46). -/
def execGetLdInfo (port : Nat) (s : State) : Host.Outcome State Fault Refusal := fmCommand port .getLdInfo s
/-- GET_LD_ALLOCATIONS (R46). -/
def execGetLdAllocations (port : Nat) (s : State) : Host.Outcome State Fault Refusal := fmCommand port .getLdAllocations s
/-- SET_LD_ALLOCATIONS (R47). -/
def execSetLdAllocations (port : Nat) (allocs : List (Nat × Nat)) (s : State) : Host.Outcome State Fault Refusal :=
  fmCommand port (.setLdAllocations allocs) s
/-- GET_QOS_CONTROL (R46). -/
def execGetQosControl (port : Nat) (s : State) : Host.Outcome State Fault Refusal := fmCommand port .getQosControl s
/-- SET_QOS_CONTROL (R51, R52). -/
def execSetQosControl (port bsi moderate severe cci : Nat) (s : State) : Host.Outcome State Fault Refusal :=
  fmCommand port (.setQosControl bsi moderate severe cci) s
/-- GET_QOS_STATUS: the current average and nothing else (R53). -/
def execGetQosStatus (port : Nat) (s : State) : Host.Outcome State Fault Refusal := fmCommand port .getQosStatus s
/-- GET_QOS_ALLOCATED_BW (R52). -/
def execGetQosAllocatedBw (port : Nat) (s : State) : Host.Outcome State Fault Refusal :=
  fmCommand port .getQosAllocatedBw s
/-- SET_QOS_ALLOCATED_BW (R52). -/
def execSetQosAllocatedBw (port : Nat) (values : List (Nat × Nat)) (s : State) : Host.Outcome State Fault Refusal :=
  fmCommand port (.setQosAllocatedBw values) s
/-- GET_QOS_BW_LIMIT (R52). -/
def execGetQosBwLimit (port : Nat) (s : State) : Host.Outcome State Fault Refusal := fmCommand port .getQosBwLimit s
/-- SET_QOS_BW_LIMIT (R52). -/
def execSetQosBwLimit (port : Nat) (values : List (Nat × Nat)) (s : State) : Host.Outcome State Fault Refusal :=
  fmCommand port (.setQosBwLimit values) s
/-- FM_IDENTIFY (R46). -/
def execFmIdentify (port : Nat) (s : State) : Host.Outcome State Fault Refusal := fmCommand port .identify s
/-- TUNNEL_MANAGEMENT_COMMAND: the switch's tunnel carries an FM API command to the FM-owned LD (R46). -/
def execTunnelManagementCommand (port : Nat) (cmd : FmCmd) (s : State) : Host.Outcome State Fault Refusal :=
  fmCommand port cmd s

/-! ### Configuration, DOE and CDAT (R48–R50, R57, R579) -/

/-- What a configuration read of an item returns (Table 2-4). -/
def cfgRead (s : State) (port ld : Nat) : CfgItem → List Nat
  | .vendorId => [0x1C5E]
  | .deviceId => [0x4800]
  | .classCode => [0x050210]
  | .subsystemId => [0x0480]
  | .bar0 => [64, 0, 32 * 2 ^ 20]
  | .maxPayload => [512, (s.lds.get (ldKey port ld)).maxPayload]
  | .extendedTags => [14]
  | .cxlDvsec => [0x1E98, 0, 0, 1, 1, 1, 0, bit (s.ports.get port).mld, 1,
      (if (seatOfLd s port ld).isSome then (s.lds.get (ldKey port ld)).alloc else 0), bit s.dev.fwReady, bit s.dev.memActive, 1]
  | .gpfDvsec => [0x1E98, 5, 5, 480]
  | .flexBusDvsec => [0x1E98, 7, 0, 1, 1, 0, 1, 1, 0, 1]
  | .registerLocator => match seatOfLd s port ld with
    | some n => [0x1E98, 8, 0, 0x00100000 + n * 0x00020000, 0x00010000]
    | none => [0x1E98, 8, 0, 0x00010000]
  | .mldDvsec => [0x1E98, 9, 16]
  | .doeCapability => [1]
  | .hdmDecoders => [4]
  | .hdmBase i => if i < 4 then [((s.lds.get (ldKey port ld)).decoders.get i).base] else [0]
  | .hdmSize i => if i < 4 then [((s.lds.get (ldKey port ld)).decoders.get i).size] else [0]
  | .hdmControl i => if i < 4 then [bit ((s.lds.get (ldKey port ld)).decoders.get i).bi] else [0]
  | .aspmL1 | .l1Substates | .l0p => [0]
  | .noSoftReset => [1]
  | .powerState => [3 * bit (s.lds.get (ldKey port ld)).d3hot]
  | .biEnable => [bit (s.lds.get (ldKey port ld)).biEnable]
  | .other off => [(Config.cfgOther off (ldKey port ld)).toNat]

/-- Change HDM decoder `i` of an LD; there are four (R48). -/
def updDecoder (port ld i : Nat) (f : HdmDecoder → HdmDecoder) (s : State) : State :=
  if i < 4 then updLd port ld (fun d => { d with decoders := d.decoders.upd i f }) s else s

/-- A configuration write of an item: BI Enable (R435), Max_Payload_Size (R64), the HDM decoders (R48) and the power state (R39) are the
host's to write. -/
def cfgWrite (port ld : Nat) (item : CfgItem) (value : Nat) (s : State) : State :=
  match item with
  | .biEnable => updLd port ld (fun d => { d with biEnable := value % 2 = 1 }) s
  | .maxPayload =>
    if ([128, 256, 512] : List Nat).contains value then updLd port ld (fun d => { d with maxPayload := value }) s else s
  | .hdmBase i => updDecoder port ld i (fun x => { x with base := value % 2 ^ 64 }) s
  | .hdmSize i => updDecoder port ld i (fun x => { x with size := value % 2 ^ 64 }) s
  | .hdmControl i => updDecoder port ld i (fun x => { x with bi := value % 2 = 1 }) s
  | .powerState =>
    if value = 0 || value = 3 then updLd port ld (fun d => { d with d3hot := value = 3 }) s else s
  | _ => s

/-- CONFIGURATION_REQUEST (R579): Configuration Request Retry Status until FW_READY, in full afterwards. -/
def execConfigurationRequest (port ld : Nat) (write : Bool) (item : CfgItem) (value : Nat) (s : State) :
    Host.Outcome State Fault Refusal :=
  if 8 ≤ port || 16 ≤ ld then .next s
  else if !ldReached s port ld then .next s
  else if !s.dev.fwReady then .next (emit (.cfg port ld true []) s)
  else if write then .next (emit (.cfg port ld false []) (cfgWrite port ld item value s))
  else .next (emit (.cfg port ld false (cfgRead s port ld item)) s)

/-- A write to the DOE instance of an LD reaches it: Configuration Request Retry Status until FW_READY (R579), DOE Busy while an object
is being processed (R57). -/
def onDoe (port ld : Nat) (f : State → State) (s : State) : Host.Outcome State Fault Refusal :=
  if 8 ≤ port || 16 ≤ ld then .next s
  else if !ldReached s port ld then .next s
  else if !s.dev.fwReady then .next (emit (.cfg port ld true []) s)
  else if (s.lds.get (ldKey port ld)).doeWork.isSome then .next (emit (.doeBusy port ld) s)
  else .next (f s)

/-- A request that the instance discards sets the DOE Error bit (R57). -/
def doeDiscard (port ld : Nat) (s : State) : State := updLd port ld (fun d => { d with doeError := true }) s

/-- DOE_OBJECT (R57): an object above 16 KiB is discarded with the DOE Error bit; any other is taken whole, and processed until the
device next goes on by itself. The model clears the Error bit with the next object it accepts, and discards a type it does not support
in the same way (log entry 112). -/
def execDoeObject (port ld dataType length : Nat) (s : State) : Host.Outcome State Fault Refusal :=
  onDoe port ld (fun s =>
    if 16384 < length || 3 < dataType then doeDiscard port ld s
    else updLd port ld (fun d => { d with doeError := false, doeWork := some (dataType, length) }) s) s

/-- The DOE instance of an LD ends the object it processes (R57). -/
def finishDoe (k : Nat) (s : State) : State :=
  match (s.lds.get k).doeWork with
  | none => s
  | some (t, n) => emit (.doe (k / 16) (k % 16) [t, n]) { s with lds := s.lds.upd k fun d => { d with doeWork := none } }

/-- The four data object types of R57, as vendor ID and type (PRESUMED from PCIe and CXL; log entry 14). -/
def doeTypes : List (List Nat) := [[0x0001, 0], [0x0001, 1], [0x0001, 2], [0x1E98, 2]]

/-- DOE_DISCOVERY: the type at an index and the next index, 0 after the last (R57). -/
def execDoeDiscovery (port ld index : Nat) (s : State) : Host.Outcome State Fault Refusal :=
  onDoe port ld (emit (.doe port ld ((doeTypes.getD index [0xFFFF, 0]) ++ [if index < 3 then index + 1 else 0]))) s

/-- Entry of a CDAT bandwidth, in units of 100 MB/s: C of the trained width and speed (R50). -/
def cdatBandwidth (p : Port) : Nat := portCap { p with width := p.lastTrained.1, speed := p.lastTrained.2 } * 75

/-- The CDAT of an LD: a header with Sequence, and for each range a DSMAS (type 0, handle, flags, base, length), a DSEMTS (type 4,
handle, EFI memory type, base, length) and four DSLBIS (type 1, handle, data type, entry base unit, entry) (R49, R50, Table 2-5). The
codes are CDAT's: flag bit 3 is Shareable, memory type 1 is EfiConventionalMemory with the specific-purpose attribute, data types 1, 2,
4 and 5 are read and write latency and bandwidth, and a base unit is in ps or MB/s (log entry 14). -/
def cdat (s : State) (port ld : Nat) : List (List Nat) :=
  let d := s.lds.get (ldKey port ld)
  let bw := cdatBandwidth (s.ports.get port)
  let range := fun (h base len rd wr : Nat) =>
    [[0, h, if h = 1 then 8 else 0, base, len], [4, h, 1, base, len], [1, h, 1, 1000, rd], [1, h, 2, 1000, wr], [1, h, 4, 100, bw],
     [1, h, 5, 100, bw]]
  [d.cdatSeq] :: (match seatOfLd s port ld with
    | none => []
    | some n =>
      let db := seatDb s n
      range 0 0 (d.alloc - db) 520 450 ++ (if db = 0 then [] else range 1 (d.alloc - db) db 560 470))

/-- CDAT_TABLE_ACCESS: entry `entry` of the LD's CDAT and the next entry's handle, 0xFFFF after the last (R49). -/
def execCdatTableAccess (port ld entry : Nat) (s : State) : Host.Outcome State Fault Refusal :=
  onDoe port ld (fun s =>
    let l := cdat s port ld
    emit (.doe port ld ((if entry + 1 < l.length then entry + 1 else 0xFFFF) :: l.getD entry [])) s) s

/-! ### SPDM (R58–R60) and IDE key management (R54, R55) -/

/-- SPDM error codes (PRESUMED from SPDM 1.2; log entry 14). -/
def spdmUnsupported : Nat := 0x07
def spdmInvalid : Nat := 0x01
def spdmVersionMismatch : Nat := 0x41
def spdmSessionLimit : Nat := 0x0A

/-- Provisioned PROTECTED key slots (R472). -/
def keySlotsProvisioned (s : State) : Nat := (s.keySlots.filter (·.loaded)).length

/-- The SHA-384 of a control-core image: a free value of the image's content. -/
def imageDigest (x : FwSlot) : Nat := (Config.spdmValue 2 x.id).toNat

/-- The measurement of an index (Table 2-7). -/
def measurement (s : State) (i : Nat) : List Nat :=
  let active := if s.flt.activeB then s.flt.imageB else s.flt.imageA
  let inactive := if s.flt.activeB then s.flt.imageA else s.flt.imageB
  match i with
  | 1 => [(Config.spdmValue 1 0).toNat]
  | 2 => [imageDigest active]
  | 3 => [activeVersion s, 0x0302]
  | 4 => [if inactive.valid then imageDigest inactive else 0]
  | 5 => [(Config.spdmValue 5 0).toNat]
  | 6 => ((List.range 8).map fun p => bit (s.ports.get p).ideKey.isSome + 2 * bit (s.ports.get p).ioKey.isSome) ++
      [s.glb.ditherCtrl, keySlotsProvisioned s]
  | 7 => [(Config.settingsDigest (((List.range 64).map fun n => match (s.seats.get n).map with
            | some (p, l) => ldKey p l + 1
            | none => 0) ++ (List.range 8).map fun p => bit (s.ports.get p).clkMode)).toNat]
  | _ => []

/-- A secured session is in use on the LD. -/
def secureOn (s : State) (port ld : Nat) (secured : Bool) : Bool := secured && (s.lds.get (ldKey port ld)).sessions != 0

/-- A PCIe IDE_KM message on the one link stream of a port for CXL.io, carried over a secured session on LD-ID 0 (R40, R54, R55). -/
def ideKmServe (port ld : Nat) (secured : Bool) (m : IdeKm) (keySet : Nat) (s : State) : (Nat ⊕ List Nat) × State :=
  let p := s.ports.get port
  if ld != 0 || !secureOn s port ld secured then (.inl spdmUnsupported, s)
  else match m with
    | .query => (.inr [keySet, bit p.ioKey.isSome], s)
    | .keyProg => (.inr [keySet], updPort port (fun p => { p with ioProgrammed := some keySet }) s)
    | .setGo =>
      if p.ioProgrammed = some keySet then
        (.inr [keySet], updPort port (fun p => { p with ioKey := some keySet, ioProgrammed := none, needKeys := false }) s)
      else (.inl spdmInvalid, s)
    | .setStop =>
      if p.ioKey = some keySet then (.inr [keySet], updPort port (fun p => { p with ioKey := none }) s) else (.inl spdmInvalid, s)

/-- Bytes of a certificate chain that one data object of 16 KiB can carry beside its headers (R57; log entry 112). -/
def chainRoom : Nat := 16384 - 16

/-- What the responder answers, its sessions updated; or an SPDM error code (R58). -/
def spdmServe (port ld : Nat) (r : SpdmReq) (s : State) : (Nat ⊕ List Nat) × State :=
  let d := s.lds.get (ldKey port ld)
  let free := fun (k : Nat) => (Config.spdmValue (16 + k) s.freeCtr).toNat
  let bump := { s with freeCtr := s.freeCtr + 1 }
  match r with
  | .getVersion => (.inr [0x12], s)
  | .getCapabilities => (.inr [1, 1, 2, 1, 1, 1, 1, 1, 1, 1, 1, 1, 0], s)
  | .negotiateAlgorithms => (.inr [384, 384, 384, 256], s)
  | .getDigests => (.inr [free 0], bump)
  | .getCertificate slot =>
    if slot = 0 then (.inr [free 1], bump)
    else if slot ≤ 3 && !(s.certs.get slot).isEmpty then (.inr (((s.certs.get slot).take chainRoom).map (·.toNat)), s)
    else (.inl spdmInvalid, s)
  | .challenge slot =>
    if slot = 0 || (slot ≤ 3 && !(s.certs.get slot).isEmpty) then (.inr [free 2], bump) else (.inl spdmInvalid, s)
  | .getMeasurements i =>
    if i = 255 then (.inr (((List.range 7).map fun k => measurement s (k + 1)).flatten ++ [free 3]), bump)
    else if 1 ≤ i && i ≤ 7 then (.inr (measurement s i ++ [free 3]), bump)
    else (.inl spdmInvalid, s)
  | .keyExchange =>
    if 2 ≤ d.sessions then (.inl spdmSessionLimit, s)
    else (.inr [free 4], updLd port ld (fun d => { d with sessions := d.sessions + 1 }) bump)
  | .finish => if d.sessions = 0 then (.inl spdmInvalid, s) else (.inr [free 5], bump)
  | .pskExchange => (.inl spdmUnsupported, s)
  | .heartbeat => if d.sessions = 0 then (.inl spdmInvalid, s) else (.inr [], s)
  | .keyUpdate => if d.sessions = 0 then (.inl spdmInvalid, s) else (.inr [], s)
  | .endSession =>
    if d.sessions = 0 then (.inl spdmInvalid, s)
    else (.inr [], updLd port ld (fun d => { d with sessions := d.sessions - 1 }) s)
  | .getCsr => (.inr [free 6], bump)
  | .ideKm secured m keySet => ideKmServe port ld secured m keySet s
  | .other _ => (.inl spdmUnsupported, s)

/-- Send an SPDM answer. -/
def spdmAnswer (port ld : Nat) (r : (Nat ⊕ List Nat) × State) : State :=
  match r.1 with
  | .inl c => emit (.spdmError port ld c) r.2
  | .inr d => emit (.spdm port ld 0 d) r.2

/-- SPDM_REQUEST (R58): version 1.2 only. -/
def execSpdmRequest (port ld version : Nat) (req : SpdmReq) (s : State) : Host.Outcome State Fault Refusal :=
  onDoe port ld (fun s =>
    if version != 0x12 && req != .getVersion then emit (.spdmError port ld spdmVersionMismatch) s
    else spdmAnswer port ld (spdmServe port ld req s)) s

/-- SET_CERTIFICATE (R59): in a secured session on P0, LD-ID 0, while seat 0 is mapped there; slots 1–3. A chain too long for a data
object is discarded (R57). -/
def execSetCertificate (port ld slot : Nat) (secured : Bool) (chain : List Byte) (s : State) :
    Host.Outcome State Fault Refusal :=
  onDoe port ld (fun s =>
    if chainRoom < chain.length then doeDiscard port ld s
    else if !(secureOn s port ld secured && port = 0 && ld = 0 && (s.seats.get 0).map = some (0, 0)) then
      emit (.spdmError port ld spdmUnsupported) s
    else if slot = 0 || 3 < slot then emit (.spdmError port ld spdmInvalid) s
    else emit (.spdm port ld 0 []) { s with certs := s.certs.set slot chain }) s

/-- An IDE key-management message: carried over a secured session on LD-ID 0 of the port only (R54). -/
def ideMessage (port ld : Nat) (secured : Bool) (f : State → State) (s : State) : Host.Outcome State Fault Refusal :=
  onDoe port ld (fun s =>
    if ld != 0 || !secureOn s port ld secured then emit (.spdmError port ld spdmUnsupported) s else f s) s

/-- CXL_KEY_PROG: programs the alternate key set (R54, R55). -/
def execCxlKeyProg (port ld : Nat) (secured : Bool) (keySet : Nat) (s : State) : Host.Outcome State Fault Refusal :=
  ideMessage port ld secured (fun s =>
    emit (.spdm port ld 0 [keySet]) (updPort port (fun p => { p with ideProgrammed := some keySet }) s)) s

/-- CXL_K_SET_GO: switches to the programmed key set without stopping traffic (R55); keys programmed afresh after an integrity failure
let traffic go on (R56; log entry 112). -/
def execCxlKSetGo (port ld : Nat) (secured : Bool) (keySet : Nat) (s : State) : Host.Outcome State Fault Refusal :=
  ideMessage port ld secured (fun s =>
    if (s.ports.get port).ideProgrammed = some keySet then
      emit (.spdm port ld 0 [keySet])
        (updPort port (fun p => { p with ideKey := some keySet, ideProgrammed := none, needKeys := false }) s)
    else emit (.spdmError port ld spdmInvalid) s) s

/-- CXL_K_SET_STOP: stops the key set in use (R54). -/
def execCxlKSetStop (port ld : Nat) (secured : Bool) (keySet : Nat) (s : State) : Host.Outcome State Fault Refusal :=
  ideMessage port ld secured (fun s =>
    if (s.ports.get port).ideKey = some keySet then
      emit (.spdm port ld 0 [keySet]) (updPort port (fun p => { p with ideKey := none }) s)
    else emit (.spdmError port ld spdmInvalid) s) s

/-- CXL_QUERY: containment mode only, and whether IDE runs (R54). -/
def execCxlQuery (port ld : Nat) (secured : Bool) (keySet : Nat) (s : State) : Host.Outcome State Fault Refusal :=
  ideMessage port ld secured (fun s =>
    emit (.spdm port ld 0 [keySet, 1, bit (s.ports.get port).ideKey.isSome]) s) s

/-- CXL_GETKEY: key material the device draws, a free value (R54). -/
def execCxlGetkey (port ld : Nat) (secured : Bool) (keySet : Nat) (s : State) : Host.Outcome State Fault Refusal :=
  ideMessage port ld secured (fun s =>
    emit (.spdm port ld 0 [keySet, (Config.spdmValue 15 s.freeCtr).toNat]) { s with freeCtr := s.freeCtr + 1 }) s

/-! ### Links -/

/-- The width a port trains at with a partner's offer: x16 on both groups, otherwise x8; none below x8 (R37, R69). -/
def trainWidth (p : Port) (o : Offer) : Nat :=
  if o.width < 8 then 0 else if 16 ≤ o.width && p.groupL && p.groupH then 16 else 8

/-- LINK_TRAINING_COMPLETE (R35–R38, R41, R50): a training attempt ends with what the partner offers. The CDAT sequence counts a change
from an earlier width or speed, and the first training after shipment is none (log entry 112). -/
def execLinkTrainingComplete (port : Nat) (offer : Offer) (s : State) : Host.Outcome State Fault Refusal :=
  if 8 ≤ port then .next s
  else
    let p := s.ports.get port
    if p.linkUp || p.retired || s.pwr.held.contains (48 + port) || s.dev.portLock / 2 ^ port % 2 = 0 || s.dev.recovery then .next s
    else
      let w := trainWidth p offer
      if w = 0 || offer.speed = 0 || 6 < offer.speed then
        .next (logFault { unit := 4, index := port, event := 4, port := port } s)
      else
        let cxl := offer.cxl && offer.speed ≤ 4
        let s1 := updPort port (fun p => { p with
          linkUp := true, width := w, speed := offer.speed, cxlMode := cxl, lopt := cxl && offer.lopt
          reversed := offer.reversed || !p.groupL, mld := cxl && offer.mld, disabled := false
          lastTrained := (w, offer.speed) }) s
        let s2 := if p.lastTrained != (0, 0) && p.lastTrained != (w, offer.speed) then
            (List.range 16).foldl (fun s l => updLd port l (fun d => { d with cdatSeq := (d.cdatSeq + 1) % 2 ^ 32 }) s) s1
          else s1
        let s2 := sendHeldSnoops port s2
        if !cxl then .next (logFault { unit := 4, index := port, event := 10, port := port } s2)
        else if offer.speed != 4 then .next (logFault { unit := 4, index := port, event := 14, port := port } s2)
        else .next s2

/-- RECOVERY_ENTRY (R68): each entry to Recovery from L0 leaves a transient record. -/
def execRecoveryEntry (port : Nat) (s : State) : Host.Outcome State Fault Refusal :=
  if 8 ≤ port then .next s
  else if (s.ports.get port).linkUp then
    .next (logFault { unit := 4, index := port, event := 3, action := 1, port := port } s)
  else .next s


/-- PCI_PM_STATE_CHANGE (R39): an LD enters D0 or D3hot; No_Soft_Reset keeps everything else. -/
def execPciPmStateChange (port ld : Nat) (d3hot : Bool) (s : State) : Host.Outcome State Fault Refusal :=
  if 8 ≤ port || 16 ≤ ld then .next s
  else if ldReached s port ld then .next (updLd port ld (fun d => { d with d3hot := d3hot }) s)
  else .next s

/-- Requests of a port's LDs held over MAX_RATE (R477). -/
def heldIngress (s : State) (port : Nat) : Nat := ((List.range 16).map fun l => (s.lds.get (ldKey port l)).ingress.length).sum

/-- DEVLOAD_SAMPLE (R51): the ingress queue's occupancy, 0–1,024, joins the samples averaged. Requests held over MAX_RATE are part of
it, so it is at least their number (R477; log entry 113). -/
def execDevloadSample (port occupancy : Nat) (s : State) : Host.Outcome State Fault Refusal :=
  if 8 ≤ port then .next s
  else .next (updPort port (fun p =>
    { p with samples := (min (max occupancy (heldIngress s port)) 1024 :: p.samples).take (sampleCount p) }) s)

end Sys2Proof.Machine
end

