-- ==== Sys2Proof/Machine/Runs.lean ====
section
/-! DEFINITION. Shared operations on stash runs and their objects (chapter 17): frames, slots, homes and the run table. -/

namespace Sys2Proof.Machine

/-- Change a run. -/
def updRun (part run : Nat) (f : Run → Run) (s : State) : State :=
  updPart part (fun p => { p with runs := updFirst (fun r => r.run = run) f p.runs }) s

/-- Change an object. -/
def updObj (part run key : Nat) (f : StashObj → StashObj) (s : State) : State :=
  updRun part run (fun r => { r with objs := updFirst (fun o => o.key = key) f r.objs }) s

/-- Map units of an object's home, charged at full size (R501). -/
def StashObj.units (o : StashObj) : Nat := ceilDiv (o.size * 4096) 65536

/-- Map units of a run table (R497). -/
def Run.tableUnits (r : Run) : Nat := ceilDiv r.tableFrames 2

/-- Frames taken for the unspill in progress and not yet read (R508). -/
def Run.moving (r : Run) : Nat :=
  match r.unspill.bind fun k => r.objs.find? fun o => o.key = k with
  | some o => o.frames - o.held
  | none => 0

/-- Frames of a run's budget that no object holds (R499). -/
def Run.free (r : Run) : Nat := r.budget - r.moving - (r.objs.map fun o => o.held).sum

/-- A frame belongs to an object: all of its frames, or its first `n`. -/
def frameOfObj (s : State) (part : Nat) (o : StashObj) : FrameKey → Bool
  | .kv p n =>
    let b := (s.parts.get part).body
    p = part && o.frame b 0 ≤ n && n < o.frame b o.frames
  | _ => false

/-- A frame belongs to a run's table. -/
def frameOfTable (part run : Nat) : FrameKey → Bool
  | .runTable p r _ => p = part && r = run
  | _ => false

/-- A write of the run table at a byte offset: its frame is set DIRTY, once the ceiling lets it (Table 11-6, R324; log entry 40: records lie
at 64 × index, schedule entries after them, and the table's bytes are those of the run's own fields). -/
def touchTable (part run off : Nat) (s : State) : State := putBytes false (.table part run) off [0] s

/-- An object's record is written. -/
def touchRecord (part run : Nat) (o : StashObj) (s : State) : State := touchTable part run (64 * o.idx) s

/-- Charge map units of flash home: account 7, or the parity data space with PARITY (R466, R488). -/
def chargeHomes (parity : Bool) (n : Nat) (s : State) : State :=
  if parity then { s with pset := { s.pset with charged := s.pset.charged + n } }
  else { s with acct := { s.acct with homes := s.acct.homes + n } }

/-- Release map units of flash home. -/
def releaseHomes (parity : Bool) (n : Nat) (s : State) : State :=
  if parity then { s with pset := { s.pset with charged := s.pset.charged - n } }
  else { s with acct := { s.acct with homes := s.acct.homes - n } }

/-- Drop an object: its slots, frames, home and record (R503). -/
def dropObj (part run key : Nat) (s : State) : State :=
  match objOf s part run key with
  | none => s
  | some o =>
    let s := dropFrames (frameOfObj s part o) s
    let s := freeHomes (fun u => match u with
      | .stash p r k _ => p = part && r = run && k = key
      | _ => false) s
    let s := releaseHomes o.parity o.units s
    let s := touchRecord part run o s
    releaseWrites (updRun part run (fun r => { r with
      objs := r.objs.filter (fun x => x.key != key), unspill := if r.unspill = some key then none else r.unspill }) s)

/-- Frames a run holds against the accounts: budget and table; none while its partition is SWAPPED (R511). -/
def runFrames (s : State) (part : Nat) (r : Run) : Nat :=
  if (s.parts.get part).state = .swapped then 0 else r.budget + r.tableFrames

/-- Close a run: drop its objects and free its table and budget (R498). -/
def closeRunNow (part run : Nat) (s : State) : State :=
  match runOf s part run with
  | none => s
  | some r =>
    let s := r.objs.foldl (fun s o => dropObj part run o.key s) s
    let s := dropFrames (frameOfTable part run) s
    let s := freeHomes (fun u => match u with
      | .runTab p q _ => p = part && q = run
      | _ => false) s
    let s := releaseAcct { seat := r.seat, part := part, frames := runFrames s part r, homes := r.tableUnits } s
    releaseWrites (updPart part (fun p => { p with runs := p.runs.filter fun q => q.run != run }) s)

/-- A stash transfer in progress that names a partition. -/
def Xfer.namesPart (x : Xfer) (part : Nat) : Bool := x.stash.any fun d => d.part = part

/-- A transfer of a run is in progress (R498, R505). -/
def runBusy (s : State) (part run : Nat) : Bool :=
  s.xfers.any fun x => x.stash.any fun d => d.part = part && d.key / 2 ^ 40 = run

end Sys2Proof.Machine
end

