-- ==== Sys2Proof/Machine/Partition.lean ====
section
/-! DEFINITION. Model partitions and residency (chapter 4): loading, the KV window, swaps, unloading and images. -/

namespace Sys2Proof.Machine

/-! ### Loading and reading back (R109–R112, R121) -/

/-- A load body as response fields, in the order of Table 4-3. -/
def loadFields (b : LoadBody) : List (Nat × Nat) :=
  [(1, b.part), (1, b.mode), (1, b.format), (1, b.tprLog2), (2, b.layers), (1, b.kvHeads), (2, b.qHeads), (2, b.headDim),
   (4, b.vocab), (4, b.slots), (4, b.scoreScale), (8, b.modelId)]

/-- The derived sizes of §4.4: W, the slice size, P, the bytes per reach over all layers and the KV space size. -/
def sizeFields (b : LoadBody) : List (Nat × Nat) :=
  [(8, b.row), (8, b.slice), (8, b.stride), (8, b.layers * b.stride), (8, kvSpace b)]

/-- A MODEL_ID that an image or another partition already carries (R111). -/
def modelTaken (s : State) (m : Nat) : Bool :=
  (s.images.any fun i => i.modelId = m) ||
    (List.range 16).any fun p => (s.parts.get p).state != .empty && (s.parts.get p).body.modelId = m

/-- LOAD_PARTITION's own checks, in R111's three stages. -/
def loadCheck (b : LoadBody) (s : State) : Option Reply :=
  if !b.valid then some (.of .invalid)
  else if (s.parts.get b.part).state != .empty then some (.of .conflict)
  else if modelTaken s b.modelId then some (.of .conflict)
  else none

/-- The body as accepted: a SCORE_SCALE and fields as given. -/
def loadPart (b : LoadBody) (p : Part) : Part := { state := .resident, body := b, cap := p.cap }

/-- LOAD_PARTITION (0xC100, R111). -/
def execLoadPartition (e : Env) (b : LoadBody) (s : State) : Host.Outcome State Fault Refusal :=
  mailbox Op.loadPartition e (.loadPartition e b) [] (loadCheck b)
    (fun s => (updPart b.part (loadPart b) s, { body := .fields (sizeFields b) })) s

/-- Requests a partition has admitted and that are not freed (R110). -/
def partRequests (s : State) (part : Nat) : List Nat :=
  (s.rt.cells.filter fun c => c.2.part = part && c.2.state != .free).map (·.1)

/-- What QUERY_PARTITION returns; every field is 0 for an EMPTY number (R110). -/
def partBody (s : State) (part : Nat) : RespBody :=
  let p := s.parts.get part
  if p.state = .empty then .fields ((1, 0) :: (loadFields {} ++ sizeFields {}).map (fun f => (f.1, 0)) ++ [(4, 0), (4, 0), (4, 0)])
  else .fields ((1, p.state.code) :: (loadFields p.body ++ sizeFields p.body) ++
    [(4, s.acct.partFrames.get part), (4, p.stepNo), (4, (partRequests s part).length)])

/-- QUERY_PARTITION (0xC101, R110). -/
def execQueryPartition (e : Env) (part : Nat) (s : State) : Host.Outcome State Fault Refusal :=
  mailbox Op.queryPartition e (.queryPartition e part) []
    (fun _ => if 15 < part then some (.of .invalid) else none)
    (fun s => (s, { body := partBody s part })) s

/-! ### The KV window (R122) -/

/-- Extents in a seat's HDM range that regions, KV windows and attachments take (R122, R463). -/
def hdmTaken (s : State) (seat : Nat) : List (Nat × Nat) :=
  (s.regions.filter (·.seat = seat)).map (fun r => (r.base, r.size)) ++
  (s.seats.get seat).kvWindows.map (fun w => (w.2, kvSpace (s.parts.get w.1).body)) ++
  (s.regions.map fun r => (r.attached.filter (·.1 = seat)).map fun a => (a.2, r.size)).flatten

/-- BIND_KV_WINDOW's own checks, in R122's order. -/
def bindCheck (e : Env) (part offset : Nat) (s : State) : Option Reply :=
  let p := s.parts.get part
  let len := kvSpace p.body
  if 15 < part then some (.of .invalid)
  else if p.state = .empty then some (.of .notFound)
  else if p.body.mode = 1 || offset % 2 ^ 30 != 0 then some (.of .invalid)
  else if seatHdmH s e.seat < offset + len then some (.of .capacity)
  else if (hdmTaken s e.seat).any fun x => overlaps offset len x.1 x.2 then some (.of .conflict)
  else if (s.seats.get e.seat).kvWindows.any fun w => w.1 = part then some (.of .conflict)
  else none

/-- BIND_KV_WINDOW (0xC105, R122). -/
def execBindKvWindow (e : Env) (part offset : Nat) (s : State) : Host.Outcome State Fault Refusal :=
  mailbox Op.bindKvWindow e (.bindKvWindow e part offset) [] (bindCheck e part offset)
    (fun s => (updSeat e.seat (fun t => { t with kvWindows := t.kvWindows ++ [(part, offset)] }) s, {})) s

/-- The seat whose window UNBIND_KV_WINDOW removes (R122). -/
def unbindSeat (e : Env) (seat : Nat) : Nat := if e.seat = 0 then seat else e.seat

/-- UNBIND_KV_WINDOW (0xC106, R122). -/
def execUnbindKvWindow (e : Env) (part seat : Nat) (s : State) : Host.Outcome State Fault Refusal :=
  mailbox Op.unbindKvWindow e (.unbindKvWindow e part seat) []
    (fun s => if 15 < part || 63 < unbindSeat e seat then some (.of .invalid)
      else if (s.seats.get (unbindSeat e seat)).kvWindows.any fun w => w.1 = part then none else some (.of .notFound))
    (fun s => (updSeat (unbindSeat e seat) (fun t => { t with kvWindows := t.kvWindows.filter fun w => w.1 != part }) s, {})) s

/-! ### What a partition holds -/

/-- Frames of the digest area (R276). -/
def digestFrames (b : LoadBody) : Nat := ceilDiv (b.slots * b.layers * (ceilDiv (2 * b.elems) 64 * 64)) 32768

/-- Frames of the prefix store's slots (R212). -/
def storeFrames (s : State) (part : Nat) : Nat :=
  let p := s.parts.get part
  if 32768 ≤ p.body.stride then (partNodes s part).length * p.body.slotFrames
  else p.storeSlots.length / p.body.group * p.body.slotFrames

/-- Home units of the prefix store's slots (R212). -/
def storeUnits (s : State) (part : Nat) : Nat :=
  let p := s.parts.get part
  if 32768 ≤ p.body.stride then ((partNodes s part).map (·.units)).foldl (· + ·) 0
  else p.storeSlots.length / p.body.group * ceilDiv p.body.slotFrames 2

/-- Requests of a partition whose slots and frames are held, as entries. -/
def heldRequests (s : State) (part : Nat) : List Rt :=
  ((s.rt.cells.filter fun c => c.2.part = part && c.2.state.holds).map (·.2))

/-- Frames by seat that count against account 6 in a partition: its requests' and its runs'. -/
def seatFramesOf (s : State) (part : Nat) : List (Nat × Nat) :=
  (heldRequests s part).map (fun e => (e.seat, e.frames)) ++
  (s.parts.get part).runs.map (fun r => (r.seat, r.budget + r.tableFrames))

/-- Frames a partition holds for its requests, runs and prefix store. -/
def baseFrames (s : State) (part : Nat) : Nat := ((seatFramesOf s part).map (·.2)).foldl (· + ·) 0 + storeFrames s part

/-- Frames a RESIDENT partition charges to accounts 4 and 5 apart from regions tagged with it. -/
def ownFrames (s : State) (part : Nat) : Nat :=
  baseFrames s part + (if (s.parts.get part).digestHeld then digestFrames (s.parts.get part).body else 0)

/-- Frames a SWAPPED partition's swap in takes: with digests ON, their area too unless it was charged while SWAPPED (R128, R276). -/
def backFrames (s : State) (part : Nat) : Nat :=
  let p := s.parts.get part
  baseFrames s part + (if p.digests && !p.digestHeld then digestFrames p.body else 0)

/-- Release or take the frames of accounts 4, 5 and 6 that a partition's own holdings make up (R126, R128). -/
def releasePartFrames (part : Nat) (s : State) : State :=
  let n := ownFrames s part
  updPart part (fun p => { p with digestHeld := false }) { s with acct := { s.acct with
      frames := s.acct.frames - n
      partFrames := s.acct.partFrames.upd part (· - n)
      seatFrames := (seatFramesOf s part).foldl (fun t x => t.upd x.1 (· - x.2)) s.acct.seatFrames } }

/-- Take them again. -/
def takePartFrames (part : Nat) (s : State) : State :=
  let n := backFrames s part
  updPart part (fun p => { p with digestHeld := p.digests }) { s with acct := { s.acct with
      frames := s.acct.frames + n
      partFrames := s.acct.partFrames.upd part (· + n)
      seatFrames := (seatFramesOf s part).foldl (fun t x => t.upd x.1 (· + x.2)) s.acct.seatFrames } }

/-- Parks of a partition. -/
def partParks (s : State) (part : Nat) : List Park := s.parks.filter (·.part = part)

/-- Live step rings bound to a partition: seat and ring. -/
def partRings (s : State) (part : Nat) : List (Nat × Nat) :=
  ((List.range 64).map fun n =>
    ((List.range 4).filter fun k => (ringOf s n k).live && (ringOf s n k).part = part).map fun k => (n, k)).flatten

/-- A partition has requests, parked conversations, step rings, KV windows or stash runs (R126, R131, R511). -/
def partInUse (s : State) (part : Nat) : Bool :=
  !(partRequests s part).isEmpty || !(partParks s part).isEmpty || !(partRings s part).isEmpty ||
    ((List.range 64).any fun n => (s.seats.get n).kvWindows.any fun w => w.1 = part) || !(s.parts.get part).runs.isEmpty

/-! ### Images (R126, R132) -/

/-- The image of a MODEL_ID. -/
def imageOf (s : State) (m : Nat) : Option Image := s.images.find? fun i => i.modelId = m

/-- A swap out's image fits: at most 256 images, within the image area (R132). -/
def imageFits (s : State) (part : Nat) : Bool :=
  let m := (s.parts.get part).body.modelId
  let rest := s.images.filter fun i => i.modelId != m
  rest.length < 256 && (rest.map (·.metaBytes)).foldl (· + ·) 0 + imageBytes s part ≤ s.tier.imageGb * 10 ^ 9

/-- Free the metadata units of an image. -/
def freeImageMeta (m : Nat) (s : State) : State :=
  freeHomes (fun u => match u with
    | .image i _ => i = m
    | _ => false) s

/-- A home of a frame of a partition. -/
def homeOfPart (part : Nat) : UnitKey → Bool
  | .kv p _ _ => p = part
  | .stash p _ _ _ => p = part
  | .runTab p _ _ => p = part
  | _ => false

/-- Write a partition's image (R126): its metadata is programmed anew, and it names the homes of the partition's frames; none while a lane
takes no writes. -/
def writeImage (part : Nat) (owner : Option Nat) (s : State) : Option State :=
  let p := s.parts.get part
  let m := p.body.modelId
  let n := imageBytes s part
  (programMetas ((List.range (n / 65536)).map fun j => .image m j) (freeImageMeta m s)).map fun s =>
  let ns := partNodes s part
  let alone := owner.isNone
  let img : Image :=
    { modelId := m, body := p.body, owner := owner, metaBytes := n, homeUnits := if alone then storeUnits s part else 0
      nodes := if alone then ns else []
      pins := if alone then s.pins.filter (fun q => ns.any fun x => x.idx = q.1) else []
      rootTail := p.rootTail, rootKids := p.rootKids, storeSlots := if alone then p.storeSlots else []
      policy := (p.pfxCharge, p.pfxScope, p.pfxMaxSlots, p.pfxInsertMask), cold := if alone then p.cold else []
      named := (s.flash.homes.map (·.1)).filter (homeOfPart part) }
  { s with images := (s.images.filter fun i => i.modelId != m) ++ [img] }

/-- Homes of a partition's KV space go to its standalone image. -/
def homesToImage (part m : Nat) : State → State :=
  renameHomes fun u => match u with
    | .kv p k j => if p = part then .imageKv m k j else u
    | _ => u

/-- Homes of a standalone image become those of its partition. -/
def homesFromImage (part m : Nat) : State → State :=
  renameHomes fun u => match u with
    | .imageKv i k j => if i = m then .kv part k j else u
    | _ => u

/-- Bytes of flash homes mapped for the frames an image names (R132). -/
def imageHomeBytes (s : State) (i : Image) : Nat := 65536 * (i.named.filter fun u => (mapOf s (i.homeKey u)).isSome).length

/-- One image as LIST_IMAGES gives it: MODEL_ID, its two sizes, its geometry, and whether it stands alone (R132). -/
def imageEntry (s : State) (i : Image) : List (Nat × Nat) :=
  [(8, i.modelId), (8, i.metaBytes), (8, imageHomeBytes s i), (1, i.body.mode), (1, i.body.format), (1, i.body.tprLog2),
   (2, i.body.layers), (1, i.body.kvHeads), (2, i.body.qHeads), (2, i.body.headDim), (4, i.body.vocab), (4, i.body.slots),
   (4, i.body.scoreScale), (1, bit i.owner.isNone)]

/-- LIST_IMAGES (0xC107, R132). -/
def execListImages (e : Env) (start : Nat) (s : State) : Host.Outcome State Fault Refusal :=
  mailbox Op.listImages e (.listImages e start) [] (fun _ => none)
    (fun s => (s, { body := listBody start 49 [] (s.images.map (imageEntry s)) })) s

/-- DELETE_IMAGE (0xC108, R132): a standalone image and all the flash it holds are freed. -/
def deleteImage (m : Nat) (s : State) : State :=
  match imageOf s m with
  | none => s
  | some i =>
    let s := freeHomes (fun u => match u with
      | .image k _ => k = m
      | .imageKv k _ _ => k = m
      | _ => false) s
    { s with images := s.images.filter (fun x => x.modelId != m)
             acct := { s.acct with homes := s.acct.homes - i.homeUnits } }

/-- DELETE_IMAGE's own checks (R132). -/
def deleteImageCheck (m : Nat) (s : State) : Option Reply :=
  match imageOf s m with
  | none => some (.of .notFound)
  | some i => if i.owner.isSome then some (.of .conflict) else none

/-- DELETE_IMAGE (0xC108, R132). -/
def execDeleteImage (e : Env) (modelId : Nat) (s : State) : Host.Outcome State Fault Refusal :=
  mailbox Op.deleteImage e (.deleteImage e modelId) [] (deleteImageCheck modelId)
    (fun s => (deleteImage modelId s, {})) s

/-! ### Swapping out (R126, R129, R216, R511) -/

/-- BUSY because a swap is in progress (R129). -/
def swapRuns (s : State) : Option Reply := s.swap.map fun _ => .busy (swapRetry s) .swap

/-- SWAP_OUT_PARTITION's own checks (R126, R129, R132). -/
def swapOutCheck (part : Nat) (release : Bool) (s : State) : Option Reply :=
  if 15 < part then some (.of .invalid)
  else match swapRuns s with
    | some r => some r
    | none => match (s.parts.get part).state with
      | .empty => some (.of .notFound)
      | .swapped => some (.of .conflict)
      | .draining | .swappingOut | .swappingIn => some (swapBusy s part)
      | .resident =>
        if (s.parts.get part).staged.unload.isSome then some (.busy 65535 (.partition part))
        else if release && partInUse s part then some (.of .conflict)
        else if !imageFits s part then some (.of .capacity)
        else none

/-- Work that a DRAINING partition waits for besides its open step: lookups, inserts, purges and stash transfers (R126,
R511). -/
def partWork (s : State) (part : Nat) : Bool :=
  (opRuns s fun k => k.deltaPart = some part) || s.xfers.any fun x => x.namesPart part

/-- A DRAINING partition whose step is closed and whose work has ended goes on to SWAPPING_OUT, and its data begins to move (R126, R130,
R194). -/
def tryStartSwapOut (part : Nat) (s : State) : State :=
  let p := s.parts.get part
  if p.state = .draining && p.step.cond = .idle && !partWork s part then
    updPart part (fun p => { p with state := .swappingOut })
      { s with swap := s.swap.map fun w => { w with began := s.dev.devtime, bytes := swapOutBytes s part } }
  else s

/-- SWAP_OUT_PARTITION's effect: DRAINING (R126). -/
def swapOutStart (e : Env) (part : Nat) (release : Bool) (s : State) : State × Reply :=
  let n := s.opCtr
  let (s, r) := startLong e (.swapOut part) s
  let s := { s with swap := some { out := true, part := part, release := release, op := n } }
  (tryStartSwapOut part (updPart part (fun p => { p with state := .draining }) s), r)

/-- SWAP_OUT_PARTITION (0xC102, R126). -/
def execSwapOutPartition (e : Env) (part : Nat) (release : Bool) (s : State) : Host.Outcome State Fault Refusal :=
  mailbox Op.swapOutPartition e (.swapOutPartition e part release) [.swap, .partition part] (swapOutCheck part release)
    (swapOutStart e part release) s

/-- Every object of a partition's runs is left in flash (R511). -/
def spillAll (part : Nat) (s : State) : State :=
  updPart part (fun p => { p with runs := p.runs.map fun r =>
    { r with unspill := none, objs := r.objs.map fun o => { o with st := .spilled, held := 0 } } }) s

/-- A swap out's data is in flash: the dirty frames written back, the image written, and every frame released (R126); none while a lane
takes no writes. -/
def swapOutData (w : Swap) (s : State) : Option State :=
  ((writeBackAll (frameOfPart s w.part) s).bind (writeImage w.part (if w.release then none else some w.part))).map fun s =>
    releasePartFrames w.part (forgetFrames (frameOfPart s w.part) s)

/-- End a swap out (R126, R216, R217): with RELEASE the number becomes EMPTY and the image stands alone. -/
def swapOutEnd (w : Swap) (s : State) : Option State :=
  let part := w.part
  let p := s.parts.get part
  (swapOutData w s).map fun s =>
    let s := if w.release then
        let s := homesToImage part p.body.modelId s
        let ns := partNodes s part
        let s := { s with nodes := s.nodes.filter (fun n => n.part != part)
                          pins := s.pins.filter (fun q => !ns.any fun n => n.idx = q.1)
                          acct := { s.acct with partSlots := s.acct.partSlots.set part 0 } }
        updPart part (fun p => { cap := p.cap }) s
      else
        let s := { s with nodes := s.nodes.map fun n => if n.part = part then { n with state := .held } else n }
        spillAll part (updPart part (fun p => { p with state := .swapped, digestValid := [] }) s)
    releaseWrites (finishOp w.op .ok { s with swap := none })

/-- SWAP_OUT_COMPLETE (R126, R341). -/
def execSwapOutComplete (s : State) : Host.Outcome State Fault Refusal :=
  match s.swap with
  | some w => .next (if w.out && s.dev.memActive && !flashClosed s && (s.parts.get w.part).state = .swappingOut then
      (swapOutEnd w s).getD s else s)
  | none => .next s

/-! ### Swapping in (R128, R216, R217) -/

/-- The partition of an image as its swap-in reserves it: the SWAPPED partition itself, or a standalone image's in its new
number. -/
def placeImage (i : Image) (part : Nat) (s : State) : State :=
  if i.owner.isSome then s
  else updPart part (fun p => { p with
    state := .swapped, body := { i.body with part := part }, stepNo := 0, rootTail := i.rootTail, rootKids := i.rootKids
    storeSlots := i.storeSlots, pfxCharge := i.policy.1, pfxScope := i.policy.2.1, pfxMaxSlots := i.policy.2.2.1
    pfxInsertMask := i.policy.2.2.2 }) s

/-- Frames a swap-in reserves (R128, R511). -/
def swapInFrames (i : Image) (part : Nat) (s : State) : Nat :=
  if i.owner.isSome then backFrames s part
  else if 32768 ≤ i.body.stride then i.nodes.length * i.body.slotFrames
  else i.storeSlots.length / i.body.group * i.body.slotFrames

/-- The first account a swap-in cannot charge: 4, 5, then 6 for each seat with requests or runs (R128). -/
def swapInShort (i : Image) (part : Nat) (s : State) : Option Nat :=
  let n := swapInFrames i part s
  if !acctFits s 4 0 part n then some 4
  else if !acctFits s 5 0 part n then some 5
  else if i.owner.isSome && (List.range 64).any fun k =>
      !acctFits s 6 k part (((seatFramesOf s part).filter fun x => x.1 = k).map (·.2)).sum then some 6
  else none

/-- SWAP_IN_PARTITION's own checks (R128, R129). -/
def swapInCheck (modelId part : Nat) (s : State) : Option Reply :=
  match swapRuns s with
  | some r => some r
  | none => match imageOf s modelId with
    | none => some (.of .notFound)
    | some i =>
      let okTarget := match i.owner with
        | some o => part = o && (s.parts.get o).state = .swapped
        | none => part ≤ 15 && (s.parts.get part).state = .empty
      if !okTarget then some (.of .invalid)
      else (swapInShort i part s).map capacityReply

/-- SWAP_IN_PARTITION's effect: the frames are reserved and the partition is SWAPPING_IN (R128). A standalone image is carried
by its new number from here on. -/
def swapInStart (e : Env) (modelId part : Nat) (s : State) : State × Reply :=
  match imageOf s modelId with
  | none => (s, .of .notFound)
  | some i =>
    let n := s.opCtr
    let frames := swapInFrames i part s
    let (s, r) := startLong e (.swapIn part) s
    let s := placeImage i part s
    let s := if i.owner.isSome then takePartFrames part s
      else { s with acct := { s.acct with
               frames := s.acct.frames + frames, partFrames := s.acct.partFrames.upd part (· + frames)
               partSlots := s.acct.partSlots.set part (if 32768 ≤ i.body.stride then i.nodes.length else i.storeSlots.length) } }
    let s := if i.owner.isSome then s else homesFromImage part modelId s
    let s := { s with
      swap := some { out := false, part := part, release := false, op := n, began := s.dev.devtime
                     bytes := 32768 * frames + i.metaBytes }
      images := updFirst (fun x => x.modelId = modelId) (fun x => { x with owner := some part, homeUnits := 0 }) s.images }
    (updPart part (fun p => { p with state := .swappingIn }) s, r)

/-- SWAP_IN_PARTITION (0xC103, R128). -/
def execSwapInPartition (e : Env) (modelId part : Nat) (s : State) : Host.Outcome State Fault Refusal :=
  mailbox Op.swapInPartition e (.swapInPartition e modelId part) [.swap, .partition part] (swapInCheck modelId part)
    (swapInStart e modelId part) s

/-- Drop a node that found no way: its slot, frames and home are released (R217). -/
def dropNode (n : Node) (s : State) : State :=
  if 32768 ≤ (s.parts.get n.part).body.stride || (s.parts.get n.part).storeSlots.contains n.slot then releaseSlot n s else s

/-- Place one node of a standalone image (R217): its parent under its new index, and a way of its own bucket, free or taken
from the coldest evictable node there. `m` gives each placed node's new index. -/
def placeNode (part : Nat) (x : State × List (Nat × Nat) × List Node) (n : Node) : State × List (Nat × Nat) × List Node :=
  let (s, m, gone) := x
  let root := n.len = n.rows
  match (if root then some 0 else lookupKey n.parent m) with
  | none => (s, m, gone ++ [{ n with part := part }])
  | some parent =>
    match takeWay n.digest s with
    | (s, some idx) =>
      ({ s with nodes := s.nodes ++ [{ n with idx := idx, parent := parent, part := part, state := .held }] }, m ++ [(n.idx, idx)], gone)
    | (s, none) =>
      let n' := { n with part := part, parent := parent }
      let s := if root then updPart part (fun p => { p with
            rootKids := p.rootKids - 1, rootTail := if n.findable then 0 else p.rootTail }) s
        else updNode parent (fun k => { k with kids := k.kids - 1, tailRows := if n.findable then 0 else k.tailRows }) s
      (s, m, gone ++ [n'])

/-- Insert a node into a list in order of LEN. -/
def insertByLen (n : Node) : List Node → List Node
  | [] => [n]
  | x :: rest => if n.len < x.len then n :: x :: rest else x :: insertByLen n rest

/-- Place a standalone image's nodes in order of increasing LEN (R217); pins of dropped nodes go. -/
def placeNodes (i : Image) (part : Nat) (s : State) : State :=
  let (s, m, gone) := (i.nodes.foldl (fun l n => insertByLen n l) []).foldl (placeNode part) (s, [], [])
  let s := gone.foldl (fun s n => dropNode n s) s
  { s with pins := s.pins ++ i.pins.filterMap fun q => (lookupKey q.1 m).map fun k => (k, q.2)
           parts := s.parts.upd part fun p => { p with cold := i.cold.filterMap fun k => lookupKey k m } }

/-- A partition's HELD nodes are LIVE again, and its evictable ones listed: those listed before keep their order, the others
join the warm end (R216, R223). -/
def reviveNodes (part : Nat) (s : State) : State :=
  let s := { s with nodes := s.nodes.map fun n => if n.part = part && n.state = .held then { n with state := .live } else n }
  let ev := ((partNodes s part).filter Node.evictable).map (·.idx)
  updPart part (fun p =>
    let old := p.cold.filter ev.contains
    { p with cold := old ++ ev.filter fun k => !old.contains k }) s

/-- End a swap in (R128, R216, R217, R589): every mapped home is read, and the rest of the slots held reads as zeros (R320). -/
def swapInEnd (w : Swap) (s : State) : State :=
  let part := w.part
  let l := mappedHomes s (homeOfPart part)
  let s := readHomes (l.filter fun x => match x.1 with
    | .stash .. => false
    | _ => true) (zeroSlots part (heldSlots s part) s)
  let s := match imageOf s (s.parts.get part).body.modelId with
    | some i => if i.nodes.isEmpty then s
      else placeNodes i part { s with
        images := updFirst (fun x => x.modelId = i.modelId) (fun x => { x with nodes := [], pins := [], storeSlots := [], cold := [] }) s.images }
    | none => s
  let s := reviveNodes part s
  let s := updPart part (fun p => { p with state := .resident }) s
  finishOp w.op (if l.any fun x => x.2.lost && inHbm s ((framesOfUnit s x.1).headD (.kv part 0)) then .invalid else .ok) { s with swap := none }

/-- SWAP_IN_COMPLETE (R128, R341): every frame has been read. -/
def execSwapInComplete (s : State) : Host.Outcome State Fault Refusal :=
  match s.swap with
  | some w => .next (if !w.out && !w.restore && s.dev.memActive && !flashClosed s && (s.parts.get w.part).state = .swappingIn then
      swapInEnd w s else s)
  | none => .next s

/-! ### Unloading (R131) -/

/-- UNLOAD_PARTITION's own checks (R129, R131). -/
def unloadCheck (part : Nat) (force : Bool) (s : State) : Option Reply :=
  if 15 < part then some (.of .invalid)
  else match swapRuns s with
    | some r => some r
    | none => match (s.parts.get part).state with
      | .empty => some (.of .notFound)
      | .draining | .swappingOut | .swappingIn => some (swapBusy s part)
      | _ =>
        if (s.parts.get part).staged.unload.isSome then some (.busy 65535 (.partition part))
        else if !force && partInUse s part then some (.of .conflict)
        else none

/-- Remove everything a partition holds but the rings of `keep` (R131, R194, R228, R498). -/
def unloadNow (part : Nat) (keep : List (Nat × Nat)) (s : State) : State :=
  let m := (s.parts.get part).body.modelId
  let s := (partRequests s part).foldl (fun s i => freeRequest (handleOfRt s i) s) s
  let s := (partParks s part).foldl (fun s k => freePark k s) s
  let s := ((partRings s part).filter fun r => !keep.contains r).foldl (fun s r => freeRing r.1 r.2 s) s
  let s := { s with seats := s.seats.mapTo 64 fun _ t => { t with kvWindows := t.kvWindows.filter fun w => w.1 != part } }
  let s := (s.parts.get part).runs.foldl (fun s r => closeRunNow part r.run s) s
  let swapped := (s.parts.get part).state = .swapped
  let units := storeUnits s part
  let s := if swapped then
      (if (s.parts.get part).digestHeld then
        releaseAcct { seat := 0, part := part, frames := digestFrames (s.parts.get part).body, seatFrames := false } s
       else s)
    else releasePartFrames part s
  let s := dropFrames (frameOfPart s part) s
  let s := freeHomes (fun u => match u with
    | .kv p _ _ => p = part
    | .image i _ => i = m
    | _ => false) s
  let ns := partNodes s part
  let s := { s with
    nodes := s.nodes.filter fun n => n.part != part
    pins := s.pins.filter fun q => !ns.any fun n => n.idx = q.1
    images := s.images.filter fun i => i.modelId != m
    acct := { s.acct with partSlots := s.acct.partSlots.set part 0, homes := s.acct.homes - units } }
  releaseWrites s

/-- The number becomes EMPTY; SET_PARTITION_CAP stays with the number (R146, log entry 35). -/
def emptyPart (part : Nat) (s : State) : State := updPart part (fun p => { cap := p.cap }) s

/-- UNLOAD_PARTITION's effect (R131): at once, or with a step open at its boundary. -/
def unloadStart (e : Env) (part : Nat) (s : State) : State × Reply :=
  let n := s.opCtr
  let (s, r) := startLong e (.unload part) s
  if stepOpen s part then
    (updPart part (fun p => { p with staged := { p.staged with unload := some n } }) s, { r with staged := (stagedNow s part).staged })
  else (finishOp n .ok (emptyPart part (unloadNow part [] s)), r)

/-- UNLOAD_PARTITION (0xC104, R131). -/
def execUnloadPartition (e : Env) (part : Nat) (force : Bool) (s : State) : Host.Outcome State Fault Refusal :=
  mailbox Op.unloadPartition e (.unloadPartition e part force) [.swap, .partition part] (unloadCheck part force)
    (unloadStart e part) s

/-- PREFIX_OPERATION_COMPLETE (R198, R206, R209, R228): the operations in progress advance in turn until this one has done its work, and it
ends; a DRAINING partition whose last one it was goes on. -/
def execPrefixOperationComplete (op : Nat) (s : State) : Host.Outcome State Fault Refusal :=
  match opOf s op with
  | some o =>
    if !o.kind.isDelta || !s.dev.memActive || s.flt.sable then .next s
    else
      let s := finishDelta op (deltaRounds (o.kind.turns s.nodes.length) op s)
      .next (match o.kind.deltaPart with
        | some p => tryStartSwapOut p s
        | none => s)
  | none => .next s

end Sys2Proof.Machine
end

