-- ==== Sys2Proof/Machine/Service.lean ====
section
/-! DEFINITION. The service of step items (§1.5, §6.3, chapter 9): which item comes into service, what is staged, when an item
expires or ends, and the work of an item. -/

namespace Sys2Proof.Machine

/-! ### Items -/

/-- An item of a partition's step. -/
def itemOf (s : State) (p i : Nat) : Option Item := (s.parts.get p).step.items[i]?

/-- Change an item. -/
def updItem (p i : Nat) (f : Item → Item) (s : State) : State :=
  updPart p (fun x => { x with step := { x.step with items := match x.step.items[i]? with
    | some it => x.step.items.set i (f it)
    | none => x.step.items } }) s

/-- A request kept in a partition's step. -/
def keptOf (s : State) (p h : Nat) : Option Kept := (s.parts.get p).step.kept.find? fun k => k.handle = h

/-- L of an item's request (R27, R174). -/
def itemLen (s : State) (p : Nat) (it : Item) : Nat := ((keptOf s p it.handle).map (·.len)).getD 0

/-- The live tiles, by physical number (R263, R593). -/
def liveTiles (s : State) : List Nat := (List.range 320).filter fun t => !s.flt.retiredTiles.contains t

/-- ⌈L / T⌉ (R264). -/
def itemAll (s : State) (p : Nat) (it : Item) : Nat := ceilDiv (itemLen s p it) (s.parts.get p).body.tokens

/-- A selection applies to an item: in an Attend step, with digests ON, SEL ≠ 0 and SEL < ⌈L / T⌉ (R279, R280). -/
def itemSelects (s : State) (p : Nat) (it : Item) : Bool :=
  let x := s.parts.get p
  let e := rtOf s it.handle
  !x.step.deliver && x.digests && e.sel != 0 && e.sel < itemAll s p it

/-- The reaches an item stages, ascending: the chosen ones, or all (R264, R280). -/
def itemReaches (s : State) (p : Nat) (it : Item) : List Nat := it.sel.getD (List.range (itemAll s p it))

/-- Tiles over which an item is numbered. -/
def itemTiles (s : State) (it : Item) : List Nat := it.tiles.getD (liveTiles s)

/-- R_pass of an item (R265). -/
def itemPass (s : State) (p : Nat) (it : Item) : Nat := passReaches (s.parts.get p).body (itemTiles s it).length

/-- K of an item; 0 while R_pass is 0 (R265). -/
def itemPasses (s : State) (p : Nat) (it : Item) : Nat := ceilDiv (itemReaches s p it).length (itemPass s p it)

/-- An item that cannot be computed: R_pass = 0, or more than 63 passes once its reaches are known (R266). -/
def itemTooLong (s : State) (p : Nat) (it : Item) : Bool :=
  itemPass s p it = 0 || ((!itemSelects s p it || it.sel.isSome) && 63 < itemPasses s p it)

/-- The slot of a reach of a request. -/
def reachSlot (s : State) (h r : Nat) : Nat := (((rtOf s h).reaches[r]?).map (·.slot)).getD 0

/-- Reaches of pass `k` (R265). -/
def passOf (s : State) (p : Nat) (it : Item) (k : Nat) : List Nat :=
  ((itemReaches s p it).drop (k * itemPass s p it)).take (itemPass s p it)

/-! ### The arithmetic of an item (chapter 8, §9.4, §9.7) -/

/-- Cut bytes into little-endian 16-bit values. -/
def cut16 : List Byte → List Nat
  | a :: b :: rest => leNat [a, b] :: cut16 rest
  | _ => []

/-- The item's arithmetic. -/
def attnOf (s : State) (p : Nat) (it : Item) : Attn :=
  { b := (s.parts.get p).body, salt := saltInUse s, ditherCtrl := s.glb.ditherCtrl, handle := it.handle
    len := itemLen s p it, step := (s.parts.get p).stepNo, layer := it.layer
    query := cut16 ((it.rec?.map (·.query)).getD []), live := itemTiles s it }

/-- K row and V row of a position in a slot's slice (R118, R119). -/
def kvRows (s : State) (p layer slot row : Nat) : List Byte × List Byte :=
  let x := s.parts.get p
  let b := x.body
  let a := sliceAddr b layer slot
  (memBytes x.kv (a + row * b.row) b.row, memBytes x.kv (a + b.tokens * b.row + row * b.row) b.row)

/-- The staged positions of an item, numbered in staging order (R263): rows at positions L and above are not computed (R264). -/
def stagedRows (s : State) (p : Nat) (it : Item) : List (Nat × List Byte × List Byte) :=
  let t := (s.parts.get p).body.tokens
  let rs := itemReaches s p it
  ((rs.zip (List.range rs.length)).map fun x =>
    ((List.range t).filter fun i => x.1 * t + i < itemLen s p it).map fun i =>
      (x.2 * t + i, kvRows s p it.layer (reachSlot s it.handle x.1) i)).flatten

/-- Cut staged positions into passes (R265). -/
def cutPasses {α : Type} (n : Nat) : Nat → List (Nat × α) → List (List (Nat × α))
  | 0, _ => []
  | k + 1, l => l.filter (fun x => x.1 < n) :: (cutPasses n k ((l.filter fun x => n ≤ x.1).map fun x => (x.1 - n, x.2)))

/-- The result bytes of an item (R268–R270). -/
def itemResult (s : State) (p : Nat) (it : Item) : List Byte :=
  let n := itemPass s p it * (s.parts.get p).body.tokens
  let rows := stagedRows s p it
  let k := itemPasses s p it
  let nT := max 1 (itemTiles s it).length
  (attnOf s p it).result ((cutPasses n k rows).zip (List.range k) |>.map fun x =>
    x.1.map fun y => ((x.2 * n + y.1) % nT, y.2))

/-- The reaches a selecting item attends to (R280): reach `r` is forced among the first SINK, the last max(RECENT, 1), or with an
invalid digest. -/
def itemChosen (s : State) (p : Nat) (it : Item) : List Nat :=
  let x := s.parts.get p
  let e := rtOf s it.handle
  let n := itemAll s p it
  let live := itemTiles s it
  let a := attnOf s p it
  chooseReaches n e.sel
    (fun r => r < e.sink || n ≤ r + max e.recent 1 || !x.digestValid.contains (reachSlot s it.handle r, it.layer))
    (fun r => a.bound (live.getD (r % max 1 live.length) 0) (ceilDiv n (max 1 live.length)) r
      ((List.range x.body.tokens).map fun i => (kvRows s p it.layer (reachSlot s it.handle r) i).1))

/-- A slice of a reach is damaged (R588, R589). -/
def sliceDamaged (s : State) (p layer slot : Nat) : Bool :=
  damagedAt s (.kv p) (sliceAddr (s.parts.get p).body layer slot) (s.parts.get p).body.slice

/-! ### The order of service (R23, R24) -/

/-- The first item of a step that has not left service and is not `skip`. -/
def firstItem : List Item → Nat → Option Nat → Option Nat
  | [], _, _ => none
  | it :: rest, i, skip => if it.left || skip = some i then firstItem rest (i + 1) skip else some i

/-- The next item of a partition's open step. -/
def stepNext (s : State) (skip : Option (Nat × Nat)) (p : Nat) : Option Nat :=
  let st := (s.parts.get p).step
  if st.cond = .idle then none
  else firstItem st.items 0 (match skip with
    | some (q, i) => if q = p then some i else none
    | none => none)

/-- The next item across the device: of the open step that holds the highest PRIO, ties to the step accepted first (R23; log
entry 37). -/
def chooseItem (s : State) (skip : Option (Nat × Nat)) : Option (Nat × Nat) :=
  (List.range 16).foldl (fun (m : Option (Nat × Nat)) p =>
    match stepNext s skip p with
    | none => m
    | some i =>
      let st := (s.parts.get p).step
      match m with
      | none => some (p, i)
      | some (q, _) =>
        let su := (s.parts.get q).step
        if su.prio < st.prio || (su.prio = st.prio && st.order < su.order) then some (p, i) else m) none

/-- Whether a half holds a pass of an item. -/
def Half.isFor (x : Half) (p i : Nat) : Bool := x.part = p && x.idx = i

/-- Free the halves an item holds. -/
def freeHalves (p i : Nat) (s : State) : State :=
  let f := fun (x : Option Half) => match x with
    | some y => if y.isFor p i then none else some y
    | none => none
  { s with svc := { s.svc with halfA := f s.svc.halfA, halfB := f s.svc.halfB } }

/-- An item leaves service: it frees its halves. -/
def leaveItem (p i : Nat) (s : State) : State :=
  let s := freeHalves p i (updItem p i (fun it => { it with left := true }) s)
  { s with svc := { s.svc with
      inService := if s.svc.inService = some (p, i) then none else s.svc.inService
      nextUp := if s.svc.nextUp = some (p, i) then none else s.svc.nextUp } }

/-- KIND of an item's record. -/
def itemKind (s : State) (p : Nat) : Nat := if (s.parts.get p).step.deliver then 4 else 2

/-- A completion of an item in its step's completion ring. -/
def itemComp (s : State) (p : Nat) (it : Item) (st : Status) (tArrive start : Nat) : CompRec :=
  { kind := itemKind s p, status := st, value := it.layer, handle := it.handle, tArrive := tArrive, part := p
    step := (s.parts.get p).stepNo, dStart := sat 32 (start - tArrive) }

/-- An item ends with this status: it stays in service until its completion can be written (R23, R283). -/
def endItem (p i : Nat) (st : Status) (s : State) : State :=
  let x := (s.parts.get p).step
  askComp x.ownerSeat x.ownerRing true (updItem p i (fun it => { it with ending := some st }) s)

/-- The completion of an item that ends can be written now: nothing waits before it, the ceiling holds no write into the ring, and no host
holds its line. -/
def mayEnd (s : State) (seat ring : Nat) : Bool :=
  let r := ringOf s seat ring
  !r.live || (r.backlog.isEmpty && compSpace s seat ring true)

/-- The record's completion is written into the completion ring, and the item leaves service. -/
def writeEnd (p i : Nat) (it : Item) (st : Status) (s : State) : State :=
  let x := (s.parts.get p).step
  let t := (it.rec?.map (·.tArrive)).getD 0
  leaveItem p i (complete x.ownerSeat x.ownerRing (itemComp s p it st t (it.started.getD s.dev.devtime)) s)

/-- An item expires (R176): LATE, and an OPEN step is LAPSED. Its T_ARRIVE is the STEP_OPEN's, since no record of its own was
consumed (log entry 38). -/
def expireItem (p i : Nat) (s : State) : State :=
  match itemOf s p i with
  | none => s
  | some it =>
    let x := (s.parts.get p).step
    let s := postComp x.ownerSeat x.ownerRing (itemComp s p it .late x.tOpen s.dev.devtime) s
    let s := updItem p i (fun it => { it with expired := true }) s
    let s := updPart p (fun y => { y with step := { y.step with cond := if y.step.cond = .open_ then .lapsed else y.step.cond } }) s
    leaveItem p i s

/-- A fault record about data a reader met (R589, R261): its unit is the owning seat, the status is in DETAIL. -/
def readerFault (s : State) (p h event : Nat) (st : Status) : State :=
  let x := (s.parts.get p).step
  logFault { unit := 5, index := x.ownerSeat, event := event, action := 6, seat := x.ownerSeat, part := p, handle := h
             tag := (s.parts.get p).stepNo, detail := st.code } s

/-- An item comes into service: its tiles are numbered over the live ones (R263). What was staged for it over a tile since retired is staged
anew (R593). -/
def enterItem (p i : Nat) (s : State) : State :=
  let s := { s with svc := { s.svc with inService := some (p, i), nextUp := none } }
  let old := (itemOf s p i).bind (·.tiles)
  let s := if old.isSome && old != some (liveTiles s) then freeHalves p i (updItem p i (fun it => { it with sel := none, staged := 0 }) s) else s
  updItem p i (fun it => { it with since := s.dev.devtime, tiles := some (liveTiles s) }) s

/-- An ATTEND is served: its query is read (R170). -/
def readQuery (p i : Nat) (s : State) : State :=
  match itemOf s p i with
  | none => s
  | some it => match it.rec? with
    | none => s
    | some r =>
      let b := (s.parts.get p).body
      let n := b.qHeads * b.headDim * 2
      let seat := (s.parts.get p).step.ownerSeat
      if r.read || (s.parts.get p).step.deliver then s
      else updItem p i (fun it => { it with rec? := some { r with
        read := true, query := (hdmBytes s seat r.queryAt n).getD [], damaged := hdmDamaged s seat r.queryAt n } }) s

/-- A pass of an item stands ready in a half. -/
def passReady (s : State) (p i k : Nat) : Bool :=
  let f := fun (x : Option Half) => match x with
    | some y => y.isFor p i && y.pass = k && y.ready
    | none => false
  f s.svc.halfA || f s.svc.halfB

/-- What the item in service does at once, if anything: its completion is written; it expires in a LAPSED or CLOSING step without its record
(R177, R192); its query is read (R170); it ends with CAPACITY (R266) or, with damaged slices or query, INVALID (R589); or its compute or
push begins (R180). -/
def settleItem (p i : Nat) (s : State) : Option State :=
  match itemOf s p i with
  | none => none
  | some it =>
    let x := (s.parts.get p).step
    match it.ending, it.rec? with
    | some st, _ => if mayEnd s x.ownerSeat x.ownerRing then some (writeEnd p i it st s) else none
    | none, none =>
      if x.cond != .open_ && canComplete s x.ownerSeat x.ownerRing 1 then some (expireItem p i s) else none
    | none, some r =>
      if it.started.isSome then
        if it.bad then some (readerFault (endItem p i .invalid s) p it.handle 2 .invalid) else none
      else if x.deliver then
        some (updItem p i (fun it => { it with
          started := some s.dev.devtime, ports := upPorts s (((windowOf s x.ownerSeat x.window).map (·.mask)).getD 0) }) s)
      else if !r.read then some (readQuery p i s)
      else if it.bad || r.damaged then some (readerFault (endItem p i .invalid s) p it.handle 2 .invalid)
      else if itemTooLong s p it then some (endItem p i .capacity s)
      else if passReady s p i 0 then some (updItem p i (fun it => { it with started := some s.dev.devtime }) s)
      else none

/-- Begin staging the next pass of an item into a free half (R24, R267, R281). -/
def beginStaging (p i : Nat) (s : State) : State :=
  let s := match itemOf s p i with
    | some it => if itemSelects s p it then readQuery p i s else s
    | none => s
  match itemOf s p i with
  | none => s
  | some it =>
    let sel := if itemSelects s p it then some (it.sel.getD (itemChosen s p it)) else none
    let h : Half := { part := p, idx := i, pass := it.staged }
    let s := if s.svc.halfA.isNone then { s with svc := { s.svc with halfA := some h } }
      else { s with svc := { s.svc with halfB := some h } }
    updItem p i (fun it => { it with sel := sel, tiles := some (it.tiles.getD (liveTiles s)), staged := it.staged + 1 }) s

/-- An Attend item has a pass that may be staged now: a selecting item only with its ATTEND consumed (R281). -/
def mayStage (s : State) (p i : Nat) : Bool :=
  match itemOf s p i with
  | none => false
  | some it =>
    let selects := itemSelects s p it && it.sel.isNone
    !(s.parts.get p).step.deliver && (!selects || it.rec?.isSome) &&
      itemPass s p it != 0 && (selects || (itemPasses s p it ≤ 63 && it.staged < itemPasses s p it))

/-- The item in service needs no more staging, so that the item after it may be staged (R24, R267). -/
def stagedOut (s : State) (p i : Nat) : Bool :=
  match itemOf s p i with
  | none => true
  | some it =>
    (s.parts.get p).step.deliver || itemTooLong s p it ||
      ((!itemSelects s p it || it.sel.isSome) && itemPasses s p it ≤ it.staged)

/-- Sluice stages an item or pass. -/
def stagingRuns (s : State) : Bool := (s.svc.halfA.any fun h => !h.ready) || (s.svc.halfB.any fun h => !h.ready)

/-- Begin a staging where the rules of R24 and R179 allow one: of the item in service, else of the item that follows it. -/
def stageNext (s : State) : Option State :=
  if s.svc.gate != .usable || stagingRuns s || (s.svc.halfA.isSome && s.svc.halfB.isSome) then none
  else match s.svc.inService with
    | none => none
    | some (p, i) =>
      if mayStage s p i then some (beginStaging p i s)
      else if !stagedOut s p i || s.svc.nextUp.isSome then none
      else match chooseItem s (some (p, i)) with
        | none => none
        | some (q, j) =>
          if mayStage s q j then some (beginStaging q j { s with svc := { s.svc with nextUp := some (q, j) } }) else none

/-- One act of the service: an item comes into service, the item in service acts, or a staging begins. -/
def serveOnce (s : State) : Option State :=
  match s.svc.inService with
  | none => (s.svc.nextUp.or (chooseItem s none)).map fun x => enterItem x.1 x.2 s
  | some (p, i) => (settleItem p i s).or (stageNext s)

/-- Draws of a CLOSING step whose every item has left and whose window is not ready are abandoned (R192, R307). -/
def abandonDraws (p : Nat) (s : State) : State :=
  let x := (s.parts.get p).step
  if x.cond != .closing || !x.sample || x.items.any (fun it => !it.left) then s
  else x.kept.foldl (fun s k =>
    if (rtOf s k.handle).eddy && !k.drawQueued && !k.drawDone && canComplete s x.ownerSeat x.ownerRing 1 then
      let c : CompRec := { kind := 1, status := .late, value := 2 ^ 32 - 1, handle := k.handle, tArrive := x.tOpen, part := p
                           step := (s.parts.get p).stepNo, dStart := sat 32 (s.dev.devtime - x.tOpen) }
      updKept p k.handle (fun k => { k with drawDone := true }) (postComp x.ownerSeat x.ownerRing c s)
    else s) s

/-- Serve as far as nothing waits. -/
def serveAll : Nat → State → State
  | 0, s => s
  | fuel + 1, s =>
    match serveOnce s with
    | some t => serveAll fuel t
    | none => s

/-- Items of all open steps. -/
def openItems (s : State) : Nat := ((List.range 16).map fun p => (s.parts.get p).step.items.length).sum

/-- The service goes on as far as it can (R23–R26), and draws that can no longer be ready are abandoned. -/
def pump (s : State) : State :=
  let s := serveAll (8 * openItems s + 10) s
  (List.range 16).foldl (fun s p => abandonDraws p s) s

/-! ### Events of the service -/

/-- ITEM_EXPIRY (R176): the item in service has waited WAIT_US for its record. -/
def execItemExpiry (s : State) : Host.Outcome State Fault Refusal :=
  match s.svc.inService with
  | none => .next (pump s)
  | some (p, i) =>
    match itemOf s p i with
    | none => .next s
    | some it =>
      let x := (s.parts.get p).step
      if it.rec?.isNone && it.since + 1000 * x.waitUs ≤ s.dev.devtime && canComplete s x.ownerSeat x.ownerRing 1 then
        .next (pump (expireItem p i s))
      else .next (pump s)

/-- Compute in every tile and staging are halted: a T or M region is in HOLD after a trip (R552). -/
def arraysHalted (s : State) : Bool := s.pwr.held.any (· < 48)

/-- The half of an item's pass becomes ready. -/
def readyHalf (h : Half) (x : Option Half) : Option Half := if x = some h then some { h with ready := true } else x

/-- The half whose staging ends next: the one of the pass that the item in service computes next goes first, since a pass is restaged
only there (R590). -/
def stagingHalf (s : State) : Option Half :=
  let l : List Half := ((match s.svc.halfA with
    | some h => [h]
    | none => []) ++ (match s.svc.halfB with
    | some h => [h]
    | none => [])).filter fun h => !h.ready
  (l.find? fun h => match s.svc.inService with
    | some (p, i) => h.isFor p i && (match itemOf s p i with
      | some it => h.pass = it.passes
      | none => false)
    | none => false).or l.head?

/-- STAGING_COMPLETE (R24, R267, R589): the staging that runs ends; a damaged slice marks its item. -/
def execStagingComplete (s : State) : Host.Outcome State Fault Refusal :=
  if arraysHalted s then .next s else
  match stagingHalf s with
  | none => .next s
  | some h =>
    match itemOf s h.part h.idx with
    | none => .next s
    | some it =>
      let bad := (passOf s h.part it h.pass).any fun r => sliceDamaged s h.part it.layer (reachSlot s it.handle r)
      let s := if bad then updItem h.part h.idx (fun it => { it with bad := true }) s else s
      .next (pump { s with svc := { s.svc with halfA := readyHalf h s.svc.halfA, halfB := readyHalf h s.svc.halfB } })

/-- The completion record of an Attend item (R271). -/
def attendRecord (s : State) (p : Nat) (it : Item) (r : ItemRec) : CompRec :=
  { stampRec s 0 0
      { kind := 2, status := .ok, handle := it.handle, tArrive := r.tArrive, part := p, step := (s.parts.get p).stepNo
        value := it.layer * 65536 + itemPasses s p it * 256 + 128 * bit it.sel.isSome
        dStart := sat 32 (it.started.getD s.dev.devtime - r.tArrive), fw := !s.glb.hwparse } with
    phase := (s.parts.get p).stepNo % 2 = 1 }

/-- The record that makes a result valid is sent, and the item leaves service (R65, R271). -/
def sendRecord (p i port addr : Nat) (data : List Byte) (s : State) : State :=
  let x := (s.parts.get p).step
  leaveItem p i (releaseSpace x.ownerSeat x.ownerRing (emit (.peerWrite port addr data false) s))

/-- Write an Attend item's result into the result window (R269), or end the item with INVALID when no port of the window is up (R261). Its
record follows, at once where the data went over the record's port alone, else once the flush reads have completed (R65). -/
def writeResult (p i : Nat) (it : Item) (s : State) : State :=
  let x := (s.parts.get p).step
  let b := (s.parts.get p).body
  let r := it.rec?.getD { off := 0, tArrive := 0 }
  match windowOf s x.ownerSeat x.window with
  | none => readerFault (endItem p i .invalid s) p it.handle 11 .invalid
  | some w =>
    if (firstUp s w.mask).isNone then readerFault (endItem p i .invalid s) p it.handle 11 .invalid
    else
      let data := itemResult s p it
      let a := w.base + r.off
      let port := (firstUp s w.mask).getD 0
      let others := (portsUsed s w.mask a data.length).filter (· != port)
      let s := peerWrites x.ownerSeat w.mask a data s
      if others.isEmpty then sendRecord p i port (a + resultLen b - 64) (attendRecord s p it r).bytes s
      else updItem p i (fun it => { it with record := some (port, a + resultLen b - 64) })
        (flushReads w.base others s)

/-- The flush reads of the item in service have completed (R65; DESIGN CHOICE: with the next AON clock, log entry 119): its record is
sent, with D_DONE as of now; when its port has gone down meanwhile, the item leaves without one. -/
def endFlush (s : State) : State :=
  match s.svc.inService with
  | none => s
  | some (p, i) => match itemOf s p i with
    | none => s
    | some it => match it.record, it.rec? with
      | some (port, addr), some r =>
        if carriesPeer s port then sendRecord p i port addr (attendRecord s p it r).bytes s
        else let x := (s.parts.get p).step
          leaveItem p i (releaseSpace x.ownerSeat x.ownerRing s)
      | _, _ => s

/-- Free the half that holds a pass. -/
def freePass (p i k : Nat) (s : State) : State :=
  let f := fun (x : Option Half) => match x with
    | some y => if y.isFor p i && y.pass = k then none else some y
    | none => none
  { s with svc := { s.svc with halfA := f s.svc.halfA, halfB := f s.svc.halfB } }

/-- ITEM_COMPUTE_COMPLETE (R267–R271): the compute of the pass that stands ready in a half ends and frees it; after the last pass
the result is written and the item leaves service. -/
def execItemComputeComplete (s : State) : Host.Outcome State Fault Refusal :=
  if arraysHalted s then .next s else
  match s.svc.inService with
  | none => .next s
  | some (p, i) =>
    match itemOf s p i with
    | none => .next s
    | some it =>
      if (s.parts.get p).step.deliver || it.started.isNone || it.ending.isSome || it.record.isSome || !passReady s p i it.passes then .next s
      else
        let s := updItem p i (fun it => { it with passes := it.passes + 1 }) (freePass p i it.passes s)
        .next (pump (if it.passes + 1 < itemPasses s p it then s else writeResult p i it s))

/-- The bytes of a Deliver item: its slices without stride padding, rows at positions L and above as zeros (R282). -/
def deliverBytes (s : State) (p : Nat) (it : Item) : List Byte :=
  let b := (s.parts.get p).body
  let l := itemLen s p it
  ((List.range (itemAll s p it)).map fun r =>
    let rows := (List.range b.tokens).map fun i =>
      if r * b.tokens + i < l then kvRows s p it.layer (reachSlot s it.handle r) i
      else (List.replicate b.row 0, List.replicate b.row 0)
    (rows.map (·.1)).flatten ++ (rows.map (·.2)).flatten).flatten

/-- Ports that carried a Deliver item's slices: those up as its push began, as far as its units reach (R64). -/
def pushPorts (it : Item) (n : Nat) : List Nat := it.ports.take (units4k (n / 4096 + 2) 0 n).length

/-- Send a Deliver item's slices over the ports that were up as its push began, and flush them on every port that carried data and not the
record (R283). -/
def pushSlices (w : Window) (it : Item) (p : Nat) (s : State) : State :=
  let x := (s.parts.get p).step
  let a := w.base + ((it.rec?.map (·.off)).getD 0)
  let data := deliverBytes s p it
  let r := ringOf s x.ownerSeat x.ownerRing
  let port := if r.cqPeer then (windowOf s x.ownerSeat r.cqWindow).bind (fun v => firstUp s v.mask) else none
  flushReads w.base ((pushPorts it data.length).filter fun q => carriesPeer s q && some q != port)
    (peerWritesOn it.ports x.ownerSeat a data s)

/-- The item in service is a Deliver item whose slices are being pushed: its place, and the item. -/
def pushing (s : State) : Option (Nat × Nat × Item) :=
  match s.svc.inService with
  | none => none
  | some (p, i) => match itemOf s p i with
    | none => none
    | some it => if (s.parts.get p).step.deliver && it.started.isSome && it.ending.isNone then some (p, i, it) else none

/-- DELIVER_PUSH_COMPLETE (R282, R283, R261, R589): every unit of the item in service has been sent and flushed. When a port that
carried data has gone down meanwhile, the units of the others are sent, and the item leaves without a completion record (R65). -/
def execDeliverPushComplete (s : State) : Host.Outcome State Fault Refusal :=
  match pushing s with
  | none => .next s
  | some (p, i, it) =>
    let x := (s.parts.get p).step
    if hbmHalted s then .next s
    else if (List.range (itemAll s p it)).any fun r => sliceDamaged s p it.layer (reachSlot s it.handle r) then
      .next (pump (readerFault (endItem p i .invalid s) p it.handle 2 .invalid))
    else match windowOf s x.ownerSeat x.window with
      | none => .next (pump (readerFault (endItem p i .invalid s) p it.handle 11 .invalid))
      | some w =>
        if it.ports.isEmpty then .next (pump (readerFault (endItem p i .invalid s) p it.handle 11 .invalid))
        else
          let t := pushSlices w it p s
          if it.ports.any fun q => !carriesPeer s q then .next (pump (leaveItem p i (releaseSpace x.ownerSeat x.ownerRing t)))
          else .next (pump (endItem p i .ok t))

/-- A flush read of the item in service fails: it ends with INVALID and a transient fault record (R66). -/
def failFlush (s : State) : State :=
  match s.svc.inService with
  | none => s
  | some (p, i) => match itemOf s p i with
    | none => s
    | some it =>
      let x := (s.parts.get p).step
      let fail := fun (s : State) => pump (readerFault (endItem p i .invalid s) p it.handle 6 .invalid)
      if it.record.isSome then fail (updItem p i (fun it => { it with record := none }) s)
      else match pushing s, windowOf s x.ownerSeat x.window with
        | some _, some w => if 1 < it.ports.length then fail (pushSlices w it p s) else s
        | _, _ => s

end Sys2Proof.Machine
end

