-- ==== Sys2Proof/Machine/Steps.lean ====
section
/-! DEFINITION. Steps (chapter 6) and the commands of chapter 9: opening and closing a step, the records of a step, the step
boundary, global register commits, windows, digests and selections. -/

namespace Sys2Proof.Machine

/-! ### Global registers (R6) -/

/-- A global RWS write is pending (R6). -/
def globalPending (s : State) : Bool :=
  s.glb.hwparsePend.isSome || s.glb.ditherCtrlPend.isSome || s.glb.ditherSaltPend.isSome || s.glb.pwrCtrlPend.isSome

/-- No partition has an open step. -/
def deviceIdle (s : State) : Bool := (List.range 16).all fun p => (s.parts.get p).step.cond = .idle

/-- Commit every pending global RWS write (R6). -/
def commitGlobals (s : State) : State :=
  let g := s.glb
  { s with glb := { g with
      hwparse := g.hwparsePend.getD g.hwparse, hwparsePend := none
      ditherCtrl := g.ditherCtrlPend.getD g.ditherCtrl, ditherCtrlPend := none
      ditherSalt := g.ditherSaltPend.getD g.ditherSalt, ditherSaltPend := none
      pwrCtrl := g.pwrCtrlPend.getD g.pwrCtrl, pwrCtrlPend := none } }

/-- An INVALID outcome of a defined record: MALFORMED and a transient fault record, with the request the record names (R185). -/
def malformed (seat ring seq handle : Nat) (s : State) : State :=
  ringFault seat ring seq 6 (ringOf s seat ring).part handle (updRing seat ring (fun r => { r with malformed := true }) s)

/-! ### Logit windows (R290–R294) -/

/-- A token completion without a token (R306, R307). -/
def noToken (part h : Nat) (st : Status) (start : Nat) (s : State) : State :=
  let x := (s.parts.get part).step
  let c : CompRec := { kind := 1, status := st, value := 2 ^ 32 - 1, handle := h, tArrive := x.tOpen, part := part
                       step := (s.parts.get part).stepNo, dStart := sat 32 (start - x.tOpen) }
  updKept part h (fun k => { k with drawDone := true }) (postComp x.ownerSeat x.ownerRing c s)

/-! ### Opening a step (R171–R175) -/

/-- Insert a handle before the first one of lower priority. -/
def insertPrio (s : State) (h : Nat) : List Nat → List Nat
  | [] => [h]
  | g :: rest => if (rtOf s g).prio < (rtOf s h).prio then h :: g :: rest else g :: insertPrio s h rest

/-- Handles by priority, highest first, equal priorities in list order (R22, R304). -/
def byPrio (s : State) (l : List Nat) : List Nat := l.foldl (fun acc h => insertPrio s h acc) []

/-- The items of a step, layer-major (R22). -/
def stepItems (layers : Nat) (order : List Nat) : List Item :=
  ((List.range layers).map fun l => order.map fun h => ({ handle := h, layer := l } : Item)).flatten

/-- What becomes of one handle of the list (R173): none when it is kept. -/
def listedStatus (s : State) (seat part : Nat) (earlier : List Nat) (h : Nat) : Option Status :=
  match handleCheck s seat h with
  | some st => some st
  | none =>
    if (rtOf s h).part != part || earlier.contains h then some .invalid
    else match (rtOf s h).state with
      | .active => none
      | .full => some .capacity
      | _ => some .notReady

/-- Sort the list into kept handles and dropped ones, in list order (R173). -/
def sortList (s : State) (seat part : Nat) : List Nat → List Nat → List Nat × List (Nat × Status)
  | _, [] => ([], [])
  | earlier, h :: rest =>
    let (k, d) := sortList s seat part (earlier ++ [h]) rest
    match listedStatus s seat part earlier h with
    | none => (h :: k, d)
    | some st => (k, (h, st) :: d)

/-- The checks of R171: status and, where the rule gives one, VALUE. A partition unloaded under its rings cannot be named. -/
def openCheck (s : State) (seat ring : Nat) (b : List Byte) : Option (Status × Option Nat) :=
  let part := (ringOf s seat ring).part
  let p := s.parts.get part
  let deliver := recFlags b % 2 = 1
  let list := fld b 16 8
  let count := fld b 12 4
  if recSubject b != part then some (.invalid, none)
  else match p.state with
    | .draining | .swappingOut | .swappingIn =>
      some (.busy, some (swapValue s))
    | .swapped | .empty => some (.notReady, none)
    | .resident =>
      if p.body.mode = 1 || count = 0 || 16384 < count || !placedOk s seat list (4 * count) 64 || hdmDamaged s seat list (4 * count) ||
          !(match windowOf s seat (fld b 24 4) with
            | some w => w.kind = if deliver then 2 else 1
            | none => false) then some (.invalid, none)
      else if p.step.cond = .open_ || p.step.cond = .lapsed then some (.conflict, some p.stepNo)
      else if fld b 8 4 != p.stepNo then some (.conflict, some p.stepNo)
      else none

/-- The step a STEP_OPEN opens (R173–R175). -/
def openedStep (s : State) (seat ring tArrive : Nat) (b : List Byte) : StepSt :=
  let part := (ringOf s seat ring).part
  let wait := fld b 28 2
  let (kept, dropped) := sortList s seat part [] ((words32 s seat (fld b 16 8) (fld b 12 4)).getD [])
  let order := byPrio s kept
  { cond := .open_, ownerSeat := seat, ownerRing := ring, deliver := recFlags b % 2 = 1, sample := recFlags b / 2 % 2 = 1
    waitUs := if wait = 0 then 1000 else wait
    window := fld b 24 4
    kept := kept.map fun h => { handle := h, len := (rtOf s h).length }
    dropped := dropped, items := stepItems (s.parts.get part).body.layers order
    prio := ((order.head?).map fun h => (rtOf s h).prio).getD 0
    order := s.svc.opens, tOpen := tArrive }

/-- The completions of dropped handles, in list order (R173). -/
def dropComps (seat ring tArrive : Nat) : List (Nat × Status) → State → State
  | [], s => s
  | (h, st) :: rest, s =>
    let (v, s) := openValue s
    dropComps seat ring tArrive rest (postComp seat ring (compOf s seat ring 1 st v h tArrive) s)

/-- The draws of a sampling step that are settled at acceptance (R292, R294): requests without a window, then windows whose
header already names the step. -/
def acceptDraws (part : Nat) (s : State) : State :=
  let x := (s.parts.get part).step
  if !x.sample then s
  else
    let eddy := (x.kept.map (·.handle)).filter fun h => (rtOf s h).eddy
    let s := (eddy.filter fun h => (rtOf s h).logit.isNone).foldl (fun s h => noToken part h .invalid s.dev.devtime s) s
    ((byPrio s eddy).filter fun h => headerNames s h (s.parts.get part).stepNo).foldl (fun s h => queueDraw part h s) s

/-- A STEP_OPEN is checked, and opens its step or is refused (R171–R175). -/
def openStep (seat ring tArrive : Nat) (b : List Byte) (s : State) : State :=
  match openCheck s seat ring b with
  | some (st, v) =>
    let s := if st = .invalid then malformed seat ring (recSeq b) 0 s else s
    let (w, s) := match v with
      | some v => (v, s)
      | none => openValue s
    complete seat ring (compOf s seat ring 1 st w 0 tArrive) s
  | none =>
    let part := (ringOf s seat ring).part
    let x := openedStep s seat ring tArrive b
    let s := updPart part (fun p => { p with step := x }) { s with svc := { s.svc with opens := s.svc.opens + 1 } }
    let s := dropComps seat ring tArrive x.dropped s
    let s := complete seat ring (compOf s seat ring 1 .ok x.kept.length 0 tArrive) s
    pump (acceptDraws part s)

/-- A STEP_OPEN is held: its partition is CLOSING, or a global RWS write is pending (R6, R171). -/
def holdsOpen (s : State) (part : Nat) : Bool := globalPending s || (s.parts.get part).step.cond = .closing

/-- Release held STEP_OPEN records in posting order, as far as nothing holds them (R6, R171). -/
def releaseOpens : List HeldOpen → State → State
  | [], s => s
  | h :: rest, s =>
    if holdsOpen s h.part then releaseOpens rest { s with held := s.held ++ [h] }
    else releaseOpens rest (openStep h.seat h.ring h.tArrive h.record s)

/-- Release what may be released now. -/
def releaseHeldOpens (s : State) : State := releaseOpens s.held { s with held := [] }

/-- Idle gating ends with the next STEP_OPEN consumed (R546). -/
def wakeTiles (s : State) : State :=
  if s.svc.gate = .gated then { s with svc := { s.svc with gate := .waking } } else s

/-- STEP_OPEN (R171): the record at the ring's head is consumed, and held or served. -/
def execStepOpen (seat ring : Nat) (s : State) : Host.Outcome State Fault Refusal :=
  if 64 ≤ seat || 4 ≤ ring then .next s
  else match nextOfKind s seat ring (· == 1) with
    | none => .next s
    | some b =>
      let part := (ringOf s seat ring).part
      let s1 := wakeTiles (consume seat ring 1 s)
      .next (if holdsOpen s1 part then
          { s1 with held := s1.held ++ [{ seat := seat, ring := ring, part := part, tArrive := s.dev.devtime, record := b }] }
        else openStep seat ring s.dev.devtime b s1)

/-! ### Records of a step (R183–R185) -/

/-- How a record's step number is judged (R183). -/
def judgeStep (p : Part) (step : Nat) : Option Status :=
  if step < p.stepNo then some .late
  else if step != p.stepNo then some .invalid
  else match p.step.cond with
    | .open_ | .lapsed => none
    | .closing => some .late
    | .idle => some .invalid

/-- Index of an item of a step. -/
def itemIndex (x : StepSt) (h layer : Nat) : Option Nat := x.items.findIdx? fun it => it.handle = h && it.layer = layer

/-- Bytes of a request's query (Table 6-4). -/
def queryLen (b : LoadBody) : Nat := b.qHeads * b.headDim * 2

/-- Whether a record's addresses are good (R169, R184 check 6). -/
def recordPlaced (s : State) (seat part kind h : Nat) (b : List Byte) : Bool :=
  let p := s.parts.get part
  let w := ((windowOf s p.step.ownerSeat p.step.window).map (·.len)).getD 0
  if kind = 2 then placedOk s seat (fld b 16 8) (queryLen p.body) 64 && fld b 24 4 * 64 + resultLen p.body ≤ w
  else if kind = 3 then placedOk s seat (fld b 16 8) (2 * p.body.row) 64
  else
    let l := ((keptOf s part h).map (·.len)).getD 0
    fld b 16 8 % 4096 = 0 && fld b 16 8 + p.body.slice * ceilDiv l p.body.tokens ≤ w

/-- An earlier record of the same kind for the same request and layer (R184 check 7). -/
def recordSeen (s : State) (part kind h layer : Nat) : Bool :=
  let x := (s.parts.get part).step
  if kind = 3 then x.kept.any fun k => k.handle = h && k.seen.contains layer
  else x.items.any fun it => it.handle = h && it.layer = layer && it.rec?.isSome

/-- The checks of R184 on ATTEND, APPEND and DELIVER: a status, and whether R185 logs it. -/
def recordCheck (s : State) (seat ring kind : Nat) (b : List Byte) : Option (Status × Bool) :=
  let part := (ringOf s seat ring).part
  let p := s.parts.get part
  let h := recSubject b
  let layer := fld b 12 2
  match handleCheck s seat h with
  | some st => some (st, false)
  | none => match judgeStep p (fld b 8 4) with
    | some st => some (st, st = .invalid)
    | none =>
      if p.step.ownerSeat != seat || p.step.ownerRing != ring then some (.invalid, true)
      else if !(p.step.kept.any fun k => k.handle = h) then
        match p.step.dropped.find? fun d => d.1 = h with
        | some d => some (d.2, false)
        | none => some (.invalid, true)
      else if (kind = 2 && p.step.deliver) || (kind = 4 && !p.step.deliver) then some (.invalid, true)
      else if p.body.layers ≤ layer || !recordPlaced s seat part kind h b then some (.invalid, true)
      else if recordSeen s part kind h layer then some (.conflict, false)
      else if kind != 3 && (p.step.items.any fun it => it.handle = h && it.layer = layer && it.expired) then some (.late, false)
      else none

/-- A record of a step is consumed and refused, or takes effect. -/
def stepRecord (kind seat ring : Nat) (effect : List Byte → State → State) (s : State) : Host.Outcome State Fault Refusal :=
  if 64 ≤ seat || 4 ≤ ring then .next s
  else match nextOfKind s seat ring (· == kind) with
    | none => .next s
    | some b =>
      match recordCheck s seat ring kind b with
      | some (st, log) =>
        let s1 := consume seat ring 1 s
        let s1 := if log then malformed seat ring (recSeq b) (recSubject b) s1 else s1
        .next (complete seat ring (compOf s1 seat ring kind st (fld b 12 2) (recSubject b) s.dev.devtime) s1)
      | none => .next (effect b (consume seat ring 1 s))

/-- The record of an item is consumed (R180). -/
def takeRecord (seat ring off queryAt : Nat) (b : List Byte) (s : State) : State :=
  let part := (ringOf s seat ring).part
  match itemIndex (s.parts.get part).step (recSubject b) (fld b 12 2) with
  | none => s
  | some i =>
    pump (updItem part i (fun it => { it with
      rec? := some { off := off, tArrive := s.dev.devtime, queryAt := queryAt } }) s)

/-- ATTEND's effect: it is held to its item's turn (R26, R180). -/
def attendEffect (seat ring : Nat) (b : List Byte) (s : State) : State := takeRecord seat ring (fld b 24 4 * 64) (fld b 16 8) b s

/-- ATTEND (R180). -/
def execAttend (seat ring : Nat) (s : State) : Host.Outcome State Fault Refusal :=
  stepRecord 2 seat ring (attendEffect seat ring) s

/-- DELIVER (R180, R282). -/
def execDeliver (seat ring : Nat) (s : State) : Host.Outcome State Fault Refusal :=
  stepRecord 4 seat ring (fun b s => takeRecord seat ring (fld b 16 8) 0 b s) s

/-- Place of the K row and of the V row of a position of a request in a layer (R118–R120). -/
def rowPlaces (s : State) (part h layer pos : Nat) : Nat × Nat :=
  let b := (s.parts.get part).body
  let a := sliceAddr b layer (reachSlot s h (pos / b.tokens)) + pos % b.tokens * b.row
  (a, a + b.tokens * b.row)

/-- Write an APPEND's rows at position L, or hold the write at the ceiling's higher mark (R28, R181, R324). -/
def writeAppend (part h layer : Nat) (data : List Byte) (s : State) : State :=
  let b := (s.parts.get part).body
  let (k, v) := rowPlaces s part h layer (((keptOf s part h).map (·.len)).getD 0)
  let w : HeldWrite := { stepWork := true, target := .kv part, pieces := [(k, data.take b.row), (v, data.drop b.row)]
                         tag := .append h layer }
  if w.pieces.any fun x => heldAt s true w.target x.1 x.2.length then
    { s with tier := { s.tier with heldWrites := s.tier.heldWrites ++ [w] } }
  else appendWritten h layer (w.pieces.foldl (fun s x => putNow w.target x.1 x.2 s) s)

/-- APPEND's effect (R181): the rows are written and the completion space is released; rows that meet damaged data are not
written (log entry 42). -/
def appendEffect (seat ring : Nat) (b : List Byte) (s : State) : State :=
  let part := (ringOf s seat ring).part
  let h := recSubject b
  let layer := fld b 12 2
  let n := 2 * (s.parts.get part).body.row
  if hdmDamaged s seat (fld b 16 8) n then
    let s := readerFault s part h 2 .invalid
    complete seat ring (compOf s seat ring 3 .invalid layer h s.dev.devtime) s
  else
    let s := updKept part h (fun k => { k with seen := layer :: k.seen }) s
    releaseSpace seat ring (writeAppend part h layer ((hdmBytes s seat (fld b 16 8) n).getD []) s)

/-- APPEND (R181). -/
def execAppend (seat ring : Nat) (s : State) : Host.Outcome State Fault Refusal :=
  stepRecord 3 seat ring (appendEffect seat ring) s

/-! ### Closing a step (R192–R196) -/

/-- The checks of STEP_CLOSE (R192). -/
def closeCheck (s : State) (seat ring : Nat) (b : List Byte) : Option Status :=
  let part := (ringOf s seat ring).part
  let p := s.parts.get part
  if recSubject b != part then some .invalid
  else if p.step.cond != .idle && (p.step.ownerSeat != seat || p.step.ownerRing != ring) then some .invalid
  else judgeStep p (fld b 8 4)

/-- The partition is CLOSING (R192). -/
def closeStep (part : Nat) (byRecord : Bool) (s : State) : State :=
  pump (updPart part (fun p => { p with step := { p.step with cond := .closing, tClose := s.dev.devtime, closeRec := byRecord } }) s)

/-- STEP_CLOSE (R192). -/
def execStepClose (seat ring : Nat) (s : State) : Host.Outcome State Fault Refusal :=
  if 64 ≤ seat || 4 ≤ ring then .next s
  else match nextOfKind s seat ring (· == 5) with
    | none => .next s
    | some b =>
      let s1 := consume seat ring 1 s
      match closeCheck s seat ring b with
      | some st =>
        let s1 := if st = .invalid then malformed seat ring (recSeq b) 0 s1 else s1
        let (v, s1) := openValue s1
        .next (complete seat ring (compOf s1 seat ring 5 st v 0 s.dev.devtime) s1)
      | none => .next (closeStep (ringOf s seat ring).part true s1)

/-- CLOSE_STEP's own checks (R193). -/
def closeStepCheck (e : Env) (part : Nat) (s : State) : Option Reply :=
  let p := s.parts.get part
  if 15 < part then some (.of .invalid)
  else if p.state = .empty then some (.of .notFound)
  else if p.step.cond = .idle then some (.of .conflict)
  else if e.seat != 0 && p.step.ownerSeat != e.seat then some (.of .notFound)
  else none

/-- CLOSE_STEP's effect (R193): a step already CLOSING stays so. -/
def closeStepNow (part : Nat) (s : State) : State × Reply :=
  (if (s.parts.get part).step.cond = .closing then s else closeStep part false s, stagedNow s part)

/-- CLOSE_STEP (0xC302, R193). -/
def execCloseStep (e : Env) (part : Nat) (s : State) : Host.Outcome State Fault Refusal :=
  mailbox Op.closeStep e (.closeStep e part) [] (closeStepCheck e part) (closeStepNow part) s

/-- What QUERY_STEP returns (R196): condition, STEP_NO, owner, variant, SAMPLE, WAIT_US, requests kept, items, items that left,
items expired, and handle and layer of the item in service. -/
def stepBody (s : State) (part : Nat) : RespBody :=
  let p := s.parts.get part
  let x := p.step
  if x.cond = .idle then
    .fields [(1, 0), (4, p.stepNo), (1, 0), (1, 0), (1, 0), (1, 0), (2, 0), (4, 0), (4, 0), (4, 0), (4, 0), (4, 0), (2, 0)]
  else
    let it := match s.svc.inService with
      | some (q, i) => if q = part then itemOf s q i else none
      | none => none
    .fields [(1, x.cond.code), (4, p.stepNo), (1, x.ownerSeat), (1, x.ownerRing), (1, bit x.deliver), (1, bit x.sample), (2, x.waitUs),
      (4, x.kept.length), (4, x.items.length), (4, (x.items.filter (·.left)).length), (4, (x.items.filter (·.expired)).length),
      (4, (it.map (·.handle)).getD 0), (2, (it.map (·.layer)).getD 0)]

/-- QUERY_STEP (0xC303, R196). -/
def execQueryStep (e : Env) (part : Nat) (s : State) : Host.Outcome State Fault Refusal :=
  mailbox Op.queryStep e (.queryStep e part) []
    (fun s => if 15 < part then some (.of .invalid)
      else if (s.parts.get part).state = .empty then some (.of .notFound) else none)
    (fun s => (s, { body := stepBody s part })) s

/-! ### The step boundary (R194, R195) -/

/-- Requests that advanced although some layer has no APPEND (R191): the handle and the number of such layers. -/
def missingAppends (p : Part) : List (Nat × Nat) :=
  (p.step.kept.filter fun k => k.advanced && k.written.length < p.body.layers).map fun k => (k.handle, p.body.layers - k.written.length)

/-- The work of a step is done (R192, R195, R308): the step is CLOSING, every item has left, every draw has ended, and every APPEND has
been written. -/
def stepDone (s : State) (part : Nat) : Bool :=
  let x := (s.parts.get part).step
  x.cond = .closing && x.items.all (·.left) &&
    (!x.sample || x.kept.all fun k => k.drawDone || !(rtOf s k.handle).eddy) &&
    !(s.tier.heldWrites.any fun w => match w.tag with
      | .append h _ => (rtOf s h).part = part
      | _ => false)

/-- Completions of a boundary for which no space is reserved: those of R191, and the STEP_CLOSE's unless a record reserved it (R100). -/
def boundaryComps (p : Part) : Nat := (missingAppends p).length + bit (!p.step.closeRec)

/-- The boundary's completions have space (R104). -/
def boundarySpace (s : State) (part : Nat) : Bool :=
  let p := s.parts.get part
  canComplete s p.step.ownerSeat p.step.ownerRing (boundaryComps p)

/-- All of the boundary's completions can be written at once, so that each is written before what follows it (R191, R194, R445). -/
def boundaryFree (s : State) (part : Nat) : Bool :=
  let p := s.parts.get part
  compsFree s p.step.ownerSeat p.step.ownerRing ((missingAppends p).length + 1)

/-- The boundary of a step may run. -/
def boundaryDue (s : State) (part : Nat) : Bool := stepDone s part && boundarySpace s part && boundaryFree s part

/-- The completions of R191; T_ARRIVE is the STEP_OPEN's (log entry 38). -/
def missingComps (part : Nat) (s : State) : State :=
  let p := s.parts.get part
  (missingAppends p).foldl (fun s m =>
    postComp p.step.ownerSeat p.step.ownerRing
      { kind := 3, status := .invalid, value := m.2, handle := m.1, tArrive := p.step.tOpen, part := part, step := p.stepNo
        dStart := sat 32 (s.dev.devtime - p.step.tOpen) } s) s

/-- Token advances of a step. -/
def stepAdvances (p : Part) : List Nat := (p.step.kept.filter (·.advanced)).map (·.handle)

/-- Settle the ledger: one operation per tenant (R151, R153, R194). -/
def settleLedger (part : Nat) (s : State) : State :=
  let ts := (stepAdvances (s.parts.get part)).map fun h => (rtOf s h).tenant
  ts.eraseDups.foldl (fun s t => chargeTenant t (1000 * (ts.filter (· = t)).length) s) s

/-- Reaches that a token advance of the step completed are digested anew after the boundary (R277). -/
def dropDoneDigests (part : Nat) (s : State) : State :=
  let t := (s.parts.get part).body.tokens
  (stepAdvances (s.parts.get part)).foldl (fun s h =>
    let l := (rtOf s h).length
    if l % t = 0 then dropDigests part [reachSlot s h (l / t - 1)] s else s) s

/-- Requests of a partition with CANCEL = 1. -/
def cancelled (s : State) (part : Nat) : List Nat :=
  (s.rt.cells.filter fun c => c.2.part = part && c.2.state != .free && c.2.cancel).map fun c => handleOfRt s c.1

/-- Turn digests on or off (R276): the area is charged or released where it was not before, and every digest is invalid. -/
def applyDigests (part : Nat) (on : Bool) (s : State) : State :=
  let p := s.parts.get part
  let c : Charge := { seat := 0, part := part, frames := digestFrames p.body, seatFrames := false }
  updPart part (fun p => { p with digests := on, digestHeld := on, digestValid := [] })
    (if p.digestHeld = on then s else if on then chargeAcct c s else releaseAcct c s)

/-- Write a request's selection (R279). -/
def applySelect (h sel sink recent : Nat) (s : State) : State :=
  if handleCurrent s h then updRt h (fun e => { e with sel := sel, sink := sink, recent := recent }) s else s

/-- Place or remove a request's logit window (R290). -/
def applyLogit (h : Nat) (w : Option (Nat × Nat)) (s : State) : State :=
  if handleCurrent s h then updRt h (fun e => { e with logit := w }) s else s

/-- Commit what a boundary commits for its partition (R194 action 4). -/
def commitStaged (part : Nat) (s : State) : State :=
  let g := (s.parts.get part).staged
  let s := g.requests.foldl (fun s r => r.apply s) s
  let s := g.logit.foldl (fun s l => applyLogit l.1 l.2 s) s
  let s := g.select.foldl (fun s x => applySelect x.1 x.2.1 x.2.2.1 x.2.2.2 s) s
  let s := match g.digests with
    | some on => applyDigests part on s
    | none => s
  updPart part (fun p => { p with staged := { p.staged with requests := [], logit := [], select := [], digests := none } }) s

/-- Commit staged ring destructions of a partition but the owning ring's (R101, R194 action 5). -/
def destroyStaged (part : Nat) (owner : Nat × Nat) (s : State) : State :=
  ((partRings s part).filter fun r => r != owner && (ringOf s r.1 r.2).destroying).foldl (fun s r => freeRing r.1 r.2 s) s

/-- Action 6 of R194: STEP_NO rises, the STEP_CLOSE completion is written, and the owning ring's removal commits. -/
def finishStep (part advances : Nat) (unload : Bool) (s : State) : State :=
  let p := s.parts.get part
  let x := p.step
  let c : CompRec := { kind := 5, status := .ok, value := advances, handle := 0, tArrive := x.tClose, part := part, step := p.stepNo
                       dStart := sat 32 (s.dev.devtime - x.tClose) }
  let s := updPart part (fun p => { p with stepNo := (p.stepNo + 1) % 2 ^ 32, step := {} }) (produceComp x.closeRec x.ownerSeat x.ownerRing c s)
  if unload || (ringOf s x.ownerSeat x.ownerRing).destroying then freeRing x.ownerSeat x.ownerRing s else s

/-- When the device is idle, pending global writes commit (R6, R194 action 7). -/
def idleCommit (s : State) : State :=
  if deviceIdle s then releaseHeldOpens (commitGlobals s) else releaseHeldOpens s

/-- The actions of a step boundary in their order (R194). -/
def boundary (part : Nat) (s : State) : State :=
  let x := (s.parts.get part).step
  let owner := (x.ownerSeat, x.ownerRing)
  let n := (stepAdvances (s.parts.get part)).length
  let unload := (s.parts.get part).staged.unload
  let s := missingComps part s
  let s := dropDoneDigests part (settleLedger part s)
  let s := (cancelled s part).foldl (fun s h => freeRequest h s) s
  let s := startParks part s
  let s := commitStaged part s
  let s := destroyStaged part owner s
  let s := if unload.isSome then unloadNow part [owner] s else s
  let s := finishStep part n unload.isSome s
  let s := match unload with
    | some op => finishOp op .ok (emptyPart part s)
    | none => tryStartSwapOut part s
  let s := if deviceIdle s then { s with svc := { s.svc with idleSince := s.dev.devtime } } else s
  pump (idleCommit (boundaryCal s))

/-- STEP_BOUNDARY (R194): a boundary that waits only for the lines of its completions asks the hosts for them (R445). -/
def execStepBoundary (part : Nat) (s : State) : Host.Outcome State Fault Refusal :=
  if 16 ≤ part then .next s
  else if boundaryDue s part then .next (boundary part s)
  else if stepDone s part && boundarySpace s part then
    let p := s.parts.get part
    .next (askComps p.step.ownerSeat p.step.ownerRing ((missingAppends p).length + 1) s)
  else .next s

/-- IDLE_COMMIT (R6): at idle a pending global write commits and held STEP_OPEN records are released. -/
def execIdleCommit (s : State) : Host.Outcome State Fault Refusal :=
  if deviceIdle s && globalPending s then .next (idleCommit s) else .next s

/-- A write of STP_CQ_HEAD (R104): releases completion entries, or is ignored with CQ_HEAD_BAD. -/
def execStpCqHeadWrite (seat ring value : Nat) (s : State) : Host.Outcome State Fault Refusal :=
  if 64 ≤ seat || 4 ≤ ring then .next s
  else
    let r := ringOf s seat ring
    if !seatReached s seat then .next s
    else if ringUsed r.cqTail r.cqHead < ringUsed value r.cqHead then
      .next (logFault { unit := 5, index := seat, event := 10, action := 6, seat := seat }
        (updRing seat ring (fun r => { r with cqHeadBad := true }) s))
    else
      let s := updRing seat ring (fun r => { r with cqHead := value % 2 ^ 32 }) s
      .next (pump (drainBacklog seat ring (ringOf s seat ring).backlog s))

/-! ### Windows (R258–R261) -/

/-- A body breaks Table 9-3. -/
def badWindow (kind portMask base length : Nat) : Bool :=
  kind = 0 || 5 < kind || portMask = 0 || 255 < portMask || base % 4096 != 0 || 2 ^ 64 ≤ base || length % 4096 != 0 ||
    length < 4096 || 2 ^ 44 < length

/-- The lowest free window index of a seat (R259). -/
def freeWindow (t : Seat) (seat : Nat) : Nat :=
  ((List.range 256).find? fun i => !(t.windows.any fun w => w.id = seat * 65536 + (i + 1))).getD 0 + 1

/-- REGISTER_WINDOW (0xC304, R259). -/
def execRegisterWindow (e : Env) (kind portMask base length : Nat) (s : State) : Host.Outcome State Fault Refusal :=
  mailbox Op.registerWindow e (.registerWindow e kind portMask base length) []
    (fun s => if badWindow kind portMask base length then some (.of .invalid)
      else if 256 ≤ (s.seats.get e.seat).windows.length then some (.of .capacity) else none)
    (fun s =>
      let id := e.seat * 65536 + freeWindow (s.seats.get e.seat) e.seat
      (updSeat e.seat (fun t => { t with
        windows := t.windows ++ [{ id := id, kind := kind, mask := portMask, base := base, len := length }] }) s,
       .okFields [(4, id)])) s

/-- A window is named by an open step, a live step ring or an operation in progress (R260). -/
def windowInUse (s : State) (seat id : Nat) : Bool :=
  ((List.range 16).any fun p => let x := (s.parts.get p).step; x.cond != .idle && x.ownerSeat = seat && x.window = id) ||
  ((List.range 4).any fun k => let r := ringOf s seat k; r.live && r.cqPeer && r.cqWindow = id) ||
  (s.pulls.any fun p => p.seat = seat && p.window = id) ||
  (s.xfers.any fun x => x.seat = seat &&
    ((x.pool.any fun d => (d.srcWin && d.srcWindow = id) || (d.dstWin && d.dstWindow = id)) ||
     (x.stash.any fun d => d.win && d.window = id))) ||
  (s.pset.joinOp.isSome && seat = 0 && s.pset.members.any fun m => m.window = id)

/-- RELEASE_WINDOW (0xC305, R260). -/
def execReleaseWindow (e : Env) (window : Nat) (s : State) : Host.Outcome State Fault Refusal :=
  let seat := window / 65536
  mailbox Op.releaseWindow e (.releaseWindow e window) []
    (fun s => if 64 ≤ seat || (windowOf s seat window).isNone || (e.seat != 0 && seat != e.seat) then some (.of .notFound)
      else if windowInUse s seat window then some (.of .conflict) else none)
    (fun s => (updSeat seat (fun t => { t with windows := t.windows.filter fun w => w.id != window }) s, {})) s

/-! ### Digests and selections (R276–R279) -/

/-- SET_DIGESTS's own checks (R276). -/
def setDigestsCheck (part : Nat) (on : Bool) (s : State) : Option Reply :=
  let p := s.parts.get part
  if 15 < part then some (.of .invalid)
  else if p.state = .empty then some (.of .notFound)
  else if p.body.mode = 1 then some (.of .invalid)
  else if on && !p.digestHeld &&
      (!acctFits s 4 0 part (digestFrames p.body) || !acctFits s 5 0 part (digestFrames p.body)) then some (.of .capacity)
  else none

/-- SET_DIGESTS's effect (R276, R85). -/
def setDigests (part : Nat) (on : Bool) (s : State) : State × Reply :=
  let p := s.parts.get part
  if stepOpen s part then
    (updPart part (fun p => { p with staged := { p.staged with digests := some on } }) s, stagedNow s part)
  else (applyDigests part on s, {})

/-- SET_DIGESTS (0xC306, R276). -/
def execSetDigests (e : Env) (part : Nat) (on : Bool) (s : State) : Host.Outcome State Fault Refusal :=
  mailbox Op.setDigests e (.setDigests e part on) [] (setDigestsCheck part on) (setDigests part on) s

/-- SET_SELECTION's effect (R279, R158). -/
def setSelection (handle sel sink recent : Nat) (s : State) : State × Reply :=
  let t := rtOf s handle
  if stepOpen s t.part && (t.state = .prefill || t.state = .active || t.state = .full) then
    (updPart t.part (fun p => { p with staged := { p.staged with
        select := p.staged.select.filter (fun x => x.1 != handle) ++ [(handle, sel, sink, recent)] } }) s, stagedNow s t.part)
  else (applySelect handle sel sink recent s, {})

/-- SET_SELECTION (0xC307, R279). -/
def execSetSelection (e : Env) (handle sel sink recent : Nat) (s : State) : Host.Outcome State Fault Refusal :=
  mailbox Op.setSelection e (.setSelection e handle sel sink recent) []
    (onHandle e handle fun s =>
      if !(s.parts.get (rtOf s handle).part).digests || (sel != 0 && sel < sink + recent + 1) then some (.of .invalid) else none)
    (setSelection handle sel sink recent) s

/-- DIGEST_BUILD (R277, R341): Sluice builds the next slice digest of a partition. -/
def execDigestBuild (part : Nat) (s : State) : Host.Outcome State Fault Refusal :=
  if 16 ≤ part || bulkClosed s then .next s
  else match nextDigest s part with
    | some d => .next (updPart part (fun p => { p with digestValid := p.digestValid ++ [d] }) s)
    | none => .next s

end Sys2Proof.Machine
end

