-- ==== Sys2Proof/Machine/Eddy.lean ====
section
/-! DEFINITION. The Eddy sampler (chapter 10): the count set, the logit window, and the draw. -/

namespace Sys2Proof.Machine

/-! ### The count set (R286–R289) -/

/-- The bucket of a token (R287). -/
def countBucket (v : Nat) : Nat := (v % 4096) ^^^ (v / 4096 * 32)

/-- A token's COUNT; 0 without an entry. -/
def countOf (l : List (Nat × Nat)) (v : Nat) : Nat := (lookupKey v l).getD 0

/-- What recording a token does (R288). -/
inductive Recorded where
  | counted | saturated | overflowed
  deriving DecidableEq, Repr

/-- Record a token in a count set (R288). -/
def recordToken (l : List (Nat × Nat)) (v : Nat) : List (Nat × Nat) × Recorded :=
  if l.any fun x => x.1 = v then
    if countOf l v < 8191 then (updFirst (fun x => x.1 = v) (fun x => (x.1, x.2 + 1)) l, .counted) else (l, .saturated)
  else if 16 ≤ (l.filter fun x => countBucket x.1 = countBucket v).length then (l, .overflowed)
  else (l ++ [(v, 1)], .counted)

/-- The 64 bytes of a bucket (Table 10-3). -/
def bucketBytes (l : List (Nat × Nat)) (b : Nat) : List Byte :=
  padTo 64 ((l.filter fun x => countBucket x.1 = b).map fun x => leBytes 4 (x.1 * 8192 + x.2)).flatten

/-- The frame of the sampler state block that holds a token's bucket (R286). -/
def countFrame (h v : Nat) : FrameKey := .sampler (handleRti h) (countBucket v / 512)

/-- The count set may not be changed now (R289). -/
def countsBusy (s : State) (h : Nat) : Bool :=
  let e := rtOf s h
  e.state = .parking || e.state = .parked || e.state = .unparking || (stepOpen s e.part && (keptOf s e.part h).isSome)

/-- The checks every sampler command begins with (R285). -/
def onEddy (e : Env) (h : Nat) (own : State → Option Reply) (s : State) : Option Reply :=
  onHandle e h (fun s => if !(rtOf s h).eddy then some (.of .invalid) else own s) s

/-- LOAD_COUNTS (0xC601, R289). -/
def execLoadCounts (e : Env) (handle count list : Nat) (s : State) : Host.Outcome State Fault Refusal :=
  mailbox Op.loadCounts e (.loadCounts e handle count list) [.request handle]
    (onEddy e handle fun s =>
      if count = 0 || 65536 < count || !placedOk s e.seat list (4 * count) 64 then some (.of .invalid)
      else if countsBusy s handle then some (.of .conflict) else none)
    (startLong e (.loadCounts handle count list)) s

/-- Record a list of tokens: the set, and how many were recorded, saturated and overflowed (R289). -/
def recordList (l : List (Nat × Nat)) (ts : List Nat) : List (Nat × Nat) × Nat × Nat × Nat :=
  ts.foldl (fun x t =>
    if 524288 ≤ t then (x.1, x.2.1, x.2.2.1, x.2.2.2 + 1)
    else match recordToken x.1 t with
      | (l, .counted) => (l, x.2.1 + 1, x.2.2.1, x.2.2.2)
      | (l, .saturated) => (l, x.2.1, x.2.2.1 + 1, x.2.2.2)
      | (l, .overflowed) => (l, x.2.1, x.2.2.1, x.2.2.2 + 1)) (l, 0, 0, 0)

/-- Set a request's count set; the frames of the tokens named become DIRTY. -/
def putCounts (h : Nat) (l : List (Nat × Nat)) (named : List Nat) (s : State) : State :=
  (named.map (countFrame h)).eraseDups.foldl (fun s k => markDirty k s) (updRt h (fun e => { e with counts := l }) s)

/-- A CLEAR_COUNTS of the request waits for the ceiling; what records into its count set comes after it. -/
def clearHeld (s : State) (h : Nat) : Bool := s.tier.heldWrites.any fun w => w.tag = .clear h

/-- Why a LOAD_COUNTS that was accepted can no longer record: its request was parked with RELEASE, or is being or has been parked (log entry
116). -/
def loadLost (s : State) (h : Nat) : Option Status :=
  let e := rtOf s h
  if !handleCurrent s h then some .staleGeneration
  else if e.state = .parking || e.state = .parked || e.state = .unparking then some .conflict
  else none

/-- LOAD_COUNTS_COMPLETE (R289): Eddy records the list between draws, once the ceiling holds none of its writes (R324); a list that meets
damaged data ends the operation (log entry 42). -/
def execLoadCountsComplete (op : Nat) (s : State) : Host.Outcome State Fault Refusal :=
  match opOf s op with
  | none => .next s
  | some o => match o.kind with
    | .loadCounts h count list =>
      let ts := ((words32 s o.seat list count).getD []).filter (· < 524288)
      if !s.draws.isEmpty || !s.dev.memActive || clearHeld s h || ts.any (fun t => holdsWrite s true (countFrame h t)) then .next s
      else if (loadLost s h).isSome then .next (finishOp op ((loadLost s h).getD .conflict) s)
      else if hdmDamaged s o.seat list (4 * count) || (words32 s o.seat list count).isNone then
        .next (finishOp op .invalid (logFault { unit := 12, index := 68, event := 2, action := 6, seat := o.seat, handle := h, detail := Status.invalid.code } s))
      else
        let (l, n, sa, ov) := recordList (rtOf s h).counts ((words32 s o.seat list count).getD [])
        .next (finishOpWith op .ok (.fields [(4, n), (4, sa), (4, ov)]) { first := n, second := sa, handle := ov } (putCounts h l ts s))
    | _ => .next s

/-- Write every entry of a request's count set as 0, or hold the write at the ceiling (R289, R324). -/
def clearCounts (h : Nat) (s : State) : State :=
  let w : HeldWrite := { stepWork := true, target := .counts (handleRti h), pieces := (List.range 8).map fun i => (32768 * i, [0])
                         tag := .clear h }
  if w.pieces.any fun x => heldAt s true w.target x.1 x.2.length then
    { s with tier := { s.tier with heldWrites := s.tier.heldWrites ++ [w] } }
  else makeWrite w s

/-- CLEAR_COUNTS (0xC602, R289): every entry is written as 0. -/
def execClearCounts (e : Env) (handle : Nat) (s : State) : Host.Outcome State Fault Refusal :=
  mailbox Op.clearCounts e (.clearCounts e handle) [.request handle]
    (onEddy e handle fun s => if countsBusy s handle then some (.of .conflict) else none)
    (fun s => (clearCounts handle s, {})) s

/-- QUERY_COUNTS (0xC603, R289): buckets unchanged. -/
def execQueryCounts (e : Env) (handle first count : Nat) (s : State) : Host.Outcome State Fault Refusal :=
  mailbox Op.queryCounts e (.queryCounts e handle first count) []
    (onEddy e handle fun _ => if count = 0 || 1023 < count || 4096 < first + count then some (.of .invalid) else none)
    (fun s => (s, { body := .bytes ((List.range count).map fun i => bucketBytes (rtOf s handle).counts (first + i)).flatten })) s

/-! ### The logit window (R290–R294) -/

/-- Another logit window of the seat that an extent meets (R290). -/
def logitOverlap (s : State) (seat handle addr len : Nat) : Bool :=
  s.rt.cells.any fun c => c.2.state != .free && c.2.seat = seat && handleOfRt s c.1 != handle &&
    (match c.2.logit with
      | some w => overlaps addr len w.1 w.2
      | none => false)

/-- SET_LOGIT_WINDOW's own checks (R290). -/
def setLogitCheck (handle addr length : Nat) (s : State) : Option Reply :=
  let e := rtOf s handle
  if addr = 0 then none
  else if length % 64 != 0 || length < 64 + 2 * (s.parts.get e.part).body.vocab || !placedOk s e.seat addr length 64 then
    some (.of .invalid)
  else if logitOverlap s e.seat handle addr length then some (.of .conflict)
  else none

/-- SET_LOGIT_WINDOW's effect (R290). -/
def setLogit (handle addr length : Nat) (s : State) : State × Reply :=
  let part := (rtOf s handle).part
  let w := if addr = 0 then none else some (addr, length)
  if stepOpen s part && (keptOf s part handle).isSome then
    (updPart part (fun p => { p with staged := { p.staged with
        logit := p.staged.logit.filter (fun x => x.1 != handle) ++ [(handle, w)] } }) s, stagedNow s part)
  else (applyLogit handle w s, {})

/-- SET_LOGIT_WINDOW (0xC600, R290). -/
def execSetLogitWindow (e : Env) (handle addr length : Nat) (s : State) : Host.Outcome State Fault Refusal :=
  mailbox Op.setLogitWindow e (.setLogitWindow e handle addr length) []
    (onEddy e handle (setLogitCheck handle addr length)) (setLogit handle addr length) s

/-- The request whose logit window begins at an address of a seat. -/
def headerOwner (s : State) (seat addr : Nat) : Option Nat :=
  (s.rt.cells.find? fun c => c.2.state != .free && c.2.seat = seat && (match c.2.logit with
    | some w => w.1 = addr
    | none => false)).map fun c => handleOfRt s c.1

/-- A whole header is stored: written, or held by the ceiling with its completion (R292, R324). -/
def acceptHeader (seat addr h : Nat) (data : List Byte) (s : State) : State :=
  let cmp := fun s => emit (.memCmp seat addr 0 (seatDevLoad s seat)) s
  match regionAt s seat addr 64 with
  | none => cmp s
  | some r =>
    let off := addr - r.base
    if heldAt s false (.region r.id) off 64 then holdWrite false (.region r.id) off data (.header seat h addr (fld data 0 4)) s
    else
      let s := putNow (.region r.id) off data (cmp s)
      if becomesReady s h (fld data 0 4) then queueDraw (rtOf s h).part h s else s

/-- A store into a logit window header (R292). -/
def headerStore (seat addr h : Nat) (full : Bool) (data : List Byte) (s : State) : State :=
  let s := countTraffic seat 0 data.length s
  let s1 := emit (.memCmp seat addr 0 (seatDevLoad s seat)) s
  if !s.dev.memActive || s.flt.sable then closedWrite seat addr s1
  else if !full || data.length != 64 then
    logFault { unit := 5, index := seat, event := 10, action := 6, seat := seat, part := (rtOf s h).part, handle := h, location := addr } s1
  else acceptHeader seat addr h data s

/-- LOGIT_HEADER_STORE (R292): a seat's store to the header of a logit window. -/
def execLogitHeaderStore (seat addr : Nat) (full : Bool) (data : List Byte) (s : State) : Host.Outcome State Fault Refusal :=
  if 64 ≤ seat then .next s
  else match headerOwner s seat addr with
    | none => .next s
    | some h => if !seatReached s seat then .next s else .next (headerStore seat addr h full data s)

/-! ### Scaling and weights (R295, R296, R299) -/

/-- A finite FP32 value lies within a relative 2^−16 of ± n / d × 2^exp. -/
def scaleBound (v : Nat) (neg : Bool) (n d : Nat) (exp : Int) : Bool :=
  match fpNum v with
  | .fin x =>
    let e := min x.exp exp
    let a : Nat := x.mant * d * 2 ^ (x.exp - e).toNat
    let b : Nat := n * 2 ^ (exp - e).toNat
    x.neg = neg && (if a < b then b - a else a - b) * 65536 ≤ b
  | _ => false

/-- ± n / d × 2^exp rounded to nearest FP32. -/
def scaleExact (neg : Bool) (n d : Nat) (exp : Int) : Nat :=
  roundFp neg (n * 2 ^ 64 / d * 2 + bit (n * 2 ^ 64 % d != 0)) (exp - 65)

/-- The value the scaling unit gives: the free one where it keeps the bound, else the exact value rounded (R296). -/
def scaleValue (div : Bool) (a b : Nat) (neg : Bool) (n d : Nat) (exp : Int) : Nat :=
  let v := (Config.eddyScale (bit div) a b).toNat
  if scaleBound v neg n d exp then v else scaleExact neg n d exp

/-- A product of two FP32 values in the scaling unit; special values as in R242. -/
def eddyMul (a b : Nat) : Nat :=
  match fpNum a, fpNum b with
  | .nan, _ => fpNan
  | _, .nan => fpNan
  | .inf x, .inf y => fpInf (x != y)
  | .inf x, .fin y => if y.mant = 0 then fpNan else fpInf (x != y.neg)
  | .fin x, .inf y => if x.mant = 0 then fpNan else fpInf (x.neg != y)
  | .fin x, .fin y =>
    if x.mant = 0 || y.mant = 0 then signBit (x.neg != y.neg)
    else scaleValue false a b (x.neg != y.neg) (x.mant * y.mant) 1 (x.exp + y.exp)

/-- A quotient by a finite, positive FP32 value. -/
def eddyDiv (a b : Nat) : Nat :=
  match fpNum a, fpNum b with
  | .fin x, .fin y =>
    if x.mant = 0 then signBit (x.neg != y.neg) else scaleValue true a b (x.neg != y.neg) x.mant y.mant (x.exp - y.exp)
  | .inf x, .fin y => fpInf (x != y.neg)
  | _, _ => fpNan

/-- α × c; exact where c is a power of two (R296). -/
def eddyTimes (alpha c : Nat) : Nat :=
  if 2 ^ Nat.log2 c = c then
    match fpNum alpha with
    | .fin d => roundFp d.neg (d.mant * c) d.exp
    | .inf n => fpInf n
    | .nan => fpNan
  else eddyMul alpha (roundFp false c 0)

/-- FP32 one. -/
def fpOne : Nat := 0x3F800000

/-- The parameters of a header (Table 10-4). -/
structure LogitParams where
  format : Nat
  count : Nat
  temp : Nat
  topK : Nat
  topP : Nat
  minP : Nat
  rep : Nat
  freq : Nat
  pres : Nat
  deriving DecidableEq, Repr

/-- Read them from a header's bytes. -/
def logitParams (b : List Byte) : LogitParams :=
  { format := fld b 4 1, count := fld b 8 4, temp := fld b 12 4, topK := fld b 16 2, topP := fld b 20 4, minP := fld b 24 4
    rep := fld b 28 4, freq := fld b 32 4, pres := fld b 36 4 }

/-- Element size of a logit format. -/
def logitSize (f : Nat) : Nat := if f = 0 then 4 else 2

/-- TEMP is 0. -/
def LogitParams.greedy (p : LogitParams) : Bool := fpKey p.temp = 0

/-- FP32 lies between two bounds, given as FP32. -/
def fpIn (x lo hi : Nat) : Bool := !fpIsNan x && fpKey lo ≤ fpKey x && fpKey x ≤ fpKey hi

/-- The header keeps Table 10-4 (R294). -/
def LogitParams.valid (p : LogitParams) (vocab len : Nat) : Bool :=
  p.format ≤ 2 && p.count = vocab && 64 + logitSize p.format * p.count ≤ len &&
  (!fpIsNan p.temp && (p.greedy || fpIn p.temp 0x37800000 0x43800000)) && p.topK ≤ 2048 &&
  (fpIn p.topP 0 fpOne && fpKey p.topP != 0) && (fpIn p.minP 0 fpOne && fpKey p.minP != fpKey fpOne) &&
  (fpIn p.rep 0 0x41800000 && fpKey p.rep != 0) && fpIn p.freq 0xC4800000 0x44800000 && fpIn p.pres 0xC4800000 0x44800000

/-- A penalty is active (R295). -/
def LogitParams.penalised (p : LogitParams) : Bool := p.rep != fpOne || fpKey p.freq != 0 || fpKey p.pres != 0

/-- Truncation is active (R298). -/
def LogitParams.truncates (p : LogitParams) : Bool := p.topK != 0 || p.topP != fpOne || 0 < fpKey p.minP

/-- A logit as FP32 (R291, R295). -/
def logitFp (format x : Nat) : Nat := (elemNum format x).fp

/-- One penalised, scaled logit; NaN becomes −∞ (R295, R297). -/
def penalise (p : LogitParams) (z c : Nat) : Nat :=
  let z := if c ≥ 1 && p.rep != fpOne then (if 0 < fpKey z && !fpIsNan z then eddyDiv z p.rep else eddyMul z p.rep) else z
  let z := if c ≥ 1 && fpKey p.freq != 0 then fpSub z (eddyTimes p.freq c) else z
  let z := if c ≥ 1 && fpKey p.pres != 0 then fpSub z p.pres else z
  let z := if p.greedy then z else eddyDiv z p.temp
  if fpIsNan z then fpInf true else z

/-- Penalised logits in ascending token order. -/
def penalised (p : LogitParams) (counts : List (Nat × Nat)) (data : List Byte) : List (Nat × Nat) :=
  let e := logitSize p.format
  (List.range p.count).map fun i =>
    (i, penalise p (logitFp p.format (fld data (e * i) e)) (if p.penalised then countOf counts i else 0))

/-- Insert a candidate: higher logits first, ties to the lower token (R298). -/
def insertCand (x : Nat × Nat) : List (Nat × Nat) → List (Nat × Nat)
  | [] => [x]
  | y :: rest => if fpKey y.2 < fpKey x.2 then x :: y :: rest else y :: insertCand x rest

/-- The best `k` of a list in ascending token order (R298). -/
def bestOf (k : Nat) (l : List (Nat × Nat)) : List (Nat × Nat) := l.foldl (fun acc x => (insertCand x acc).take k) []

/-- How far a finite logit lies below the highest, in 2^−64, rounded down. -/
def logitGap (z zmax : Nat) : Nat :=
  match fpNum z, fpNum zmax with
  | .fin a, .fin b => (b.at (-149) - a.at (-149)).toNat / 2 ^ 85
  | _, _ => 0

/-- e^(−d / 2^64) in 2^−96, to within 2^−62: the series at d / 64, squared six times; below 0.23 × 2^−31 it is 0. -/
def antilog (d : Nat) : Nat :=
  if 23 * 2 ^ 64 ≤ d then 0
  else
    let one := 2 ^ 96
    let e := (List.range 24).foldl (fun acc i => one - d * 2 ^ 26 * acc / (one * (24 - i))) one
    (List.range 6).foldl (fun a _ => a * a / one) e

/-- A weight W comes from a w within relative 2^−16 of e^(z − z_max), given in 2^−96 to within 2^−62 (R299). -/
def weightBound (e w : Nat) : Bool :=
  w * 2 ^ 65 ≤ (e + 2 ^ 34) * (2 ^ 16 + 1) / 2 ^ 16 + 2 ^ 64 && (e - 2 ^ 34) * (2 ^ 16 - 1) / 2 ^ 16 ≤ w * 2 ^ 65 + 2 ^ 64

/-- The integer weight of a logit below the highest (R299): the highest has 2^31; for another the free value where it keeps the bound, else
the exact one rounded. -/
def eddyWeight (z zmax : Nat) : Nat :=
  if fpKey z = fpKey zmax then 2 ^ 31
  else
    let e := antilog (logitGap z zmax)
    let v := (Config.eddyWeight z zmax).toNat
    min (if weightBound e v then v else (e + 2 ^ 64) / 2 ^ 65) (2 ^ 31)

/-- A positive FP32 value times a whole number, rounded up (R299). -/
def fpCeilMul (x n : Nat) : Nat :=
  match fpNum x with
  | .fin d => if 0 ≤ d.exp then d.mant * n * 2 ^ d.exp.toNat else ceilDiv (d.mant * n) (2 ^ (-d.exp).toNat)
  | _ => 0

/-- Sum of the weights of a list. -/
def weightSum (l : List (Nat × Nat)) : Nat := (l.map (·.2)).sum

/-- The shortest leading run whose running sum reaches a mark. -/
def runTo (mark : Nat) : Nat → List (Nat × Nat) → List (Nat × Nat)
  | _, [] => []
  | acc, x :: rest => if mark ≤ acc + x.2 then [x] else x :: runTo mark (acc + x.2) rest

/-- The kept set with its weights (R298–R300): token and weight. -/
def keptSet (p : LogitParams) (zs : List (Nat × Nat)) : List (Nat × Nat) :=
  let fin := zs.filter fun x => x.2 != fpInf true
  if p.truncates then
    let cand := bestOf (if p.topK = 0 then 2048 else p.topK) fin
    let zmax := (cand.headD (0, 0)).2
    let w := cand.map fun x => (x.1, eddyWeight x.2 zmax)
    let a := runTo (fpCeilMul p.topP (weightSum w)) 0 w
    let b := w.takeWhile fun x => fpCeilMul p.minP (2 ^ 31) ≤ x.2
    w.take (max 1 (min a.length b.length))
  else
    let zmax := ((bestOf 1 fin).headD (0, 0)).2
    fin.map fun x => (x.1, eddyWeight x.2 zmax)

/-- Pick by inverse distribution (R301). -/
def pickToken (t : Nat) : Nat → List (Nat × Nat) → Option Nat
  | _, [] => none
  | run, x :: rest => if t < run + x.2 then some x.1 else pickToken t (run + x.2) rest

/-- What a draw decides: the token, GREEDY and FULLVOCAB. -/
structure Drawn where
  token : Nat
  greedy : Bool
  full : Bool
  deriving DecidableEq, Repr

/-- The 64-bit value of the purpose-0 stream (R252, R253, R301). -/
def drawU (s : State) (h step len : Nat) : Nat :=
  let e := rtOf s h
  let key := if e.seeded then e.seed else streamKey (saltInUse s) 0 h
  leNat ((philox key 0 0 (if e.seeded then 0 else step) len).take 8)

/-- The draw over penalised logits (R297–R303); none when every logit is −∞. -/
def drawToken (p : LogitParams) (u : Nat) (zs : List (Nat × Nat)) : Option Drawn :=
  match zs.find? fun x => x.2 = fpInf false with
  | some x => some { token := x.1, greedy := true, full := false }
  | none =>
    match bestOf 1 (zs.filter fun x => x.2 != fpInf true) with
    | [] => none
    | best :: _ =>
      if p.greedy then some { token := best.1, greedy := true, full := false }
      else
        let k := keptSet p zs
        (pickToken (u * weightSum k / 2 ^ 64) 0 k).map fun t => { token := t, greedy := false, full := !p.truncates }

/-! ### One draw (R304–R308) -/

/-- The window's data or the count set a draw reads is damaged (R307, R588). -/
def drawDamaged (s : State) (h addr : Nat) (p : LogitParams) : Bool :=
  hdmDamaged s (rtOf s h).seat addr (64 + logitSize p.format * p.count) ||
    (p.penalised && (List.range 8).any fun i => frameDamaged s (.sampler (handleRti h) i))

/-- The outcome of a draw as it leaves the queue: a token, or none and why (R294, R297, R307); damage is told apart. -/
def drawOutcome (s : State) (d : Draw) : Option Drawn × Bool :=
  let e := rtOf s d.handle
  match e.logit, logitHeader s d.handle with
  | some w, some b =>
    let p := logitParams b
    if hdmDamaged s e.seat w.1 64 then (none, true)
    else if !p.valid (s.parts.get e.part).body.vocab w.2 then (none, false)
    else if drawDamaged s d.handle w.1 p then (none, true)
    else
      let data := (hdmBytes s e.seat (w.1 + 64) (logitSize p.format * p.count)).getD []
      (drawToken p (drawU s d.handle d.step e.length) (penalised p e.counts data), false)
  | _, _ => (none, false)

/-- VALUE of a token completion (Table 10-6). -/
def drawValue (x : Drawn) (r : Recorded) : Nat :=
  bit x.full * 2 ^ 22 + bit x.greedy * 2 ^ 21 + bit (r = .overflowed) * 2 ^ 20 + bit (r = .saturated) * 2 ^ 19 + x.token

/-- A held write of the request's window has not been made yet. -/
def windowHeld (s : State) (h : Nat) : Bool :=
  match (rtOf s h).logit with
  | none => false
  | some w => match regionAt s (rtOf s h).seat w.1 w.2 with
    | none => false
    | some r => s.tier.heldWrites.any fun x =>
        x.target = .region r.id && x.pieces.any fun q => overlaps q.1 q.2.length (w.1 - r.base) w.2

/-- A draw with a token ends (R31, R189, R306): the count set, then LENGTH, then the completion. -/
def endDraw (d : Draw) (x : Drawn) (s : State) : State :=
  let st := (s.parts.get d.part).step
  let (l, r) := recordToken (rtOf s d.handle).counts x.token
  let s := if r = .counted then putCounts d.handle l [x.token] s else s
  let s := updKept d.part d.handle (fun k => { k with drawDone := true, advanced := true }) (advanceLength d.handle s)
  postComp st.ownerSeat st.ownerRing
    { kind := 1, status := .ok, value := drawValue x r, handle := d.handle, tArrive := st.tOpen, part := d.part, step := d.step
      dStart := sat 32 (s.dev.devtime - st.tOpen) } s

/-- DRAW (R301): Eddy takes the first queued draw; it waits while its completion or its count-set write has no room, or a held
write covers its window. -/
def execDraw (s : State) : Host.Outcome State Fault Refusal :=
  match s.draws with
  | [] => .next s
  | d :: rest =>
    let st := (s.parts.get d.part).step
    let out := drawOutcome s d
    if !s.dev.memActive || s.flt.sable || !canComplete s st.ownerSeat st.ownerRing 1 || windowHeld s d.handle || clearHeld s d.handle then .next s
    else match out.1 with
      | some x =>
        if holdsWrite s true (countFrame d.handle x.token) then .next s
        else .next (endDraw d x { s with draws := rest })
      | none =>
        let s1 := noToken d.part d.handle .invalid s.dev.devtime { s with draws := rest }
        .next (if out.2 then readerFault s1 d.part d.handle 2 .invalid else s1)

end Sys2Proof.Machine
end

