-- ==== Sys2Proof/Machine/Regions.lean ====
section
/-! DEFINITION. Pool regions (§16.2), the key slots (§16.3) and the pool limits (§16.4). -/

namespace Sys2Proof.Machine

/-! ### Allocation (R463, R464) -/

/-- The flag combinations of Table 11-3 (R312). -/
def placementOk (b : RegionBody) : Bool :=
  bit b.resident + bit b.parkable + bit b.stash = 1 &&
    (if b.resident then !(b.shared && b.protected_) && !b.parity else !b.shared && !b.mirrored)

/-- Check 1: the body. -/
def regionBodyOk (s : State) (b : RegionBody) : Bool :=
  placementOk b && (b.part ≤ 15 || b.part = 255) && (!b.protected_ || b.keySlot ≤ 4095) && b.base % 2 ^ 21 = 0 && b.size % 2 ^ 21 = 0 &&
    2 ^ 21 ≤ b.size && (!(b.mirrored || b.parity) || s.pset.phase = .formed)

/-- Check 2: the extent lies in the seat's range of the right kind (R462). -/
def rangeOk (s : State) (seat : Nat) (shared : Bool) (base size : Nat) : Bool :=
  base + size ≤ (if shared then seatAlloc s seat else seatHdmH s seat) && (!shared || seatHdmH s seat ≤ base)

/-- Check 3: the extent meets a region, a KV window or an attachment of the seat. -/
def rangeTaken (s : State) (seat base size : Nat) : Bool :=
  (s.regions.any fun r => r.seat = seat && overlaps base size r.base r.size) ||
  ((s.seats.get seat).kvWindows.any fun w => overlaps base size w.2 (kvSpace (s.parts.get w.1).body)) ||
  s.regions.any fun r => r.attached.any fun a => a.1 = seat && overlaps base size a.2 r.size

/-- Map units of the parity space (R488). -/
def parityUnits (s : State) : Nat := s.pset.parityGb * 10 ^ 9 / 65536

/-- Data units of this member in the parity space: PARITY_GB × (N − 1) / N (R488). -/
def parityDataUnits (s : State) : Nat := parityUnits s * (s.pset.n - 1) / max 1 s.pset.n

/-- Map units of PARITY homes fit in the data space (Table 16-4). -/
def parityFits (s : State) (n : Nat) : Bool := s.pset.charged + n ≤ parityDataUnits s

/-- What a region charges (R466). -/
def regionCharge (seat : Nat) (b : RegionBody) : Charge :=
  { seat := seat, part := b.part, frames := b.size / 32768, homes := if b.parity then 0 else b.size / 65536 }

/-- Regions a seat holds. -/
def seatRegions (s : State) (seat : Nat) : Nat := (s.regions.filter fun r => r.seat = seat).length

/-- Check 6: the ACCOUNT of Table 16-4 that is short; 0x11 shows only with the partner's answer (R487). -/
def regionShort (s : State) (seat : Nat) (b : RegionBody) : Option Nat :=
  match shortAccount s (regionCharge seat b) with
  | some a => some a
  | none =>
    if (s.seats.get seat).limits.regions ≤ seatRegions s seat || 65536 ≤ s.regions.length then some 0x10
    else if b.parity && !parityFits s (b.size / 65536) then some 0x12 else none

/-- A key slot of a seat, LOADED (R472). -/
def loadedSlot (s : State) (seat slot : Nat) : Option KeySlot :=
  s.keySlots.find? fun k => k.slot = slot && k.owner = seat && k.loaded

/-- ALLOCATE_REGION's own checks (R463). -/
def allocateCheck (e : Env) (b : RegionBody) (s : State) : Option Reply :=
  if !regionBodyOk s b then some (.of .invalid)
  else if !rangeOk s e.seat b.shared b.base b.size then some (.of .invalid)
  else if rangeTaken s e.seat b.base b.size then some (.of .conflict)
  else if b.protected_ && (loadedSlot s e.seat b.keySlot).isNone then some (.of .notFound)
  else if b.part != 255 && (s.parts.get b.part).state = .empty then some (.of .notFound)
  else if b.stash && (b.part = 255 || (s.parts.get b.part).body.mode != 1) then some (.of .invalid)
  else (regionShort s e.seat b).map capacityReply

/-- The next REGION_ID: E × 2^16 + n, with a new E when n reaches 65,536 (R464). -/
def takeRegionId (s : State) : State × Nat :=
  let (s, e, n) := if s.flash.regionN = 65536 then
      let (s, v) := takeEpoch s
      (s, v, 0)
    else (s, s.flash.regionE, s.flash.regionN)
  ({ s with flash := { s.flash with regionE := e, regionN := n + 1 } }, e * 2 ^ 16 + n)

/-- The region a body describes. -/
def regionOfBody (s : State) (seat id : Nat) (b : RegionBody) : Region :=
  { id := id, seat := seat, resident := b.resident, parkable := b.parkable, shared := b.shared, protected_ := b.protected_
    mirrored := b.mirrored, parity := b.parity, noCompress := b.noCompress, stash := b.stash
    kcv := ((loadedSlot s seat b.keySlot).map (·.kcv)).getD 0, part := b.part, keySlot := b.keySlot, base := b.base, size := b.size
    st := .zeroFilling
    shoal := if b.stash && !b.protected_ && !b.noCompress then classOfFormat (s.parts.get b.part).body.format else 0 }

/-- Charge a region: its accounts, and its homes in the parity space with PARITY (R466, R488). -/
def chargeRegion (seat : Nat) (b : RegionBody) (s : State) : State :=
  let s := chargeAcct (regionCharge seat b) s
  if b.parity then chargeHomes true (b.size / 65536) s else s

/-- Ask the partner for a region's replica (R487). -/
def reserveReplica (r : Region) (s : State) : State :=
  if r.mirrored then
    sendEntry (partnerIx s) { kind := .reserve, cls := (s.seats.get r.seat).limits.cls, target := r.id, size := r.size
                              uses := [.replica r.id] } s
  else s

/-- ALLOCATE_REGION's effect: the response carries the REGION_ID, and zero-filling starts (R464). -/
def allocateRegion (e : Env) (b : RegionBody) (s : State) : State × Reply :=
  let (s, id) := takeRegionId s
  let r := regionOfBody s e.seat id b
  let s := chargeRegion e.seat b { s with regions := s.regions ++ [r] }
  let (s, a) := startLong e (.allocRegion id) (reserveReplica r s)
  (s, { a with body := .fields [(8, id)] })

/-- ALLOCATE_REGION (0xC700, R463). -/
def execAllocateRegion (e : Env) (b : RegionBody) (s : State) : Host.Outcome State Fault Refusal :=
  mailbox Op.allocateRegion e (.allocateRegion e b) [] (allocateCheck e b) (allocateRegion e b) s

/-- A region's replica has not been answered for yet. -/
def replicaWaits (s : State) (id : Nat) : Bool :=
  s.pset.members.any fun m =>
    (m.waiting.any fun x => x.2.2.uses.contains (.replica id)) || m.queued.any fun x => x.uses.contains (.replica id)

/-- A write of an operation still waits for the ceiling. -/
def xferHeld (s : State) (op : Nat) : Bool := s.tier.heldWrites.any fun w => w.tag = .xfer op

/-- Work of the POOL queue that can go on now: a zero-fill whose replica is reserved, or a pool operation none of whose writes is held (R341,
R464). -/
def poolReady (s : State) (o : Op) : Bool :=
  match o.kind with
  | .allocRegion id => !replicaWaits s id
  | .poolOp => !xferHeld s o.n
  | _ => false

/-- REGION_ZERO_FILL_COMPLETE (R341, R464): zero-filling has ended, and the replica is reserved. -/
def execRegionZeroFillComplete (op : Nat) (s : State) : Host.Outcome State Fault Refusal :=
  match opOf s op with
  | some o => match o.kind with
    | .allocRegion id =>
      if !bulkTurn s (poolReady s) op then .next s
      else .next (finishOpBody op .ok (.fields [(8, id)]) (updRegion id (fun r => { r with st := .held }) s))
    | _ => .next s
  | none => .next s

/-! ### Freeing (R467) -/

/-- A region of the issuing seat, or of any seat from seat 0 (R470). -/
def regionFor (s : State) (seat id : Nat) : Option Region :=
  s.regions.find? fun r => r.id = id && r.st != .freeing && (seat = 0 || r.seat = seat)

/-- A logit window lies in a region. -/
def logitInRegion (s : State) (r : Region) : Bool :=
  s.rt.cells.any fun c => c.2.state != .free && c.2.seat = r.seat && (match c.2.logit with
    | some w => overlaps w.1 w.2 r.base r.size
    | none => false)

/-- HDM extents a pool descriptor names: address and length (Table 16-8). -/
def poolExtents (d : PoolDesc) : List (Nat × Nat) :=
  (if d.op != 1 && !d.srcWin then [(d.src, d.length)] else []) ++ (if d.dstWin then [] else [(d.dst, d.length)]) ++
    (if d.result = 0 then [] else [(d.result, 16)])

/-- HDM extents a stash descriptor names (Table 17-5). -/
def stashExtents (d : StashDesc) : List (Nat × Nat) :=
  (if d.op != 3 && !d.win then [(d.addr, d.length)] else []) ++ (if d.result = 0 then [] else [(d.result, 16)])

/-- An extent of a seat meets a region, in the owner's range or in an attachment. -/
def extentMeets (r : Region) (seat : Nat) (x : Nat × Nat) : Bool :=
  (r.seat = seat && overlaps x.1 x.2 r.base r.size) || r.attached.any fun a => a.1 = seat && overlaps x.1 x.2 a.2 r.size

/-- An operation in progress names a region. -/
def opNamesRegion (s : State) (r : Region) : Bool :=
  s.xfers.any fun x => (x.pool.any fun d => (poolExtents d).any (extentMeets r x.seat)) ||
    x.stash.any fun d => (stashExtents d).any (extentMeets r x.seat)

/-- FREE_REGION's own checks (R467). -/
def freeRegionCheck (e : Env) (id : Nat) (s : State) : Option Reply :=
  match regionFor s e.seat id with
  | none => some (.of .notFound)
  | some r =>
    if r.st != .held && r.st != .parked then some (regionBusy s id)
    else if ringInRegion s r || logitInRegion s r || !r.attached.isEmpty || opNamesRegion s r then some (.of .conflict)
    else none

/-- What a region holds against the accounts (R338, R466). -/
def heldCharge (r : Region) : Charge :=
  { seat := r.seat, part := r.part, frames := if r.st = .parked then 0 else r.size / 32768
    homes := if r.parity then 0 else r.size / 65536 }

/-- Release a region's charges; those of a parked one's frames were released before (R338, R466). -/
def releaseRegion (r : Region) (s : State) : State :=
  let s := releaseAcct (heldCharge r) s
  if r.parity then releaseHomes true (r.size / 65536) s else s

/-- A home unit belongs to a region. -/
def unitOfRegion (id : Nat) : UnitKey → Bool
  | .region i _ => i = id
  | _ => false

/-- Free the replica on the partner (R467, R487). -/
def freeReplica (r : Region) (s : State) : State :=
  if r.mirrored then sendEntry (partnerIx s) { kind := .reserve, cls := (s.seats.get r.seat).limits.cls, target := r.id, size := 0 } s
  else s

/-- Frames, homes, replica and record of a region go (R467). -/
def removeRegion (r : Region) (s : State) : State :=
  let s := freeHomes (unitOfRegion r.id) (dropFrames (frameOfRegion r.id) s)
  freeReplica r { s with
    regions := s.regions.filter fun x => x.id != r.id
    coh := { s.coh with dir := s.coh.dir.filter (fun x => x.region != r.id), done := s.coh.done.filter fun x => x.2.1 != r.id } }

/-- A region being freed, and a revoke, have nothing left to invalidate. -/
def regionQuiet (s : State) (id : Nat) : Bool :=
  !(s.coh.queue.any fun q => q.region = id) && !(s.coh.snoops.any fun n => n.region = id) &&
    !(s.coh.dir.any fun e => e.region = id && !(e.live s.coh.fenced).isEmpty)

/-- Invalidate every host that holds a line of a region (R467). -/
def invalidateRegion (id : Nat) (s : State) : State :=
  (s.coh.dir.filter fun e => e.region = id).foldl (fun s e => devInvalidate id e.line s) s

/-- End of a FREE_REGION. -/
def endFree (op : Nat) (r : Region) (s : State) : State :=
  finishOp op .ok (releaseWrites (removeRegion r (releaseRegion r s)))

/-! ### Grants and attachments (R468) -/

/-- Set a seat's MODE on a region; 0 removes the grant and the attachment. -/
def setGrant (id g mode : Nat) (s : State) : State :=
  updRegion id (fun r => { r with
    grants := r.grants.filter (fun x => x.1 != g) ++ (if mode = 0 then [] else [(g, mode)])
    attached := if mode = 0 then r.attached.filter fun x => x.1 != g else r.attached }) s

/-- Lines of a region a seat holds. -/
def heldLines (s : State) (id g : Nat) : List Nat :=
  (s.coh.dir.filter fun e => e.region = id && (e.live s.coh.fenced).contains g).map (·.line)

/-- Invalidate a seat's holdings of a region (R468). -/
def revokeLines (id g : Nat) (s : State) : State :=
  (heldLines s id g).foldl (fun s l =>
    if s.coh.queue.any fun q => q.region = id && q.line = l && q.op = .revoke g then s
    else cohAsk { who := none, op := .revoke g, region := id, line := l } s) s

/-- What the operations that wait for invalidations do next: end, or ask again for lines taken meanwhile. -/
def stepRegionOp (o : Op) (s : State) : State :=
  match o.kind with
  | .freeRegion id =>
    match regionOf s id with
    | some r => if r.st = .freeing && regionQuiet s id then endFree o.n { r with st := .held } s else s
    | none => s
  | .grantRegion id g mode =>
    if (heldLines s id g).isEmpty && !(s.coh.queue.any fun q => q.region = id && q.op = .revoke g) then
      finishOp o.n .ok (setGrant id g mode s)
    else revokeLines id g s
  | _ => s

/-- Operations that wait for invalidations go on (R467, R468). -/
def stepRegionOps (s : State) : State := (s.ops.filter fun o => o.done.isNone).foldl (fun s o => stepRegionOp o s) s

/-- After a directory event: the conflict queues are served, and what waited for a line goes on (R445, R448). -/
def cohSettle (s : State) : State := releaseRings (stepRegionOps (cohGo s))

/-- FREE_REGION's effect (R467). -/
def freeRegion (e : Env) (id : Nat) (s : State) : State × Reply :=
  match regionOf s id with
  | none => (s, .of .notFound)
  | some r =>
    let n := s.opCtr
    let (s, a) := startLong e (.freeRegion id) s
    if r.shared then
      (cohSettle (invalidateRegion id (updRegion id (fun r => { r with st := .freeing }) s)), a)
    else (endFree n r s, a)

/-- FREE_REGION (0xC701, R467). -/
def execFreeRegion (e : Env) (id : Nat) (s : State) : Host.Outcome State Fault Refusal :=
  mailbox Op.freeRegion e (.freeRegion e id) [.region id] (freeRegionCheck e id) (freeRegion e id) s

/-- Code of a region's state. -/
def RegionSt.code : RegionSt → Nat
  | .zeroFilling => 0 | .held => 1 | .parking => 2 | .parked => 3 | .unparking => 4 | .restoring => 5 | .freeing => 6

/-- FLAGS of a region (Table 16-3). -/
def Region.flags (r : Region) : Nat :=
  bit r.resident + 2 * bit r.parkable + 4 * bit r.stash + 8 * bit r.shared + 16 * bit r.protected_ + 32 * bit r.mirrored +
    64 * bit r.parity + 128 * bit r.noCompress

/-- What QUERY_REGION returns (log entry 46). -/
def regionBody (r : Region) : RespBody :=
  .fields [(1, r.flags), (1, r.part), (1, r.seat), (1, r.st.code), (1, bit r.degraded), (4, r.keySlot), (8, r.base), (8, r.size)]

/-- QUERY_REGION (0xC702, R461). -/
def execQueryRegion (e : Env) (id : Nat) (s : State) : Host.Outcome State Fault Refusal :=
  mailbox Op.queryRegion e (.queryRegion e id) []
    (fun s => if (regionFor s e.seat id).isSome then none else some (.of .notFound))
    (fun s => (s, match regionFor s e.seat id with
      | some r => { body := regionBody r }
      | none => .of .notFound)) s

/-- GRANT_REGION's own checks (R468). -/
def grantCheck (e : Env) (id g mode : Nat) (s : State) : Option Reply :=
  match regionFor s e.seat id with
  | none => some (.of .notFound)
  | some r => if !r.shared || 63 < g || g = r.seat || 2 < mode then some (.of .invalid) else none

/-- GRANT_REGION's effect: a lowered MODE waits for the seat's holdings to be invalidated (R468). -/
def grantRegion (e : Env) (id g mode : Nat) (s : State) : State × Reply :=
  let old := ((regionOf s id).map (·.mode g)).getD 0
  let n := s.opCtr
  let (s, a) := startLong e (.grantRegion id g mode) s
  if mode < old then (cohSettle (revokeLines id g s), a) else (finishOp n .ok (setGrant id g mode s), a)

/-- GRANT_REGION (0xC703, R468). -/
def execGrantRegion (e : Env) (id seat mode : Nat) (s : State) : Host.Outcome State Fault Refusal :=
  mailbox Op.grantRegion e (.grantRegion e id seat mode) [.region id] (grantCheck e id seat mode) (grantRegion e id seat mode) s

/-- ATTACH_REGION's own checks (R468). -/
def attachCheck (e : Env) (id base : Nat) (s : State) : Option Reply :=
  match s.regions.find? fun r => r.id = id && r.st != .freeing && r.mode e.seat != 0 with
  | none => some (.of .notFound)
  | some r =>
    if base % 2 ^ 21 != 0 || !rangeOk s e.seat true base r.size then some (.of .invalid)
    else if rangeTaken s e.seat base r.size || (lookupKey e.seat r.attached).isSome then some (.of .conflict) else none

/-- ATTACH_REGION (0xC704, R468). -/
def execAttachRegion (e : Env) (id base : Nat) (s : State) : Host.Outcome State Fault Refusal :=
  mailbox Op.attachRegion e (.attachRegion e id base) [.region id] (attachCheck e id base)
    (fun s => (updRegion id (fun r => { r with attached := r.attached ++ [(e.seat, base)] }) s, {})) s

/-- A seat's holdings of a region end without a snoop: the seat has given up its mapping (log entry 47). -/
def forgetHoldings (id g : Nat) (s : State) : State :=
  let s := (s.coh.snoops.filter fun n => n.region = id && n.seat = g).foldl (fun s n => closeSnoop n .i s) s
  updCoh (fun c => { c with dir := sweepFree (c.dir.map fun e =>
    if e.region = id then { e with holders := e.holders &&& ~~~seatBit g } else e) }) s

/-- DETACH_REGION (0xC705, R468). -/
def execDetachRegion (e : Env) (id : Nat) (s : State) : Host.Outcome State Fault Refusal :=
  mailbox Op.detachRegion e (.detachRegion e id) [.region id]
    (fun s => match (regionOf s id).bind fun r => lookupKey e.seat r.attached with
      | some _ => none
      | none => some (.of .notFound))
    (fun s => (cohSettle (updRegion id (fun r => { r with attached := r.attached.filter fun x => x.1 != e.seat })
      (forgetHoldings id e.seat s)), {})) s

/-! ### Pool limits (R475) -/

/-- A DB_SIZE would leave a region, KV window or attachment in a range of the other kind (R475). -/
def dbConflict (s : State) (seat dbSize : Nat) : Bool :=
  let h := seatAlloc s seat - min dbSize (seatAlloc s seat)
  (s.regions.any fun r => r.seat = seat && (if r.shared then r.base < h else h < r.base + r.size)) ||
  ((s.seats.get seat).kvWindows.any fun w => h < w.2 + kvSpace (s.parts.get w.1).body) ||
  s.regions.any fun r => r.attached.any fun a => a.1 = seat && a.2 < h

/-- SET_POOL_LIMITS' own checks (Table 16-7). -/
def poolLimitsCheck (seat cls maxRate maxOps keySlots regions dbSize : Nat) (s : State) : Option Reply :=
  if 63 < seat || 1 < cls || 120 < maxRate || maxOps = 0 || 16 < maxOps || 4096 < keySlots || 65536 < regions ||
      dbSize % (256 * 10 ^ 6) != 0 then some (.of .invalid)
  else if dbSize != (s.seats.get seat).limits.dbSize && dbConflict s seat dbSize then some (.of .conflict) else none

/-- SET_POOL_LIMITS' effect: a changed DB_SIZE rewrites the DSMAS entries (R50, R475). -/
def setPoolLimits (seat : Nat) (l : PoolLimits) (s : State) : State × Reply :=
  let old := (s.seats.get seat).limits.dbSize
  let s := updSeat seat (fun t => { t with limits := l }) s
  (match (s.seats.get seat).map with
    | some (p, d) => if old = l.dbSize then s else updLd p d (fun x => { x with cdatSeq := (x.cdatSeq + 1) % 2 ^ 32 }) s
    | none => s, {})

/-- SET_POOL_LIMITS (0xC706, R475). -/
def execSetPoolLimits (e : Env) (seat cls maxRate maxOps keySlots regions dbSize : Nat) (s : State) :
    Host.Outcome State Fault Refusal :=
  mailbox Op.setPoolLimits e (.setPoolLimits e seat cls maxRate maxOps keySlots regions dbSize) []
    (poolLimitsCheck seat cls maxRate maxOps keySlots regions dbSize)
    (setPoolLimits seat { cls := cls, maxRate := maxRate, maxOps := maxOps, keySlots := keySlots, regions := regions, dbSize := dbSize }) s

/-- QUERY_POOL_LIMITS (0xC707, R475). -/
def execQueryPoolLimits (e : Env) (seat : Nat) (s : State) : Host.Outcome State Fault Refusal :=
  mailbox Op.queryPoolLimits e (.queryPoolLimits e seat) []
    (fun _ => if 63 < seat then some (.of .invalid) else if e.seat != 0 && seat != e.seat then some (.of .notFound) else none)
    (fun s =>
      let l := (s.seats.get seat).limits
      (s, .okFields [(1, l.cls), (4, l.maxRate), (4, l.maxOps), (4, l.keySlots), (4, l.regions), (8, l.dbSize)])) s

/-! ### Key slots (R472, R473) -/

/-- State code of a key slot: 0 FREE, 1 EMPTY, 2 LOADED. -/
def slotState (k : Option KeySlot) : Nat :=
  match k with
  | none => 0
  | some k => if k.loaded then 2 else 1

/-- A key slot that is not FREE. -/
def keySlotOf (s : State) (slot : Nat) : Option KeySlot := s.keySlots.find? fun k => k.slot = slot

/-- The entries QUERY_KEY_SLOTS returns. -/
def keySlotEntries (s : State) (seat : Nat) : List (List (Nat × Nat)) :=
  if seat = 0 then (List.range 4096).map fun i =>
    let k := keySlotOf s i
    [(4, i), (1, slotState k), (4, (k.map (·.kcv)).getD 0)]
  else ((List.range 4096).filterMap (keySlotOf s)).filterMap fun k =>
    if k.owner = seat then some [(4, k.slot), (1, slotState (some k)), (4, k.kcv)] else none

/-- QUERY_KEY_SLOTS (0xC708, R473). -/
def execQueryKeySlots (e : Env) (s : State) : Host.Outcome State Fault Refusal :=
  mailbox Op.queryKeySlots e (.queryKeySlots e) [] (fun _ => none)
    (fun s => (s, { body := listBody 0 12 [] (keySlotEntries s e.seat) })) s

/-- A key message on an LD: within a secured session on the LD of a seat (R473). -/
def keyMessage (port ld : Nat) (secured : Bool) (f : Nat → State → State × List Nat) (s : State) : Host.Outcome State Fault Refusal :=
  onDoe port ld (fun s => match seatOfLd s port ld with
    | none => emit (.spdmError port ld spdmUnsupported) s
    | some n =>
      if !secureOn s port ld secured then emit (.spdmError port ld spdmUnsupported) s
      else
        let (t, d) := f n s
        emit (.spdm port ld 0 d) t) s

/-- INSTALL (Table 16-6): STATUS, SLOT and KCV. -/
def keyInstall (slot key1 key2 seat : Nat) (s : State) : State × List Nat :=
  let key1 := key1 % 2 ^ 256
  let key2 := key2 % 2 ^ 256
  let old := keySlotOf s slot
  if 4095 < slot then (s, [Status.invalid.code, slot, 0])
  else if (match old with | some k => k.loaded || k.owner != seat | none => false) then (s, [Status.conflict.code, slot, 0])
  else if key1 = key2 then (s, [Status.invalid.code, slot, 0])
  else if old.isNone && (s.seats.get seat).limits.keySlots ≤ (s.keySlots.filter fun k => k.owner = seat).length then
    (s, [Status.capacity.code, slot, 0])
  else
    let k : KeySlot := { slot := slot, owner := seat, loaded := true, key1 := key1, key2 := key2, kcv := kcvOf key1 }
    ({ s with keySlots := s.keySlots.filter (fun x => x.slot != slot) ++ [k] }, [Status.ok.code, slot, k.kcv])

/-- KEY_INSTALL (R473). -/
def execKeyInstall (port ld : Nat) (secured : Bool) (slot key1 key2 : Nat) (s : State) : Host.Outcome State Fault Refusal :=
  keyMessage port ld secured (keyInstall slot key1 key2) s

/-- ERASE (Table 16-6). -/
def keyErase (slot seat : Nat) (s : State) : State × List Nat :=
  match keySlotOf s slot with
  | none => (s, [Status.notFound.code, slot, 0])
  | some k =>
    if k.owner != seat then (s, [Status.notFound.code, slot, 0])
    else if s.regions.any fun r => r.protected_ && r.keySlot = slot then (s, [Status.conflict.code, slot, k.kcv])
    else ({ s with keySlots := s.keySlots.filter fun x => x.slot != slot }, [Status.ok.code, slot, 0])

/-- KEY_ERASE (R473). -/
def execKeyErase (port ld : Nat) (secured : Bool) (slot : Nat) (s : State) : Host.Outcome State Fault Refusal :=
  keyMessage port ld secured (keyErase slot) s

/-- QUERY (Table 16-6): STATUS, SLOT, KCV and the state; another seat's slot is not found (R470). -/
def keyQuery (slot seat : Nat) (s : State) : State × List Nat :=
  if 4095 < slot then (s, [Status.invalid.code, slot, 0, 0])
  else match keySlotOf s slot with
    | none => (s, [Status.ok.code, slot, 0, 0])
    | some k =>
      if k.owner = seat || seat = 0 then (s, [Status.ok.code, slot, k.kcv, slotState (some k)])
      else (s, [Status.notFound.code, slot, 0, 0])

/-- KEY_QUERY (R473). -/
def execKeyQuery (port ld : Nat) (secured : Bool) (slot : Nat) (s : State) : Host.Outcome State Fault Refusal :=
  keyMessage port ld secured (keyQuery slot) s

end Sys2Proof.Machine
end

