-- ==== Sys2Proof/Machine/Coherence.lean ====
section
/-! DEFINITION. CXL.mem accesses (R465, R123) and coherence in the shared pool (chapter 15): requests, responses, timeouts,
fences and the coherence commands. -/

namespace Sys2Proof.Machine

/-! ### CXL.mem accesses -/

/-- A read answered with poison. -/
def poison (seat addr : Nat) (s : State) : State := emit (.memData seat addr none 0 (seatDevLoad s seat)) s

/-- An access finds no memory it can serve: before Memory_Active, or after a trigger or fatal event (R580, R602). -/
def memClosed (s : State) : Bool := !s.dev.memActive || s.flt.sable

/-! ### KV windows (R122, R123) -/

/-- A read through a KV window (R123). -/
def windowRead (seat addr part off : Nat) (s : State) : State :=
  let b := (s.parts.get part).body
  let give := fun l => emit (.memData seat addr (some l) 0 (seatDevLoad s seat)) s
  if !windowOpen s part then poison seat addr s
  else if !sliceOpen s seat part (slotAt b off) then give (List.replicate 64 0)
  else if damagedAt s (.kv part) off 64 then
    poison seat addr (logFault { unit := 5, index := seat, event := 2, seat := seat, part := part, location := addr } s)
  else give (memBytes (s.parts.get part).kv off 64)

/-- A store through a KV window (R123, R278, R324). -/
def windowWrite (seat addr part off mask : Nat) (data : List Byte) (s : State) : State :=
  if !windowTakes s seat part off then dropWrite seat part addr s
  else if heldAt s false (.kv part) off 64 then holdWrite false (.kv part) off data (.host seat addr mask) s
  else windowNow seat addr part off mask data s

/-! ### Reads and writes (R465) -/

/-- A read of what lies behind an address (Table 16-5). -/
def memRead (seat addr : Nat) (op : CohOp) (s : State) : State :=
  let s := countTraffic seat 64 0 s
  if memClosed s then poison seat addr (if s.flt.sable then sableRecord (portOfSeat s seat) s else s)
  else match placeOf64 s seat addr with
    | .window part off => windowRead seat addr part off s
    | .region r off _ =>
      if !regionOpen s r then poison seat addr s
      else if r.shared then cohSettle (cohHost seat addr op r off s)
      else answerLine seat addr r off .i s
    | .none => poison seat addr (logFault { unit := 5, index := seat, event := 11, seat := seat, location := addr } s)

/-- The live ring of a seat whose submission memory holds an address, with the slot (R97, R99). -/
def ringAt (s : State) (seat addr : Nat) : Option (Nat × Nat) :=
  ((List.range 4).find? fun k =>
    let r := ringOf s seat k
    r.live && within addr 64 r.sqBase (64 * 2 ^ r.sqLog2)).map fun k => (k, (addr - (ringOf s seat k).sqBase) / 64)

/-- A write of what lies behind an address (Table 16-5). -/
def placeWrite (seat addr : Nat) (m : MetaVal) (mask : Nat) (data : List Byte) (s : State) : State :=
  let s := countTraffic seat 0 64 s
  if memClosed s then closedWrite seat addr (emit (.memCmp seat addr 0 (seatDevLoad s seat)) s)
  else match placeOf64 s seat addr with
    | .window part off => windowWrite seat addr part off mask data s
    | .region r off wr =>
      if !regionOpen s r || !wr then dropWrite seat 255 addr s
      else if r.shared then cohSettle (cohHost seat addr (.write m mask data) r off s)
      else writeLine seat addr r off mask data s
    | .none => dropWrite seat 255 addr s

/-- A write of a seat: into submission memory and logit headers the watcher sees it (R99, R292). -/
def memWrite (seat addr : Nat) (m : MetaVal) (mask : Nat) (data : List Byte) (s : State) : State :=
  match ringAt s seat addr with
  | some (ring, slot) => ringStore seat ring slot (mask = 2 ^ 64 - 1) data s
  | none => match headerOwner s seat addr with
    | some h => headerStore seat addr h (mask = 2 ^ 64 - 1) data s
    | none => placeWrite seat addr m mask data s

/-- MemInv and MemClnEvct: on a SHARED line the directory serves them, elsewhere they complete without effect (R434). -/
def memNoData (seat addr : Nat) (op : CohOp) (s : State) : State :=
  let cmp := emit (.memCmp seat addr 0 (seatDevLoad s seat)) s
  if memClosed s then cmp
  else match placeOf64 s seat addr with
    | .region r off _ => if r.shared && regionOpen s r then cohSettle (cohHost seat addr op r off s) else cmp
    | _ => cmp

/-- Serve a CXL.mem request of a seat (R465). -/
def serveReq (n : Nat) (r : MemReq) (s : State) : State :=
  match r with
  | .read addr op => memRead n addr op s
  | .write addr m mask data => memWrite n addr m mask data s
  | .noData addr op => memNoData n addr op s

/-- The LD has been admitted the data bytes of MAX_RATE in the present interval: MAX_RATE GB/s × the interval in ns is in bytes (R477). -/
def rateFull (s : State) (port ld n : Nat) : Bool :=
  let d := s.lds.get (ldKey port ld)
  let r := (s.seats.get n).limits.maxRate
  r != 0 && r * (s.ports.get port).cci ≤ d.rdBytes + d.wrBytes

/-- Requests a slice queues (R446). -/
def sliceQueue (s : State) (k : Nat) : Nat := (s.coh.queue.filter fun r => lineSlice r.region r.line = k).length

/-- The directory's request for an access of a seat to a SHARED line. -/
def cohReqOf (s : State) (n : Nat) (r : MemReq) : Option CohReq :=
  let (addr, op, write) := match r with
    | .read a op => (a, op, false)
    | .write a m mask data => (a, CohOp.write m mask data, true)
    | .noData a op => (a, op, false)
  match placeOf64 s n addr with
  | .region g off wr =>
    if g.shared && regionOpen s g && (wr || !write) then some { who := some n, op := op, region := g.id, line := off / 64, hpa := addr }
    else none
  | _ => none

/-- A request would have to join the conflict queue of a slice that queues 1,024 already: it stays in its port's ingress queue (R446). -/
def sliceFull (s : State) (n : Nat) (r : MemReq) : Bool :=
  match cohReqOf s n r with
  | none => false
  | some q => !isWriteBack s q && decide (1024 ≤ sliceQueue s (lineSlice q.region q.line)) &&
      (lineBusy s q || (needsWay s q && decide (16 ≤ waysUsed s q.region q.line)))

/-- A store into a KV window, which is PREFILL work whatever the seat's CLASS is (R476). -/
def windowStore (s : State) (n : Nat) (r : MemReq) : Bool :=
  match r with
  | .write addr _ _ _ => match placeOf64 s n addr with
    | .window _ _ => true
    | _ => false
  | _ => false

/-- A request waits for HBM: an M region is in HOLD, and requests to its stack wait (R552); or the seat is BACKGROUND, served in the POOL queue
of BULK, while BULK serves write-back alone (R324, R341, R476). -/
def memWaits (s : State) (n : Nat) (r : MemReq) : Bool :=
  !memClosed s && (hbmHalted s || ((s.seats.get n).limits.cls = 1 && onlyWriteback s && !windowStore s n r))

/-- A request stays in its LD's ingress queue: over MAX_RATE (R477), for want of room at its slice (R446), or until HBM serves it. -/
def heldUp (s : State) (port ld n : Nat) (r : MemReq) : Bool := rateFull s port ld n || sliceFull s n r || memWaits s n r

/-- A CXL.mem request reaches its port: served, or held in the ingress queue, behind those held before it (R446, R477). -/
def admitReq (port ld n : Nat) (r : MemReq) (s : State) : State :=
  if heldUp s port ld n r || !(s.lds.get (ldKey port ld)).ingress.isEmpty then
    updLd port ld (fun d => { d with ingress := d.ingress ++ [r] }) s
  else serveReq n r s

/-- Serve an LD's held requests in order until one must wait (R446, R477). -/
def pumpIngress (port ld n : Nat) : List MemReq → State → State
  | [], s => s
  | r :: rest, s =>
    if heldUp s port ld n r then updLd port ld (fun d => { d with ingress := r :: rest }) s
    else pumpIngress port ld n rest (serveReq n r s)

/-- Serve what an LD's ingress queue holds and need no longer wait. -/
def drainIngress (port ld : Nat) (s : State) : State :=
  match (s.lds.get (ldKey port ld)).ingress, seatOfLd s port ld with
  | [], _ => s
  | _, none => updLd port ld (fun d => { d with ingress := [] }) s
  | held, some n => pumpIngress port ld n held (updLd port ld (fun d => { d with ingress := [] }) s)

/-- Every LD's ingress queue goes on (R446). -/
def drainAll (s : State) : State := (s.lds.cells.map (·.1)).foldl (fun s k => drainIngress (k / 16) (k % 16) s) s

/-- A new collection interval of an LD: U is fixed as the larger direction's bytes, counting starts again (R52), and held requests are
admitted (R477). -/
def endInterval (port ld : Nat) (s : State) : State :=
  drainIngress port ld (updLd port ld (fun d => { d with usage := max d.rdBytes d.wrBytes, rdBytes := 0, wrBytes := 0 }) s)

/-- COLLECTION_INTERVAL_END (R52, R477). -/
def execCollectionIntervalEnd (port : Nat) (s : State) : Host.Outcome State Fault Refusal :=
  if 8 ≤ port then .next s
  else .next ((List.range 16).foldl (fun s l => endInterval port l s) s)

/-- A CXL.mem message on an LD, as its seat's (R469); an LD without a seat answers poison or drops, with a record (R45). -/
def onLd (port ld : Nat) (f : Nat → State → State) (s : State) : Host.Outcome State Fault Refusal :=
  if 8 ≤ port || 16 ≤ ld then .next s
  else if !memReached s port ld then .next s
  else match seatOfLd s port ld with
    | some n => .next (f n s)
    | none =>
      let s := emit (.ldPoison port ld) s
      .next (if s.flt.sable then sableRecord port s
        else logFault { unit := 4, index := port, event := 11, action := 6, port := port } s)

/-- The line an address lies in. -/
def lineOf (addr : Nat) : Nat := addr / 64 * 64

/-- CXL_MEM_READ: MemRd (R465, Table 15-3). -/
def execCxlMemRead (port ld addr : Nat) (mv : MetaVal) (s : State) : Host.Outcome State Fault Refusal :=
  onLd port ld (fun n => admitReq port ld n (.read (lineOf addr) (.read mv))) s

/-- CXL_MEM_WRITE: MemWr, or MemWrPtl with its byte mask (R465, Table 15-3). -/
def execCxlMemWrite (port ld addr : Nat) (mv : MetaVal) (mask : Nat) (data : List Byte) (s : State) :
    Host.Outcome State Fault Refusal :=
  onLd port ld (fun n => admitReq port ld n (.write (lineOf addr) mv (mask % 2 ^ 64) (padTo 64 data))) s

/-- MEM_INV: MemInv (R441). -/
def execMemInv (port ld addr : Nat) (mv : MetaVal) (s : State) : Host.Outcome State Fault Refusal :=
  onLd port ld (fun n => admitReq port ld n (.noData (lineOf addr) (.inv mv))) s

/-- MEM_RD_DATA: MemRdData (R441, R443). -/
def execMemRdData (port ld addr : Nat) (s : State) : Host.Outcome State Fault Refusal :=
  onLd port ld (fun n => admitReq port ld n (.read (lineOf addr) .readData)) s

/-- MEM_CLN_EVCT: MemClnEvct (R441, R442, R447). -/
def execMemClnEvct (port ld addr : Nat) (s : State) : Host.Outcome State Fault Refusal :=
  onLd port ld (fun n => admitReq port ld n (.noData (lineOf addr) .evict)) s

/-- MEM_SPEC_RD: dropped without effect (R436). -/
def execMemSpecRd (port ld _addr : Nat) (s : State) : Host.Outcome State Fault Refusal :=
  if 8 ≤ port || 16 ≤ ld then .next s else .next s

/-! ### Snoop responses (R436, R444, R449) -/

/-- The snoop a seat's response names: outstanding and sent. -/
def snoopAt (s : State) (seat addr : Nat) : Option Snoop :=
  s.coh.snoops.find? fun n => !n.held && n.seat = seat &&
    ((regionOf s n.region).map fun r => seatAddr r seat (64 * n.line)) = some addr

/-- A transient record of the coherence unit. -/
def cohRecord (seat addr : Nat) (s : State) : State :=
  logFault { unit := 15, index := seat, event := 10, action := 6, seat := seat, location := addr } s

/-- A seat's response to a snoop (R436, R444). -/
def biRsp (seat addr : Nat) (rsp : BiRsp) (block : Bool) (s : State) : State :=
  match (if block then none else snoopAt s seat addr) with
  | none => cohRecord seat addr s
  | some n =>
    let s := if rsp = .e && n.kind != 0 then cohRecord seat addr s else s
    cohSettle (closeSnoop n (if rsp = .e then .i else rsp) s)

/-- BIRSP (R444): a host's BIRspI, BIRspS or BIRspE. -/
def execBirsp (port ld addr : Nat) (rsp : BiRsp) (block : Bool) (s : State) : Host.Outcome State Fault Refusal :=
  onLd port ld (fun n => biRsp n (lineOf addr) rsp block) s

/-- A request of the seat for the line has been served and its response is still to come (R449). -/
def responseDue (s : State) (x : Nat × Nat) : Bool :=
  match extentOf s x.1 x.2 64 with
  | some (r, off, _) => unanswered s r.id (off / 64) x.1
  | none => false

/-- BIConflicts whose responses have been sent since are acknowledged (R449). -/
def ackConflicts (s : State) : State :=
  (s.coh.acks.filter fun x => !responseDue s x && seatLinkUp s x.1).foldl (fun s x => emit (.biConflictAck x.1 x.2) s)
    (updCoh (fun c => { c with acks := c.acks.filter (responseDue s) }) s)

/-- Acknowledge a BIConflict, after every response to the seat for the line that is due (R449). -/
def biConflict (n addr : Nat) (s : State) : State :=
  if responseDue s (n, addr) then updCoh (fun c => { c with acks := c.acks ++ [(n, addr)] }) s else emit (.biConflictAck n addr) s

/-- BICONFLICT (R449): answered with BIConflictAck. -/
def execBiconflict (port ld addr : Nat) (s : State) : Host.Outcome State Fault Refusal :=
  onLd port ld (fun n => biConflict n (lineOf addr)) s

/-! ### Fences (R452–R458) -/

/-- Close every outstanding snoop to a seat as if it had answered BIRspI (R454). -/
def closeSnoopsOf (f : Nat) (s : State) : State :=
  (s.coh.snoops.filter fun n => n.seat = f).foldl (fun s n => closeSnoop n .i s) s

/-- Fence a seat (R454). -/
def fenceSeat (f : Nat) (s : State) : State :=
  if s.coh.fenced.getLsbD f then s
  else
    let s := updCoh (fun c => { c with
      fenced := c.fenced ||| seatBit f, sweeping := c.sweeping ||| seatBit f, sweepAt := (f, s.dev.devtime) :: c.sweepAt.filter (·.1 != f), lifting := c.lifting &&& ~~~seatBit f }) s
    let s := logFault { unit := 15, index := f, event := 16, action := 5, seat := f } (cohGo (closeSnoopsOf f s))
    let s := postNotice 0 { kind := 0x84, value := f } s
    releaseRings (if f = 0 then s else postNotice f { kind := 0x84, value := f } s)

/-- Lift a seat's fence (R457). -/
def liftFence (f : Nat) (s : State) : State :=
  updCoh (fun c => { c with fenced := c.fenced &&& ~~~seatBit f, lifting := c.lifting &&& ~~~seatBit f }) s

/-- A seat reset or the reset of its port: the seat is fenced, and its fence may lift once the sweep has ended (R453, R457). -/
def fenceByReset (f : Nat) (s : State) : State :=
  let s := fenceSeat f s
  if s.coh.sweeping.getLsbD f then updCoh (fun c => { c with lifting := c.lifting ||| seatBit f }) s else liftFence f s

/-- SNOOP_TIMEOUT (R452): a snoop to the seat has had no BIRsp for the SNOOP_TO it sampled. -/
def execSnoopTimeout (seat : Nat) (s : State) : Host.Outcome State Fault Refusal :=
  if 64 ≤ seat then .next s
  else if s.coh.snoops.any fun n => n.seat = seat && n.since + n.timeout * 1000000 ≤ s.dev.devtime then .next (fenceSeat seat s)
  else .next s

/-- The sweep has cleared a seat from every slice (R454). -/
def endSweep (f : Nat) (s : State) : State :=
  let s := updCoh (fun c => { c with
    dir := sweepFree (c.dir.map fun e => { e with holders := e.holders &&& ~~~seatBit f })
    sweeping := c.sweeping &&& ~~~seatBit f, sweepAt := c.sweepAt.filter (·.1 != f) }) s
  cohSettle (if s.coh.lifting.getLsbD f then liftFence f s else s)

/-- FENCE_SWEEP_END (R454). -/
def execFenceSweepEnd (seat : Nat) (s : State) : Host.Outcome State Fault Refusal :=
  if 64 ≤ seat then .next s
  else if s.coh.sweeping.getLsbD seat then .next (endSweep seat s) else .next s

/-! ### Commands (R459) -/

/-- The SHARED line a seat's address names. -/
def sharedLine (s : State) (seat addr : Nat) : Option (Nat × Nat) :=
  match extentOf s seat (lineOf addr) 64 with
  | some (r, off, _) => if r.shared then some (r.id, off / 64) else none
  | none => none

/-- AGE of an entry: 0 for the newest of its set (Table 15-2). -/
def entAge (s : State) (e : DirEnt) : Nat := ((setEntries s e.region e.line).dropWhile (· != e)).length - 1

/-- The 128 bits of an entry (Table 15-2). -/
def entWord (s : State) (e : DirEnt) : Nat :=
  e.holders.toNat * 2 ^ 64 + (if e.excl then 2 else 1) * 2 ^ 62 + bit e.pend * 2 ^ 61 + bit e.recalled * 2 ^ 60 +
    min 15 (entAge s e) * 2 ^ 56 + lineTag e.region e.line % 2 ^ 14

/-- What QUERY_LINE returns (Table 15-5). -/
def lineBody (s : State) (seat region line : Nat) : RespBody :=
  let ent := entOf s region line
  let hs := lineHolders s region line
  if seat = 0 then .fields [(16, (ent.map (entWord s)).getD 0)]
  else .fields [(1, if hs.isEmpty then 0 else if lineExcl s region line then 2 else 1), (1, bit ((ent.map (·.pend)).getD false)),
                (1, bit (hs.contains seat)), (4, hs.length)]

/-- QUERY_LINE (0xC760). -/
def execQueryLine (e : Env) (addr : Nat) (s : State) : Host.Outcome State Fault Refusal :=
  mailbox Op.queryLine e (.queryLine e addr) []
    (fun s => if (sharedLine s e.seat addr).isSome then none else some (.of .invalid))
    (fun s => (s, match sharedLine s e.seat addr with
      | some (r, l) => { body := lineBody s e.seat r l }
      | none => .of .invalid)) s

/-- FENCE_SEAT (0xC761, R453). -/
def execFenceSeat (e : Env) (seat : Nat) (s : State) : Host.Outcome State Fault Refusal :=
  mailbox Op.fenceSeat e (.fenceSeat e seat) [.cohSeat seat]
    (fun s => if 63 < seat then some (.of .invalid) else if s.coh.fenced.getLsbD seat then some (.of .conflict) else none)
    (fun s => (fenceSeat seat s, {})) s

/-- The remaining time of a seat's sweep in µs: of the 131,072 × 32 DIR clocks of R454, what has not passed. -/
def sweepRetry (s : State) (seat : Nat) : Nat :=
  ceilDiv (131072 * 32 * 10 / 24 + 1 - (s.dev.devtime - ((s.coh.sweepAt.find? fun x => x.1 = seat).map (·.2)).getD 0)) 1000

/-- UNFENCE_SEAT's own checks (Table 15-5). -/
def unfenceCheck (seat : Nat) (s : State) : Option Reply :=
  if 63 < seat then some (.of .invalid)
  else if !s.coh.fenced.getLsbD seat then some (.of .conflict)
  else if s.coh.sweeping.getLsbD seat then some (.busy (sweepRetry s seat) (.cohSeat seat))
  else none

/-- UNFENCE_SEAT (0xC762, R457). -/
def execUnfenceSeat (e : Env) (seat : Nat) (s : State) : Host.Outcome State Fault Refusal :=
  mailbox Op.unfenceSeat e (.unfenceSeat e seat) [.cohSeat seat] (unfenceCheck seat) (fun s => (liftFence seat s, {})) s

/-- Entries in use and requests queued of a slice. -/
def sliceCounts (s : State) (k : Nat) : List (Nat × Nat) :=
  [(4, (s.coh.dir.filter fun e => lineSlice e.region e.line = k).length),
   (4, sliceQueue s k)]

/-- QUERY_COHERENCE (0xC763): GLB_COH_FENCED, SNOOP_TO and the slices. -/
def execQueryCoherence (e : Env) (s : State) : Host.Outcome State Fault Refusal :=
  mailbox Op.queryCoherence e (.queryCoherence e) [] (fun _ => none)
    (fun s => (s, { body := listBody 0 8 [(8, s.coh.fenced.toNat), (4, snoopTo s)] ((List.range 64).map (sliceCounts s)) })) s

end Sys2Proof.Machine
end

