-- ==== Sys2Proof/Machine/Pool.lean ====
section
/-! DEFINITION. Near-memory operations (§16.5): POOL_OPERATION and its descriptors, and the extents they share with stash
transfers. -/

namespace Sys2Proof.Machine

/-! ### HDM extents of descriptors (R479) -/

/-- Cut an extent at multiples of `unit`. -/
def cutAt (unit : Nat) : Nat → Nat → Nat → List (Nat × Nat)
  | 0, _, _ => []
  | fuel + 1, addr, len =>
    if len = 0 then []
    else
      let n := min len (unit - addr % unit)
      (addr, n) :: cutAt unit fuel (addr + n) (len - n)

/-- Pieces of an extent that lie in one region each: regions begin and end at multiples of 2 MiB. -/
def regionPieces (addr len : Nat) : List (Nat × Nat) := cutAt (2 ^ 21) (len / 2 ^ 21 + 2) addr len

/-- Pieces of an extent that lie in one frame each. -/
def framePieces (addr len : Nat) : List (Nat × Nat) := cutAt 32768 (len / 32768 + 2) addr len

/-- The regions behind an extent of a seat, with offset, length and whether the seat may write. -/
def extentPieces (s : State) (seat addr len : Nat) : List (Option (Region × Nat × Nat × Bool)) :=
  (regionPieces addr len).map fun p => (extentOf s seat p.1 p.2).map fun x => (x.1, x.2.1, p.2, x.2.2)

/-- An extent lies wholly in open regions or attachments of the seat that pass a test (R479). -/
def extentOk (s : State) (seat : Nat) (test : Region → Bool → Bool) (addr len : Nat) : Bool :=
  (extentPieces s seat addr len).all fun x => match x with
    | some (r, _, _, wr) => regionOpen s r && test r wr
    | none => false

/-- The extent's bytes as the seat reads them. -/
def readHdm (s : State) (seat addr len : Nat) : List Byte :=
  ((extentPieces s seat addr len).map fun x => match x with
    | some (r, off, n, _) => readRegion s r off n
    | none => List.replicate 0 0).flatten

/-- The extent holds damaged data (R588). -/
def extentDamaged (s : State) (seat addr len : Nat) : Bool :=
  (extentPieces s seat addr len).any fun x => match x with
    | some (r, off, n, _) => damagedAt s (.region r.id) off n
    | none => false

/-- Write into an extent of a seat for an operation, frame by frame, held by the ceiling where it must be (R324, R482). -/
def writeHdm (op seat addr : Nat) (data : List Byte) (s : State) : State :=
  (framePieces addr data.length).foldl (fun s p =>
    match extentOf s seat p.1 p.2 with
    | none => s
    | some (r, off, _) =>
      let (o, bytes) := storedForm s r off ((data.drop (p.1 - addr)).take p.2)
      if heldAt s false (.region r.id) o bytes.length then holdWrite false (.region r.id) o bytes (.xfer op) s
      else putNow (.region r.id) o bytes s) s

/-! ### SHARED lines (R441, R482) -/

/-- Directory entries of SHARED lines in an extent. -/
def entriesIn (s : State) (seat addr len : Nat) : List DirEnt :=
  ((extentPieces s seat addr len).map fun x => match x with
    | some (r, off, n, _) => s.coh.dir.filter fun e => e.region = r.id && overlaps (64 * e.line) 64 off n
    | none => []).flatten

/-- Lines an operation must read from a host that holds them E. -/
def readWaits (s : State) (op seat : Nat) (l : List (Nat × Nat)) : List (Nat × Nat) :=
  ((l.map fun x => entriesIn s seat x.1 x.2).flatten.filter fun e =>
    lineExcl s e.region e.line && !s.coh.done.contains (op, e.region, e.line)).map fun e => (e.region, e.line)

/-- Lines an operation must take from their holders before it writes. -/
def writeWaits (s : State) (seat : Nat) (l : List (Nat × Nat)) : List (Nat × Nat) :=
  ((l.map fun x => entriesIn s seat x.1 x.2).flatten.filter fun e => !(lineHolders s e.region e.line).isEmpty).map fun e =>
    (e.region, e.line)

/-- Ask for those lines as a device does. -/
def askLines (op : Nat) (reads writes : List (Nat × Nat)) (s : State) : State :=
  let s := writes.foldl (fun s x => devInvalidate x.1 x.2 s) s
  cohSettle (reads.foldl (fun s x =>
    if s.coh.queue.any fun q => q.region = x.1 && q.line = x.2 && q.op = .devRead op then s
    else cohAsk { who := none, op := .devRead op, region := x.1, line := x.2 } s) s)

/-! ### Result records and the end of an operation (R480, R481) -/

/-- The 16 bytes of a result record. -/
def resultBytes (st : Status) (value : Nat) : List Byte := leBytes 2 st.code ++ leBytes 6 0 ++ leBytes 8 value

/-- A result record can be written now. -/
def resultRoom (s : State) (seat result : Nat) : Bool :=
  result = 0 || match extentOf s seat result 16 with
    | some (r, off, _) => !heldAt s false (.region r.id) off 16
    | none => true

/-- Write a result record where its extent is good. -/
def putResult (op seat result : Nat) (st : Status) (value : Nat) (s : State) : State :=
  if result = 0 || !extentOk s seat (fun _ wr => wr) result 16 then s else writeHdm op seat result (resultBytes st value) s

/-- The transfer of an operation. -/
def xferOf (s : State) (op : Nat) : Option Xfer := s.xfers.find? fun x => x.op = op

/-- Change a transfer. -/
def updXfer (op : Nat) (f : Xfer → Xfer) (s : State) : State := { s with xfers := updFirst (fun x => x.op = op) f s.xfers }

/-- The lines an operation has read are forgotten. -/
def forgetReads (op : Nat) (s : State) : State := updCoh (fun c => { c with done := c.done.filter fun x => x.1 != op }) s

/-- An operation that moves data goes. -/
def dropXfer (op : Nat) (s : State) : State := forgetReads op { s with xfers := s.xfers.filter fun x => x.op != op }

/-- An operation ends (R481). -/
def endXfer (op : Nat) (st : Status) (s : State) : State := finishOp op st (dropXfer op s)

/-! ### Pool descriptors (R474, R478–R480) -/

/-- A window side of a descriptor: its kind, and the extent inside it. -/
def windowSide (s : State) (seat id : Nat) (kinds : List Nat) (off len : Nat) : Bool :=
  match windowOf s seat id with
  | some w => kinds.contains w.kind && off + len ≤ w.len
  | none => false

/-- A descriptor's fields keep Table 16-8. -/
def poolDescForm (s : State) (seat : Nat) (d : PoolDesc) : Bool :=
  1 ≤ d.op && d.op ≤ 4 && d.flagsOk && (!d.dstWin || d.op = 2) && (d.op != 4 || (d.rtype ≤ 3 && d.rop ≤ 2)) &&
    d.length % 64 = 0 && 64 ≤ d.length && d.length ≤ 2 ^ 30 && (d.op = 1 || d.src % 64 = 0) && d.dst % 64 = 0 && d.result % 64 = 0 &&
    (d.op = 1 || !d.srcWin || windowSide s seat d.srcWindow [4, 5] d.src d.length) &&
    (!d.dstWin || windowSide s seat d.dstWindow [5] d.dst d.length)

/-- PROTECTED regions: FILL and COPY only, both sides regions of the seat and none a window (R474, R479). -/
def protectedOk (seat : Nat) (d : PoolDesc) (r : Region) : Bool :=
  !r.protected_ || (d.op ≤ 2 && r.seat = seat && !(d.op != 1 && d.srcWin) && !d.dstWin)

/-- Some side of a descriptor lies in a PROTECTED region. -/
def namesProtected (s : State) (seat : Nat) (d : PoolDesc) : Bool :=
  (poolExtents d).any fun x => (extentPieces s seat x.1 x.2).any fun y => match y with
    | some (r, _, _, _) => r.protected_
    | none => false

/-- With a PROTECTED side, every side is a region of the seat (R474). -/
def ownSides (s : State) (seat : Nat) (d : PoolDesc) : Bool :=
  !namesProtected s seat d || (poolExtents d).all fun x => (extentPieces s seat x.1 x.2).all fun y => match y with
    | some (r, _, _, _) => r.seat = seat
    | none => false

/-- A descriptor's extents keep R474 and R479. -/
def poolDescOk (s : State) (seat : Nat) (d : PoolDesc) : Bool :=
  poolDescForm s seat d && ownSides s seat d &&
    (d.op = 1 || d.srcWin || extentOk s seat (fun r _ => protectedOk seat d r) d.src d.length) &&
    (d.dstWin || extentOk s seat (fun r wr => protectedOk seat d r && (wr || d.op = 3)) d.dst d.length) &&
    (d.result = 0 || extentOk s seat (fun r wr => protectedOk seat d r && wr) d.result 16)

/-- Time in ns for `len` bytes through a window of a seat, at the capacities of the ports of its mask that are up (Table 2-2, R483). -/
def windowTime (s : State) (seat id len : Nat) : Nat :=
  let c := match windowOf s seat id with
    | some w => ((upPorts s w.mask).map fun p => portCap (s.ports.get p)).sum
    | none => 0
  ceilDiv (2 * len) (15 * max 1 c)

/-- Time in ns for `len` bytes of HDM at 614.4 GB/s. -/
def hdmTime (len : Nat) : Nat := ceilDiv (10 * len) 6144

/-- Time of one pool descriptor in ns (R483). -/
def poolTime (s : State) (seat : Nat) (d : PoolDesc) : Nat :=
  let rd := (if d.op != 1 && !d.srcWin then d.length else 0) + if 3 ≤ d.op then d.length else 0
  let wr := (if d.op != 3 && !d.dstWin then d.length else 0) + if d.result = 0 then 0 else 16
  100 + max (hdmTime (max rd wr)) (max (if d.op != 1 && d.srcWin then windowTime s seat d.srcWindow d.length else 0)
    (if d.dstWin then windowTime s seat d.dstWindow d.length else 0))

/-- Bytes of an object read from its home for an extent (R502). -/
def fromHomes (o : StashObj) (off len : Nat) : Nat := len - (32768 * o.held - off)

/-- Time of one stash descriptor in ns, its spills counted as all that the run's objects could have to write (R509). -/
def stashTime (s : State) (seat : Nat) (d : StashDesc) : Nat :=
  let side := if d.win then windowTime s seat d.window d.length else hdmTime d.length
  match d.op with
  | 1 =>
    let os := ((runOf s d.part (d.key / 2 ^ 40)).map (·.objs)).getD []
    max side (atWriteRate s (ceilDiv (65536 * (os.map fun o => (dirtyUnits s (frameOfObj s d.part o)).length).sum) 60))
  | 2 => max side (ceilDiv (((objOf s d.part (d.key / 2 ^ 40) d.key).map fun o => fromHomes o d.offset d.length).getD 0) 95) +
      (match d.win, windowOf s seat d.window with
        | true, some w => if 1 < (portsUsed s w.mask (w.base + d.addr) d.length).length then 1200 else 0
        | _, _ => 0)
  | _ => 100

/-- What is left of the bound of an operation that moves data, in ns: that of the descriptors that have not ended (R483, R509). -/
def xferLeft (s : State) (x : Xfer) : Nat :=
  if x.stash.isEmpty then BulkQ.scaled s .pool (2000 + (x.pool.map (poolTime s x.seat)).sum)
  else BulkQ.scaled s .stash (10000 + (x.stash.map (stashTime s x.seat)).sum)

/-- BUSY at the device's limit of 64 operations, or at the seat's own, which carries no claim (R91, R92, R478, R500). -/
def opsFull (s : State) (seat : Nat) : Option Reply :=
  let mine := s.xfers.filter fun x => x.seat = seat
  let wait := fun (l : List Xfer) => usOf ((l.map (xferLeft s)).foldl min (2 ^ 32))
  if 64 ≤ s.xfers.length then some (.busy (wait s.xfers) .poolOps)
  else if (s.seats.get seat).limits.maxOps ≤ mine.length then some (.busyAnon (wait mine)) else none

/-- POOL_OPERATION's own checks (R478). -/
def poolOpCheck (e : Env) (descs : List PoolDesc) (s : State) : Option Reply :=
  if (opsFull s e.seat).isSome then opsFull s e.seat
  else if e.bodyLen != 64 * descs.length || !descs.all (poolDescOk s e.seat) then some (.of .invalid) else none

/-- A descriptor starts: its window source is read (R66). -/
def startPoolDesc (seat : Nat) (d : PoolDesc) (s : State) : State :=
  if d.op != 1 && d.srcWin then
    match windowOf s seat d.srcWindow with
    | some w => peerReads w.mask (w.base + d.src) d.length s
    | none => s
  else s

/-- Start the first descriptor that remains. -/
def startNext (x : Xfer) (s : State) : State :=
  match x.pool with
  | d :: _ => startPoolDesc x.seat d s
  | [] => s

/-- POOL_OPERATION's effect (R478). -/
def poolOp (e : Env) (descs : List PoolDesc) (s : State) : State × Reply :=
  let x : Xfer := { op := s.opCtr, seat := e.seat, pool := descs }
  let (s, a) := startLong e .poolOp { s with xfers := s.xfers ++ [x] }
  (startNext x s, a)

/-- POOL_OPERATION (0xC710, R478). -/
def execPoolOperation (e : Env) (descs : List PoolDesc) (s : State) : Host.Outcome State Fault Refusal :=
  mailbox Op.poolOperation e (.poolOperation e descs) [.poolOps] (poolOpCheck e descs) (poolOp e descs) s

/-! ### What a descriptor computes (R480) -/

/-- Element size of RTYPE in bytes. -/
def elemSize (rtype : Nat) : Nat := if rtype = 1 then 2 else if rtype = 3 then 8 else 4

/-- A key that orders FP32 values, −0 below +0. -/
def fpOrder (x : Nat) : Int := if 2 ^ 31 ≤ x then -(x - 2 ^ 31 : Nat) - 1 else x

/-- FP32 rounded to nearest even BF16; the bits of a NaN are free (log entry 33). -/
def bf16Round (x : Nat) : Nat :=
  if fpIsNan x then Config.nanBits.toNat % 2 * 2 ^ 15 + 0x7F81 + Config.nanBits.toNat % 127
  else (x + 0x7FFF + x / 2 ^ 16 % 2) / 2 ^ 16

/-- ROP on floating-point values given as FP32. -/
def fpRop (rop a b : Nat) : Nat :=
  if rop = 0 then fpAdd a b
  else if fpIsNan a || fpIsNan b then fpNan
  else if (if rop = 1 then fpOrder b ≤ fpOrder a else fpOrder a ≤ fpOrder b) then a else b

/-- Two's complement value of a word. -/
def signedOf (w x : Nat) : Int := if 2 ^ (w - 1) ≤ x then (x : Int) - (2 ^ w : Nat) else x

/-- ROP on integers of `w` bits. -/
def intRop (w rop a b : Nat) : Nat :=
  if rop = 0 then (a + b) % 2 ^ w
  else if (if rop = 1 then signedOf w b ≤ signedOf w a else signedOf w a ≤ signedOf w b) then a else b

/-- DST[i] ROP SRC[i] (R480). -/
def reduceElem (rtype rop a b : Nat) : Nat :=
  match rtype with
  | 0 => fpRop rop a b
  | 1 => bf16Round (fpRop rop (a * 2 ^ 16) (b * 2 ^ 16))
  | 2 => intRop 32 rop a b
  | _ => intRop 64 rop a b

/-- REDUCE over whole extents. -/
def reduceBytes (rtype rop : Nat) (dst src : List Byte) : List Byte :=
  let n := elemSize rtype
  ((List.range (dst.length / n)).map fun i => leBytes n (reduceElem rtype rop (fld dst (n * i) n) (fld src (n * i) n))).flatten

/-- Offset of the first byte that differs. -/
def firstDiff (a b : List Byte) : Nat := ((a.zip b).findIdx? fun x => x.1 != x.2).getD (2 ^ 64 - 1)

/-- The source bytes of a descriptor: from HDM, or as the peer reads returned them. -/
def poolSource (s : State) (seat : Nat) (d : PoolDesc) (data : List Byte) : List Byte :=
  if d.srcWin then padTo d.length data else readHdm s seat d.src d.length

/-- The bytes a descriptor writes and its VALUE. -/
def poolCompute (s : State) (seat : Nat) (d : PoolDesc) (data : List Byte) : List Byte × Nat :=
  match d.op with
  | 1 => ((List.replicate (d.length / 8) (leBytes 8 d.pattern)).flatten, d.length)
  | 2 => (poolSource s seat d data, d.length)
  | 3 => ([], firstDiff (poolSource s seat d data) (readHdm s seat d.dst d.length))
  | _ => (reduceBytes d.rtype d.rop (readHdm s seat d.dst d.length) (poolSource s seat d data), d.length)

/-- HDM extents a descriptor reads. -/
def poolReads (d : PoolDesc) : List (Nat × Nat) :=
  (if d.op != 1 && !d.srcWin then [(d.src, d.length)] else []) ++ (if 3 ≤ d.op then [(d.dst, d.length)] else [])

/-- HDM extents a descriptor writes. -/
def poolWrites (d : PoolDesc) : List (Nat × Nat) :=
  (if d.op != 3 && !d.dstWin then [(d.dst, d.length)] else []) ++ (if d.result = 0 then [] else [(d.result, 16)])

/-- A descriptor fails: its record carries the status, and the operation ends (R481). -/
def failPool (x : Xfer) (d : PoolDesc) (st : Status) (s : State) : State := endXfer x.op st (putResult x.op x.seat d.result st 0 s)

/-- A descriptor's writes are in HBM: its result record, and the next descriptor or the end (R481). -/
def finishPool (x : Xfer) (d : PoolDesc) (value : Nat) (s : State) : State :=
  let s := forgetReads x.op (putResult x.op x.seat d.result .ok value s)
  match x.pool.drop 1 with
  | [] => endXfer x.op .ok s
  | rest => startNext { x with pool := rest } (updXfer x.op (fun y => { y with pool := rest, issued := none }) s)

/-- A descriptor makes its writes: into HDM, or into a window (R64, R65). -/
def issuePool (x : Xfer) (d : PoolDesc) (bytes : List Byte) (value : Nat) (s : State) : State :=
  let s := if d.dstWin then (match windowOf s x.seat d.dstWindow with
      | some w => flushReads w.base (portsUsed s w.mask (w.base + d.dst) d.length) (peerWrites x.seat w.mask (w.base + d.dst) bytes s)
      | none => s)
    else writeHdm x.op x.seat d.dst bytes s
  updXfer x.op (fun y => { y with issued := some value }) s

/-- A record of damaged data an operation met (R589). -/
def opFault (x : Xfer) (st : Status) (s : State) : State :=
  logFault { unit := 5, index := x.seat, event := 2, action := 6, seat := x.seat, tag := (Config.opid x.op).toNat, detail := st.code } s

/-- A record of a transfer to or from a window with no port up (R261). -/
def portFault (x : Xfer) (s : State) : State :=
  logFault { unit := 5, index := x.seat, event := 11, action := 6, seat := x.seat, tag := (Config.opid x.op).toNat
             detail := Status.invalid.code } s

/-- No port of a window's mask is up (R261). -/
def windowDown (s : State) (seat id : Nat) : Bool :=
  match windowOf s seat id with
  | some w => (firstUp s w.mask).isNone
  | none => true

/-- The first descriptor of an operation runs as far as it can (R481): the checks of R479, the SHARED lines, then its reads and
writes, and its end once the ceiling holds none of them. -/
def runPool (x : Xfer) (d : PoolDesc) (data : List Byte) (s : State) : State :=
  match x.issued with
  | some v =>
    let waits := writeWaits s x.seat (if d.result = 0 then [] else [(d.result, 16)])
    if xferHeld s x.op || !resultRoom s x.seat d.result then s
    else if waits.isEmpty then finishPool x d v s else askLines x.op [] waits s
  | none =>
    if !poolDescOk s x.seat d then failPool x d .invalid s
    else if (d.op != 1 && d.srcWin && windowDown s x.seat d.srcWindow) || (d.dstWin && windowDown s x.seat d.dstWindow) then
      failPool x d .invalid (portFault x s)
    else
      let reads := readWaits s x.op x.seat (poolReads d)
      let writes := writeWaits s x.seat (poolWrites d)
      if !reads.isEmpty || !writes.isEmpty then askLines x.op reads writes s
      else if (poolReads d).any fun y => extentDamaged s x.seat y.1 y.2 then failPool x d .invalid (opFault x .invalid s)
      else
        let (bytes, v) := poolCompute s x.seat d data
        let s := issuePool x d bytes v s
        if xferHeld s x.op || !resultRoom s x.seat d.result then s else finishPool x d v s

/-- POOL_DESCRIPTOR_END (R341, R481): the descriptor that runs has moved its data; `data` is what its window source returned. -/
def execPoolDescriptorEnd (op : Nat) (data : List Byte) (s : State) : Host.Outcome State Fault Refusal :=
  match xferOf s op with
  | some x => match x.pool with
    | d :: _ => if s.flt.sable || !bulkTurn s (poolReady s) op then .next s else .next (runPool x d data s)
    | [] => .next s
  | none => .next s

end Sys2Proof.Machine
end

