-- ==== Sys2Proof/Machine/PoolSet.lean ====
section
/-! DEFINITION. Pool sets (§16.6): membership, the streams between members, mirroring, parity, absence and rebuild. -/

namespace Sys2Proof.Machine

/-- Change the pool set. -/
def updSet (f : PoolSet → PoolSet) (s : State) : State := { s with pset := f s.pset }

/-! ### Membership (R484, R492) -/

/-- The other members of a set of `n`. -/
def otherMembers (n index : Nat) : List Nat := (List.range n).filter (· != index)

/-- JOIN_POOL_SET's own checks (R484). -/
def joinCheck (b : JoinBody) (s : State) : Option Reply :=
  if b.n < 2 || 8 < b.n || b.n ≤ b.index || (b.setTo != 0 && (b.setTo < 100 || 10000 < b.setTo)) ||
      !((otherMembers b.n b.index).all fun m => (lookupKey m b.windows).isSome) then some (.of .invalid)
  else if (otherMembers b.n b.index).any fun m => (windowOf s 0 ((lookupKey m b.windows).getD 0)).isNone then some (.of .notFound)
  else if (otherMembers b.n b.index).any fun m => !windowSide s 0 ((lookupKey m b.windows).getD 0) [5] 0 0x1000000 then some (.of .invalid)
  else if s.pset.phase != .none then some (.of .conflict)
  else none

/-- JOIN_POOL_SET's effect: the module is FORMING (R484). -/
def joinSet (e : Env) (b : JoinBody) (s : State) : State × Reply :=
  let p : PoolSet :=
    { phase := .forming, setId := b.setId, n := b.n, index := b.index, setTo := if b.setTo = 0 then 1000 else b.setTo
      parityGb := b.parityGb, rebuild := b.rebuild
      members := (otherMembers b.n b.index).map fun m => { index := m, window := (lookupKey m b.windows).getD 0 }
      joinOp := some s.opCtr, joinAt := s.dev.devtime }
  startLong e .joinSet { s with pset := p }

/-- JOIN_POOL_SET (0xC720, R484). -/
def execJoinPoolSet (e : Env) (b : JoinBody) (s : State) : Host.Outcome State Fault Refusal :=
  mailbox Op.joinPoolSet e (.joinPoolSet e b) [] (joinCheck b) (joinSet e b) s

/-- End the JOIN_POOL_SET that waits. -/
def endJoin (st : Status) (s : State) : State :=
  match s.pset.joinOp with
  | some n => finishOp n st (updSet (fun p => { p with joinOp := none }) s)
  | none => s

/-- POOL_SET_FORMED (R484): every member has joined and answered through its aperture. -/
def execPoolSetFormed (s : State) : Host.Outcome State Fault Refusal :=
  if s.pset.phase = .forming then .next (endJoin .ok (updSet (fun p => { p with phase := .formed }) s)) else .next s

/-- JOIN_TIMEOUT (R484): the set has not formed after 10 s; the join is abandoned. -/
def execJoinTimeout (s : State) : Host.Outcome State Fault Refusal :=
  if s.pset.phase = .forming && s.pset.joinOp.isSome && s.pset.joinAt + 10000000000 ≤ s.dev.devtime then
    let t := endJoin .notReady s
    .next { t with pset := {} }
  else .next s

/-- Frames of the replicas this module holds. -/
def replicaFrames (l : List Replica) : Nat := (l.map fun r => r.size / 32768).sum

/-- LEAVE_POOL_SET's own checks (R492); a module that is no member has none to leave (R653). -/
def leaveCheck (s : State) : Option Reply :=
  if s.pset.phase = .none then some (.of .notFound)
  else if s.regions.any (fun r => r.mirrored || r.parity) || s.pset.charged != 0 then some (.of .conflict)
  else none

/-- A parity unit of this member. -/
def isParity : UnitKey → Bool
  | .parity _ => true
  | _ => false

/-- LEAVE_POOL_SET's effect (R492): the replicas and the parity units this module holds are freed. -/
def leaveSet (e : Env) (s : State) : State × Reply :=
  let n := s.opCtr
  let (s, a) := startLong e .leaveSet (freeHomes isParity (endJoin .notReady s))
  let s := { s with acct := { s.acct with frames := s.acct.frames - replicaFrames s.pset.replicas }, pset := {} }
  (finishOp n .ok (releaseWrites s), a)

/-- LEAVE_POOL_SET (0xC721, R492). -/
def execLeavePoolSet (e : Env) (s : State) : Host.Outcome State Fault Refusal :=
  mailbox Op.leavePoolSet e (.leavePoolSet e) [] leaveCheck (leaveSet e) s

/-- A member's state: 0 FORMING, 1 FORMED, 2 ABSENT (R492, Table 23-4). -/
def memberState (s : State) (m : Member) : Nat := if m.absent then 2 else if s.pset.phase = .formed then 1 else 0

/-- The state of this module's membership: 0 FORMING, 1 FORMED, 3 for none (log entry 48). -/
def phaseCode (p : SetPhase) : Nat :=
  match p with
  | .forming => 0 | .formed => 1 | .none => 3

/-- What QUERY_POOL_SET returns: SET_ID, N, INDEX, the state, each member's state, the stale count, and the DEGRADED regions as the
list's entries (R492). -/
def poolSetBody (s : State) : RespBody :=
  let p := s.pset
  listBody 0 8 ([(8, p.setId), (4, p.n), (4, p.index), (1, phaseCode p.phase)] ++
    ((List.range 8).map fun i => (1, if i = p.index then phaseCode p.phase else ((memberOf s i).map (memberState s)).getD 255)) ++
    [(4, p.stale.length)]) ((s.regions.filter (·.degraded)).map fun r => [(8, r.id)])

/-- QUERY_POOL_SET (0xC722, R492). -/
def execQueryPoolSet (e : Env) (s : State) : Host.Outcome State Fault Refusal :=
  mailbox Op.queryPoolSet e (.queryPoolSet e) [] (fun _ => none) (fun s => (s, { body := poolSetBody s })) s

/-! ### Entries of another member (R486–R488) -/

/-- A replica this module holds. -/
def replicaOf (s : State) (id : Nat) : Option Replica := s.pset.replicas.find? fun r => r.region = id

/-- Reserve, renew or free a replica for the predecessor (R487, R490): the status and the state after it. -/
def serveReserve (id size : Nat) (s : State) : Status × State :=
  let old := ((replicaOf s id).map fun r => r.size / 32768).getD 0
  let s0 := { s with
    acct := { s.acct with frames := s.acct.frames - old }
    pset := { s.pset with replicas := s.pset.replicas.filter fun r => r.region != id } }
  if size = 0 then (.ok, releaseWrites s0)
  else if !acctFits s0 4 0 0 (size / 32768) then (.capacity, s0)
  else (.ok, { s0 with
    acct := { s0.acct with frames := s0.acct.frames + size / 32768 }
    pset := { s0.pset with replicas := s0.pset.replicas ++ [{ region := id, size := size }] } })

/-- Apply a mirror write to a replica (R487). -/
def serveMirror (id off : Nat) (data : List Byte) (s : State) : State :=
  let put := updFirst (fun r : Replica => r.region == id && decide (off + data.length ≤ r.size))
    fun r => { r with data := memPuts r.data off data }
  updSet (fun p => { p with replicas := put p.replicas }) s

/-- Contents of a parity unit this module holds, unmapped ones zeros: as its deltas have left it so far, or as it was programmed. -/
def parityCells (s : State) (k : Nat) : List Host.Cell :=
  (lookupKey k s.pset.parity).getD (((mapOf s (.parity k)).map (·.data)).getD [])

/-- XOR bytes into cells. -/
def xorInto (m : List Host.Cell) (off : Nat) (data : List Byte) : List Host.Cell :=
  memPuts m off (xorData (memBytes m off data.length) data)

/-- A unit's map entry is LOST. -/
def unitLost (s : State) (u : UnitKey) : Bool := ((mapOf s u).map (·.lost)).getD false

/-- Program a parity unit, stored raw (R488); none while its lane takes no writes. -/
def programParity (k : Nat) (m : List Host.Cell) (s : State) : Option State :=
  let s := giveUnit (.parity k) s
  let unit := (unitNo s (.parity k)).getD 0
  (place false false unit 0xFFF s).map fun x =>
    programDone { key := .parity k, unit := unit, len := 0xFFF, pos := x.2, damaged := false, data := m }
      (updSet (fun p => { p with parity := p.parity.filter fun y => y.1 != k }) x.1)

/-- Apply a parity delta; with the last of a unit's sixteen the parity unit is programmed (R488). A LOST unit stays LOST. None while it
cannot be programmed. -/
def serveDelta (k off : Nat) (data : List Byte) (s : State) : Option State :=
  let m := xorInto (parityCells s k) off data
  if unitLost s (.parity k) then some s
  else if off + data.length = 65536 then programParity k m s
  else some (updSet (fun p => { p with parity := p.parity.filter (fun x => x.1 != k) ++ [(k, m)] }) s)

/-- An entry waits in its slot: its parity unit cannot be programmed yet. -/
def entryWaits (e : StreamEntry) (s : State) : Bool := e.kind = 3 && (serveDelta e.target e.offset e.data s).isNone

/-- Unit `k` of this module's parity space: its parity unit, or its data unit, unmapped ones reading zeros (R488). -/
def spaceBytes (s : State) (k off len : Nat) : List Byte :=
  if parityMember s k = s.pset.index then memBytes (parityCells s k) off len
  else match s.pset.units.find? fun x => x.2 = k with
    | some (u, _) => ((parityView s u).drop off).take len
    | none => List.replicate len 0

/-- A unit of this module's parity space that cannot be read (R385). -/
def spaceLost (s : State) (k : Nat) : Bool :=
  if parityMember s k = s.pset.index then unitLost s (.parity k)
  else match s.pset.units.find? fun x => x.2 = k with
    | some (u, _) => unitLost s u
    | none => false

/-- What a READ_REQ reads: a replica where TARGET names one, else a unit of the parity space. -/
def serveRead (target off size : Nat) (s : State) : Option (List Byte) :=
  if 4096 < size then none
  else match replicaOf s target with
    | some r => if off + size ≤ r.size then some (memBytes r.data off size) else none
    | none => if target < parityUnits s && off + size ≤ 65536 && !spaceLost s target then some (spaceBytes s target off size) else none

/-- An answer to a member's entry. -/
def answerEntry (m seq : Nat) (kind : EntryKind) (st : Status) (target off : Nat) (data : List Byte) (cls : Nat) (s : State) : State :=
  sendEntry m { kind := kind, cls := cls, status := st, replyTo := seq, target := target, offset := off, data := data } s

/-! ### Answers to this module's entries -/

/-- The entry a member's answer is to, taken out of those that wait. -/
def takeWaiting (m seq : Nat) (s : State) : Option (Entry × State) :=
  ((memberOf s m).bind fun x => x.waiting.find? fun e => e.1 = seq).map fun e =>
    (e.2.2, updMember m (fun x => { x with waiting := x.waiting.filter fun y => y.1 != seq }) s)

/-- A unit of a stripe that cannot be rebuilt is LOST (R385); a data unit leaves its stripe stale (R489). -/
def loseStripe (key : UnitKey) (unit k : Nat) (s : State) : State :=
  loseUnits (fun m => m.unit = unit) (if isParity key then s else addStale k s)

/-- A rebuilt home is written in full (R488): it is programmed again, with its journal record. -/
def endStripe (x : Stripe) (s : State) : State :=
  let s := updSet (fun p => { p with stripes := p.stripes.filter fun y => y.key != x.key }) s
  match mapOf s x.key with
  | none => s
  | some m => match (place false false m.unit m.len s).or (place true true m.unit m.len s) with
    | some (t, pos) =>
      programDone { key := x.key, unit := m.unit, len := m.len, pos := pos, damaged := false, data := x.acc }
        (updSet (fun p => { p with parity := p.parity.filter fun y => x.key != .parity y.1 }) t)
    | none => loseStripe x.key m.unit x.k s

/-- 4 KiB of a stripe has been read from a member (R488). -/
def stripeData (key : UnitKey) (off : Nat) (data : List Byte) (s : State) : State :=
  match s.pset.stripes.find? fun x => x.key = key with
  | none => s
  | some x =>
    let y := { x with acc := xorInto x.acc off data, left := x.left - 1 }
    if y.left = 0 then endStripe y s
    else updSet (fun p => { p with stripes := updFirst (fun z => z.key = key) (fun _ => y) p.stripes }) s

/-- A stripe cannot be read: its home is LOST (R385, R489). -/
def failStripe (key : UnitKey) (s : State) : State :=
  if s.pset.stripes.any fun x => x.key = key then
    let k := ((s.pset.stripes.find? fun x => x.key = key).map (·.k)).getD 0
    let t := updSet (fun p => { p with stripes := p.stripes.filter fun y => y.key != key }) s
    match unitNo s key with
    | some u => loseStripe key u k t
    | none => t
  else s

/-- The replica's bytes repair the local unit and answer the host (R487). -/
def repairLine (seat hpa region off code : Nat) (data : List Byte) (s : State) : State :=
  match regionOf s region with
  | none => emit (.memData seat hpa none code (seatDevLoad s seat)) s
  | some _ =>
    let at_ := off / 128 * 128
    let s := updRegion region (fun r => { r with data := memPuts r.data at_ data }) s
    let s := { s with flt := { s.flt with damage := mendDamage (.region region) at_ data.length s.flt.damage } }
    match regionOf s region with
    | some r => emit (.memData seat hpa (some (readRegion s r off 64)) code (seatDevLoad s seat)) s
    | none => s

/-- A member has answered an entry with data or a status: what waited for it goes on. -/
def settleAnswer (st : Nat) (data : List Byte) (l : List EntryUse) (s : State) : State :=
  l.foldl (fun s u => match u with
    | .hostWrite seat hpa => emit (.memCmp seat hpa 0 (seatDevLoad s seat)) s
    | .lineRead seat hpa region off code =>
      if st = 0 then repairLine seat hpa region off code (padTo 128 data) s
      else emit (.memData seat hpa none code (seatDevLoad s seat)) s
    | .stripe key off => if st = 0 then stripeData key off (padTo 4096 data) s else failStripe key s
    | .replica id =>
      if st = 0 then s
      else match regionOf s id, runningOp s (fun k => k = .allocRegion id) with
        | some r, some o =>
          let s := removeRegion { r with mirrored := false } (releaseRegion { r with st := .held } s)
          finishShort o.n 0x11 (releaseWrites s)
        | _, _ => updRegion id (fun r => { r with degraded := true }) s) s

/-- An answer arrives (REPLY or READ_DATA). -/
def serveAnswer (m : Nat) (e : StreamEntry) (s : State) : State :=
  match takeWaiting m e.replyTo s with
  | some (x, s) => settleAnswer e.status e.data x.uses s
  | none => s

/-- Apply a member's entry (R486). -/
def serveEntry (m seq : Nat) (e : StreamEntry) (s : State) : State :=
  match e.kind with
  | 1 => serveMirror e.target e.offset e.data s
  | 2 =>
    let (st, s) := serveReserve e.target e.size s
    answerEntry m seq .reply st e.target 0 [] e.cls s
  | 3 => (serveDelta e.target e.offset e.data s).getD s
  | 4 =>
    match serveRead e.target e.offset e.size s with
    | some d => answerEntry m seq .readData .ok e.target e.offset d e.cls s
    | none => answerEntry m seq .readData .invalid e.target e.offset [] e.cls s
  | 5 => serveAnswer m e s
  | 6 => serveAnswer m e s
  | _ => s

/-- Write the consumed count into this module's slot of a member's aperture (Table 16-9). -/
def writeCredit (m : Member) (s : State) : State :=
  match windowOf s 0 m.window with
  | none => s
  | some w => peerRecord w.mask (w.base + s.pset.index * 0x200000 + 0x4000) (leBytes 4 m.applied) s

/-- The aperture decodes: in the LD of seat 0, while FORMING or FORMED, over a link that is up (R485). -/
def apertureOpen (s : State) : Bool := s.pset.phase != .none && seatReached s 0

/-- POOLSET_ENTRY (R486): the next entry of a member's stream, with its SEQ, is applied and credited. An entry out of order is not
taken, nor one whose parity unit cannot be programmed yet. -/
def execPoolsetEntry (member seq : Nat) (entry : StreamEntry) (s : State) : Host.Outcome State Fault Refusal :=
  if 8 ≤ member then .next s
  else match memberOf s member with
    | none => .next s
    | some m =>
      if !apertureOpen s || memClosed s || seq != m.applied || entryWaits entry s then .next s
      else
        let s1 := updMember member (fun x => { x with applied := (x.applied + 1) % 2 ^ 32 }) (serveEntry member seq entry s)
        .next (cohSettle (match memberOf s1 member with
          | some x => writeCredit x s1
          | none => s1))

/-! ### Credits (R486, R487) -/

/-- An entry number lies below a consumed count. -/
def covered (credit seq : Nat) : Bool := (credit + 2 ^ 32 - 1 - seq) % 2 ^ 32 < 2 ^ 31

/-- An entry ends with its consumption; the others wait for their answers. -/
def endsConsumed (e : Entry) : Bool := e.kind != .reserve && e.kind != .readReq

/-- A member's CREDIT rises: writes that waited complete, and queued entries are sent (R486, R487). -/
def takeCredit (m : Member) (value : Nat) (s : State) : State :=
  let done := m.waiting.filter fun e => covered value e.1 && endsConsumed e.2.2
  let s := updMember m.index (fun x => { x with
    credit := value, waiting := x.waiting.filter fun e => !(covered value e.1 && endsConsumed e.2.2) }) s
  let s := done.foldl (fun s e => settleUses e.2.2.uses s) s
  cohSettle (pumpStream m.index m.queued s)

/-- POOLSET_CREDIT (R486): a member writes CREDIT; a count beyond what was sent is discarded. -/
def execPoolsetCredit (member value : Nat) (s : State) : Host.Outcome State Fault Refusal :=
  if 8 ≤ member then .next s
  else match memberOf s member with
    | none => .next s
    | some m =>
      if !apertureOpen s || m.absent || m.inFlight < (value + 2 ^ 32 - m.credit) % 2 ^ 32 then .next s
      else .next (takeCredit m (value % 2 ^ 32) s)

/-! ### Absence (R489) -/

/-- What waits on an ABSENT member goes on without it. -/
def settleAbsent (e : Entry) (s : State) : State :=
  let s := if e.kind = .parityDelta then addStale e.target s else s
  e.uses.foldl (fun s u => match u with
    | .hostWrite seat hpa => emit (.memCmp seat hpa 0 (seatDevLoad s seat)) s
    | .lineRead seat hpa _ _ code => emit (.memData seat hpa none code (seatDevLoad s seat)) s
    | .stripe key _ => failStripe key s
    | .replica _ => s) s

/-- A member is ABSENT to this one (R489). -/
def memberAbsent (m : Member) (s : State) : State :=
  let left := m.waiting.map (·.2.2) ++ m.queued
  let s := updMember m.index (fun x => { x with absent := true, waiting := [], queued := [] }) s
  let s := left.foldl (fun s e => settleAbsent e s) s
  let s := if m.index = partnerIx s then
      { s with regions := s.regions.map fun r => if r.mirrored then { r with degraded := true } else r } else s
  let s := logFault { unit := 16, index := m.index, event := 6 } s
  cohSettle (pldmEvent [2, m.index] (postNotice 0 { kind := 0x85, value := m.index + 2 * 256 } s))

/-- MEMBER_ABSENT (R489): an entry sent to the member has stayed unconsumed for SET_TO. -/
def execMemberAbsent (member : Nat) (s : State) : Host.Outcome State Fault Refusal :=
  if 8 ≤ member then .next s
  else match memberOf s member with
    | none => .next s
    | some m =>
      if !m.absent && m.waiting.any fun e => !covered m.credit e.1 && e.2.1 + s.pset.setTo * 1000000 ≤ s.dev.devtime then
        .next (memberAbsent m s)
      else .next s

/-! ### Rejoining and rebuilding (R490, R491) -/

/-- A member rejoins: both streams start again from entry 0 (log entry 49), fresh replicas are reserved on a partner, and stale
stripes whose parity it holds are recomputed there (R490). -/
def rejoin (m : Member) (s : State) : State :=
  let s := updMember m.index (fun x => { x with
    absent := false, sent := 0, credit := 0, applied := 0, waiting := [], queued := [] }) s
  let mine := s.pset.stale.filter fun k => parityMember s k = m.index
  let s := journal mine.length (updSet (fun p => { p with stale := p.stale.filter fun k => !mine.contains k }) s)
  if m.index = partnerIx s then
    let l := s.regions.filter (·.mirrored)
    l.foldl (fun s r => reserveReplica r (updRegion r.id (fun r => { r with degraded := true }) s)) s
  else s

/-- MEMBER_REJOIN (R490): a member that was ABSENT, or has restarted, joins again. -/
def execMemberRejoin (member : Nat) (s : State) : Host.Outcome State Fault Refusal :=
  if 8 ≤ member then .next s
  else match memberOf s member with
    | none => .next s
    | some m =>
      if s.pset.phase != .formed then .next s
      else
        let left := m.waiting.map (·.2.2) ++ m.queued
        .next (cohSettle (rejoin m (left.foldl (fun s e => settleAbsent e s) s)))

/-- The copy of a region into its replica, in entries of 4 KiB (R490). -/
def copyReplica (r : Region) (s : State) : State :=
  (List.range (r.size / 4096)).foldl (fun s i => sendEntry (partnerIx s)
    { kind := .mirrorWrite, cls := 1, target := r.id, offset := 4096 * i, data := memBytes r.data (4096 * i) 4096 } s) s

/-- MIRROR_RESYNC_COMPLETE (R341, R490): the copy of a region ends, and it leaves DEGRADED. -/
def execMirrorResyncComplete (region : Nat) (s : State) : Host.Outcome State Fault Refusal :=
  match regionOf s region with
  | none => .next s
  | some r =>
    let there := match memberOf s (partnerIx s) with
      | some m => !m.absent
      | none => false
    if r.mirrored && r.degraded && there && s.pset.phase = .formed && !replicaWaits s region && !bulkClosed s then
      .next (updRegion region (fun r => { r with degraded := false }) (copyReplica r s))
    else .next s

/-- REBUILD_MEMBER (0xC723, R491): on a replacement that joined with REBUILD = 1. -/
def execRebuildMember (e : Env) (s : State) : Host.Outcome State Fault Refusal :=
  mailbox Op.rebuildMember e (.rebuildMember e) []
    (fun s => if s.pset.phase != .formed || !s.pset.rebuild || s.pset.rebuildOp.isSome then some (.of .conflict) else none)
    (fun s => startLong e .rebuild (updSet (fun p => { p with rebuildOp := some s.opCtr }) s)) s

/-- The home of one unit of a rebuilt region: programmed with its contents, which stay dirty in HBM where a lane takes no writes; or LOST,
without a place (R385, R491). -/
def restoreHome (r : Region) (lost : Bool) (j : Nat) (s : State) : State :=
  let key := UnitKey.region r.id j
  let s := giveUnit key (takeParity key s)
  let unit := (unitNo s key).getD 0
  let q : Prog := { key := key, unit := unit, len := 0xFFF, pos := 0, damaged := lost
                    data := if lost then [] else cellsOf (memBytes r.data (65536 * j) 65536) }
  if lost then programDone q s
  else match place false false unit 0xFFF s with
    | some (t, pos) => programDone { q with pos := pos } t
    | none => (framesOfUnit s key).foldl (fun s k => markDirty k s) s

/-- A region's homes, in the parity space with PARITY (R491). -/
def restoreHomes (r : Region) (lost : Bool) (s : State) : State :=
  (List.range (ceilDiv r.size 65536)).foldl (fun s j => restoreHome r lost j s) s

/-- A slot of a rebuilt PROTECTED region comes back owned and EMPTY (R472, R491). -/
def emptySlot (x : RebuiltRegion) (s : State) : State :=
  if x.body.protected_ && (keySlotOf s x.body.keySlot).isNone then
    { s with keySlots := s.keySlots ++ [{ slot := x.body.keySlot, owner := x.seat, loaded := false, key1 := 0, key2 := 0, kcv := 0 }] }
  else s

/-- Restore one region of the lost member (R491). -/
def restoreRegion (x : RebuiltRegion) (s : State) : State :=
  let whole := x.body.mirrored || x.body.parity
  let r := { regionOfBody s x.seat x.id x.body with
    st := .held, kcv := x.kcv, grants := x.grants, attached := x.attached, data := if whole then cellsOf (x.data.take x.body.size) else [] }
  let s := chargeRegion x.seat x.body (emptySlot x { s with regions := s.regions.filter (fun y => y.id != x.id) ++ [r] })
  let s := restoreHomes r (!whole) s
  if whole then s
  else { s with flt := { s.flt with
    damage := s.flt.damage ++ (List.range (ceilDiv x.body.size 32768)).map fun n => (FrameKey.region x.id n, BitVec.allOnes 256) } }

/-- Restore a parity unit of the lost member (R491); where its lane takes no writes it waits for its next delta. -/
def restoreParity (k : Nat) (data : List Byte) (s : State) : State :=
  if parityMember s k != s.pset.index then s
  else (programParity k (cellsOf (padTo 65536 data)) s).getD
    (updSet (fun p => { p with parity := p.parity.filter (fun x => x.1 != k) ++ [(k, cellsOf (padTo 65536 data))] }) s)

/-- Restore what a rebuild found: regions, then parity units (R491). -/
def restoreAll (x : Rebuilt) (s : State) : State :=
  x.parity.foldl (fun s p => restoreParity p.1 p.2 s) (x.regions.foldl (fun s r => restoreRegion r s) s)

/-- REBUILD_COMPLETE (R491): the regions the partner recorded and the parity units are restored, and OP_DONE is posted. -/
def execRebuildComplete (op : Nat) (found : Rebuilt) (s : State) : Host.Outcome State Fault Refusal :=
  match opOf s op with
  | some o =>
    if o.kind = .rebuild && s.pset.rebuildOp = some op then
      .next (finishOp op .ok (updSet (fun p => { p with rebuildOp := none, rebuild := false })
        (restoreAll found s)))
    else .next s
  | none => .next s

end Sys2Proof.Machine
end

