-- ==== Sys2Proof/Machine/Stash.lean ====
section
/-! DEFINITION. Stash mode for training (chapter 17): runs, transfers, schedules, spills and unspills. -/

namespace Sys2Proof.Machine

/-! ### Runs (R495–R499) -/

/-- What a stash command answers for its partition (R495). -/
def stashGate (part : Nat) (s : State) : Option Reply :=
  if 15 < part then some (.of .invalid)
  else if (s.parts.get part).state = .empty then some (.of .notFound)
  else if (s.parts.get part).body.mode != 1 then some (.of .invalid)
  else partGate s part

/-- A run of the issuing seat, or of any seat from seat 0 (R495). -/
def runFor (s : State) (seat part run : Nat) : Option Run :=
  (runOf s part run).bind fun r => if seat = 0 || r.seat = seat then some r else none

/-- A new run. -/
def newRun (seat run frames maxObjects : Nat) : Run := { run := run, seat := seat, budget := frames, maxObjects := maxObjects }

/-- What OPEN_RUN charges (R497). -/
def runCharge (part : Nat) (r : Run) : Charge :=
  { seat := r.seat, part := part, frames := r.budget + r.tableFrames, homes := r.tableUnits }

/-- OPEN_RUN's own checks (R497). -/
def openRunCheck (e : Env) (part run frames maxObjects : Nat) (s : State) : Option Reply :=
  match stashGate part s with
  | some r => some r
  | none =>
    if 2 ^ 24 ≤ run || frames = 0 || maxObjects = 0 || 1048576 < maxObjects then some (.of .invalid)
    else if (runOf s part run).isSome then some (.of .conflict)
    else if 256 ≤ (s.parts.get part).runs.length then some (capacityReply 0x20)
    else (shortAccount s (runCharge part (newRun e.seat run frames maxObjects))).map capacityReply

/-- OPEN_RUN (0xC800, R497). -/
def execOpenRun (e : Env) (part run frames maxObjects : Nat) (s : State) : Host.Outcome State Fault Refusal :=
  mailbox Op.openRun e (.openRun e part run frames maxObjects) [.partition part] (openRunCheck e part run frames maxObjects)
    (fun s =>
      let r := newRun e.seat run frames maxObjects
      (updPart part (fun p => { p with runs := p.runs ++ [r] }) (chargeAcct (runCharge part r) s), {})) s

/-- CLOSE_RUN's own checks (R498). -/
def closeRunCheck (e : Env) (part run : Nat) (s : State) : Option Reply :=
  match stashGate part s with
  | some r => some r
  | none =>
    if (runFor s e.seat part run).isNone then some (.of .notFound)
    else if runBusy s part run then some (.of .conflict) else none

/-- CLOSE_RUN (0xC801, R498). -/
def execCloseRun (e : Env) (part run : Nat) (s : State) : Host.Outcome State Fault Refusal :=
  mailbox Op.closeRun e (.closeRun e part run) [.partition part, .run part run] (closeRunCheck e part run)
    (fun s =>
      let n := s.opCtr
      let (s, a) := startLong e (.closeRun part run) s
      (finishOp n .ok (closeRunNow part run s), a)) s

/-- Code of an object's state (Table 17-4). -/
def ObjState.code : ObjState → Nat
  | .putting => 1 | .held => 2 | .spilled => 3 | .mixed => 4 | .dropping => 5

/-- An object record (Table 17-4). -/
def StashObj.word (o : StashObj) : Nat :=
  o.key * 2 ^ 448 + o.size % 2 ^ 25 * 2 ^ 423 + o.first % 2 ^ 24 * 2 ^ 399 + o.st.code * 2 ^ 396 + bit o.prot * 2 ^ 395 +
    bit o.noCompress * 2 ^ 394 + bit o.parity * 2 ^ 393 + o.keySlot % 2 ^ 12 * 2 ^ 381 + o.held % 2 ^ 24 * 2 ^ 357

/-- Insert an object by the index of its record. -/
def insertObj (o : StashObj) : List StashObj → List StashObj
  | [] => [o]
  | x :: rest => if o.idx < x.idx then o :: x :: rest else x :: insertObj o rest

/-- What QUERY_STASH returns (R499). -/
def stashBody (r : Run) (start : Nat) : RespBody :=
  listBody start 64 [(4, r.budget), (4, r.free), (4, r.cursor), (4, r.sched.length)]
    ((r.objs.foldl (fun l o => insertObj o l) []).map fun o => [(64, o.word)])

/-- QUERY_STASH (0xC804, R499). -/
def execQueryStash (e : Env) (part run start : Nat) (s : State) : Host.Outcome State Fault Refusal :=
  mailbox Op.queryStash e (.queryStash e part run start) [.partition part]
    (fun s => match stashGate part s with
      | some r => some r
      | none => if (runFor s e.seat part run).isNone then some (.of .notFound) else none)
    (fun s => (s, match runOf s part run with
      | some r => { body := stashBody r start }
      | none => .of .notFound)) s

/-! ### Schedules (R505, R506) -/

/-- Cut bytes into `n` 64-bit values. -/
def cut64 : Nat → List Byte → List Nat
  | 0, _ => []
  | n + 1, l => leNat (l.take 8) :: cut64 n (l.drop 8)

/-- The keys a SET_SCHEDULE names. -/
def scheduleKeys (s : State) (seat list count : Nat) : List Nat := cut64 count ((hdmBytes s seat list (8 * count)).getD [])

/-- No key is listed twice. -/
def distinctKeys : List Nat → Bool
  | [] => true
  | k :: rest => !rest.contains k && distinctKeys rest

/-- SET_SCHEDULE's own checks (R505; a damaged list is INVALID, log entry 42). -/
def setScheduleCheck (e : Env) (part run count list : Nat) (s : State) : Option Reply :=
  match stashGate part s with
  | some r => some r
  | none => match runFor s e.seat part run with
    | none => some (.of .notFound)
    | some r =>
      if r.maxObjects < count then some (.of .invalid)
      else if count != 0 && (!placedOk s e.seat list (8 * count) 64 || hdmDamaged s e.seat list (8 * count) ||
          !distinctKeys (scheduleKeys s e.seat list count)) then some (.of .invalid)
      else if runBusy s part run then some (.of .conflict) else none

/-- Index of a key's entry at or after the cursor (R506). -/
def Run.pos (r : Run) (key : Nat) : Option Nat := ((r.sched.drop r.cursor).findIdx? fun k => k = key).map (· + r.cursor)

/-- A GET or DROP consumes the entries up to its key (R506). -/
def consumeKey (part run key : Nat) (s : State) : State :=
  updRun part run (fun r => match r.pos key with
    | some i => { r with cursor := i + 1 }
    | none => r) s

/-- The mapped homes of an object's map units from `a` on, below `b`. -/
def objHomes (s : State) (part run key a b : Nat) : List (UnitKey × MapEnt) :=
  mappedHomes s fun u => match u with
    | .stash p r k j => p = part && r = run && k = key && a ≤ j && j < b
    | _ => false

/-- Read the homes of an object whose map units lie below a frame count into their frames, clean (R508). -/
def readObj (part run key n : Nat) (s : State) : State := readHomes (objHomes s part run key 0 (ceilDiv n 2)) s

/-- The state of an object of which `n` frames are held. -/
def heldState (o : StashObj) (n : Nat) : ObjState := if n = 0 then .spilled else if o.frames ≤ n then .held else .mixed

/-- An unspill ends with `n` of the object's frames in HBM (R505, R508). -/
def endUnspill (part run n : Nat) (s : State) : State :=
  match (runOf s part run).bind fun r => r.unspill with
  | none => s
  | some key => match objOf s part run key with
    | none => s
    | some o =>
      let n := max o.held (min n o.frames)
      let s := readObj part run key n s
      let s := updObj part run key (fun o => { o with held := n, st := heldState o n }) s
      updRun part run (fun r => { r with unspill := none }) (touchRecord part run o s)

/-- Frames an unspill that a new schedule ends has read: a free value (R505; log entry 50). -/
def readSoFar (s : State) (part run : Nat) : Nat :=
  match ((runOf s part run).bind fun r => r.unspill).bind fun k => objOf s part run k with
  | some o => (Config.openValue s.freeCtr).toNat % (o.frames + 1)
  | none => 0

/-- The frames of a run table that hold schedule entries are written. -/
def touchSchedule (part : Nat) (r : Run) (count : Nat) (s : State) : State :=
  (List.range (ceilDiv (8 * count) 32768 + 1)).foldl (fun s i =>
    if 32768 * i ≤ 8 * count && count != 0 then touchTable part r.run (64 * r.maxObjects + min (32768 * i) (8 * count - 8)) s else s) s

/-- SET_SCHEDULE's effect (R505). -/
def setSchedule (e : Env) (part run count list : Nat) (s : State) : State × Reply :=
  let n := s.opCtr
  let keys := scheduleKeys s e.seat list count
  let (s, a) := startLong e (.schedule part run) s
  let s := endUnspill part run (readSoFar s part run) { s with freeCtr := s.freeCtr + 1 }
  let s := updRun part run (fun r => { r with sched := keys, cursor := 0 }) s
  let s := match runOf s part run with
    | some r => touchSchedule part r count s
    | none => s
  (finishOp n .ok s, a)

/-- SET_SCHEDULE (0xC803, R505). -/
def execSetSchedule (e : Env) (part run count list : Nat) (s : State) : Host.Outcome State Fault Refusal :=
  mailbox Op.setSchedule e (.setSchedule e part run count list) [.partition part, .run part run]
    (setScheduleCheck e part run count list) (setSchedule e part run count list) s

/-! ### Spills and unspills (R507, R508) -/

/-- A GET of an object runs: it is the first descriptor of a transfer and has begun (R502). -/
def beingRead (s : State) (part key : Nat) : Bool :=
  s.xfers.any fun x => x.issued.isSome && match x.stash with
    | d :: _ => d.op = 2 && d.part = part && d.key = key
    | [] => false

/-- Objects a spill may choose, with pos greater than `above` where one is given (R507, R508). -/
def spillable (s : State) (part : Nat) (r : Run) (above : Option Nat) : List StashObj :=
  r.objs.filter fun o => o.held != 0 && o.st != .putting && r.unspill != some o.key && !beingRead s part o.key &&
    (match above with
      | none => true
      | some i => match r.pos o.key with
        | some j => i < j
        | none => true)

/-- One object goes before another in the order of spills: greatest pos, then the earliest put (R507). -/
def spillsBefore (r : Run) (a b : StashObj) : Bool :=
  match r.pos a.key, r.pos b.key with
  | none, none => a.order < b.order
  | none, some _ => true
  | some _, none => false
  | some i, some j => j < i || (i = j && a.order < b.order)

/-- The object to spill next. -/
def spillVictim (r : Run) : List StashObj → Option StashObj
  | [] => none
  | o :: rest => match spillVictim r rest with
    | some v => if spillsBefore r o v then some o else some v
    | none => some o

/-- Spill an object: its dirty units are written back and its frames released (R507); none while a lane takes no writes. -/
def spillObj (part run : Nat) (o : StashObj) (s : State) : Option State :=
  (writeBackAll (frameOfObj s part o) s).map fun s =>
    touchRecord part run o (updObj part run o.key (fun o => { o with st := .spilled, held := 0 }) (forgetFrames (frameOfObj s part o) s))

/-- Spill until the free budget holds `n` frames, as far as objects can be spilled. -/
def makeRoom (part run n : Nat) (above : Option Nat) : Nat → State → State
  | 0, s => s
  | fuel + 1, s =>
    match runOf s part run with
    | none => s
    | some r =>
      if n ≤ r.free then s
      else match spillVictim r (spillable s part r above) with
        | some o => match spillObj part run o s with
          | some s => makeRoom part run n above fuel s
          | none => s
        | none => s

/-- The object a run unspills next, with its index in the schedule (R508). -/
def unspillNext (r : Run) : Option (Nat × StashObj) :=
  (List.range (r.sched.length - r.cursor)).findSome? fun i =>
    (r.objs.find? fun o => some o.key = r.sched[r.cursor + i]? && o.st != .putting && o.held < o.frames).map fun o => (r.cursor + i, o)

/-- An unspill is accepted into the STASH queue. -/
def beginUnspill (part run : Nat) (o : StashObj) (s : State) : State :=
  updObj part run o.key (fun o => { o with st := .mixed })
    (updRun part run (fun r => { r with unspill := some o.key, unspillAt := s.opCtr }) s)

/-- UNSPILL (R508): accepted when the missing frames fit in the free budget and the frames of objects that come later. -/
def execUnspill (part run : Nat) (s : State) : Host.Outcome State Fault Refusal :=
  if 16 ≤ part then .next s
  else match runOf s part run with
    | none => .next s
    | some r =>
      if r.unspill.isSome || (s.parts.get part).state != .resident || memClosed s || flashClosed s then .next s
      else match unspillNext r with
        | none => .next s
        | some (i, o) =>
          let need := o.frames - o.held
          if r.free + ((spillable s part r (some i)).map (·.held)).sum < need then .next s
          else
            let s := makeRoom part run need (some i) (r.objs.length + 1) s
            if ((runOf s part run).map (·.free)).getD 0 < need then .next s else .next (beginUnspill part run o s)

/-- A descriptor's PUT can have its frames now (R501, R507). -/
def putFits (s : State) (d : StashDesc) : Bool :=
  match runOf s d.part (d.key / 2 ^ 40) with
  | some r => ceilDiv d.length 32768 ≤ r.free + ((spillable s d.part r none).map (·.held)).sum
  | none => true

/-- A transfer of the STASH queue can go on now: none of its writes is held, and a PUT that has not begun can have its frames (R341, R507). -/
def stashReady (s : State) (x : Xfer) : Bool :=
  match x.stash with
  | [] => false
  | d :: _ => !xferHeld s x.op && (x.issued.isSome || d.op != 1 || putFits s d)

/-- Unspills in progress, with their places in the queue. -/
def unspills (s : State) : List (Nat × Nat × Nat) :=
  ((List.range 16).map fun p => (s.parts.get p).runs.filterMap fun r => r.unspill.map fun _ => (p, r.run, r.unspillAt)).flatten

/-- Places in the STASH queue: an unspill's lies before that of the operation accepted next (R341). -/
def xferPlace (op : Nat) : Nat := 2 * op + 1
def unspillPlace (accepted : Nat) : Nat := 2 * accepted

/-- BULK serves more than write-back, and nothing of the STASH queue that can go on has a place before this one (R341, R509). -/
def stashTurn (s : State) (place : Nat) : Bool :=
  !memClosed s && !flashClosed s && !(s.xfers.any fun x => xferPlace x.op < place && stashReady s x) &&
    !(unspills s).any fun u => unspillPlace u.2.2 < place

/-- UNSPILL_COMPLETE (R341, R508): every frame of the object has been read. -/
def execUnspillComplete (part run : Nat) (s : State) : Host.Outcome State Fault Refusal :=
  if 16 ≤ part then .next s
  else match (runOf s part run).bind fun r => r.unspill with
    | none => .next s
    | some key =>
      if !stashTurn s (unspillPlace (((runOf s part run).map (·.unspillAt)).getD 0)) then .next s
      else .next (endUnspill part run (((objOf s part run key).map (·.frames)).getD 0) s)

/-! ### Transfers (R500–R504) -/

/-- The run a key names. -/
def keyRun (k : Nat) : Nat := k / 2 ^ 40

/-- A descriptor's fields keep Table 17-5. -/
def stashDescForm (s : State) (seat : Nat) (d : StashDesc) : Bool :=
  1 ≤ d.op && d.op ≤ 3 && d.flagsOk && (!d.release || d.op = 2) && (!(d.protected_ || d.noCompress || d.parity) || d.op = 1) &&
    keyLayer d.key < (s.parts.get d.part).body.layers && (d.op = 3 || d.addr % 4096 = 0) && (d.op != 2 || d.offset % 4096 = 0) &&
    (d.op = 3 || (d.length % 4096 = 0 && 4096 ≤ d.length)) && (d.op != 1 || d.length ≤ 2 ^ 36) && d.keySlot ≤ 4095 && d.result % 64 = 0 &&
    (d.op = 3 || !d.win || windowSide s seat d.window [if d.op = 1 then 4 else 2] d.addr d.length)

/-- What STASH_TRANSFER answers for one descriptor (R495, R496, R500). -/
def stashDescGate (s : State) (seat : Nat) (d : StashDesc) : Option Reply :=
  match stashGate d.part s with
  | some r => some r
  | none =>
    if (runFor s seat d.part (keyRun d.key)).isNone then some (.of .notFound)
    else if !stashDescForm s seat d then some (.of .invalid) else none

/-- STASH_TRANSFER's own checks (R500). -/
def stashCheck (e : Env) (descs : List StashDesc) (s : State) : Option Reply :=
  if (opsFull s e.seat).isSome then opsFull s e.seat
  else if e.bodyLen != 64 * descs.length then some (.of .invalid)
  else descs.findSome? (stashDescGate s e.seat)

/-- The key slot a PROTECTED object opens with (R502). -/
def objKey (s : State) (o : StashObj) : Option KeySlot :=
  s.keySlots.find? fun k => k.slot = o.keySlot && k.loaded && k.kcv = o.kcv

/-- Lines of an object encrypted or decrypted; `first` is the first line's index (R501). -/
def objLines (enc : Bool) (k : KeySlot) (key first : Nat) (data : List Byte) : List Byte :=
  ((List.range (data.length / 64)).map fun i => xtsLine enc k.key1 k.key2 (first + i) key ((data.drop (64 * i)).take 64)).flatten

/-- The lowest run of `n` free consecutive slots in a layer pool (R501). -/
def freeSlots (s : State) (part layer n : Nat) : Option Nat :=
  let p := s.parts.get part
  let os := ((p.runs.map (·.objs)).flatten.filter fun o => keyLayer o.key = layer).map fun o => (o.first, o.frames)
  let fits := (0 :: os.map fun o => o.1 + o.2).filter fun c => c + n ≤ p.body.slots && !os.any fun o => overlaps c n o.1 o.2
  fits.foldl (fun m c => match m with
    | none => some c
    | some b => some (min b c)) none

/-- Frames a PUT takes. -/
def putFrames (d : StashDesc) : Nat := ceilDiv d.length 32768

/-- Map units of a PUT's home. -/
def putUnits (d : StashDesc) : Nat := ceilDiv d.length 65536

/-- The failure of a PUT as it starts (R501). -/
def putStatus (s : State) (seat : Nat) (d : StashDesc) : Option Status :=
  match runOf s d.part (keyRun d.key) with
  | none => some .notFound
  | some r =>
    if (objOf s d.part r.run d.key).isSome then some .conflict
    else if r.budget * 32768 < d.length || (d.parity && s.pset.phase != .formed) then some .invalid
    else if d.protected_ && (loadedSlot s seat d.keySlot).isNone then some .notFound
    else if r.maxObjects ≤ r.objs.length || (freeSlots s d.part (keyLayer d.key) (putFrames d)).isNone then some .capacity
    else if d.parity then (if parityFits s (putUnits d) then none else some .capacity)
    else if acctFits s 7 seat d.part (putUnits d) then none else some .capacity

/-- The failure of a GET or DROP as it starts (R502–R504). -/
def objStatus (s : State) (d : StashDesc) : Option Status :=
  match objOf s d.part (keyRun d.key) d.key with
  | none => some .notFound
  | some o =>
    if o.st = .putting then some .busy
    else if d.op = 3 then (if beingRead s d.part d.key then some .busy else none)
    else if o.size * 4096 < d.offset + d.length || (o.prot && (objKey s o).isNone) then some .invalid
    else none

/-- The failure of a descriptor as it starts: its object, then its extents (R479, R501). -/
def stashStatus (s : State) (seat : Nat) (d : StashDesc) : Option Status :=
  match if d.op = 1 then putStatus s seat d else objStatus s d with
  | some st => some st
  | none =>
    if (d.op = 3 || d.win || extentOk s seat (fun _ wr => wr || d.op = 1) d.addr d.length) &&
        (d.result = 0 || extentOk s seat (fun _ wr => wr) d.result 16) then none else some .invalid

/-- The lowest record index a run has free. -/
def freeRecord (r : Run) : Nat :=
  ((List.range (r.objs.length + 1)).find? fun i => !r.objs.any fun o => o.idx = i).getD 0

/-- A PUT takes its slots, frames and home: the object is PUTTING (R501). -/
def takeObject (seat : Nat) (d : StashDesc) (r : Run) (first : Nat) (s : State) : State :=
  let o : StashObj :=
    { idx := freeRecord r, key := d.key, size := d.length / 4096, first := first, st := .putting, prot := d.protected_
      noCompress := d.noCompress, parity := d.parity, keySlot := d.keySlot
      kcv := ((loadedSlot s seat d.keySlot).map (·.kcv)).getD 0, held := putFrames d }
  touchRecord d.part r.run o (chargeHomes d.parity (putUnits d) (updRun d.part r.run (fun r => { r with objs := r.objs ++ [o] }) s))

/-- A PUT begins once its frames fit, spilling where it must (R501, R507). -/
def beginPut (x : Xfer) (d : StashDesc) (s : State) : State :=
  let run := keyRun d.key
  match runOf s d.part run with
  | none => s
  | some r =>
    let s := makeRoom d.part run (putFrames d) none (r.objs.length + 1) s
    match runOf s d.part run, freeSlots s d.part (keyLayer d.key) (putFrames d) with
    | some r, some first =>
      if r.free < putFrames d then s
      else
        let s := takeObject x.seat d r first s
        let s := match d.win, windowOf s x.seat d.window with
          | true, some w => peerReads w.mask (w.base + d.addr) d.length s
          | _, _ => s
        updXfer x.op (fun y => { y with issued := some 0 }) s
    | _, _ => s

/-- The first descriptor of a transfer begins, where it can (R500). -/
def beginStash (x : Xfer) (s : State) : State :=
  match x.stash with
  | [] => s
  | d :: _ =>
    if (stashStatus s x.seat d).isSome then s
    else if d.op = 1 then beginPut x d s
    else updXfer x.op (fun y => { y with issued := some 0 }) (consumeKey d.part (keyRun d.key) d.key s)

/-- STASH_TRANSFER's effect (R500). -/
def stashTransfer (e : Env) (descs : List StashDesc) (s : State) : State × Reply :=
  let x : Xfer := { op := s.opCtr, seat := e.seat, stash := descs }
  let part := ((descs.head?).map (·.part)).getD 0
  let (s, a) := startLong e (.stash part (((descs.head?).map fun d => keyRun d.key).getD 0)) { s with xfers := s.xfers ++ [x] }
  (beginStash x s, a)

/-- STASH_TRANSFER (0xC802, R500). -/
def execStashTransfer (e : Env) (descs : List StashDesc) (s : State) : Host.Outcome State Fault Refusal :=
  mailbox Op.stashTransfer e (.stashTransfer e descs) (.poolOps :: (descs.map fun d => ClaimObj.partition d.part).eraseDups)
    (stashCheck e descs) (stashTransfer e descs) s

/-! ### What a descriptor moves -/

/-- KV-space address of an object's first byte. -/
def objAddr (s : State) (part : Nat) (o : StashObj) : Nat := 32768 * o.frame (s.parts.get part).body 0

/-- Write an object's bytes, frame by frame, held by the ceiling where it must be (R324, R413, R501). -/
def writeObj (op part addr : Nat) (data : List Byte) (s : State) : State :=
  (framePieces addr data.length).foldl (fun s p =>
    let bytes := (data.drop (p.1 - addr)).take p.2
    if heldAt s false (.kv part) p.1 p.2 then holdWrite false (.kv part) p.1 bytes (.xfer op) s else putNow (.kv part) p.1 bytes s) s

/-- The source of a PUT as the object holds it. -/
def putBytesOf (s : State) (x : Xfer) (d : StashDesc) (o : StashObj) (data : List Byte) : List Byte :=
  let plain := if d.win then padTo d.length data else readHdm s x.seat d.addr d.length
  match d.protected_, objKey s o with
  | true, some k => objLines true k d.key 0 plain
  | _, _ => plain

/-- A 64 KiB unit of an object that must be read from flash is LOST, or one in HBM is damaged (R589). -/
def objBad (s : State) (part run : Nat) (o : StashObj) (off len : Nat) : Bool :=
  (framePieces off len).any fun p =>
    let i := p.1 / 32768
    if i < o.held then damagedAt s (.kv part) (objAddr s part o + p.1) p.2
    else ((mapOf s (.stash part run o.key (i / 2))).map (·.lost)).getD false

/-- Bytes of an object: from HBM where its frames are held, from its home otherwise (R502). -/
def objBytes (s : State) (part run : Nat) (o : StashObj) (off len : Nat) : List Byte :=
  ((framePieces off len).map fun p =>
    let i := p.1 / 32768
    if i < o.held then memBytes (s.parts.get part).kv (objAddr s part o + p.1) p.2
    else match mapOf s (.stash part run o.key (i / 2)) with
      | some m => memBytes m.data (p.1 - 65536 * (i / 2)) p.2
      | none => List.replicate p.2 0).flatten

/-- What a GET delivers (R502). -/
def getBytes (s : State) (d : StashDesc) (o : StashObj) : List Byte :=
  let raw := objBytes s d.part (keyRun d.key) o d.offset d.length
  match o.prot, objKey s o with
  | true, some k => objLines false k d.key (d.offset / 64) raw
  | _, _ => raw

/-- An object marked to be dropped goes once no GET reads it (Table 17-6). -/
def dropReleased (part run key : Nat) (s : State) : State :=
  match objOf s part run key with
  | some o => if o.dropAfter && !beingRead s part key then dropObj part run key s else s
  | none => s

/-- The ACCOUNT of a PUT that ends with CAPACITY: 3 for its slots or its record, 7 for its home, 0x12 for one in the parity space (R501). -/
def putAccount (s : State) (d : StashDesc) : Nat :=
  if ((runOf s d.part (keyRun d.key)).any fun r => r.maxObjects ≤ r.objs.length) ||
      (freeSlots s d.part (keyLayer d.key) (putFrames d)).isNone then 3
  else if d.parity then 0x12 else 7

/-- What is left in µs of the PUT or GET that an object's other user waits for (Table 17-6). -/
def objWait (s : State) (d : StashDesc) : Nat :=
  match s.xfers.findSome? fun y => match y.stash with
    | c :: _ => if y.issued.isSome && c.part = d.part && c.key = d.key then some (y.seat, c) else none
    | [] => none with
  | some (n, c) => usOf (BulkQ.scaled s .stash (stashTime s n c))
  | none => 0

/-- End a transfer whose first descriptor has failed: CAPACITY names its ACCOUNT, BUSY carries the remaining bound (R501, Table 17-6; log entry
116). -/
def endFailed (x : Xfer) (d : StashDesc) (st : Status) (s : State) : State :=
  match st with
  | .capacity => finishShort x.op (putAccount s d) (dropXfer x.op s)
  | .busy => finishOpWith x.op .busy .none { first := objWait s d, retry := objWait s d } (dropXfer x.op s)
  | _ => endXfer x.op st s

/-- A descriptor fails: what a PUT took goes back, its record carries the status, and the transfer ends (R481, R500). -/
def failStash (x : Xfer) (d : StashDesc) (st : Status) (s : State) : State :=
  let s := if d.op = 1 && x.issued.isSome then dropObj d.part (keyRun d.key) d.key s else s
  let s := endFailed x d st (putResult x.op x.seat d.result st 0 s)
  if d.op = 2 then dropReleased d.part (keyRun d.key) d.key s else s

/-- A descriptor's effect on its object once its bytes have moved (R501–R503). -/
def settleObject (d : StashDesc) (s : State) : State :=
  let run := keyRun d.key
  match d.op with
  | 1 =>
    let n := ((runOf s d.part run).map (·.puts)).getD 0
    let s := updObj d.part run d.key (fun o => { o with st := .held, order := n }) (updRun d.part run (fun r => { r with puts := r.puts + 1 }) s)
    match objOf s d.part run d.key with
    | some o => touchRecord d.part run o s
    | none => s
  | 2 => if d.release then updObj d.part run d.key (fun o => { o with dropAfter := true }) s else s
  | _ => dropObj d.part run d.key s

/-- A descriptor ends: its result record, and the next one or the end of the transfer (R500). -/
def finishStash (x : Xfer) (d : StashDesc) (s : State) : State :=
  let s := settleObject d (forgetReads x.op (putResult x.op x.seat d.result .ok (if d.op = 3 then 0 else d.length) s))
  let rest := x.stash.drop 1
  let s := updXfer x.op (fun y => { y with stash := rest, issued := none }) s
  let s := if d.op = 2 then dropReleased d.part (keyRun d.key) d.key s else s
  if rest.isEmpty then endXfer x.op .ok s else beginStash { x with stash := rest, issued := none } s

/-- The homes a GET reads count their pages' reads (R386, R502). -/
def countHomes (d : StashDesc) (o : StashObj) (s : State) : State :=
  (objHomes s d.part (keyRun d.key) d.key (max o.held (d.offset / 32768) / 2) (ceilDiv (d.offset + d.length) 65536)).foldl
    (fun s x => countReads x.2 s) s

/-- A begun descriptor moves its bytes (R501, R502). -/
def moveStash (x : Xfer) (d : StashDesc) (data : List Byte) (s : State) : State :=
  match objOf s d.part (keyRun d.key) d.key with
  | none => s
  | some o =>
    match d.op with
    | 1 => writeObj x.op d.part (objAddr s d.part o) (putBytesOf s x d o data) s
    | 2 =>
      let b := getBytes s d o
      let s := countHomes d o s
      if d.win then match windowOf s x.seat d.window with
        | some w => flushReads w.base (portsUsed s w.mask (w.base + d.addr) d.length) (peerWrites x.seat w.mask (w.base + d.addr) b s)
        | none => s
      else writeHdm x.op x.seat d.addr b s
    | _ => s

/-- HDM extents a stash descriptor reads and writes. -/
def stashReads (d : StashDesc) : List (Nat × Nat) := if d.op = 1 && !d.win then [(d.addr, d.length)] else []
def stashWrites (d : StashDesc) : List (Nat × Nat) :=
  (if d.op = 2 && !d.win then [(d.addr, d.length)] else []) ++ (if d.result = 0 then [] else [(d.result, 16)])

/-- Data a begun descriptor reads is damaged or lost (R589). -/
def stashBad (s : State) (x : Xfer) (d : StashDesc) : Bool :=
  match d.op with
  | 1 => !d.win && extentDamaged s x.seat d.addr d.length
  | 2 => match objOf s d.part (keyRun d.key) d.key with
    | some o => objBad s d.part (keyRun d.key) o d.offset d.length
    | none => true
  | _ => false

/-- The extents of a begun descriptor still keep R479. -/
def stashExtentsOk (s : State) (seat : Nat) (d : StashDesc) : Bool :=
  (d.op = 3 || d.win || extentOk s seat (fun _ wr => wr || d.op = 1) d.addr d.length) &&
    (d.result = 0 || extentOk s seat (fun _ wr => wr) d.result 16)

/-- A begun descriptor runs as far as it can. -/
def runStash (x : Xfer) (d : StashDesc) (data : List Byte) (s : State) : State :=
  if x.issued = some 1 then
    let waits := writeWaits s x.seat (if d.result = 0 then [] else [(d.result, 16)])
    if xferHeld s x.op || !resultRoom s x.seat d.result then s
    else if waits.isEmpty then finishStash x d s else askLines x.op [] waits s
  else if !stashExtentsOk s x.seat d then failStash x d .invalid s
  else if d.op != 3 && d.win && windowDown s x.seat d.window then failStash x d .invalid (portFault x s)
  else
    let reads := readWaits s x.op x.seat (stashReads d)
    let writes := writeWaits s x.seat (stashWrites d)
    if !reads.isEmpty || !writes.isEmpty then askLines x.op reads writes s
    else if stashBad s x d then failStash x d .invalid (opFault x .invalid s)
    else
      let s := updXfer x.op (fun y => { y with issued := some 1 }) (moveStash x d data s)
      if xferHeld s x.op || !resultRoom s x.seat d.result then s else finishStash x d s

/-- STASH_DESCRIPTOR_END (R341, R500): the descriptor that runs has moved its data; `data` is what its window source returned. One that
could not begin is tried again. -/
def execStashDescriptorEnd (op : Nat) (data : List Byte) (s : State) : Host.Outcome State Fault Refusal :=
  match xferOf s op with
  | none => .next s
  | some x => match x.stash with
    | [] => .next s
    | d :: _ =>
      if !stashTurn s (xferPlace x.op) then .next s
      else if x.issued.isSome then .next (runStash x d data s)
      else match stashStatus s x.seat d with
        | some st => .next (failStash x d st s)
        | none => .next (beginStash x s)

/-! ### Failed peer reads (R66) -/

/-- Some flush read follows a transfer's writes to a window: they go over more than one port (R65). -/
def flushesAfter (s : State) (seat id off len : Nat) : Bool :=
  match windowOf s seat id with
  | some w => 1 < (portsUsed s w.mask (w.base + off) len).length
  | none => false

/-- The first descriptor of a pool operation reads a window, or flushes its writes to one. -/
def poolPeerReads (s : State) (x : Xfer) (d : PoolDesc) : Bool :=
  x.issued.isNone && ((d.op != 1 && d.srcWin) || (d.dstWin && flushesAfter s x.seat d.dstWindow d.dst d.length))

/-- The first descriptor of a stash transfer reads a window, or flushes its writes to one. -/
def stashPeerReads (s : State) (x : Xfer) (d : StashDesc) : Bool :=
  x.issued = some 0 && d.win && (d.op = 1 || (d.op = 2 && flushesAfter s x.seat d.window d.addr d.length))

/-- PEER_READ_FAILURE (R65, R66): a completion timeout, Unsupported Request or Completer Abort of a peer read, a flush read among them, ends
its operation, or the item in service, with INVALID. -/
def execPeerReadFailure (src : ReadSource) (s : State) : Host.Outcome State Fault Refusal :=
  match src with
  | .item => .next (failFlush s)
  | .op op =>
    let log := fun (seat : Nat) (s : State) =>
      logFault { unit := 5, index := seat, event := 6, action := 6, seat := seat, tag := (Config.opid op).toNat, detail := Status.invalid.code } s
    match s.pulls.find? fun p => p.op = op with
    | some p => .next (finishOp op .invalid (log p.seat { s with pulls := s.pulls.filter fun q => q.op != op }))
    | none => match xferOf s op with
      | none => .next s
      | some x => match x.pool, x.stash with
        | d :: _, _ => .next (if poolPeerReads s x d then failPool x d .invalid (log x.seat s) else s)
        | _, d :: _ => .next (if stashPeerReads s x d then failStash x d .invalid (log x.seat s) else s)
        | _, _ => .next s

end Sys2Proof.Machine
end

