-- ==== Sys2Proof/Machine/Resets.lean ====
section
/-! DEFINITION. Port resets and seat resets (R40, R68–R71, R568, R574, R575). -/

namespace Sys2Proof.Machine

/-! ### Port resets -/

/-- A port's link goes down: its negotiated state, IDE keys and IDE state are lost, and CLKMODE_NEXT takes effect (R41, R56, R62,
Table 20-5). After an integrity failure traffic goes on waiting for fresh keys (R56). -/
def downPort (p : Port) : Port :=
  { p with linkUp := false, width := 0, speed := 0, cxlMode := false, lopt := false, reversed := false, mld := false
           ideKey := none, ideProgrammed := none, ioKey := none, ioProgrammed := none, ideFailed := false, clkMode := p.clkModeNext }

/-- The link of a port goes down, and on its LDs the SPDM sessions, the object a DOE instance processes and the requests held in the
ingress queue go (Table 20-5). -/
def portDown (port : Nat) (s : State) : State :=
  (List.range 16).foldl (fun s l => updLd port l (fun d => { d with sessions := 0, doeWork := none, ingress := [] }) s)
    (updPort port downPort s)

/-- Seats mapped to a port. -/
def portSeats (s : State) (port : Nat) : List Nat :=
  (List.range 64).filter fun n => ((s.seats.get n).map.map (·.1)) = some port

/-- What a held write waits for is a CXL.mem request of one of these seats. -/
def HeldTag.ofSeats (l : List Nat) : HeldTag → Bool
  | .host seat _ _ => l.contains seat
  | .ring seat _ _ _ => l.contains seat
  | .header seat _ _ _ => l.contains seat
  | _ => false

/-- What an entry of a stream carries for one of these seats' requests. -/
def EntryUse.ofSeats (l : List Nat) : EntryUse → Bool
  | .hostWrite seat _ => l.contains seat
  | .lineRead seat _ _ _ _ => l.contains seat
  | _ => false

/-- CXL.mem requests in flight of these seats are discarded without response (Table 20-5). -/
def dropRequests (l : List Nat) (s : State) : State :=
  let keep := fun (e : Entry) => { e with uses := e.uses.filter fun u => !u.ofSeats l }
  { s with
    coh := { s.coh with queue := s.coh.queue.filter fun r => !(r.who.any l.contains) }
    tier := { s.tier with heldWrites := s.tier.heldWrites.filter fun w => !w.tag.ofSeats l }
    pset := { s.pset with members := s.pset.members.map fun m =>
      { m with waiting := m.waiting.map (fun x => (x.1, x.2.1, keep x.2.2)), queued := m.queued.map keep } } }

/-- A request that a host waits on for data. -/
def CohOp.isRead : CohOp → Bool
  | .read _ => true
  | .readData => true
  | _ => false

/-- Every CXL.mem read in flight of a seat is answered with poison: those held in the ingress queue, those that wait at a line, and those
that wait for a replica (R56). -/
def poisonReads (port ld n : Nat) (s : State) : State :=
  let held := (s.lds.get (ldKey port ld)).ingress
  let s := updLd port ld (fun d => { d with ingress := d.ingress.filter fun r => match r with
    | .read _ _ => false
    | _ => true }) s
  let s := held.foldl (fun s r => match r with
    | .read addr _ => poison n addr s
    | _ => s) s
  let waits := fun (r : CohReq) => r.who = some n && r.op.isRead
  let s := (s.coh.queue.filter waits).foldl (fun s r => poison n r.hpa s) s
  let s := { s with coh := { s.coh with queue := s.coh.queue.filter fun r => !waits r } }
  let uses := (s.pset.members.map fun m => (m.waiting.map (·.2.2.uses) ++ m.queued.map (·.uses)).flatten).flatten
  let s := uses.foldl (fun s u => match u with
    | .lineRead seat hpa _ _ _ => if seat = n then poison n hpa s else s
    | _ => s) s
  let keep := fun (e : Entry) => { e with uses := e.uses.filter fun u => match u with
    | .lineRead seat _ _ _ _ => seat != n
    | _ => true }
  { s with pset := { s.pset with members := s.pset.members.map fun m =>
    { m with waiting := m.waiting.map (fun x => (x.1, x.2.1, keep x.2.2)), queued := m.queued.map keep } } }

/-- The port stops for an integrity failure: every CXL.mem read in flight on it gets poison, IDE_FAILED is set, and traffic waits for a
port reset and fresh keys (R56). -/
def stopForIde (port : Nat) (s : State) : State :=
  let s := (List.range 16).foldl (fun s l => match seatOfLd s port l with
    | some n => poisonReads port l n s
    | none => s) s
  updPort port (fun p => { p with ideFailed := true, needKeys := true }) (cohSettle s)

/-- IDE_INTEGRITY_FAILURE (R56). -/
def execIdeIntegrityFailure (port : Nat) (s : State) : Host.Outcome State Fault Refusal :=
  if 8 ≤ port then .next s
  else
    let p := s.ports.get port
    if p.linkUp && (p.ideKey.isSome || p.ioKey.isSome) && !p.ideFailed then
      .next (emit (.aer port) (logFault { unit := 4, index := port, event := 13, action := 6, port := port } (stopForIde port s)))
    else .next s

/-- A port reset (R71, R575): the link and what it carried go, and the port's seats are fenced (R453). -/
def resetPort (port : Nat) (s : State) : State :=
  let l := portSeats s port
  cohSettle (l.foldl (fun s n => fenceByReset n s) (dropRequests l (portDown port s)))

/-- HOT_RESET (R71). -/
def execHotReset (port : Nat) (s : State) : Host.Outcome State Fault Refusal :=
  if 8 ≤ port then .next s
  else if (s.ports.get port).linkUp then .next (resetPort port s) else .next s

/-- LINK_DISABLE (R71): a port reset; the link stays down until the partner leaves Disabled. -/
def execLinkDisable (port : Nat) (s : State) : Host.Outcome State Fault Refusal :=
  if 8 ≤ port then .next s
  else if (s.ports.get port).linkUp then
    .next (updPort port (fun p => { p with disabled := true }) (resetPort port s))
  else .next s

/-- SURPRISE_LINK_DOWN (R40, R528): link loss is handled as a port reset. -/
def execSurpriseLinkDown (port : Nat) (s : State) : Host.Outcome State Fault Refusal :=
  if 8 ≤ port then .next s
  else if (s.ports.get port).linkUp then .next (resetPort port s) else .next s

/-- Lane mask of a group (Table 21-8a). -/
def groupMask (high : Bool) : Nat := if high then 0xFF00 else 0x00FF

/-- Retire a lane group (R69): the port retrains on the other group, or is retired as a whole; the failure is
itself the permanent event (Table 21-1; log entry 109). -/
def retireGroup (port : Nat) (high : Bool) (count : Nat) (s : State) : State :=
  let s := updPort port (fun p => if high then { p with groupH := false } else { p with groupL := false }) s
  let f : FaultEv := { cls := 1, unit := 4, index := port, event := 4, count := count, action := 3, port := port, location := groupMask high }
  resetPort port (causeFault (if (s.ports.get port).retired then 5 else 4) f s)

/-- A group is usable. -/
def groupUsable (s : State) (port : Nat) (high : Bool) : Bool :=
  if high then (s.ports.get port).groupH else (s.ports.get port).groupL

/-- LANE_GROUP_FAILURE (R68): counted, and permanent at the third within 24 h or on a hard signature. -/
def execLaneGroupFailure (port : Nat) (high hard : Bool) (s : State) : Host.Outcome State Fault Refusal :=
  if 8 ≤ port then .next s
  else if !groupUsable s port high then .next s
  else
    let (s, n) := countFailure { unit := 4, index := port, place := bit high } false s
    if hard || 3 ≤ n then .next (retireGroup port high n s)
    else .next (logFault { unit := 4, index := port, event := 4, count := n, action := 1, port := port, location := groupMask high } s)

/-! ### Seat resets (R574) -/

/-- Partitions whose open step a ring of the seat owns. -/
def ownedSteps (s : State) (seat : Nat) : List Nat :=
  (List.range 16).filter fun p => let x := (s.parts.get p).step; x.cond != .idle && x.ownerSeat = seat

/-- The response in a seat's mailbox, and one that its Doorbell waits for, are discarded, and the mailbox registers are reset; a latched
command still runs (R83, R574, R624). -/
def discardResponse (seat : Nat) (s : State) : State :=
  let v := (s.seats.get seat).negVersion
  updMbx seat (fun m => { m with
    resp := none, deferWait := none, latched := none, waitingSince := none, spoiled := false, opcode := 0, posted := 0
    orphans := m.orphans ++ (m.latched.map fun c => (c, v)).toList }) s

/-- A seat reset, in R574's order. -/
def seatReset (seat : Nat) (s : State) : State :=
  let s := discardResponse seat (cohSettle (fenceByReset seat s))
  let s := (ownedSteps s seat).foldl (fun s p =>
    if (s.parts.get p).step.cond = .closing then s else closeStep p false s) s
  let s := (List.range 4).foldl (fun s k => if (ringOf s seat k).live then (destroyRing seat k s).1 else s) s
  updSeat seat (fun t => { t with
    noticeSet := false, noticeBase := 0, noticeLog2 := 0, noticeTail := 0, noticeHead := 0, noticeHeld := [], noticeLost := false
    windows := [], kvWindows := [], negVersion := 0 }) s

/-- A reset of an LD is a reset of its seat (R71). -/
def ldReset (port ld : Nat) (s : State) : Host.Outcome State Fault Refusal :=
  if 8 ≤ port || 16 ≤ ld then .next s
  else if !ldReached s port ld then .next s
  else match seatOfLd s port ld with
    | some n => .next (seatReset n s)
    | none => .next s

/-- FUNCTION_LEVEL_RESET (R574). -/
def execFunctionLevelReset (port ld : Nat) (s : State) : Host.Outcome State Fault Refusal := ldReset port ld s

/-- CXL_RESET (R574): HDM contents are never cleared (R71). -/
def execCxlReset (port ld : Nat) (s : State) : Host.Outcome State Fault Refusal := ldReset port ld s

end Sys2Proof.Machine
end

