-- ==== Sys2Proof/Machine/Losses.lean ====
section
/-! DEFINITION. What stops and what is kept (§14.5 to §14.7, §20.3, §20.4): stopping at a trigger or reset, what every start
loses, how steps, requests and regions are settled, and what flush recovery, a replay start and a warm start restore. -/

namespace Sys2Proof.Machine

/-! ### Stopping (R416, R570) -/

/-- A program in flight ends, with its journal record; its stripe becomes stale where its delta has not been consumed (R372, R416,
R489). -/
def endProgram (q : Prog) (s : State) : State :=
  let s := match parityIndex s q.key with
    | some k => if parityWaits s q.key then addStale k s else s
    | none => s
  let fs := framesOfUnit s q.key
  let s := programDone q s
  { s with frames := (s.frames.map fun g => if fs.contains g.key then { g with wb := false } else g).filter fun g => g.dirty || g.wb }

/-- Programs in flight end (R416, R420). -/
def endPrograms (s : State) : State :=
  let l := s.flash.inflight
  l.foldl (fun s q => endProgram q s) { s with flash := { s.flash with inflight := [] } }

/-- A step is discarded: STEP_NO keeps its number, and what is staged stays staged; a park staged to the boundary has ended (R426). -/
def discardStep (p : Part) : Part := { p with step := {}, staged := { p.staged with parks := [] } }

/-- The links go down, items and draws are abandoned, and cores and Weir stop (R416, R570): operations in progress, claims, held
records and pending global writes end there, and a BUILDING node is freed (R229). -/
def stopWork (s : State) : State :=
  let s := (s.ops.filter fun o => o.done.isNone).foldl (fun s o => dropBuilding o s) (endPrograms s)
  let s := (List.range 8).foldl (fun s p => portDown p s) s
  { s with
    parts := s.parts.mapTo 16 fun _ p => discardStep p
    held := [], draws := [], pulls := [], xfers := [], ops := [], claims := [], swap := none
    svc := { s.svc with inService := none, nextUp := none, halfA := none, halfB := none, gate := .gated }
    glb := { s.glb with hwparse := s.glb.hwparse && !s.glb.parserRetired, hwparsePend := none, ditherCtrlPend := none, ditherSaltPend := none, pwrCtrlPend := none }
    flash := { s.flash with ckpt := none }
    hup := { s.hup with testOp := none }
    pwr := { s.pwr with gpf := [], throttled := [], held := [] }
    dev := { s.dev with fwReady := false, memActive := false, admitOpen := false, portLock := 0, restoreRegions := [], restoreParts := [] }
    flt := { s.flt with restarting := false, writing := none, activating := none, warmDue := none } }

/-! ### What is lost (R425, Table 20-6) -/

/-- What every start loses of a seat. -/
def freshSeat (t : Seat) : Seat := { map := t.map, maxEntries := t.maxEntries, maxFrames := t.maxFrames, limits := t.limits }

/-- What every start loses of an LD: D3hot, sessions, latches and the counts of the collection interval. -/
def freshLd (d : Ld) : Ld :=
  { alloc := d.alloc, cdatSeq := d.cdatSeq, allocBw := d.allocBw, limitBw := d.limitBw, infoLog := d.infoLog, warnLog := d.warnLog
    failLog := d.failLog, fatalLog := d.fatalLog }

/-- Logit windows and reach selections are removed. -/
def freshRt (e : Rt) : Rt := { e with logit := none, sel := 0, sink := 0, recent := 0 }

/-- What every start loses (R425, R571, Table 22-2): mailboxes, versions, rings and windows of the seats, logit windows and selections, and
the directory with its snoops, queues and fences. -/
def loseVolatile (s : State) : State :=
  { s with
    seats := s.seats.mapTo 64 fun _ t => freshSeat t
    lds := { s.lds with cells := s.lds.cells.map fun c => (c.1, freshLd c.2) }
    rt := { s.rt with cells := s.rt.cells.map fun c => (c.1, freshRt c.2) }
    coh := {}
    glb := { s.glb with hwparse := !s.glb.parserRetired, ditherCtrl := 0, ditherSalt := 0 } }

/-- A block's counts as a cold start takes them up again: the erase count from its latest entry of 32(k + 1), the reads of a closed block at
100,000 (R380, R386). -/
def resumeBlk (b : Blk) : Blk :=
  { b with erase := 32 * ceilDiv b.erase 32, reads := if b.st = .closed then 100000 else b.reads, refresh := false }

/-- What a cold start loses besides: registers, the keys of the key bank (R472), replicas and streams, the mode of SRAM and link
settings that are measured again, and HBM's damage (R568, R569). -/
def loseCold (s : State) : State :=
  { s with
    keySlots := s.keySlots.map fun k => { k with loaded := false, key1 := 0, key2 := 0, kcv := 0 }
    acct := { s.acct with frames := s.acct.frames - replicaFrames s.pset.replicas }
    pset := { s.pset with
      replicas := [], parity := [], stripes := [], rebuildOp := none, joinOp := none
      members := s.pset.members.map fun m => { m with sent := 0, credit := 0, applied := 0, waiting := [], queued := [] } }
    tel := {}
    flt := { s.flt with damage := [], uncRows := [] }
    flash := { s.flash with
      calLast := { dflt := 0 }, recalDue := recalStart, hbmScrub := { dflt := (0, 0, 0) }, scrub := { dflt := (0, 0, s.dev.parkClock) }
      lanes := { s.flash.lanes with cells := s.flash.lanes.cells.map fun l => (l.1, { l.2 with
        blocks := { l.2.blocks with cells := l.2.blocks.cells.map fun b => (b.1, resumeBlk b.2) } }) } }
    dev := { s.dev with timestamp := (0, 0) } }

/-- A join that has not formed its set ends (R425, R484). -/
def abortJoin (s : State) : State := if s.pset.phase = .forming then { s with pset := {} } else s

/-! ### Settling partitions, requests and regions (R426, R571) -/

/-- Commit what is staged for a partition, as the boundary's actions 3 to 5 do (R194, R426). -/
def settlePart (part : Nat) (s : State) : State :=
  let unload := (s.parts.get part).staged.unload
  let s := (cancelled s part).foldl (fun s h => freeRequest h s) s
  let s := commitStaged part s
  if unload.isSome then emptyPart part (unloadNow part [] s) else s

/-- An unpark that ended returns its request to PARKED, or its ticket to the ticket table: what it charged is released. -/
def undoUnpark (i : Nat) (s : State) : State :=
  let e := s.rt.get i
  let k := s.parks.find? fun p => p.handle = some (handleOfRt s i)
  let fromTicket := k.isNone
  let s := dropDigests e.part e.slots s
  let s := releaseAcct { seat := e.seat, part := e.part, entries := bit fromTicket, slots := e.slots.length, frames := e.frames } s
  match k with
  | some k => { s with rt := s.rt.set i { e with state := .parked, before := e.before, slots := [], reaches := k.saved.reaches } }
  | none => freeEntry i s

/-- Requests PARKING return to their state before the park, requests UNPARKING to PARKED (R426). -/
def settleRequests (s : State) : State :=
  s.rt.cells.foldl (fun s c =>
    match c.2.state with
    | .parking => { s with rt := s.rt.upd c.1 fun e => { e with state := e.before } }
    | .unparking => undoUnpark c.1 s
    | _ => s) s

/-- A region whose operation ended (R425): a park leaves it held, an unpark parked, a zero-fill or a free held. -/
def settleRegion (s : State) (r : Region) : State :=
  match r.st with
  | .parking => updRegion r.id (fun r => { r with st := .held }) s
  | .unparking => updRegion r.id (fun r => { r with st := .parked }) (releaseAcct (framesCharge r) s)
  | .freeing => updRegion r.id (fun r => { r with st := .held }) s
  | .zeroFilling => updRegion r.id (fun r => { r with st := .held }) s
  | _ => s

/-- A swap out that ended is abandoned (R426). -/
def settleSwapOut (s : State) : State :=
  { s with parts := s.parts.mapTo 16 fun _ p =>
      if p.state = .draining || p.state = .swappingOut then { p with state := .resident } else p }

/-- Puts and drops of stash objects that had not ended leave no object (R512). -/
def dropUnended (part : Nat) (s : State) : State :=
  (s.parts.get part).runs.foldl (fun s r =>
    (r.objs.filter fun o => o.st = .putting || o.st = .dropping).foldl (fun s o => dropObj part r.run o.key s) s) s

/-- Stash work that had not ended: puts and drops leave no object, and unspills begin again. -/
def settleStash (part : Nat) (s : State) : State :=
  updPart part (fun p => { p with runs := p.runs.map fun r => { r with unspill := none } }) (dropUnended part s)

/-- Settle what was in progress (R426, R571). -/
def settle (s : State) : State :=
  let s := (List.range 16).foldl (fun s p => settleStash p (settlePart p s)) (settleSwapOut s)
  abortJoin (s.regions.foldl settleRegion (settleRequests s))

/-! ### Flush recovery (R419, R426, R427) -/

/-- The home of an unsaved frame is LOST, with its journal record (R397, R419). -/
def loseHome (u : UnitKey) (s : State) : State :=
  let s := giveUnit u s
  let unit := (unitNo s u).getD 0
  journal 1 (if s.flash.map.any fun m => m.unit = unit then
    { s with flash := { s.flash with map := s.flash.map.map fun m => if m.unit = unit then { m with lost := true } else m } }
  else { s with flash := { s.flash with map := s.flash.map ++ [{ unit := unit, lost := true, len := 0xFFF, pos := 0, data := [] }] } })

/-- The homes of unsaved frames are LOST. -/
def loseUnsaved (s : State) : State :=
  s.frames.foldl (fun s f => match unitOfFrame s f.key with
    | some (u, _) => loseHome u s
    | none => s) s

/-- HBM is empty: bytes, frames, damage and held writes go. -/
def emptyHbm (s : State) : State :=
  { s with
    frames := []
    parts := s.parts.mapTo 16 fun _ p => { p with kv := [], digestValid := [] }
    regions := s.regions.map fun r => { r with data := [] }
    tier := { s.tier with heldWrites := [] }
    flt := { s.flt with damage := [] } }

/-- Insert a region into ascending seat and HDM address order (R427). -/
def insertRegion (r : Region) : List Region → List Region
  | [] => [r]
  | x :: rest => if r.seat < x.seat || (r.seat = x.seat && r.base < x.base) then r :: x :: rest else x :: insertRegion r rest

/-- Regions to restore, in order: every one that is not parked. -/
def regionsToRestore (s : State) : List Nat :=
  ((s.regions.filter fun r => r.st != .parked).foldl (fun l r => insertRegion r l) []).map (·.id)

/-- A swap slot for the read-back (R427); its operation number names no operation. -/
def restoreSwap (part : Nat) (s : State) : State :=
  { s with swap := some { out := false, part := part, release := false, op := s.opCtr, restore := true }, opCtr := s.opCtr + 1 }

/-- Begin the read-back of regions, and of these partitions (R427). -/
def beginRestore (parts : List Nat) (s : State) : State :=
  let rs := regionsToRestore s
  let s := { s with
    regions := s.regions.map (fun r => if r.st = .parked then r else { r with st := .restoring })
    dev := { s.dev with restoreRegions := rs, restoreParts := parts } }
  if rs.isEmpty && parts.isEmpty then s else restoreSwap (parts.headD 0) s

/-- Partitions whose frames flush recovery reads back (R427). -/
def loadedParts (s : State) : List Nat :=
  (List.range 16).filter fun p => (s.parts.get p).state = .resident || (s.parts.get p).state = .swappingIn

/-- Flush recovery (R426, R427): everything is as the metadata phase wrote it, and frames are read back from their homes. -/
def recoverFlush (s : State) : State :=
  let s := emptyHbm (loseUnsaved (settle s))
  let ps := loadedParts s
  let s := { s with
    parts := s.parts.mapTo 16 fun n p => if ps.contains n then { p with state := .swappingIn } else p
    nodes := s.nodes.map fun n => if ps.contains n.part then { n with state := .held } else n }
  beginRestore ps s

/-- Homes of a Stash partition's objects whose frames are in HBM. -/
def heldHomes (s : State) (part : Nat) : List (UnitKey × MapEnt) := mappedHomes s fun u => match u with
  | .stash p r k j => p = part && (match objOf s p r k with
      | some o => 2 * j < o.held
      | none => false)
  | _ => false

/-- A frame of an object that is not in HBM. -/
def spilledFrame (s : State) (part : Nat) : FrameKey → Bool
  | .kv p n => p = part && (match objOfFrame (s.parts.get p) n with
      | some (_, o) => o.held ≤ n % (s.parts.get p).body.slots - o.first
      | none => false)
  | _ => false

/-- A partition has been read back (R427). -/
def partRestored (part : Nat) (s : State) : State :=
  let s := if (s.parts.get part).body.mode = 1 then
      forgetFrames (spilledFrame s part) (readHomes (heldHomes s part) s)
    else s
  swapInEnd { out := false, part := part, release := false, op := s.opCtr } { s with opCtr := s.opCtr + 1 }

/-- What is restored next stands in the swap slot; none when all is read back. -/
def nextRestore (s : State) : State :=
  if s.dev.restoreRegions.isEmpty && s.dev.restoreParts.isEmpty then { s with swap := none }
  else restoreSwap (s.dev.restoreParts.headD 0) s

/-- RESTORE_COMPLETE (R427): the allocation or partition that is being read back is usable again. -/
def execRestoreComplete (s : State) : Host.Outcome State Fault Refusal :=
  if !s.dev.memActive || !s.dev.mapReady || s.flt.sable || !(s.swap.any (·.restore)) then .next s
  else match s.dev.restoreRegions with
    | id :: rest =>
      let s := updRegion id (fun r => { r with st := .held }) (readHomes (mappedHomes s (homeOfRegion id)) s)
      .next (releaseWrites (nextRestore { s with dev := { s.dev with restoreRegions := rest } }))
    | [] => match s.dev.restoreParts with
      | p :: rest => .next (releaseWrites (nextRestore (partRestored p { s with dev := { s.dev with restoreParts := rest } })))
      | [] => .next { s with swap := none }

/-! ### Replay (R422, R428, R429) -/

/-- A park is durable: every node its path references is (R423). -/
def parkDurable (s : State) (k : Park) : Bool := (refNodes s k.saved).all (nodeDurable s)

/-- A partition whose contents lie in HBM, so that a replay keeps of it only what is durable. -/
def partLost (p : Part) : Bool := p.state = .resident || p.state = .draining || p.state = .swappingOut

/-- A partition SWAPPING_IN returns SWAPPED: what the swap-in charged is released (R428). -/
def undoSwapIn (part : Nat) (s : State) : State :=
  if (s.parts.get part).state = .swappingIn then
    updPart part (fun p => { p with state := .swapped }) (releasePartFrames part s)
  else s

/-- Free a node that is not durable, whatever still named it (R428). -/
def forgetNode (n : Node) (s : State) : State :=
  match nodeOf s n.idx with
  | some m => evict m { s with pins := s.pins.filter fun q => q.1 != n.idx }
  | none => s

/-- What a replay keeps of a loaded partition (R428): its PARKED entries of durable parks and its durable nodes; its runs are
closed (R512). -/
def replayPart (part : Nat) (s : State) : State :=
  if !partLost (s.parts.get part) then s
  else
    let lost := (partNodes s part).filter fun n => !nodeDurable s n
    let s := ((partParks s part).filter fun k => !parkDurable s k).foldl (fun s k => freePark k s) s
    let kept := (s.parks.filter (·.part = part)).filterMap fun k => k.handle.map handleRti
    let s := ((partRequests s part).filter fun i => !kept.contains i).foldl (fun s i => freeRequest (handleOfRt s i) s) s
    let s := (s.parts.get part).runs.foldl (fun s r => closeRunNow part r.run s) s
    let s := lost.reverse.foldl (fun s n => forgetNode n s) s
    updPart part (fun p => { p with state := .resident, stepNo := 0, step := {}, staged := {} }) s

/-- Homes of the nodes of a partition are read back. -/
def replayRead (part : Nat) (s : State) : State :=
  if (s.parts.get part).state = .resident then
    reviveNodes part (readHomes (mappedHomes s (homeOfPart part)) s)
  else s

/-- The Request Table after a replay (R429): every entry that holds no request is FREE with GEN 0, or GEN 1 for entry 0. -/
def replayTable (s : State) : State :=
  let cells := s.rt.cells.filter fun c => c.2.state != .free
  let rt : Tab Rt := { s.rt with cells := if cells.any fun c => c.1 = 0 then cells else (0, { gen := 1 }) :: cells }
  { s with rt := rt, rtNext := 131072, rtFree := (List.range 131072).filter fun i => (rt.get i).state = .free }

/-- Open blocks are closed (R378). -/
def replayLanes (s : State) : State :=
  { s with flash := { s.flash with lanes := { s.flash.lanes with cells := s.flash.lanes.cells.map fun l => (l.1, { l.2 with
      host := none, gc := none
      blocks := { l.2.blocks with cells := l.2.blocks.cells.map fun b => (b.1, { b.2 with
        st := if b.2.st = .opened then .closed else b.2.st }) } }) } } }

/-- The ledger by its latest journal entries (R155). -/
def replayLedger (s : State) : State :=
  { s with tenants := { s.tenants with cells := s.tenants.cells.map fun c =>
      (c.1, { c.2 with consumed := c.2.journalM, balance := c.2.journalB }) } }

/-- The fault log and park clock by what was persisted (R333, R598, R615); the CXL event logs are empty. -/
def replayLogs (s : State) : State :=
  { s with
    dev := { s.dev with parkClock := s.dev.parkClockPersist }
    flt := { s.flt with log := s.flt.persisted, tcm := keepNewest 4096 s.flt.persisted, nextSeq := s.flt.seqPersist % 2 ^ 32 }
    lds := { s.lds with cells := s.lds.cells.map fun c =>
      (c.1, { c.2 with infoLog := {}, warnLog := {}, failLog := {}, fatalLog := {} }) } }

/-- The replay path (R428, R429, R512). -/
def replay (s : State) : State :=
  let s := s.regions.foldl settleRegion (settleRequests s)
  let s := (List.range 16).foldl (fun s p => replayPart p (undoSwapIn p s)) (abortJoin s)
  let s := (List.range 16).foldl (fun s p => replayRead p s) (emptyHbm s)
  let s := replayLogs (replayLedger (replayLanes (replayTable s)))
  beginRestore [] s

/-! ### Warm starts (R571, R584) -/

/-- The writes held by the ceiling are made; the ports have stopped, so nothing is answered (R416, R570, R571). -/
def makeHeld (s : State) : State :=
  { s.tier.heldWrites.foldl (fun s w => makeWrite w s) { s with tier := { s.tier with heldWrites := [] } } with out := s.out }

/-- A swap in that was in progress restarts (R571); so does a read-back after flush recovery. -/
def restartSwapIn (s : State) : State :=
  match (List.range 16).filter fun p => (s.parts.get p).state = .swappingIn with
  | p :: rest =>
    if rest.isEmpty && !(s.regions.any fun r => r.st = .restoring) then
      { s with swap := some { out := false, part := p, release := false, op := s.opCtr }, opCtr := s.opCtr + 1 }
    else beginAgain (p :: rest) s
  | [] => if s.regions.any fun r => r.st = .restoring then beginAgain [] s else s
where
  /-- The read-back goes on with what it has not reached. -/
  beginAgain (ps : List Nat) (s : State) : State :=
    restoreSwap (ps.headD 0) { s with dev := { s.dev with
      restoreRegions := ((s.regions.filter fun r => r.st = .restoring).foldl (fun l r => insertRegion r l) []).map (·.id), restoreParts := ps } }

/-- What a warm start restores: the state as saved, with what was in progress settled (R571). -/
def warmRestore (s : State) : State := restartSwapIn (settle s)

end Sys2Proof.Machine
end

