-- ==== Sys2Proof/Machine/Bringup.lean ====
section
/-! DEFINITION. Power and start-up (§14.5, §18.5, §18.6, chapter 20, §21.6): triggers and flushes, the fatal path, the rails, T_0,
warm resets, the clocks, and the milestones. -/

namespace Sys2Proof.Machine

/-! ### Changing power, clocks and faults -/

/-- Change the power state. -/
def updPwr (f : Pwr → Pwr) (s : State) : State := { s with pwr := f s.pwr }

/-- Change the device's clocks and start-up state. -/
def updDev (f : Dev → Dev) (s : State) : State := { s with dev := f s.dev }

/-- Change faults and firmware. -/
def updFlt (f : Flt → Flt) (s : State) : State := { s with flt := f s.flt }

/-- A flush runs. -/
def flushing (s : State) : Bool := s.pwr.stage = .flushData || s.pwr.stage = .flushMeta

/-- The device holds state that a trigger saves: it runs, or is in a warm reset (R415, R572). -/
def live (s : State) : Bool :=
  !s.dev.recovery && (s.pwr.stage = .up || s.pwr.stage = .saving || (s.pwr.stage = .waiting && !s.dev.coldDue))

/-- ALERT# (R527, R532, R543, R602). -/
def alertAsserted (s : State) : Bool :=
  (s.pwr.pwrEn && (!s.pldmQueue.isEmpty || s.flt.sable || s.dev.recovery)) || flushing s || s.pwr.startStopped || s.pwr.fatalOff

/-! ### Dumps (R602, R605) -/

/-- Write a dump into the slot that does not hold the latest one. -/
def takeDump (minimal : Bool) (cause : FaultRec) (s : State) : State :=
  let d : Dump :=
    { id := s.freeCtr, path := bit minimal, complete := true, tFatal := cause.tEvent, pclk := cause.pclk, boot := cause.boot
      fw := activeVersion s, image := bit s.flt.activeB, cause := cause, status := fltStatus s
      log := if minimal then s.flt.tcm else s.flt.log }
  let s := { s with freeCtr := s.freeCtr + 1 }
  if s.flt.latestDump = 0 then updFlt (fun f => { f with dump1 := some d, latestDump := 1 }) s
  else updFlt (fun f => { f with dump0 := some d, latestDump := 0 }) s

/-! ### Triggers and flushes (R415–R421) -/

/-- A take of the epoch counter that a loss of power or a reset meets ends after the programs it had done (R393, R394); a program under way
completes unless the bus fails (R416, R537; log entry 118). -/
def cutTakes (torn : Bool) (s : State) : State :=
  if s.dev.epochsDue then cutTake torn (Config.takeCut s.freeCtr).toNat { s with freeCtr := s.freeCtr + 1 } else s

/-- The charger stops at a trigger; a test that ran begins anew afterwards (R406, R408). -/
def stopCharger (s : State) : State :=
  updHup (fun h => { h with stopped := true, step := .waiting }) s

/-- Begin a flush: of the whole device, or of what is in flight (R415, R418, R420). -/
def beginFlush (c : FlushCause) (full energyStop : Bool) (s : State) : State :=
  let whole := !energyStop || dirtyCount s ≤ s.tier.ceiling
  updPwr (fun p => { p with stage := .flushData, flush := some { cause := c, whole := whole, full := full } }) (stopCharger (stopWork (cutTakes false s)))

/-- Main rails off: standby while there is an input, else off (R527, R544). -/
def railsOff (s : State) : State :=
  updPwr (fun p => { p with stage := if p.vin then .standby else .off, rails := 0, flush := none }) s

/-- A trigger by loss of the input or of the bus: the flush with its energy stop in FLUSH mode, the end of what is in flight in
REPLAY mode (R415, R418, R420). -/
def inputTrigger (s : State) : State := beginFlush .input s.tier.flushMode true s

/-- The dirty frames a flush may write, oldest first (R414, R418). -/
def flushOrder (s : State) : List FrameInfo :=
  (s.frames.filter fun f => (unitOfFrame s f.key).isSome && (s.flash.lanes.get (laneOfFrame s f)).cond != .dead).foldl (fun l f => insertOld f l) []
where
  /-- Insert a frame by its FIRST_DIRTY, then its number (R319). -/
  insertOld (f : FrameInfo) : List FrameInfo → List FrameInfo
    | [] => [f]
    | x :: rest => if f.firstDirty < x.firstDirty || (f.firstDirty = x.firstDirty && frameNo f.key < frameNo x.key) then f :: x :: rest else x :: insertOld f rest

/-- Write the units of these frames to their homes (R418); no collection starts (R416), so a lane with no room leaves its frames dirty. -/
def flushFrames (l : List FrameInfo) (s : State) : State :=
  let us := (l.filterMap fun f => (unitOfFrame s f.key).map (·.1)).eraseDups
  let x := us.foldl (fun (x : State × List UnitKey) u => match programUnit true u x.1 with
    | some s => (s, u :: x.2)
    | none => x) (s, [])
  { x.1 with frames := x.1.frames.filter fun f => !((unitOfFrame s f.key).any fun u => x.2.contains u.1) }

/-- The data phase of a flush ends: every frame was written, or the first `frames` of the order (R418, R419). -/
def endData (x : FlushSt) (frames : Nat) (s : State) : State :=
  updPwr (fun p => { p with stage := .flushMeta })
    (flushFrames (if x.whole then flushOrder s else (flushOrder s).take frames) s)

/-- FLUSH_DATA_PHASE_END (R418). -/
def execFlushDataPhaseEnd (frames : Nat) (s : State) : Host.Outcome State Fault Refusal :=
  match s.pwr.flush with
  | some x => if s.pwr.stage = .flushData && x.full then .next (endData x frames s) else .next s
  | none => .next s

/-- The metadata phase writes an exact ledger entry per tenant (R418, R615). -/
def exactLedger (s : State) : State :=
  { s with tenants := { s.tenants with cells := s.tenants.cells.map fun c =>
      (c.1, { c.2 with journalM := c.2.consumed, journalB := c.2.balance }) } }

/-- The boot record marks the flush as complete, and the checkpoint it names holds the whole map (R418). -/
def bootRecord (s : State) : State :=
  let s := exactLedger (programJournal s)
  updDev (fun d => { d with bootFlush := true, flushFailed := false, parkClockPersist := d.parkClock })
    { s with flash := { s.flash with jOpen := 0, jSince := 0 } }

/-- A late fatal event's minimal dump, while the input or 600 J remain (R604). -/
def lateDump (x : FlushSt) (s : State) : State :=
  match x.late with
  | some r => if s.pwr.vin || 600000 ≤ s.hup.eStored then takeDump true r s else s
  | none => s

/-! ### T_0 (R526, R562, R569, R571, R576) -/

/-- The image the boot ROM starts: the active one, else the other, when it is valid with an SVN at least the minimum (R607). -/
def bootImage (s : State) : Option Bool :=
  let ok := fun (x : FwSlot) => x.valid && s.flt.minSvn ≤ x.svn
  let act := if s.flt.activeB then s.flt.imageB else s.flt.imageA
  let other := if s.flt.activeB then s.flt.imageA else s.flt.imageB
  if ok act then some s.flt.activeB else if ok other then some (!s.flt.activeB) else none

/-- The path of a cold start: flush recovery or replay (R424). -/
def coldPath (s : State) : State :=
  if s.dev.bootFlush then updDev (fun d => { d with lastStart := 1, bootFlush := false }) (recoverFlush s)
  else updDev (fun d => { d with lastStart := if d.flushFailed then 3 else 2, flushFailed := false }) (replay s)

/-- Pseudo-channels whose retirement was under way are retired: HBM is empty, so nothing is left to copy (R591). -/
def endRetiring (s : State) : State :=
  updFlt (fun f => { f with retiredPcs := f.retiredPcs ++ f.retiringPcs, retiringPcs := [] }) s

/-- What a cold reset does (R569, R603): the clock starts from 0, BOOT counts, and the path the boot record selects is taken, but in
recovery, where no firmware runs (R533). -/
def coldStart (s : State) : State :=
  let s := endRetiring (loseCold (loseVolatile s))
  let s := updFlt (fun f => { f with sable := f.terminal }) (updDev (fun d => { d with
    devtime := 0, boot := (d.boot + 1) % 65536, warmStart := false, mapReady := false, epochsDue := true, coldDue := false }) s)
  let s := { s with svc := { s.svc with idleSince := 0 } }
  match bootImage s with
  | none => updDev (fun d => { d with recovery := true }) s
  | some b => coldPath (updFlt (fun f => { f with activeB := b, activeSince := if b = f.activeB then f.activeSince else s.dev.parkClock }) (updDev (fun d => { d with recovery := false }) s))

/-- What a warm start does (R571, R584): held writes are made (R416, R571). -/
def warmStart (s : State) : State :=
  updDev (fun d => { d with warmStart := d.mapReady }) (warmRestore (loseVolatile (makeHeld s)))

/-- T_0 is reached: the start runs, and GLB_RESET_CAUSE takes its cause (R562, R576). -/
def startUp (s : State) : State :=
  let s := if s.dev.coldDue then coldStart s else warmStart s
  let s := if s.dev.recovery then s else scanAnchors s
  let s := updDev (fun d => { d with
    t0 := d.devtime, causeLast := d.nextCause, nextCause := 1, causeFw := 0, rootLock := false, rootRosc := true, portLock := 0 }) s
  let s := updPwr (fun p => { p with stage := .up, winThrottle := false, winTrip := false, winWake := false }) s
  let s := updHup (fun h => { h with stopped := false }) s
  let s := if s.flt.terminal then s else { s with svc := { s.svc with gate := .usable } }
  (List.range 8).foldl (fun s p => updPort p (fun x => { downPort x with sableRec := none }) s) s

/-- The device leaves reset once the rails are good, PERST# is deasserted and REFCLK is stable (R526). -/
def tryStart (s : State) : State :=
  if s.pwr.stage = .waiting && s.pwr.rails = 10 && !s.pwr.perst && s.dev.refclkOk then startUp s else s

/-- A cold start is due. -/
def coldWait (cause : Nat) (s : State) : State :=
  tryStart (updDev (fun d => { d with coldDue := true, nextCause := cause })
    (updPwr (fun p => { p with stage := .waiting, rails := 10, flush := none }) s))

/-- What follows the end of a flush (R421, R527, R528, R602): rails off after a fatal event; off without an input; a cold start
while PWR_EN# is asserted; else standby. -/
def afterFlush (x : FlushSt) (s : State) : State :=
  let s := lateDump x s
  if x.cause = .fatal then
    railsOff (updPwr (fun p => { p with fatalOff := p.pwrEn }) (updDev (fun d => { d with nextCause := 4 }) s))
  else if !s.pwr.vin || !s.pwr.pwrEn then railsOff (updDev (fun d => { d with nextCause := 1 }) s)
  else coldWait 2 s

/-- A flush stops without its boot record (R431). -/
def flushFails (x : FlushSt) (s : State) : State :=
  afterFlush x (updDev (fun d => { d with bootFlush := false, flushFailed := true }) (programJournal s))

/-- FLUSH_COMPLETE (R418, R420): with the boot record programmed; in REPLAY mode, and on a MINIMAL path, with the open journal pages
programmed and no boot record. -/
def execFlushComplete (s : State) : Host.Outcome State Fault Refusal :=
  match s.pwr.flush with
  | some x =>
    if x.full then (if s.pwr.stage = .flushMeta then .next (afterFlush x (bootRecord s)) else .next s)
    else if flushing s then .next (afterFlush x (updDev (fun d => { d with bootFlush := false, flushFailed := false }) (programJournal s)))
    else .next s
  | none => .next s

/-- The input is lost during a flush from the input: the flush goes on under the rules of the present mode (R415, R527). -/
def flushLosesInput (x : FlushSt) (s : State) : State :=
  if !x.full || x.cause = .input then s
  else if s.tier.flushMode then
    updPwr (fun p => { p with flush := some { x with whole := dirtyCount s ≤ s.tier.ceiling } }) s
  else flushFails x s

/-- What a loss of the input does in each stage (R415, R528). -/
def inputLost (s : State) : State :=
  match s.pwr.flush with
  | some x => flushLosesInput x s
  | none => if live s then inputTrigger s else railsOff s

/-- INPUT_LOSS_TRIGGER (R415, R518): below 38.0 V, or above 63.0 V, when the input protection opens. -/
def execInputLossTrigger (high : Bool) (s : State) : Host.Outcome State Fault Refusal :=
  if !s.pwr.vin then .next s
  else .next (inputLost (updPwr (fun p => { p with vin := false, protOpen := high }) s))

/-- In REPLAY mode a bus that fails holds no 4 ms: journal pages whose programs do not complete are lost, and with them the units
they name (R537; log entry 61). -/
def busLoss (s : State) : State :=
  if s.tier.flushMode || Config.pageSurvives s.freeCtr then s
  else
    let s := updDev (fun d => { d with epochsDue := false }) (cutTakes true s)
    { s with flash := { s.flash with map := s.flash.mapSafe, inflight := [] } }

/-- BUS_UNDERVOLTAGE (R415, R537). -/
def execBusUndervoltage (s : State) : Host.Outcome State Fault Refusal :=
  if live s then .next (inputTrigger (busLoss { s with freeCtr := s.freeCtr + 1 })) else .next s

/-- PWR_EN_DEASSERT (R415, R527): a trigger that flushes from the input; where nothing runs the rails go off. -/
def execPwrEnDeassert (s : State) : Host.Outcome State Fault Refusal :=
  if !s.pwr.pwrEn then .next s
  else
    let s := updPwr (fun p => { p with pwrEn := false, startStopped := false, fatalOff := false }) s
    if live s then .next (beginFlush .pwrEn true false s)
    else if flushing s || s.pwr.stage = .off then .next s
    else .next (railsOff s)

/-- FLUSH_REFCLK_LOSS (R417): the root passes to ROSC. -/
def execFlushRefclkLoss (s : State) : Host.Outcome State Fault Refusal :=
  if flushing s then .next (updDev (fun d => { d with rootRosc := true, rootLock := false, refclkOk := false }) s) else .next s

/-- PACK_REMOVE (R430, R431): a flush from the pack stops at its last complete unit, after `written` frames of its order; at any other
time the device falls to REPLAY mode. -/
def execPackRemove (written : Nat) (s : State) : Host.Outcome State Fault Refusal :=
  if !s.hup.present then .next s
  else match s.pwr.flush with
    | some x =>
      if x.full && !s.pwr.vin then
        let s := if s.pwr.stage = .flushData then flushFrames ((flushOrder s).take written) s else s
        .next (flushFails x (packGone s))
      else .next (packGone s)
    | none => .next (packGone s)

/-! ### The fatal path (R516, R601–R604) -/

/-- Count a fatal event; a third within 86,400 s of park clock is terminal (R601). -/
def countFatal (terminal : Bool) (s : State) : State :=
  let l := unexpired s s.flt.fatalTimes ++ [s.dev.parkClock]
  updFlt (fun f => { f with fatalTimes := l, terminal := f.terminal || terminal || 3 ≤ l.length }) s

/-- A fatal event while the device runs (R602): it stops, dumps, enters Sable, and flushes or stops. -/
def fatalPath (full : Bool) (r : FaultRec) (s : State) : State :=
  let s := stopWork s
  let s := updFlt (fun f => { f with sable := true }) (takeDump (!full) r s)
  beginFlush .fatal full false (pldmEvent [2, r.unit, r.index] s)

/-- A fatal event during a flush does not stop it; a MINIMAL one turns a FULL fatal path into the MINIMAL path (R604). -/
def fatalLate (full : Bool) (r : FaultRec) (x : FlushSt) (s : State) : State :=
  if x.cause = .fatal then updPwr (fun p => { p with flush := some { x with full := x.full && full } }) s
  else updPwr (fun p => { p with flush := some { x with late := some r } }) s

/-- A fatal event (R601); its record carries SABLE, as the one that takes the device there (Table 21-6; log entry 108). -/
def fatal (full terminal : Bool) (f : FaultEv) (s : State) : State :=
  if !(live s || flushing s) then s
  else
    let s := countFatal terminal (logFault { f with cls := 2, action := 8, flags := f.flags ||| 2 } s)
    match s.flt.log.getLast? with
    | none => s
    | some r => match s.pwr.flush with
      | some x => fatalLate full r x s
      | none => fatalPath full r s

/-- OVER_TEMPERATURE (R516): 0 the die, 1 and 2 the lid zones; DETAIL, the measured temperature, is free (log entry 36). -/
def execOverTemperature (location : Nat) (s : State) : Host.Outcome State Fault Refusal :=
  if 3 ≤ location then .next s
  else
    let (v, s) := openValue s
    .next (fatal true false { unit := 14, index := location, event := 9, detail := v } s)

/-- CONVERTER_LOSS (R536). -/
def execConverterLoss (bc : Nat) (s : State) : Host.Outcome State Fault Refusal :=
  if 2 ≤ bc then .next s
  else if s.pwr.bcLost.contains bc then .next s
  else .next (fatal true true { unit := 10, index := bc, event := 17 } (updPwr (fun p => { p with bcLost := p.bcLost ++ [bc] }) s))

/-- RAIL_OUT_OF_WINDOW (R542): a rail leaves its window, or VLOGIC's current exceeds 1,320 A; DETAIL, what was measured, is free. -/
def execRailOutOfWindow (rail : Nat) (overCurrent : Bool) (s : State) : Host.Outcome State Fault Refusal :=
  if 9 ≤ rail then .next s
  else if overCurrent && rail != 0 then .next s
  else
    let (v, s) := openValue s
    .next (fatal true false { unit := 9, index := rail, event := 17, detail := v } s)

/-- The fatal events of Table 21-10 by kind: path FULL, terminal, and the record; none beyond the table or the unit's range. -/
def fatalKind (kind index location : Nat) : Option (Bool × Bool × FaultEv) :=
  let ev := fun (full terminal : Bool) (unit count event : Nat) =>
    if index < count then some (full, terminal, ({ unit := unit, index := index, event := event, location := location } : FaultEv)) else none
  match kind with
  | 0 => ev true false 14 3 9
  | 1 => ev true true 10 2 17
  | 2 => ev true false 9 9 17
  | 3 => ev true true 8 120 17
  | 4 => ev true false 3 58 8
  | 5 => ev true true 3 58 8
  | 6 => ev false false 1 256 4
  | 7 => ev false false 1 256 2
  | 8 => ev false false 12 71 2
  | 9 => ev true true 13 4 2
  | 10 => ev true false 0 1 2
  | 11 => ev true true 12 71 2
  | _ => none

/-- FATAL_EVENT (R602): a pseudo-channel with a hard signature is retired at the next start (R603). -/
def execFatalEvent (kind index location : Nat) (s : State) : Host.Outcome State Fault Refusal :=
  match fatalKind kind index location with
  | none => .next s
  | some x =>
    let s := if kind = 6 then updFlt (fun f => { f with hardPc := some index }) s else s
    .next (fatal x.1 x.2.1 x.2.2 s)

/-! ### Standby and the rails (R525, R535, R543) -/

/-- The rails start while PWR_EN# is asserted, unless a stopped start or a fatal event holds them off (R543, R602). -/
def tryRamp (s : State) : State :=
  if s.pwr.stage = .standby && s.pwr.pwrEn && s.pwr.vin && !s.pwr.startStopped && !s.pwr.fatalOff then
    updPwr (fun p => { p with stage := .ramping, rails := 0 }) s
  else s

/-- The input is in its range again. -/
def inputBack (s : State) : State :=
  let s := updPwr (fun p => { p with vin := true, protOpen := false }) s
  if s.pwr.stage = .off then tryRamp (updPwr (fun p => { p with stage := .standby }) s) else s

/-- STANDBY_START (R525): VIN reaches 42.0 V. -/
def execStandbyStart (s : State) : Host.Outcome State Fault Refusal :=
  if s.pwr.vin || s.pwr.protOpen then .next s else .next (inputBack s)

/-- INPUT_PROTECTION_CLOSE (R535). -/
def execInputProtectionClose (s : State) : Host.Outcome State Fault Refusal :=
  if s.pwr.protOpen then .next (inputBack s) else .next s

/-- PWR_EN_ASSERT (R525, R543). -/
def execPwrEnAssert (s : State) : Host.Outcome State Fault Refusal :=
  if s.pwr.pwrEn then .next s else .next (tryRamp (updPwr (fun p => { p with pwrEn := true }) s))

/-- RAIL_GOOD (R543): the next rail's ramp begins; after the last one the main rails are good. -/
def execRailGood (s : State) : Host.Outcome State Fault Refusal :=
  if s.pwr.stage != .ramping then .next s
  else if s.pwr.rails < 9 then .next (updPwr (fun p => { p with rails := p.rails + 1 }) s)
  else .next (coldWait (if s.dev.nextCause = 4 then 4 else 1) s)

/-- Unit and index of the rail that ramps, in the order of Table 19-3. -/
def rampUnit (n : Nat) : Nat × Nat := ([(10, 0), (9, 6), (9, 4), (9, 5), (9, 1), (9, 0), (9, 3), (9, 2), (9, 7), (9, 8)]).getD n (9, 8)

/-- RAIL_START_TIMEOUT (R543): the rails go off, and the start is retried only after PWR_EN# is deasserted and asserted again. -/
def execRailStartTimeout (s : State) : Host.Outcome State Fault Refusal :=
  if s.pwr.stage != .ramping then .next s
  else
    let u := rampUnit s.pwr.rails
    .next (railsOff (updPwr (fun p => { p with startStopped := true })
      (logFault { cls := 1, unit := u.1, index := u.2, event := 17 } s)))

/-! ### Resets of the whole device -/

/-- COLD_RESET (R569): a cold reset that is due runs once T_0 can be reached. -/
def execColdReset (s : State) : Host.Outcome State Fault Refusal :=
  if s.dev.coldDue then .next (tryStart s) else .next s

/-- Begin a warm reset (R570): the device stops as at a trigger, and the open journal pages are programmed. -/
def beginWarm (cause : Nat) (s : State) : State :=
  updDev (fun d => { d with nextCause := cause }) (updPwr (fun p => { p with stage := .saving }) (programJournal (stopWork (cutTakes false s))))

/-- PERST_ASSERT (R522, R570): a warm reset while the device runs; during a flush it takes effect afterwards. -/
def execPerstAssert (s : State) : Host.Outcome State Fault Refusal :=
  let s := updPwr (fun p => { p with perst := true }) s
  if s.pwr.stage = .up && !s.dev.recovery then .next (beginWarm 5 s) else .next s

/-- The save of a warm reset ends: the device waits for T_0 (R570). -/
def endSave (s : State) : State := tryStart (updPwr (fun p => { p with stage := .waiting }) s)

/-- A warm reset that RESET_WARM commanded has come due (R577). -/
def warmDueNow (s : State) : Bool :=
  s.pwr.stage = .up && (match s.flt.warmDue with
    | some t => t ≤ s.dev.devtime
    | none => false)

/-- WARM_RESET_SAVE_COMPLETE (R570, R577). -/
def execWarmResetSaveComplete (s : State) : Host.Outcome State Fault Refusal :=
  if s.pwr.stage = .saving then .next (endSave s)
  else if warmDueNow s then .next (endSave (beginWarm 6 s))
  else .next s

/-- PERST_DEASSERT (R526). -/
def execPerstDeassert (s : State) : Host.Outcome State Fault Refusal :=
  .next (tryStart (updPwr (fun p => { p with perst := false }) s))

/-! ### Clocks (R562, R565–R567) -/

/-- ROOT_PLL_LOCK (R562, R566). -/
def execRootPllLock (s : State) : Host.Outcome State Fault Refusal :=
  if s.pwr.stage = .up && s.dev.refclkOk then .next (updDev (fun d => { d with rootLock := true, rootRosc := false }) s) else .next s

/-- PORT_PLL_LOCK (R562): link training begins. -/
def execPortPllLock (s : State) : Host.Outcome State Fault Refusal :=
  if s.pwr.stage = .up && s.dev.rootLock then .next (updDev (fun d => { d with portLock := 255 }) s) else .next s

/-- REFCLK is lost while the device runs (R565). -/
def refclkLost (s : State) : State :=
  let s := updDev (fun d => { d with rootRosc := true, rootLock := false, portLock := 0 }) s
  let s := logFault { unit := 17, index := 0, event := 6 } ((List.range 8).foldl (fun s p => resetPort p s) s)
  pldmEvent [3, 0] s

/-- REFCLK_LOSS (R565). -/
def execRefclkLoss (s : State) : Host.Outcome State Fault Refusal :=
  if !s.dev.refclkOk || flushing s then .next s
  else
    let s := updDev (fun d => { d with refclkOk := false }) s
    if s.pwr.stage = .up then .next (refclkLost s) else .next s

/-- REFCLK_RETURN (R566): during a flush its return changes no clock (R417). -/
def execRefclkReturn (s : State) : Host.Outcome State Fault Refusal :=
  .next (tryStart (updDev (fun d => { d with refclkOk := true }) s))

/-! ### Milestones (R90, R399, R578–R584) -/

/-- A pseudo-channel with a hard signature is retired at HBM training (R603). -/
def retireHard (s : State) : State :=
  match s.flt.hardPc with
  | none => s
  | some pc =>
    let s := updFlt (fun f => { f with hardPc := none, retiredPcs := f.retiredPcs ++ [pc] }) s
    causeFault 0 { cls := 1, unit := 1, index := pc, event := 15, action := 3, location := pc / 32 * 2 ^ 40 + pc % 32 * 2 ^ 32 } s

/-- MEMORY_ACTIVE (R580). -/
def execMemoryActive (s : State) : Host.Outcome State Fault Refusal :=
  if s.pwr.stage = .up && s.dev.portLock != 0 && !s.dev.recovery && !s.dev.memActive then
    .next (retireHard (updDev (fun d => { d with memActive := true }) s))
  else .next s

/-- MAP_READY (R399). -/
def execMapReady (s : State) : Host.Outcome State Fault Refusal :=
  if s.dev.memActive && !s.dev.mapReady then .next (updDev (fun d => { d with mapReady := true }) s) else .next s

/-- ADMIT_OPEN (R90): never in Sable (R596). -/
def execAdmitOpen (s : State) : Host.Outcome State Fault Refusal :=
  if s.dev.fwReady && s.dev.memActive && s.dev.mapReady && !s.dev.admitOpen && !s.flt.sable then
    .next (noticeAll { kind := 0x81 } (updDev (fun d => { d with admitOpen := true }) s))
  else .next s

/-! ### Global Persistent Flush (R433) -/

/-- GPF_PHASE_1 (R433): completes at once. -/
def execGpfPhase1 (port : Nat) (s : State) : Host.Outcome State Fault Refusal :=
  if 8 ≤ port then .next s
  else if (s.ports.get port).linkUp then .next (emit (.gpfDone port 1) s) else .next s

/-- GPF_PHASE_2 (R433): every dirty frame is written back, and the open journal pages are programmed. -/
def execGpfPhase2 (port : Nat) (s : State) : Host.Outcome State Fault Refusal :=
  if 8 ≤ port then .next s
  else if (s.ports.get port).linkUp && !s.pwr.gpf.contains port then
    .next (gpfSettle (updPwr (fun p => { p with gpf := p.gpf ++ [port] }) s))
  else .next s

/-- GPF_PHASE_2_DEADLINE (R433): the Phase 2 that began first completes at 5 s in every case. -/
def execGpfPhase2Deadline (s : State) : Host.Outcome State Fault Refusal :=
  match s.pwr.gpf with
  | p :: rest => .next (emit (.gpfDone p 2) (updPwr (fun w => { w with gpf := rest }) (programJournal s)))
  | [] => .next s

end Sys2Proof.Machine
end

