-- ==== Sys2Proof/Machine/Power.lean ====
section
/-! DEFINITION. Power delivery (chapter 19): phases, over-current regions, idle gating, telemetry, and the commands of the 0xC9
group. -/

namespace Sys2Proof.Machine

/-! ### Registers -/

/-- Rails that are good, by code of Table 19-2, from the order of Table 19-3. -/
def railGood (s : State) (code : Nat) : Bool :=
  match ([6, 4, 5, 1, 0, 3, 2, 7, 8] : List Nat).findIdx? (· = code) with
  | some i => i + 2 ≤ s.pwr.rails
  | none => false

/-- VARR is at its retention level, to which it falls by idle gating (R546); the gating of terminal Sable is another (log entry 111). -/
def retention (s : State) : Bool := s.svc.gate = .gated && s.pwr.stage = .up && s.dev.memActive && !s.flt.terminal

/-- A region is throttled now; that of a failed M region stays on, and that of a failed C or F region is held on (R553, R603). -/
def throttling (s : State) : Bool := !s.pwr.throttled.isEmpty || s.pwr.failed.any fun r => (40 ≤ r && r < 48) || 56 ≤ r

/-- PWR_STATUS (Table 19-5). -/
def pwrStatus (s : State) : Nat :=
  ((List.range 9).map fun c => bit (railGood s c) * 2 ^ (23 + c)).sum + bit (retention s) * 2 ^ 22 +
  bit (1 ≤ s.pwr.rails && !s.pwr.bcLost.contains 1) * 2 ^ 21 + bit (1 ≤ s.pwr.rails && !s.pwr.bcLost.contains 0) * 2 ^ 20 +
  bit (throttling s) * 2 ^ 19 + s.pwr.phasesOff.length % 256

/-- PWR_CTRL as read: the value last written (R4, R547). -/
def pwrCtrlRead (s : State) : Nat := s.glb.pwrCtrlPend.getD s.glb.pwrCtrl

/-- The defined bits of PWR_CTRL (Table 19-4). -/
def pwrCtrlMask (v : Nat) : Nat := bits v 31 1 * 2 ^ 31 + bits v 0 16

/-- IDLE_GATE in use. -/
def idleGate (s : State) : Bool := s.glb.pwrCtrl / 2 ^ 31 % 2 = 1

/-- IDLE_US in use: values below 100 select 100 (Table 19-4). -/
def idleUs (s : State) : Nat := max 100 (s.glb.pwrCtrl % 65536)

/-- Stage a write of PWR_CTRL (R6, R547). -/
def stagePwrCtrl (v : Nat) (s : State) : State :=
  idleCommit { s with glb := { s.glb with pwrCtrlPend := some (pwrCtrlMask v) } }

/-! ### Phases (R540) -/

/-- First phase, phases and minimum of the rails with phases, by rail code (Table 19-2; phases are numbered in the rails' order, log
entry 68). -/
def railPhases : List (Nat × Nat × Nat) := [(0, 96, 48), (96, 12, 10), (108, 6, 5), (114, 6, 4)]

/-- Live phases of a rail by code; 0 for a rail without phases. -/
def livePhases (s : State) (code : Nat) : Nat :=
  match railPhases[code]? with
  | some r => r.2.1 - (s.pwr.phasesOff.filter fun p => r.1 ≤ p && p < r.1 + r.2.1).length
  | none => 0

/-- A rail's live phases have fallen below its minimum. -/
def phasesShort (s : State) : Bool :=
  (List.range 4).any fun c => livePhases s c < ((railPhases[c]?).map (·.2.2)).getD 0

/-- PHASE_FAULT (R540): the phase is disabled for good; below the rail's minimum the event is fatal. -/
def execPhaseFault (phase : Nat) (s : State) : Host.Outcome State Fault Refusal :=
  if 120 ≤ phase then .next s
  else if s.pwr.phasesOff.contains phase then .next s
  else
    let s := updPwr (fun p => { p with phasesOff := p.phasesOff ++ [phase] }) s
    let s := causeFault 10 { cls := 1, unit := 8, index := phase, event := 15, action := 3 } s
    .next (if phasesShort s then fatal true true { unit := 8, index := phase, event := 17 } s else s)

/-! ### Over-current regions (§19.6) -/

/-- Throttle and trip thresholds of a region in A (Table 19-6). -/
def regionLimits (r : Nat) : Nat × Nat :=
  if r < 40 then (26, 32) else if r < 48 then (13, 16) else if r < 56 then (17, 21) else if r = 56 then (6, 8) else (10, 13)

/-- A region's location in the retirement table. -/
def regionLoc (r : Nat) : Loc := { unit := 3, index := r, place := 0 }

/-- A region's trips within 24 h (R553, R558). -/
def regionTrips (s : State) (r : Nat) : Nat :=
  (unexpired s ((s.flt.failures.find? fun f => f.1 = regionLoc r).map (·.2) |>.getD [])).length

/-- THROTTLE_ENGAGE (R550, R551): the episode leaves one transient record at its start; DETAIL, the measured current, is free
(log entry 36). -/
def execThrottleEngage (region : Nat) (s : State) : Host.Outcome State Fault Refusal :=
  if 58 ≤ region then .next s
  else if s.pwr.stage != .up || s.pwr.throttled.contains region then .next s
  else
    let (v, s) := openValue s
    .next (logFault { unit := 3, index := region, event := 7, action := 4, detail := v }
      (updPwr (fun p => { p with throttled := p.throttled ++ [region], winThrottle := true }) s))

/-- THROTTLE_RELEASE (R550). -/
def execThrottleRelease (region : Nat) (s : State) : Host.Outcome State Fault Refusal :=
  if 58 ≤ region then .next s
  else .next (updPwr (fun p => { p with throttled := p.throttled.filter (· != region) }) s)

/-- Tiles of a T region. -/
def regionTiles (r : Nat) : List Nat := (List.range 8).map fun i => 8 * r + i

/-- What a permanently failed region loses (Table 19-8); its third trip is itself the permanent event (Table 21-1; log entry 109). -/
def failRegion (r : Nat) (count : Nat) (s : State) : State :=
  let (v, s) := openValue (updPwr (fun p => { p with failed := p.failed ++ [r] }) s)
  let f : FaultEv := { cls := 1, unit := 3, index := r, event := 8, count := count, action := 3, detail := v }
  if r < 40 then
    causeFault 2 f (updFlt (fun x => { x with
      retiredTiles := x.retiredTiles ++ (regionTiles r).filter fun t => !x.retiredTiles.contains t }) s)
  else if r < 48 then causeFault 3 f s
  else if r < 56 then
    let p := r - 48
    let s := updPort p (fun x => { x with groupL := false, groupH := false }) s
    let g : FaultEv := { cls := 1, unit := 4, index := p, event := 15, count := count, action := 3, port := p, location := 65535 }
    resetPort p (causeFault 5 g (causeFault 4 f s))
  else fatal true true { unit := 3, index := r, event := 8, count := count, detail := v } s

/-- What a trip does at once (Table 19-7): HOLD begins, an L trip resets its port, a C trip is fatal. -/
def tripRegion (r : Nat) (count : Nat) (s : State) : State :=
  let (v, s) := openValue (updPwr (fun p => { p with held := p.held ++ [r], winTrip := true }) s)
  let s := logFault { unit := 3, index := r, event := 8, count := count, action := if r = 56 then 8 else 1, detail := v } s
  if 48 ≤ r && r < 56 then resetPort (r - 48) s
  else if r = 56 then fatal true false { unit := 3, index := 56, event := 8, detail := v } s
  else s

/-- OVER_CURRENT_TRIP (R552, R553). -/
def execOverCurrentTrip (region : Nat) (s : State) : Host.Outcome State Fault Refusal :=
  if 58 ≤ region then .next s
  else if !(s.pwr.stage = .up || flushing s) || s.pwr.held.contains region || s.pwr.failed.contains region then .next s
  else
    let (s, n) := countFailure (regionLoc region) false s
    if 3 ≤ n then
      .next (failRegion region n (if 56 ≤ region then s else updPwr (fun p => { p with winTrip := true }) s))
    else .next (tripRegion region n s)

/-- A tile that loses its region's compute starts its pass in service again: no pass computed is lost, since a pass counts only when it
ends (R552). TRIP_HOLD_END (R552): the region resumes. -/
def execTripHoldEnd (region : Nat) (s : State) : Host.Outcome State Fault Refusal :=
  if 58 ≤ region then .next s
  else .next (updPwr (fun p => { p with held := p.held.filter (· != region) }) s)

/-! ### Idle gating (R546) -/

/-- IDLE_GATE_TIMEOUT (R546): no partition has had an open step for IDLE_US. -/
def execIdleGateTimeout (s : State) : Host.Outcome State Fault Refusal :=
  if s.pwr.stage = .up && s.dev.memActive && idleGate s && deviceIdle s && s.svc.gate = .usable &&
      s.svc.idleSince + 1000 * idleUs s ≤ s.dev.devtime then
    .next { s with svc := { s.svc with gate := .gated } }
  else .next s

/-- TILE_WAKE_COMPLETE (R546): staging may begin. -/
def execTileWakeComplete (s : State) : Host.Outcome State Fault Refusal :=
  if s.svc.gate = .waking then
    .next (pump (updPwr (fun p => { p with winWake := true }) { s with svc := { s.svc with gate := .usable } }))
  else .next s

/-! ### Telemetry (§19.7) -/

/-- The 32 bytes of a record (Table 19-10). -/
def telBytes (r : Nat × Nat × Nat × List Nat) : List Byte :=
  leBytes 8 r.1 ++ leBytes 4 r.2.2.1 ++ leBytes 2 r.2.1 ++ ((List.range 9).map fun i => leBytes 2 (r.2.2.2.getD i 0)).flatten

/-- FLAGS of a record (Table 19-10). -/
def telFlags (s : State) (currents : List Nat) : Nat :=
  bit (s.pwr.winThrottle || throttling s) * 2 ^ 15 + bit s.pwr.winTrip * 2 ^ 14 +
  bit (currents.any (65535 ≤ ·)) * 2 ^ 13 + bit s.pwr.winWake * 2 ^ 12

/-- Write a record into the telemetry ring; one the ceiling would hold is not written (R557). -/
def telRingWrite (n : Nat) (b : List Byte) (s : State) : State :=
  if s.tel.ringBase = 0 || !s.dev.memActive then s
  else match regionAt s 0 (s.tel.ringBase + 32 * (n % 2 ^ s.tel.ringLog2)) 32 with
    | none => s
    | some r =>
      let off := s.tel.ringBase + 32 * (n % 2 ^ s.tel.ringLog2) - r.base
      if !regionOpen s r || heldAt s false (.region r.id) off 32 then s
      else putNow (.region r.id) off b { s with tel := { s.tel with ringTail := s.tel.ringTail + 1 } }

/-- TELEMETRY_WINDOW_END (R554–R557): the window that last ended, with the mean currents of the nine rails in units of 25 mA. -/
def execTelemetryWindowEnd (currents : List Nat) (s : State) : Host.Outcome State Fault Refusal :=
  let n := s.dev.devtime / 10 ^ 6 - 1
  if s.pwr.stage != .up || s.dev.devtime < (s.tel.window + 1) * 10 ^ 6 then .next s
  else
    let cs := (List.range 9).map fun i => min 65535 (currents.getD i 0)
    let r := ((n + 1) * 10 ^ 6, telFlags s cs, n % 2 ^ 32, cs)
    let s := { s with tel := { s.tel with window := n + 1, latest := some r } }
    let s := updPwr (fun p => { p with winThrottle := !p.throttled.isEmpty, winTrip := false, winWake := false }) s
    .next (telRingWrite n (telBytes r) s)

/-- TEL_REC0 to TEL_REC3: the four 64-bit words of the latest record, 0 before the first (R556). -/
def telWords (s : State) : List Nat :=
  match s.tel.latest with
  | some r => (List.range 4).map fun i => leNat ((telBytes r).drop (8 * i) |>.take 8)
  | none => [0, 0, 0, 0]

/-! ### Commands (R557, R558) -/

/-- SET_TELEMETRY_RING's own checks (R557). -/
def telemetryRingCheck (base log2 : Nat) (s : State) : Option Reply :=
  if base = 0 then none
  else if log2 < 6 || 12 < log2 || !placedOk s 0 base (32 * 2 ^ log2) (32 * 2 ^ log2) then some (.of .invalid)
  else none

/-- SET_TELEMETRY_RING (0xC900, R557). -/
def execSetTelemetryRing (e : Env) (base log2 : Nat) (s : State) : Host.Outcome State Fault Refusal :=
  mailbox Op.setTelemetryRing e (.setTelemetryRing e base log2) [] (telemetryRingCheck base log2)
    (fun s => ({ s with tel := { s.tel with ringBase := base, ringLog2 := if base = 0 then 0 else log2, ringTail := 0 } }, {})) s

/-- What QUERY_POWER returns: PWR_STATUS, PWR_CTRL, the latest record, and the live phases of the rails that have phases. -/
def powerBody (s : State) : RespBody :=
  .fields ([(4, pwrStatus s), (4, pwrCtrlRead s)] ++ (telWords s).map (fun w => (8, w)) ++ (List.range 4).map fun c => (1, livePhases s c))

/-- QUERY_POWER (0xC901, R558). -/
def execQueryPower (e : Env) (s : State) : Host.Outcome State Fault Refusal :=
  mailbox Op.queryPower e (.queryPower e) [] (fun _ => none) (fun s => (s, { body := powerBody s })) s

/-- State of a region: NORMAL 0, THROTTLED 1, HOLD 2, FAILED 3 (Table 19-11). -/
def regionState (s : State) (r : Nat) : Nat :=
  if s.pwr.failed.contains r then 3 else if s.pwr.held.contains r then 2 else if s.pwr.throttled.contains r then 1 else 0

/-- QUERY_OC_REGIONS (0xC902, R558). -/
def execQueryOcRegions (e : Env) (s : State) : Host.Outcome State Fault Refusal :=
  mailbox Op.queryOcRegions e (.queryOcRegions e) [] (fun _ => none)
    (fun s => (s, { body := listBody 0 4 [] ((List.range 58).map fun r =>
      [(1, (regionLimits r).1), (1, (regionLimits r).2), (1, regionState s r), (1, regionTrips s r)]) })) s

/-- SET_POWER_CONFIG (0xC903, R558): a global RWS change, STAGED with no partition and no step (R6, R85). -/
def execSetPowerConfig (e : Env) (idleGate idleUs : Nat) (s : State) : Host.Outcome State Fault Refusal :=
  mailbox Op.setPowerConfig e (.setPowerConfig e idleGate idleUs) []
    (fun _ => if 1 < idleGate || 65535 < idleUs then some (.of .invalid) else none)
    (fun s => (stagePwrCtrl (idleGate * 2 ^ 31 + idleUs) s, { staged := some (255, 2 ^ 32 - 1) })) s

end Sys2Proof.Machine
end

