-- ==== Sys2Proof/Machine/Faults.lean ====
section
/-! DEFINITION. Errors of HBM and of the tile arrays, retirement of pseudo-channels and tiles, repair from homes, and the expiry of
failures (§21.1 to §21.3). -/

namespace Sys2Proof.Machine

/-! ### HBM (R585, R588, R591) -/

/-- LOCATION of an HBM row (Table 21-8a). -/
def rowLocation (pc bank row : Nat) : Nat := pc / 32 * 2 ^ 40 + pc % 32 * 2 ^ 32 + bank * 2 ^ 24 + row

/-- The frame that lies at an HBM place; none in a reserved area and where no frame is held. -/
def placeFrame (s : State) (x : HbmPlace) : Option FrameKey :=
  match x with
  | .kv p n =>
    let y := s.parts.get p
    if p < 16 && y.state != .empty && y.state != .swapped && n * 32768 < kvSpace y.body then some (.kv p n) else none
  | .region id n => match regionOf s id with
    | some r => if r.st != .parked && n * 32768 < r.size then some (.region id n) else none
    | none => none
  | .reserved => none
  | .free => none

/-- Enter a damaged unit into the damage table; none when the table is full (R588). -/
def damageUnit (k : FrameKey) (unit : Nat) (s : State) : Option State :=
  let m : BitVec 256 := 1#256 <<< unit
  if s.flt.damage.any fun d => d.1 = k then
    some (updFlt (fun f => { f with damage := f.damage.map fun d => if d.1 = k then (k, d.2 ||| m) else d }) s)
  else if 65536 ≤ s.flt.damage.length then none
  else some (updFlt (fun f => { f with damage := f.damage ++ [(k, m)] }) s)

/-- The 128 B unit of a frame that lies on a pseudo-channel: unit u of frame f lies on (u + f) mod 256 (R262). -/
def unitOnPc (pc : Nat) (k : FrameKey) : Nat := (pc + 256 - frameNo k % 256) % 256

/-- What uncorrectable data in HBM damages: the unit of the frame under it that lies on the pseudo-channel; in a reserved area, or with the table full, the event is
fatal (R588, R589). An injected error never is (R587). -/
def damageAt (injected : Bool) (pc location : Nat) (place : HbmPlace) (s : State) : State :=
  if place = .reserved then
    (if injected then s else fatal false false { unit := 1, index := pc, event := 2, location := location } s)
  else match placeFrame s place with
    | none => s
    | some k => match damageUnit k (unitOnPc pc k) s with
      | some t => t
      | none => if injected then s else fatal true false { unit := 0, event := 2 } s

/-- Enter an uncorrectable row; true when four distinct rows of the pseudo-channel showed such errors within 1 s (Table 21-2). -/
def countRow (pc row : Nat) (s : State) : State × Bool :=
  let l := (s.flt.uncRows.filter fun r => s.dev.devtime ≤ r.2.2 + 1000000000 && !(r.1 = pc && r.2.1 = row)) ++ [(pc, row, s.dev.devtime)]
  (updFlt (fun f => { f with uncRows := l }) s, 4 ≤ (l.filter fun r => r.1 = pc).length)

/-- A row's third unexpired failure, `f`, is itself the permanent event (Table 21-1; log entry 109): the pseudo-channel is retired while
fewer than eight are, and otherwise stays in service (R591). -/
def retirePc (pc : Nat) (f : FaultEv) (s : State) : State :=
  if s.flt.retiringPcs.contains pc then logFault f s
  else if s.flt.retiredPcs.length + s.flt.retiringPcs.length < 8 then
    causeFault 0 { f with cls := 1, action := 3 } (updFlt (fun x => { x with retiringPcs := x.retiringPcs ++ [pc] }) s)
  else causeFault 1 { f with cls := 1 } s

/-- A pseudo-channel shows its hard signature: fatal, and retired at the next start (R591, R603). -/
def hardSignature (pc location : Nat) (s : State) : State :=
  fatal false false { unit := 1, index := pc, event := 2, location := location } (updFlt (fun f => { f with hardPc := some pc }) s)

/-- The record of an HBM error counted as the `n`-th, and what follows from the count of a real one: a hard signature, or a permanently
failed location. DETAIL, the syndrome, is free (log entry 36). -/
def judgeHbm (injected : Bool) (pc bank row n : Nat) (correctable : Bool) (s : State) : State :=
  let (v, s) := openValue s
  let f : FaultEv := { unit := 1, index := pc, event := if correctable then 1 else 2, count := n, action := if correctable then 2 else 0
                       flags := if injected then 4 else 0, location := rowLocation pc bank row, detail := v }
  let (s, hard) := if injected || correctable then (s, false) else countRow pc (bank * 2 ^ 24 + row) s
  if hard then hardSignature pc (rowLocation pc bank row) (logFault f s)
  else if !injected && 3 ≤ n then retirePc pc f s
  else logFault f s

/-- An HBM error that a read or a patrol scrub finds, or that was injected (R585, R587, R588). -/
def hbmError (injected : Bool) (pc bank row : Nat) (place : HbmPlace) (correctable : Bool) (s : State) : State :=
  let (s, n) := countFailure { unit := 1, index := pc, place := bank * 2 ^ 24 + row } injected s
  let s := judgeHbm injected pc bank row n correctable s
  if correctable then s else damageAt injected pc (rowLocation pc bank row) place s

/-- An HBM row the device has (Tables 0-1, 21-8a). -/
def hbmRowOk (pc bank row : Nat) : Bool := pc < 256 && bank < 256 && row < 2 ^ 24

/-- HBM answers: it is trained, and the pseudo-channel is in service. -/
def pcServes (s : State) (pc : Nat) : Bool := s.pwr.stage = .up && s.dev.memActive && !s.flt.retiredPcs.contains pc

/-- HBM_ERROR (R588): an error in a row, named as LOCATION names it (Table 21-8a); `place` is the frame there. -/
def execHbmError (stack pc bank row : Nat) (place : HbmPlace) (correctable : Bool) (s : State) :
    Host.Outcome State Fault Refusal :=
  .next (if stack < 8 && pc < 32 && hbmRowOk (stack * 32 + pc) bank row && pcServes s (stack * 32 + pc) then
      hbmError false (stack * 32 + pc) bank row place correctable s
    else s)

/-- Rewrite one frame of a map unit from its home, and clear its damage; a frame that is not clean is left alone (R588). -/
def repairFrame (m : MapEnt) (x : FrameKey × Nat) (s : State) : State :=
  if !isClean s x.1 then s
  else
    let data := memBytes m.data (32768 * x.2) 32768
    let s := match x.1 with
      | .kv p n => updPart p (fun t => { t with kv := memPuts t.kv (32768 * n) data }) s
      | .region id n => updRegion id (fun r => { r with data := memPuts r.data (32768 * n) data }) s
      | _ => s
    updFlt (fun f => { f with damage := f.damage.filter fun d => d.1 != x.1 }) s

/-- FRAME_REPAIR (R588): a damaged clean frame whose home is mapped is repaired, with its pair. -/
def execFrameRepair (place : HbmPlace) (s : State) : Host.Outcome State Fault Refusal :=
  match placeFrame s place with
  | none => .next s
  | some k =>
    if !s.dev.memActive || !s.dev.mapReady || !frameDamaged s k || !isClean s k then .next s
    else match (unitOfFrame s k).bind fun u => (mapOf s u.1).map fun m => (u.1, m) with
      | none => .next s
      | some (u, m) =>
        if m.lost then .next s
        else
          let fs := framesOfUnit s u
          .next ((fs.zip (List.range fs.length)).foldl (fun s x => repairFrame m x s) s)

/-- PC_RETIREMENT_COPY_END (R591): once the remap frames are held, the copy ends and the pseudo-channel is gated off. -/
def execPcRetirementCopyEnd (pc : Nat) (s : State) : Host.Outcome State Fault Refusal :=
  if 256 ≤ pc then .next s
  else if s.dev.memActive && s.flt.retiringPcs.contains pc && s.acct.frames ≤ frameLimit s then
    .next (updFlt (fun f => { f with retiringPcs := f.retiringPcs.filter (· != pc), retiredPcs := f.retiredPcs ++ [pc] }) s)
  else .next s

/-! ### Tile arrays (R590, R593) -/

/-- The pass that the item in service computes next is restaged into the half that holds it (R590). -/
def restagePass (p i k : Nat) (s : State) : State :=
  let f := fun (x : Option Half) => match x with
    | some h => if h.isFor p i && h.pass = k then some { h with ready := false } else some h
    | none => none
  { s with svc := { s.svc with halfA := f s.svc.halfA, halfB := f s.svc.halfB } }

/-- An uncorrectable tile error during the Attend item in service: the first restages its pass, the second ends the item (R590). -/
def tileErrorItem (tile : Nat) (s : State) : State :=
  match s.svc.inService with
  | none => s
  | some (p, i) => match itemOf s p i with
    | none => s
    | some it =>
      if (s.parts.get p).step.deliver || !(itemTiles s it).contains tile || it.staged = 0 then s
      else if it.tileErrors = 0 then restagePass p i it.passes (updItem p i (fun it => { it with tileErrors := 1 }) s)
      else pump (updItem p i (fun it => { it with tileErrors := it.tileErrors + 1, bad := true }) s)

/-- A tile's third unexpired failure, `f`, is itself the permanent event: the tile is retired (Table 21-1, R593; log entry 109). -/
def retireTile (tile : Nat) (f : FaultEv) (s : State) : State :=
  if s.flt.retiredTiles.contains tile then logFault f s
  else causeFault 2 { f with cls := 1, action := 3 } (updFlt (fun x => { x with retiredTiles := x.retiredTiles ++ [tile] }) s)

/-- A tile array error, found or injected (R587, R590); DETAIL, the syndrome, is free. -/
def tileError (injected : Bool) (tile row : Nat) (correctable : Bool) (s : State) : State :=
  let (s, n) := countFailure { unit := 2, index := tile, place := 0 } injected s
  let (v, s) := openValue s
  let f : FaultEv := { unit := 2, index := tile, event := if correctable then 1 else 2, count := n, action := if correctable then 2 else 1
                       flags := if injected then 4 else 0, location := row, detail := v }
  let s := if !injected && 3 ≤ n then retireTile tile f s else logFault f s
  if correctable then s else tileErrorItem tile s

/-- The tile computes: the device runs, its tiles are powered, and the tile is in service. -/
def tileServes (s : State) (tile : Nat) : Bool :=
  s.pwr.stage = .up && s.dev.memActive && s.svc.gate = .usable && !s.flt.retiredTiles.contains tile

/-- The built-in self-test of a start finds a tile bad: a hard signature, which retires it at once (Table 21-2, R593). -/
def tileSelfTest (tile : Nat) (s : State) : State :=
  if s.pwr.stage = .up && !s.dev.memActive && !s.dev.recovery && !s.flt.retiredTiles.contains tile then
    retireTile tile { unit := 2, index := tile, event := 18 } s
  else s

/-- TILE_ARRAY_ERROR (R590, R593). -/
def execTileArrayError (tile row : Nat) (fail : TileFail) (s : State) : Host.Outcome State Fault Refusal :=
  if 320 ≤ tile || 1024 ≤ row then .next s
  else match fail with
    | .selfTest => .next (tileSelfTest tile s)
    | .corrected => .next (if tileServes s tile then tileError false tile row true s else s)
    | .uncorrectable => .next (if tileServes s tile then tileError false tile row false s else s)

/-! ### Expiry and injection (R585, R587) -/

/-- FAILURE_EXPIRY (R585): failures of 86,400 s of park clock ago are forgotten. -/
def execFailureExpiry (s : State) : Host.Outcome State Fault Refusal :=
  .next (updFlt (fun f => { f with
    failures := (f.failures.map fun x => (x.1, unexpired s x.2)).filter (fun x => !x.2.isEmpty), fatalTimes := unexpired s f.fatalTimes }) s)

/-- INJECT_FAULT's checks: the unit named must exist and be in service. -/
def injectCheck (target : InjectTarget) (s : State) : Option Reply :=
  match target with
  | .hbm pc bank row place =>
    if !hbmRowOk pc bank row then some (.of .invalid)
    else if s.flt.retiredPcs.contains pc then some (.of .retired)
    else if place != .reserved && place != .free && (placeFrame s place).isNone then some (.of .notFound)
    else none
  | .tile tile row =>
    if 320 ≤ tile || 1024 ≤ row then some (.of .invalid)
    else if s.flt.retiredTiles.contains tile then some (.of .retired)
    else none
  | .flash unit => if s.flash.map.any fun m => m.unit = unit then none else some (.of .notFound)

/-- An injected flash error: an uncorrectable one makes the unit LOST as a real one does (R385, R587). -/
def injectFlash (unit : Nat) (correctable : Bool) (s : State) : State :=
  match s.flash.map.find? fun m => m.unit = unit with
  | none => s
  | some m =>
    let s := logFault { unit := 7, index := laneOf m.unit, event := if correctable then 1 else 2, flags := 4, location := m.unit } s
    if correctable || m.lost then s else loseUnits (fun x => x.unit = m.unit) s

/-- INJECT_FAULT's effect (R587). -/
def injectFault (target : InjectTarget) (correctable : Bool) (s : State) : State × Reply :=
  match target with
  | .hbm pc bank row place => (hbmError true pc bank row place correctable s, {})
  | .tile tile row => (tileError true tile row correctable s, {})
  | .flash unit => (injectFlash unit correctable s, {})

/-- INJECT_FAULT (R587). -/
def execInjectFault (e : Env) (target : InjectTarget) (correctable : Bool) (s : State) : Host.Outcome State Fault Refusal :=
  mailbox Op.injectFault e (.injectFault e target correctable) [] (injectCheck target) (injectFault target correctable) s

end Sys2Proof.Machine
end

