-- ==== Sys2Proof/Machine/Dumps.lean ====
section
/-! DEFINITION. Fault records and dumps as commands return them (§21.5, §21.6): record bytes, CRC-32, the dump header and its sections,
and the 0xCA group. -/

namespace Sys2Proof.Machine

/-! ### CRC-32 and fault records (R597, R605) -/

/-- Eight steps of the CRC register (R605). -/
def crcShift : Nat → BitVec 32 → BitVec 32
  | 0, c => c
  | n + 1, c => crcShift n (if c.getLsbD 0 then (c >>> 1) ^^^ 0xEDB88320#32 else c >>> 1)

/-- CRC-32 of IEEE 802.3 in reflected form: initial value and final exclusive-OR 0xFFFF_FFFF (R605). -/
def crc32 (l : List Byte) : Nat :=
  ((l.foldl (fun c b => crcShift 8 (c ^^^ b.zeroExtend 32)) 0xFFFFFFFF#32) ^^^ 0xFFFFFFFF#32).toNat

/-- Bytes 0 to 59 of a fault record (Table 21-6). -/
def FaultRec.front (r : FaultRec) : List Byte :=
  leBytes 8 r.tEvent ++ leBytes 6 r.pclk ++ leBytes 2 r.boot ++ leBytes 4 r.seq ++ leBytes 1 r.cls ++ leBytes 1 r.unit ++ leBytes 2 r.index ++
  leBytes 2 r.event ++ leBytes 1 r.count ++ leBytes 1 r.action ++ leBytes 1 r.seat ++ leBytes 1 r.port ++ leBytes 1 r.part ++
  leBytes 1 r.flags ++ leBytes 8 r.location ++ leBytes 4 r.handle ++ leBytes 4 r.tag ++ leBytes 12 r.detail

/-- The 64 bytes of a fault record. -/
def FaultRec.bytes (r : FaultRec) : List Byte := r.front ++ leBytes 4 (crc32 r.front)

/-! ### The fault log (R598–R600) -/

/-- Every record held, in SEQ order: the persisted ones that have left the log, then the log (R598, R600). -/
def heldRecords (s : State) : List FaultRec :=
  match s.flt.log.head? with
  | none => s.flt.persisted
  | some h => s.flt.persisted.filter (fun r => r.seq < h.seq) ++ s.flt.log

/-- The records READ_FAULT_RECORDS returns to a seat. -/
def visibleFrom (s : State) (seat firstSeq : Nat) : List FaultRec :=
  (heldRecords s).filter fun r => firstSeq ≤ r.seq && seatSees s seat r

/-- The body of READ_FAULT_RECORDS: NEXT_SEQ and the count in a 64 B head, then up to 1,022 records (R600). NEXT_SEQ follows the last
record returned, or is the next record's SEQ when none remains. -/
def recordsBody (s : State) (seat firstSeq : Nat) : RespBody :=
  let all := visibleFrom s seat firstSeq
  let l := all.take 1022
  let next := if all.length ≤ 1022 then s.flt.nextSeq else (l.getLast?.map fun r => r.seq + 1).getD firstSeq
  .bytes (padTo 64 (leBytes 4 next ++ leBytes 4 l.length) ++ (l.map FaultRec.bytes).flatten)

/-- READ_FAULT_RECORDS (R600). -/
def execReadFaultRecords (e : Env) (firstSeq : Nat) (s : State) : Host.Outcome State Fault Refusal :=
  mailbox Op.readFaultRecords e (.readFaultRecords e firstSeq) [] (fun _ => none)
    (fun s => (s, { body := recordsBody s e.seat firstSeq })) s

/-- Remove the records up to a SEQ from the log and from CC3's copy (R600). -/
def clearRecords (seq : Nat) (s : State) : State :=
  updFlt (fun f => { f with log := f.log.filter fun r => seq < r.seq, tcm := f.tcm.filter fun r => seq < r.seq }) s

/-- CLEAR_FAULT_RECORDS (R600). -/
def execClearFaultRecords (e : Env) (seq : Nat) (s : State) : Host.Outcome State Fault Refusal :=
  mailbox Op.clearFaultRecords e (.clearFaultRecords e seq) [] (fun _ => none) (fun s => (clearRecords seq s, {})) s

/-- Retired units: unit, index and place (Table 21-4). -/
def retiredUnits (s : State) : List (Nat × Nat × Nat) :=
  (s.flt.retiredPcs ++ s.flt.retiringPcs).map (fun p => (1, p, 0)) ++ s.flt.retiredTiles.map (fun t => (2, t, 0)) ++
  s.pwr.failed.map (fun r => (3, r, 0)) ++
  ((List.range 8).filter fun p => !(s.ports.get p).groupL).map (fun p => (4, p, 0)) ++
  ((List.range 8).filter fun p => !(s.ports.get p).groupH).map (fun p => (4, p, 1)) ++
  s.flash.failed.map (fun c => (6, c, 0)) ++
  ((List.range 992).filter fun l => (s.flash.lanes.get l).moved.isSome || (s.flash.lanes.get l).cond = .dead).map (fun l => (7, l, 0)) ++
  s.pwr.phasesOff.map (fun p => (8, p, 0)) ++ s.flt.singleCopy.map (fun x => (12, x.1, x.2)) ++
  (if s.glb.parserRetired then [(0, 0, 1)] else [])

/-- Locations with unexpired failures, and how many. -/
def countedLocations (s : State) : List (Loc × Nat) :=
  (s.flt.failures.map fun f => (f.1, (unexpired s f.2).length)).filter fun f => f.2 != 0

/-- The body of QUERY_FAULT_STATE: FLT_STATUS, the damage table's occupancy, the number of retired units, then each retired unit and
each counted location with its failures (R600; the fields' widths are this model's, by R644's rule). -/
def faultStateBody (s : State) : RespBody :=
  let r := retiredUnits s
  listBody 0 20 [(4, fltStatus s), (4, s.flt.damage.length), (4, r.length)]
    (r.map (fun x => [(8, x.2.2), (4, x.2.1), (4, 0), (1, x.1), (1, 1), (2, 0)]) ++
     (countedLocations s).map fun x => [(8, x.1.place), (4, x.1.index), (4, x.2), (1, x.1.unit), (1, 0), (2, 0)])

/-- QUERY_FAULT_STATE (R600). -/
def execQueryFaultState (e : Env) (s : State) : Host.Outcome State Fault Refusal :=
  mailbox Op.queryFaultState e (.queryFaultState e) [] (fun _ => none) (fun s => (s, { body := faultStateBody s })) s

/-! ### Dump sections (Tables 21-12, 21-13) -/

/-- Largest sizes of sections 1 to 10 in KiB (Table 21-13). -/
def sectionMax (id : Nat) : Nat := ([4096, 4096, 1024, 4096, 1024, 16384, 1024, 3072, 131072, 64] : List Nat).getD (id - 1) 0 * 1024

/-- The sections of a dump: all ten on the FULL path, those marked MINIMAL on the other (Table 21-13). -/
def dumpSections (d : Dump) : List Nat := if d.path = 0 then [1, 2, 3, 4, 5, 6, 7, 8, 9, 10] else [1, 2, 3, 7]

/-- A section's area begins after those of the lower-numbered sections of its path (R605). -/
def sectionOffset (d : Dump) (id : Nat) : Nat := 4096 + (((dumpSections d).filter (· < id)).map sectionMax).sum

/-- The bytes a section holds: 64 for each record, else an open value within its largest size (R605; log entry 63). -/
def sectionLen (d : Dump) (id : Nat) : Nat :=
  if id = 1 then 64 * d.log.length else (Config.dumpLen d.id id).toNat % (sectionMax id + 1)

/-- An extent of a section: fault records in section 1, opaque bytes in the others (R605). -/
def sectionBytes (d : Dump) (id off len : Nat) : List Byte :=
  if id = 1 then
    let first := off / 64
    (((d.log.drop first).take (len / 64 + 2)).map FaultRec.bytes).flatten |>.drop (off % 64) |>.take len
  else (List.range len).map fun i => Config.dumpByte d.id id (off + i)

/-- One directory entry (Table 21-12). -/
def directoryEntry (d : Dump) (id : Nat) : List Byte :=
  leBytes 2 id ++ leBytes 2 0 ++ leBytes 4 (crc32 (sectionBytes d id 0 (sectionLen d id))) ++ leBytes 8 (sectionOffset d id) ++
  leBytes 8 (sectionLen d id) ++ leBytes 8 0

/-- The 4,096-byte header of a dump (Table 21-12). -/
def dumpHeader (d : Dump) : List Byte :=
  padTo 4096 (leBytes 4 0x44514D50 ++ leBytes 2 1 ++ leBytes 2 (dumpSections d).length ++ leBytes 8 d.tFatal ++ leBytes 6 d.pclk ++
    leBytes 2 d.boot ++ leBytes 4 d.fw ++ leBytes 1 d.image ++ leBytes 1 d.path ++ leBytes 1 (bit d.complete) ++ leBytes 1 0 ++
    d.cause.bytes ++ leBytes 4 d.status ++ leBytes 28 0 ++ ((dumpSections d).map (directoryEntry d)).flatten)

/-- The dump in a slot. -/
def dumpOf (s : State) (slot : Nat) : Option Dump := if slot = 0 then s.flt.dump0 else if slot = 1 then s.flt.dump1 else none

/-- The header of a slot, zeros when it is empty (R600). -/
def slotHeader (s : State) (slot : Nat) : List Byte := ((dumpOf s slot).map dumpHeader).getD (List.replicate 4096 0)

/-- The body of QUERY_DUMP (R600). -/
def queryDumpBody (s : State) : RespBody :=
  .bytes (padTo 64 (leBytes 1 (bit s.flt.dump0.isSome + 2 * bit s.flt.dump1.isSome) ++ leBytes 1 s.flt.latestDump) ++
    slotHeader s 0 ++ slotHeader s 1)

/-- QUERY_DUMP's own check. -/
def queryDumpCheck (s : State) : Option Reply := if s.flt.dump0.isNone && s.flt.dump1.isNone then some (.of .notFound) else none

/-- QUERY_DUMP (R600). -/
def execQueryDump (e : Env) (s : State) : Host.Outcome State Fault Refusal :=
  mailbox Op.queryDump e (.queryDump e) [] queryDumpCheck (fun s => (s, { body := queryDumpBody s })) s

/-- Bytes a section of a slot holds: 4,096 for the header, none where the section does not exist (R606). -/
def dumpExtent (s : State) (slot id : Nat) : Option Nat :=
  (dumpOf s slot).bind fun d => if id = 0 then some 4096 else if (dumpSections d).contains id then some (sectionLen d id) else none

/-- An extent of a slot's section. -/
def dumpBytes (s : State) (slot id off len : Nat) : List Byte :=
  match dumpOf s slot with
  | none => []
  | some d => if id = 0 then ((dumpHeader d).drop off).take len else sectionBytes d id off len

/-- The extent lies in one RESIDENT region of seat 0 (R606, R608). -/
def residentAt (s : State) (addr len : Nat) : Bool :=
  match regionAt s 0 addr len with
  | some r => r.resident && r.st = .held
  | none => false

/-- READ_DUMP's own checks (R606). -/
def readDumpCheck (slot id off len dst : Nat) (s : State) : Option Reply :=
  if 1 < slot || (if dst = 0 then 4096 < len else 268435456 < len) then some (.of .invalid)
  else match dumpExtent s slot id with
    | none => some (.of .notFound)
    | some n => if n < off + len || (dst != 0 && !residentAt s dst len) then some (.of .invalid) else none

/-- INVALID for a section whose CRC fails; its bytes are returned (R606; log entry 63). -/
def sectionStatus (s : State) (slot id : Nat) : Status :=
  if id != 0 && (dumpOf s slot).any fun d => Config.dumpSectionFails d.id id then .invalid else .ok

/-- READ_DUMP's effect: the bytes in the body, or a copy in the POOL queue (R606). -/
def readDump (e : Env) (slot id off len dst : Nat) (s : State) : State × Reply :=
  if dst = 0 then (s, { status := sectionStatus s slot id, body := .bytes (dumpBytes s slot id off len) })
  else
    let s := { s with xfers := s.xfers ++ [{ op := s.opCtr, seat := 0 }] }
    startLong e (.dumpCopy slot id off len dst) s

/-- READ_DUMP (R606): long-running only with a DST (Table 23-3). -/
def execReadDump (e : Env) (slot section_ offset length dst : Nat) (s : State) : Host.Outcome State Fault Refusal :=
  mailbox { Op.readDump with long := dst != 0 } e (.readDump e slot section_ offset length dst) []
    (readDumpCheck slot section_ offset length dst) (readDump e slot section_ offset length dst) s

/-- DUMP_COPY_COMPLETE (R606): lines that hosts hold are taken back first, held writes are waited for (R324, R482). -/
def execDumpCopyComplete (op : Nat) (s : State) : Host.Outcome State Fault Refusal :=
  match opOf s op with
  | some o => match o.kind with
    | .dumpCopy slot id off len dst =>
      if !s.dev.memActive then .next s
      else if !residentAt s dst len || (dumpExtent s slot id).isNone then .next (endXfer op .invalid s)
      else if (xferOf s op).any (·.issued.isSome) then (if xferHeld s op then .next s else .next (endXfer op (sectionStatus s slot id) s))
      else
        let w := writeWaits s 0 [(dst, len)]
        if !w.isEmpty then .next (askLines op [] w s)
        else
          let s := updXfer op (fun x => { x with issued := some len }) (writeHdm op 0 dst (dumpBytes s slot id off len) s)
          if xferHeld s op then .next s else .next (endXfer op (sectionStatus s slot id) s)
    | _ => .next s
  | none => .next s

/-- CLEAR_DUMP's own check (R600). -/
def clearDumpCheck (slot : Nat) (s : State) : Option Reply :=
  if 1 < slot then some (.of .invalid) else if (dumpOf s slot).isNone then some (.of .notFound) else none

/-- Empty a dump slot. -/
def clearDump (slot : Nat) (s : State) : State :=
  updFlt (fun f => if slot = 0 then { f with dump0 := none } else { f with dump1 := none }) s

/-- CLEAR_DUMP (R600). -/
def execClearDump (e : Env) (slot : Nat) (s : State) : Host.Outcome State Fault Refusal :=
  mailbox Op.clearDump e (.clearDump e slot) [] (clearDumpCheck slot) (fun s => (clearDump slot s, {})) s

end Sys2Proof.Machine
end

