-- ==== Sys2Proof/Machine/Firmware.lean ====
section
/-! DEFINITION. Firmware (§20.4, §21.7): firmware restarts, images, their writing and activation, the minimum SVN, FW_READY, and the
control-core watchdog. -/

namespace Sys2Proof.Machine

/-! ### The firmware restart (R573) -/

/-- Operations of this kind are the restart itself. -/
def OpKind.isRestart : OpKind → Bool
  | .restartFw => true
  | .activateFw => true
  | _ => false

/-- Long-running operations that a restart waits for. -/
def restartWaits (s : State) : Bool := opRuns s fun k => !k.isRestart

/-- A firmware restart begins: it accepts no long-running command until it has ended (R573). A cause code 0 leaves
GLB_RESET_CAUSE.FW as it is, since Table 20-7 gives the watchdog none. -/
def beginRestart (cause : Nat) (s : State) : State :=
  updDev (fun d => { d with causeFw := if cause = 0 then d.causeFw else cause }) (updFlt (fun f => { f with restarting := true, restartAt := s.dev.devtime }) s)

/-- The inactive image's slot. -/
def inactiveImage (s : State) : FwSlot := if s.flt.activeB then s.flt.imageA else s.flt.imageB

/-- Change the inactive image. -/
def updInactive (f : FwSlot → FwSlot) (s : State) : State :=
  updFlt (fun x => if x.activeB then { x with imageA := f x.imageA } else { x with imageB := f x.imageB }) s

/-- What a seat loses as the cores are reloaded (R573): all of its mailbox but a latched command, and but the wait for the restart's
own operation. -/
def restartSeat (kept : List Nat) (t : Seat) : Seat :=
  { t with
    negVersion := 0
    noticeHeld := []
    mbx := { latched := t.mbx.latched, waitingSince := t.mbx.waitingSince, irqEnable := t.mbx.irqEnable, orphans := t.mbx.orphans
             posted := if t.mbx.latched.isSome then t.mbx.posted else 0
             opcode := if t.mbx.latched.isSome then t.mbx.opcode else 0
             deferWait := t.mbx.deferWait.filter fun n => kept.contains n } }

/-- The cores are reloaded (R573), onto the other image for an activation (R609). -/
def reload (s : State) : State :=
  let kept := s.ops.filter fun o => o.done.isNone && o.kind.isRestart
  let s := updDev (fun d => { d with fwReady := false }) { s with
    ops := kept, claims := []
    flt := { s.flt with restartAt := s.dev.devtime }
    seats := s.seats.mapTo 64 fun _ t => restartSeat (kept.map (·.n)) t }
  if s.flt.activating.isSome then updFlt (fun f => { f with activeB := !f.activeB, newImage := true }) s else s

/-- A restart whose operations have ended is due to reload the cores. -/
def reloadDue (s : State) : Bool := s.flt.restarting && s.dev.fwReady && !restartWaits s

/-- A swap in that was ended restarts, and a swap out is abandoned (Table 20-6); the read-back after flush recovery goes on. -/
def endSwap (s : State) : State :=
  match s.swap with
  | some w => if w.restore then s else restartSwapIn { s with swap := none }
  | none => s

/-- Operations still running end as a warm reset ends them (R571, R573); what is staged to a boundary stays staged but parks. -/
def endOps (s : State) : State :=
  let s := (List.range 16).foldl (fun s p =>
    updPart p (fun x => { x with staged := { x.staged with parks := [] } }) (dropUnended p s)) (settleSwapOut s)
  let s := endSwap (abortJoin (s.regions.foldl settleRegion (settleRequests s)))
  { s with
    ops := s.ops.filter fun o => o.done.isSome || o.kind.isRestart
    pulls := [], xfers := []
    pset := { s.pset with rebuildOp := none }
    hup := { s.hup with testOp := none }
    flt := { s.flt with writing := none } }

/-- FIRMWARE_RESTART_TIMEOUT (R573): 5 s into the restart. -/
def execFirmwareRestartTimeout (s : State) : Host.Outcome State Fault Refusal :=
  if s.flt.restarting && s.dev.fwReady && s.flt.restartAt + 5000000000 ≤ s.dev.devtime then .next (reload (if restartWaits s then endOps s else s)) else .next s

/-! ### FW_READY (R254, R332, R464, R578, R609) -/

/-- SALT (R254): the first 64 bits of the SHA-384 of the die's identity value and the epoch value, each little-endian (log entry 62). -/
def saltOf (epoch : Nat) : Nat := leNat ((sha384 (Config.identity ++ leBytes 8 epoch)).take 8)

/-- The epoch values of a cold reset: SALT's, then the REGION_ID's, then the ticket serial's (R254, R332, R464). -/
def takeEpochs (s : State) : State :=
  let (s, a) := takeEpoch s
  let (s, b) := takeEpoch s
  let (s, c) := takeEpoch s
  updDev (fun d => { d with epochsDue := false }) { s with
    glb := { s.glb with salt := saltOf a }
    flash := { s.flash with regionE := b, regionN := 0, ticketS := c % 2 ^ 23 * 2 ^ 16 } }

/-- An operation that a restart kept ends with no notice: its response is placed where the mailbox waits for it, and GET_OPERATION
serves it (Table 20-8). -/
def endQuiet (o : Op) (st : Status) (s : State) : State :=
  let s := { s with ops := updFirst (fun x => x.n = o.n) (fun x => { x with done := some st }) s.ops }
  if (s.seats.get o.seat).mbx.deferWait = some o.n then
    placeResp o.seat o.tag o.hostTime o.tPosted o.tAccept { status := st } s
  else s

/-- A restart or an activation ends: an activation that fell back to the previous image ends with INVALID (log entry 70). -/
def endRestart (s : State) : State :=
  let failed := s.flt.activating.isSome && !s.flt.newImage
  let l := s.ops.filter fun o => o.done.isNone && o.kind.isRestart
  let s := l.foldl (fun s o => endQuiet o (if failed && o.kind = .activateFw then .invalid else .ok) s) s
  updFlt (fun f => { f with
    restarting := false, activating := none, newImage := false
    activeSince := if f.newImage then s.dev.parkClock else f.activeSince }) s

/-- The cores serve. -/
def serveFirmware (s : State) : State :=
  let s := if s.dev.epochsDue then takeEpochs s else s
  endRestart (updDev (fun d => { d with fwReady := true }) s)

/-- FW_READY (R578, R573): the cores serve, after a start or after a reload; a reload that is due comes first. After a start the
root PLL locks before the cores serve, but on ROSC while REFCLK is lost (Table 20-9, R565). -/
def execFwReady (s : State) : Host.Outcome State Fault Refusal :=
  if s.pwr.stage != .up || s.dev.recovery || (!s.dev.rootLock && s.dev.refclkOk) then .next s
  else if reloadDue s then .next (serveFirmware (reload s))
  else if s.dev.fwReady then .next s
  else .next (serveFirmware s)

/-- RESTART_FIRMWARE (R573, R577). -/
def execRestartFirmware (e : Env) (s : State) : Host.Outcome State Fault Refusal :=
  mailbox Op.restartFirmware e (.restartFirmware e) [] (fun _ => none) (fun s => startLong e .restartFw (beginRestart 1 s)) s

/-- RESET_WARM (R577): the response is written, and the reset follows 100 µs later. -/
def execResetWarm (e : Env) (s : State) : Host.Outcome State Fault Refusal :=
  mailbox Op.resetWarm e (.resetWarm e) [] (fun _ => none)
    (fun s => (updFlt (fun f => { f with warmDue := some (s.dev.devtime + 100000) }) s, {})) s

/-- A control core makes no progress, or has uncorrectable TCM data: its third unexpired failure is fatal; the others are answered by a
firmware restart (Table 21-2). -/
def coreFails (core : Nat) (s : State) : State :=
  let (s, n) := countFailure { unit := 13, index := core, place := 0 } false s
  if 3 ≤ n then fatal true true { unit := 13, index := core, event := 5, count := n } s
  else beginRestart 0 (logFault { unit := 13, index := core, event := 5, count := n, action := 7 } s)

/-- A parity error of the hardware step parser: the record is parsed again; at the third unexpired failure the parser is retired, and firmware
clears HWPARSE at idle (Table 21-2, R108; the record's unit: log entry 94). -/
def parserFails (s : State) : State :=
  let (s, n) := countFailure { unit := 0, index := 0, place := 1 } false s
  if 3 ≤ n && !s.glb.parserRetired then
    let s := causeFault 11 { cls := 1, unit := 0, event := 3, count := n, action := 3 } s
    idleCommit { s with glb := { s.glb with parserRetired := true, hwparsePend := some false } }
  else logFault { unit := 0, event := 3, count := n, action := 1 } s

/-- One copy of an entry of a duplicated SRAM is uncorrectable and corrected from the other: at the third unexpired failure of the entry the
structure runs on one copy; the loss of that one too is fatal (Table 21-2, Table 21-10). -/
def sramCopyFails (structure_ entry : Nat) (s : State) : State :=
  if s.flt.singleCopy.any fun x => x.1 = structure_ then
    fatal false false { unit := 12, index := structure_, event := 2, location := entry } s
  else
    let (s, n) := countFailure { unit := 12, index := structure_, place := entry } false s
    if 3 ≤ n then
      causeFault 15 { cls := 1, unit := 12, index := structure_, event := 1, count := n, action := 3, location := entry }
        (updFlt (fun f => { f with singleCopy := f.singleCopy ++ [(structure_, entry)] }) s)
    else logFault { unit := 12, index := structure_, event := 1, count := n, action := 2, location := entry } s

/-- The operation that used a failed buffer ends with INVALID: a request or region that was being parked or unparked is as it was before
(Table 21-2; log entry 121). -/
def failUser (u : ReadSource) (s : State) : State :=
  match u with
  | .item => match s.svc.inService with
    | some (p, i) => pump (updItem p i (fun it => { it with bad := true }) s)
    | none => s
  | .op n => match opOf s n with
    | none => s
    | some o => match o.kind with
      | .pull _ => finishOp n .invalid { s with pulls := s.pulls.filter fun q => q.op != n }
      | .park h _ _ => finishOp n .invalid (if (rtOf s h).state = .parking then updRt h (fun r => { r with state := r.before }) s else s)
      | .unpark h _ => finishOp n .invalid (if (rtOf s h).state = .unparking then undoUnpark (handleRti h) s else s)
      | .parkRegion id => finishOp n .invalid (((regionOf s id).map fun r => settleRegion s r).getD s)
      | .unparkRegion id => finishOp n .invalid (((regionOf s id).map fun r => settleRegion s r).getD s)
      | _ => match xferOf s n with
        | none => s
        | some x => match x.pool, x.stash with
          | d :: _, _ => failPool x d .invalid s
          | _, d :: _ => failStash x d .invalid s
          | _, _ => s

/-- An uncorrectable error of Eddy's, Sluice's or the port queues' SRAM: what used it ends with INVALID; the structure's third unexpired failure
is fatal (Table 21-2). -/
def sramFails (structure_ : Nat) (user : Option ReadSource) (s : State) : State :=
  let (s, n) := countFailure { unit := 12, index := structure_, place := 0 } false s
  if 3 ≤ n then fatal true true { unit := 12, index := structure_, event := 2, count := n } s
  else
    let s := logFault { unit := 12, index := structure_, event := 2, count := n, action := 6 } s
    match user with
    | some u => failUser u s
    | none => s

/-- CORE_WATCHDOG (R585, Table 21-2, R108): a failure of the control logic or of an on-die memory. -/
def execCoreWatchdog (fail : CtlFail) (s : State) : Host.Outcome State Fault Refusal :=
  if s.pwr.stage != .up || s.dev.recovery then .next s
  else match fail with
    | .core core => .next (if 4 ≤ core then s else coreFails core s)
    | .parser => .next (parserFails s)
    | .sramCopy structure_ entry => .next (if 68 ≤ structure_ then s else sramCopyFails structure_ entry s)
    | .sram structure_ user => .next (if structure_ < 68 || 71 ≤ structure_ then s else sramFails structure_ user s)

/-! ### Images (R607–R609) -/

/-- An image write begins over a slot, which holds no valid image until it is verified. -/
def wipeImage (len : Nat) (s : State) : FwSlot := { valid := false, version := 0, svn := 0, len := len, id := s.freeCtr + 1 }

/-- A firmware command waits: an image is being written or activated. -/
def firmwareBusy (s : State) : Reply := .busy (Config.retryBound s.freeCtr).toNat .firmware

/-- WRITE_FIRMWARE's own checks (R608): up to 64 MiB in a RESIDENT region of seat 0; BUSY while an activation or a write runs. -/
def writeFirmwareCheck (src length : Nat) (s : State) : Option Reply :=
  if s.flt.activating.isSome || s.flt.writing.isSome then some (firmwareBusy s)
  else if length = 0 || 67108864 < length || !residentAt s src length || hdmDamaged s 0 src length then some (.of .invalid)
  else none

/-- WRITE_FIRMWARE's effect. -/
def writeFirmware (e : Env) (length : Nat) (s : State) : State × Reply :=
  let x := wipeImage length s
  let n := s.opCtr
  startLong e .writeFw (updFlt (fun f => { f with writing := some (some n) }) (updInactive (fun _ => x) { s with freeCtr := s.freeCtr + 1 }))

/-- WRITE_FIRMWARE (R608). -/
def execWriteFirmware (e : Env) (src length : Nat) (s : State) : Host.Outcome State Fault Refusal :=
  mailbox Op.writeFirmware e (.writeFirmware e src length) [.firmware] (writeFirmwareCheck src length) (writeFirmware e length) s

/-- What verification answers of a written image (R608). -/
def imageStatus (s : State) (x : FwImage) : Status :=
  if !x.good then .invalid else if x.svn < s.flt.minSvn then .version else .ok

/-- The image as verified: valid only when its signature and digest hold and its SVN is at least the minimum (R608). -/
def verifiedImage (st : Status) (x : FwImage) (slot : FwSlot) : FwSlot :=
  { slot with valid := st = .ok, version := x.version % 2 ^ 32, svn := x.svn % 2 ^ 32 }

/-- FIRMWARE_WRITE_COMPLETE (R608, R533): in recovery an image is written as image A. -/
def execFirmwareWriteComplete (image : FwImage) (s : State) : Host.Outcome State Fault Refusal :=
  match s.flt.writing with
  | none => .next s
  | some w =>
    let st := imageStatus s image
    let s := if s.dev.recovery then updFlt (fun f => { f with imageA := verifiedImage st image f.imageA }) s
      else updInactive (verifiedImage st image) s
    let s := updFlt (fun f => { f with writing := none }) s
    match w with
    | some n => .next (finishOp n st s)
    | none => .next (emit (.pldm 5 [st.code]) s)

/-- An activation may begin: BUSY while a write or another activation runs, INVALID when the inactive image is not valid (R609). -/
def activateCheck (s : State) : Option Reply :=
  if s.flt.activating.isSome || s.flt.writing.isSome then some (firmwareBusy s)
  else if !(inactiveImage s).valid then some (.of .invalid)
  else none

/-- Begin an activation: a firmware restart onto the inactive image (R609). -/
def beginActivation (op : Option Nat) (s : State) : State :=
  beginRestart 2 (updFlt (fun f => { f with activating := some op, newImage := false }) s)

/-- ACTIVATE_FIRMWARE (R609). -/
def execActivateFirmware (e : Env) (s : State) : Host.Outcome State Fault Refusal :=
  mailbox Op.activateFirmware e (.activateFirmware e) [.firmware] activateCheck
    (fun s => startLong e .activateFw (beginActivation (some s.opCtr) s)) s

/-- ACTIVATION_TIMEOUT (R609): a new image without FW_READY 2 s after its reload gives way to the previous one. -/
def execActivationTimeout (s : State) : Host.Outcome State Fault Refusal :=
  if s.flt.activating.isSome && s.flt.newImage && !s.dev.fwReady && s.flt.restartAt + 2000000000 ≤ s.dev.devtime then
    .next (updFlt (fun f => { f with activeB := !f.activeB, newImage := false })
      (logFault { unit := 18, index := bit s.flt.activeB, event := 20, action := 7 } s))
  else .next s

/-- The active image's slot. -/
def activeImage (s : State) : FwSlot := if s.flt.activeB then s.flt.imageB else s.flt.imageA

/-- SVN_COMMIT (R609): the active image has run for 3,600 s of park clock. -/
def execSvnCommit (s : State) : Host.Outcome State Fault Refusal :=
  if s.dev.fwReady && !s.flt.newImage && s.flt.activeSince + 3600 ≤ s.dev.parkClock then
    .next (updFlt (fun f => { f with minSvn := max f.minSvn (activeImage s).svn }) s)
  else .next s

/-- The header of an image (R607); its digest and signature are open values (log entry 65). -/
def imageHeader (x : FwSlot) : List (Nat × Nat) :=
  [(4, x.version), (2, x.ccs), (4, x.svn), (8, x.len), (48, (Config.imageDigest x.id).toNat), (96, (Config.imageSignature x.id).toNat)]

/-- The body of QUERY_FIRMWARE: both headers, the active image, their validity and the minimum SVN (R608, R644). -/
def firmwareBody (s : State) : RespBody :=
  .fields (imageHeader s.flt.imageA ++ imageHeader s.flt.imageB ++
    [(1, bit s.flt.activeB), (1, bit s.flt.imageA.valid), (1, bit s.flt.imageB.valid), (4, s.flt.minSvn)])

/-- QUERY_FIRMWARE (R608). -/
def execQueryFirmware (e : Env) (s : State) : Host.Outcome State Fault Refusal :=
  mailbox Op.queryFirmware e (.queryFirmware e) [] (fun _ => none) (fun s => (s, { body := firmwareBody s })) s

end Sys2Proof.Machine
end

