-- ==== Sys2Proof/Machine/Management.lean ====
section
/-! DEFINITION. The management path at J1 (§18.7): MCTP control, address assignment, PLDM and the Carmir relay. Message codes that the
spec leaves to the DMTF standards are PRESUMED from them (log entry 66). -/

namespace Sys2Proof.Machine

/-- Change the management endpoint. -/
def updMgmt (f : Mgmt → Mgmt) (s : State) : State := { s with mgmt := f s.mgmt }

/-- The module answers on the management bus: in every power condition except off (R529). -/
def busPowered (s : State) : Bool := s.pwr.stage != .off

/-- PLDM completion codes (PRESUMED from DSP0240; log entry 66). -/
def pldmSuccess : Nat := 0
def pldmInvalidData : Nat := 2
def pldmNotReady : Nat := 4
def pldmUnsupported : Nat := 5

/-! ### MCTP control and address assignment (R529) -/

/-- What an MCTP control message does: the bus owner assigns the endpoint identifier. -/
def mctpAnswer (cmd : MctpCmd) (s : State) : State :=
  match cmd with
  | .setEndpointId eid =>
    if eid < 8 || 254 < eid then emit (.mctp 1 [pldmInvalidData]) s
    else emit (.mctp 1 [pldmSuccess, eid]) (updMgmt (fun m => { m with eid := eid }) s)
  | .getEndpointId => emit (.mctp 2 [pldmSuccess, s.mgmt.eid]) s
  | .getEndpointUuid => emit (.mctp 3 [pldmSuccess, (Config.mctpValue 0).toNat]) s
  | .getVersionSupport => emit (.mctp 4 [pldmSuccess, (Config.mctpValue 1).toNat]) s
  | .getMessageTypes => emit (.mctp 5 [pldmSuccess, 1, 1]) s
  | .other code => emit (.mctp code [pldmUnsupported]) s

/-- MCTP_CONTROL_MESSAGE (R529). -/
def execMctpControlMessage (cmd : MctpCmd) (s : State) : Host.Outcome State Fault Refusal :=
  if busPowered s then .next (mctpAnswer cmd s) else .next s

/-- I3C_ADDRESS_ASSIGNMENT (R529): SETDASA names the static address 0x50 + ADDR[2:0]; ENTDAA reaches a target without a dynamic
address. -/
def execI3cAddressAssignment (assign : I3cAssign) (s : State) : Host.Outcome State Fault Refusal :=
  if !busPowered s || s.mgmt.addr != 0 then .next s
  else match assign with
    | .setdasa static_ addr =>
      if static_ = 0x50 + Config.addrPins.toNat then .next (updMgmt (fun m => { m with addr := addr % 128 }) s) else .next s
    | .entdaa addr => .next (updMgmt (fun m => { m with addr := addr % 128 }) s)

/-! ### PLDM (R530, R532, R533) -/

/-- What a PLDM base request answers: types 0, 2, 5 and 63 (Table 18-11). -/
def pldmBaseAnswer (req : PldmBase) (s : State) : State :=
  match req with
  | .setTid tid =>
    if tid = 0 || 254 < tid then emit (.pldm 0 [pldmInvalidData]) s
    else emit (.pldm 0 [pldmSuccess]) (updMgmt (fun m => { m with tid := tid }) s)
  | .getTid => emit (.pldm 0 [pldmSuccess, s.mgmt.tid]) s
  | .getVersion => emit (.pldm 0 [pldmSuccess, (Config.mctpValue 2).toNat]) s
  | .getTypes => emit (.pldm 0 [pldmSuccess, 0, 2, 5, 63]) s
  | .getCommands kind =>
    if ([0, 2, 5, 63] : List Nat).contains kind then emit (.pldm 0 [pldmSuccess, (Config.mctpValue (16 + kind)).toNat]) s
    else emit (.pldm 0 [pldmInvalidData]) s
  | .other _ => emit (.pldm 0 [pldmUnsupported]) s

/-- PLDM_BASE_REQUEST (R530): answered in every power condition except off. -/
def execPldmBaseRequest (req : PldmBase) (s : State) : Host.Outcome State Fault Refusal :=
  if busPowered s then .next (pldmBaseAnswer req s) else .next s

/-- A standby sensor (Table 18-11). -/
def standbySensor : PldmSensor → Bool
  | .vin => true
  | .inputPower => true
  | .lidA => true
  | .lidB => true
  | .packState => true
  | _ => false

/-- What a sensor read returns: the present reading, or what the device itself holds (R530). -/
def sensorAnswer (sensor : PldmSensor) (reading : Nat) (s : State) : State :=
  match sensor with
  | .packState => emit (.pldm 2 [pldmSuccess, s.hup.chg.code]) s
  | .deviceState => emit (.pldm 2 [pldmSuccess, devState s]) s
  | .pollEvent => match s.pldmQueue with
    | e :: rest => emit (.pldm 2 (pldmSuccess :: e)) { s with pldmQueue := rest }
    | [] => emit (.pldm 2 [pldmSuccess]) s
  | .rail code =>
    if 9 ≤ code then emit (.pldm 2 [pldmInvalidData]) s
    else emit (.pldm 2 [pldmSuccess, (s.tel.latest.map fun r => r.2.2.2.getD code 0).getD 0]) s
  | _ => emit (.pldm 2 [pldmSuccess, reading]) s

/-- PLDM_SENSOR_READ (R530, R582): standby sensors from standby on, the others from FW_READY; in recovery none (R533). -/
def execPldmSensorRead (sensor : PldmSensor) (reading : Nat) (s : State) : Host.Outcome State Fault Refusal :=
  if !busPowered s then .next s
  else if s.dev.recovery || !(standbySensor sensor || s.dev.fwReady) then .next (emit (.pldm 2 [pldmNotReady]) s)
  else .next (sensorAnswer sensor reading s)

/-- A PLDM update may begin: the cores serve, or the boot ROM is in recovery (R530, R533). -/
def updateServes (s : State) : Bool := s.dev.fwReady || (s.dev.recovery && s.pwr.stage = .up)

/-- PLDM_FIRMWARE_UPDATE (R530, R608, R533): the image is written over the inactive one, or over image A in recovery. -/
def execPldmFirmwareUpdate (size : Nat) (s : State) : Host.Outcome State Fault Refusal :=
  if !busPowered s then .next s
  else if !updateServes s || s.flt.writing.isSome || s.flt.activating.isSome then .next (emit (.pldm 5 [pldmNotReady]) s)
  else if size = 0 || 67108864 < size then .next (emit (.pldm 5 [pldmInvalidData]) s)
  else
    let x := wipeImage size s
    let s := { s with freeCtr := s.freeCtr + 1 }
    let s := if s.dev.recovery then updFlt (fun f => { f with imageA := x }) s else updInactive (fun _ => x) s
    .next (updFlt (fun f => { f with writing := some none }) s)

/-- An activation request in recovery restarts the device from cold reset when an image is there to start (R533). -/
def recoverActivate (s : State) : State :=
  match bootImage s with
  | none => emit (.pldm 5 [Status.invalid.code]) s
  | some _ => coldWait 3 (emit (.pldm 5 [pldmSuccess]) s)

/-- PLDM_ACTIVATE_FIRMWARE (R609, R533). -/
def execPldmActivateFirmware (s : State) : Host.Outcome State Fault Refusal :=
  if !busPowered s then .next s
  else if !updateServes s || s.flt.restarting then .next (emit (.pldm 5 [pldmNotReady]) s)
  else if s.dev.recovery then (if s.flt.writing.isSome then .next (emit (.pldm 5 [pldmNotReady]) s) else .next (recoverActivate s))
  else match activateCheck s with
    | some r => .next (emit (.pldm 5 [r.status.code]) s)
    | none => .next (beginActivation none (emit (.pldm 5 [pldmSuccess]) s))

/-! ### The Carmir relay (R531) -/

/-- Answer a relayed command: the response envelope of version 3.2, and a claim of seat 0 for a BUSY on an object (R92). -/
def relayAnswer (tag hostTime : Nat) (r : Reply) (s : State) : State :=
  let s := match r.status, r.busyOn with
    | .busy, some o => addClaim 0 r.retry o s
    | _, _ => s
  emit (.relay { status := r.status, version := 0x0302, deferred := false, staged := r.staged.isSome, tag := tag
                 retryAfter := if r.status = .busy then r.retry else 0
                 effStep := (r.staged.map (·.2)).getD 0, effPart := (r.staged.map (·.1)).getD 255, opid := 0
                 tPosted := s.dev.devtime, tAccept := s.dev.devtime, tDone := s.dev.devtime, hostTime := hostTime
                 bodyLen := r.body.len, body := r.body }) s

/-- The checks of R82 that a relayed command meets after its version and its opcode: Sable, the gates of R581, and the body
length. -/
def relayGate (o : OpInfo) (bodyLen : Nat) (s : State) : Option Reply :=
  if s.flt.sable && !o.s then some (.of .fatal)
  else if o.a && !s.dev.admitOpen then some (.of .notReady)
  else if !o.a && !o.f && !s.dev.memActive then some (.busyAnon (memActiveBound s))
  else if some bodyLen != o.body then some (.of .invalid)
  else none

/-- Serve a relayed command of an opcode that is relayed. -/
def relayServe (o : OpInfo) (bodyLen tag hostTime : Nat) (check : State → Option Reply) (effect : State → State × Reply) (s : State) :
    State :=
  match relayGate o bodyLen s with
  | some r => relayAnswer tag hostTime r s
  | none => match check s with
    | some r => relayAnswer tag hostTime r s
    | none =>
      let (t, r) := effect s
      relayAnswer tag hostTime r t

/-- No check of its own. -/
def noCheck (_ : State) : Option Reply := none

/-- A relayed command by its opcode (R531): it acts as seat 0. -/
def relayCmd (bodyLen tag hostTime : Nat) (cmd : RelayCmd) (s : State) : State :=
  match cmd with
  | .identifySeat => relayServe Op.identifySeat bodyLen tag hostTime noCheck (fun s => (s, { body := identifyBody s 0 })) s
  | .setPortConfig port clkMode =>
    relayServe Op.setPortConfig bodyLen tag hostTime (setPortConfigCheck port clkMode) (setPortConfig port clkMode) s
  | .mapSeat seat port ldId => relayServe Op.mapSeat bodyLen tag hostTime (mapSeatCheck seat port ldId) (mapSeat seat port ldId) s
  | .queryHoldup => relayServe Op.queryHoldup bodyLen tag hostTime noCheck (fun s => (s, { body := holdupBody s })) s
  | .readFaultRecords firstSeq =>
    relayServe Op.readFaultRecords bodyLen tag hostTime noCheck (fun s => (s, { body := recordsBody s 0 firstSeq })) s
  | .clearFaultRecords seq => relayServe Op.clearFaultRecords bodyLen tag hostTime noCheck (fun s => (clearRecords seq s, {})) s
  | .queryFaultState => relayServe Op.queryFaultState bodyLen tag hostTime noCheck (fun s => (s, { body := faultStateBody s })) s
  | .queryDump => relayServe Op.queryDump bodyLen tag hostTime queryDumpCheck (fun s => (s, { body := queryDumpBody s })) s
  | .readDump slot id off len dst =>
    relayServe Op.readDump bodyLen tag hostTime
      (fun s => if dst != 0 then some (.of .invalid) else readDumpCheck slot id off len 0 s)
      (fun s => (s, { status := sectionStatus s slot id, body := .bytes (dumpBytes s slot id off len) })) s
  | .clearDump slot => relayServe Op.clearDump bodyLen tag hostTime (clearDumpCheck slot) (fun s => (clearDump slot s, {})) s
  | .injectFault target correctable =>
    relayServe Op.injectFault bodyLen tag hostTime (injectCheck target) (injectFault target correctable) s
  | .queryFirmware => relayServe Op.queryFirmware bodyLen tag hostTime noCheck (fun s => (s, { body := firmwareBody s })) s
  | .other _ => relayAnswer tag hostTime (.of .denied) s

/-- CARMIR_RELAY (R531, R582): from FW_READY, with version 3.2. -/
def execCarmirRelay (verMajor verMinor bodyLen tag hostTime : Nat) (cmd : RelayCmd) (s : State) : Host.Outcome State Fault Refusal :=
  if !busPowered s then .next s
  else if !s.dev.fwReady then .next (emit (.pldm 63 [pldmNotReady]) s)
  else if verMajor != 3 || verMinor != 2 then .next (relayAnswer tag hostTime (.of .version) s)
  else .next (relayCmd bodyLen tag hostTime cmd s)

end Sys2Proof.Machine
end

