-- ==== Sys2Proof/Machine/StdMailbox.lean ====
section
/-! DEFINITION. The standard CXL mailbox commands (R81, R599): identification, logs, the timestamp and event records. Return codes and
the order of output fields are PRESUMED from CXL 3.1 (log entry 14). -/

namespace Sys2Proof.Machine

/-! ### How they arrive (R78, R79, R579) -/

/-- Return codes of the standard commands (PRESUMED from CXL 3.1; log entry 14). -/
def rcInvalidHandle : Nat := 0x0E
def rcInvalidLog : Nat := 0x17

/-- Place a standard command's output in the mailbox: its return code, in place of any response there. One that a seat reset has discarded
is dropped (R83). -/
def stdAnswer (seat opcode rc : Nat) (data : List Nat) (s : State) : State :=
  if discards s seat then dropResp seat s else
  let s := updMbx seat (fun m => { m with returnCode := rc, extStatus := 0, resp := none }) s
  let s := emit (.stdMbx seat opcode rc data) s
  if (s.seats.get seat).mbx.irqEnable then emit (.msix seat 0) s else s

/-- A standard command that comes before FW_READY is answered Busy; it is discarded where the seat cannot be reached or sleeps, and spoils a
mailbox whose Doorbell is 1 (R39, R79, R579). -/
def stdBusy (seat opcode : Nat) (s : State) : State :=
  if !seatReached s seat || seatD3 s seat then s
  else if doorbell s seat then updMbx seat (fun m => { m with spoiled := true }) s
  else stdAnswer seat opcode rcBusy [] (updMbx seat (fun m => { m with opcode := opcode, posted := s.dev.devtime }) s)

/-- A standard command arrives at a seat's mailbox, where it waits for its turn as any other command does (R39, R79, R89). -/
def stdMailbox (seat opcode : Nat) (self : Instr) (f : Nat → Nat → State → Nat × List Nat × State) (s : State) :
    Host.Outcome State Fault Refusal :=
  if 64 ≤ seat then .next s
  else if !s.dev.fwReady then .next (stdBusy seat opcode s)
  else match doorWrite seat self opcode s with
    | some t => .next t
    | none =>
      let s := takeCmd seat opcode s
      match (s.seats.get seat).map with
      | none => .next (dropResp seat s)
      | some (p, l) =>
        let (rc, data, t) := f p l s
        .next (stdAnswer seat opcode rc data t)

/-! ### Identification and logs -/

/-- IDENTIFY_MEMORY_DEVICE (R81): firmware version, total, volatile and persistent capacity in 256 MB, the sizes of the four event
logs, and no label storage. -/
def execIdentifyMemoryDevice (seat : Nat) (s : State) : Host.Outcome State Fault Refusal :=
  stdMailbox seat 0x4000 (.identifyMemoryDevice seat) (fun p l s =>
    let c := (s.lds.get (ldKey p l)).alloc / 256000000
    (rcSuccess, [activeVersion s, c, c, 0, 256, 256, 256, 256, 0], s)) s

/-- Opcodes of the Command Effects Log: the standard ones of R81, then those of Table 23-3. -/
def celOpcodes : List Nat :=
  [0x0100, 0x0101, 0x0300, 0x0301, 0x0400, 0x0401, 0x4000] ++
  [0xC000, 0xC001, 0xC002, 0xC003, 0xC010, 0xC011, 0xC100, 0xC101, 0xC102, 0xC103, 0xC104, 0xC105, 0xC106, 0xC107, 0xC108, 0xC200,
   0xC201, 0xC202, 0xC203, 0xC204, 0xC205, 0xC206, 0xC207, 0xC210, 0xC211, 0xC212, 0xC213, 0xC214, 0xC215, 0xC300, 0xC301, 0xC302,
   0xC303, 0xC304, 0xC305, 0xC306, 0xC307, 0xC400, 0xC401, 0xC402, 0xC403, 0xC404, 0xC405, 0xC406, 0xC407, 0xC500, 0xC501, 0xC502,
   0xC503, 0xC504, 0xC505, 0xC506, 0xC507, 0xC508, 0xC509, 0xC50A, 0xC600, 0xC601, 0xC602, 0xC603, 0xC700, 0xC701, 0xC702, 0xC703,
   0xC704, 0xC705, 0xC706, 0xC707, 0xC708, 0xC710, 0xC720, 0xC721, 0xC722, 0xC723, 0xC760, 0xC761, 0xC762, 0xC763, 0xC800, 0xC801,
   0xC802, 0xC803, 0xC804, 0xC900, 0xC901, 0xC902, 0xC903, 0xC940, 0xC941, 0xC942, 0xCA00, 0xCA01, 0xCA02, 0xCA03, 0xCA04, 0xCA05,
   0xCA06, 0xCB00, 0xCB01, 0xCB02, 0xCB20, 0xCB21, 0xCB30, 0xCB31]

/-- The bytes of the Command Effects Log: opcode and effects, 4 B each (log entry 64). -/
def celBytes : List Byte := (celOpcodes.map fun o => leBytes 2 o ++ leBytes 2 (Config.celEffect o).toNat).flatten

/-- GET_SUPPORTED_LOGS (R81): the Command Effects Log alone, with its size. -/
def execGetSupportedLogs (seat : Nat) (s : State) : Host.Outcome State Fault Refusal :=
  stdMailbox seat 0x0400 (.getSupportedLogs seat) (fun _ _ s => (rcSuccess, [1, 4 * celOpcodes.length], s)) s

/-- GET_LOG (R81): an extent of the Command Effects Log. -/
def execGetLog (seat : Nat) (cel : Bool) (offset length : Nat) (s : State) : Host.Outcome State Fault Refusal :=
  stdMailbox seat 0x0401 (.getLog seat cel offset length) (fun _ _ s =>
    if !cel then (rcInvalidLog, [], s)
    else if 4 * celOpcodes.length < offset + length then (rcInvalidInput, [], s)
    else (rcSuccess, ((celBytes.drop offset).take length).map (·.toNat), s)) s

/-! ### The timestamp (R81) -/

/-- The timestamp of event records now: 0 until Set Timestamp. -/
def timestampNow (s : State) : Nat :=
  if s.dev.timestamp = (0, 0) then 0 else (s.dev.timestamp.1 + (s.dev.devtime - s.dev.timestamp.2)) % 2 ^ 64

/-- GET_TIMESTAMP (R81). -/
def execGetTimestamp (seat : Nat) (s : State) : Host.Outcome State Fault Refusal :=
  stdMailbox seat 0x0300 (.getTimestamp seat) (fun _ _ s => (rcSuccess, [timestampNow s], s)) s

/-- SET_TIMESTAMP (R81): never GLB_DEVTIME. -/
def execSetTimestamp (seat : Nat) (time : Nat) (s : State) : Host.Outcome State Fault Refusal :=
  stdMailbox seat 0x0301 (.setTimestamp seat time) (fun _ _ s => (rcSuccess, [], updDev (fun d => { d with timestamp := (time % 2 ^ 64, d.devtime) }) s)) s

/-! ### Event records (R599) -/

/-- An event log of an LD: 0 Informational, 1 Warning, 2 Failure, 3 Fatal. -/
def eventLog (d : Ld) (log : Nat) : Option EventLog :=
  match log with
  | 0 => some d.infoLog
  | 1 => some d.warnLog
  | 2 => some d.failLog
  | 3 => some d.fatalLog
  | _ => none

/-- Change an event log of an LD. -/
def setEventLog (log : Nat) (x : EventLog) (d : Ld) : Ld :=
  match log with
  | 0 => { d with infoLog := x }
  | 1 => { d with warnLog := x }
  | 2 => { d with failLog := x }
  | 3 => { d with fatalLog := x }
  | _ => d

/-- A Common Event Record: its handle, the time of the event on the timestamp's scale, and the 64 B fault record (R599). -/
def eventRecord (s : State) (r : FaultRec) : List Nat :=
  [(Config.eventHandle r.seq).toNat, (timestampNow s - (s.dev.devtime - r.tEvent)), leNat r.bytes]

/-- GET_EVENT_RECORDS (R81, R599): Overflow, the count, and every record of the log. -/
def execGetEventRecords (seat : Nat) (log : Nat) (s : State) : Host.Outcome State Fault Refusal :=
  stdMailbox seat 0x0100 (.getEventRecords seat log) (fun p l s => match eventLog (s.lds.get (ldKey p l)) log with
    | none => (rcInvalidInput, [], s)
    | some x => (rcSuccess, [bit x.overflow, x.records.length] ++ (x.records.map (eventRecord s)).flatten, s)) s

/-- Records cleared from a log: all, or those of these handles; none when a handle names no record. -/
def clearLog (x : EventLog) (all : Bool) (handles : List Nat) : Option EventLog :=
  if all then some {}
  else if handles.all fun h => x.records.any fun r => (Config.eventHandle r.seq).toNat = h then
    some { x with records := x.records.filter fun r => !handles.contains (Config.eventHandle r.seq).toNat, overflow := handles.isEmpty && x.overflow }
  else none

/-- CLEAR_EVENT_RECORDS (R599): that LD's logs only. -/
def execClearEventRecords (seat : Nat) (log : Nat) (all : Bool) (handles : List Nat) (s : State) : Host.Outcome State Fault Refusal :=
  stdMailbox seat 0x0101 (.clearEventRecords seat log all handles) (fun p l s => match eventLog (s.lds.get (ldKey p l)) log with
    | none => (rcInvalidInput, [], s)
    | some x => match clearLog x all handles with
      | none => (rcInvalidHandle, [], s)
      | some y => (rcSuccess, [], updLd p l (setEventLog log y) s)) s

/-- UNSUPPORTED_CXL_OPCODE (R81): any other standard opcode returns Unsupported. -/
def execUnsupportedCxlOpcode (seat opcode : Nat) (s : State) : Host.Outcome State Fault Refusal :=
  stdMailbox seat opcode (.unsupportedCxlOpcode seat opcode) (fun _ _ s => (rcUnsupported, [], s)) s

end Sys2Proof.Machine
end

