-- ==== Sys2Proof/Machine/Registers.lean ====
section
/-! DEFINITION. Register accesses (chapter 22): which register lies at an offset, who may write it, the malformed writes of R618, the
locked fields of R625, and each register's write. -/

namespace Sys2Proof.Machine

/-! ### What each register's write does -/

/-- A write of a locked or out-of-range field: a transient record with EVENT 12, the status in DETAIL (R8, R625, R630); such a write comes
from seat 0 (R620). -/
def lockedWrite (st : Status) (s : State) : State := logFault { unit := 0, event := 12, action := 6, seat := 0, detail := st.code } s

/-- GLB_STEP_CTRL (R629): HWPARSE is staged to idle; it is locked at 0 once the parser is retired (R625). -/
def writeStepCtrl (v : Nat) (s : State) : State :=
  if s.glb.parserRetired then lockedWrite .denied s
  else idleCommit { s with glb := { s.glb with hwparsePend := some (v % 2 = 1) } }

/-- The defined bits of GLB_DITHER_CTRL (Table 8-8). -/
def ditherMask (v : Nat) : Nat := bits v 30 2 * 2 ^ 30 + bits v 16 10 * 2 ^ 16 + bits v 0 10

/-- GLB_DITHER_CTRL (R256): staged to idle. -/
def writeDitherCtrl (v : Nat) (s : State) : State :=
  idleCommit { s with glb := { s.glb with ditherCtrlPend := some (ditherMask v) } }

/-- GLB_DITHER_SALT (R631): staged to idle. -/
def writeDitherSalt (v : Nat) (s : State) : State :=
  idleCommit { s with glb := { s.glb with ditherSaltPend := some (v % 2 ^ 64) } }

/-- A partition is RESIDENT or SWAPPED, or on its way between the two (R202, R625). -/
def areaLocked (s : State) : Bool := (List.range 16).any fun p => (s.parts.get p).state != .empty

/-- GLB_DELTA_CFG (R630): AREA_LOG2 takes effect at once, unless it is locked, out of range, or would bring the limit of account 4
below its charge. -/
def writeDeltaCfg (v : Nat) (s : State) : State :=
  let a := v % 64
  let t := { s with glb := { s.glb with areaLog2 := a } }
  if areaLocked s then lockedWrite .denied s
  else if a < 29 || 32 < a then lockedWrite .invalid s
  else if frameLimit t < s.acct.frames then lockedWrite .capacity s
  else t

/-- GLB_COH_CFG (R460): each later snoop samples SNOOP_TO. -/
def writeCohCfg (v : Nat) (s : State) : State := { s with glb := { s.glb with snoopTo := v % 1024 } }

/-- PRT_CTRL (R625, R632): CLKMODE is locked while the main rails are good. -/
def writePrtCtrl (s : State) : State := if s.pwr.rails = 10 then lockedWrite .denied s else s

/-! ### Where a register lies (R617, R626, R637) -/

/-- The registers with a field some LD may write. -/
inductive WrReg where
  | stepCtrl | ditherCtrl | deltaCfg | ditherSalt | cohCfg | pwrCtrl
  | prtCtrl (port : Nat)
  | seatStatus (seat : Nat)
  | noticeHead (seat : Nat)
  | cqHead (seat ring : Nat)
  | stpStatus (seat ring : Nat)
  | mbxStatus (seat : Nat)
  deriving DecidableEq, Repr

/-- The writable registers of the GLB_ block with their offsets (Table 22-4). -/
def glbRegs : List (Nat × WrReg) :=
  [(0x10014, .stepCtrl), (0x10018, .ditherCtrl), (0x1001C, .deltaCfg), (0x10020, .ditherSalt), (0x10028, .cohCfg), (0x11000, .pwrCtrl)] ++
  (List.range 8).map fun p => (0x13000 + p * 0x100, .prtCtrl p)

/-- The writable registers of a seat page with their offsets (Table 22-15, Table 3-11). -/
def pageRegs (seat : Nat) : List (Nat × WrReg) :=
  let b := 0x100000 + seat * 0x20000
  [(b + 0x1000, .seatStatus seat), (b + 0x1018, .noticeHead seat)] ++
  ((List.range 4).map fun n => (b + 0x2000 + n * 0x100 + 0x1C, WrReg.cqHead seat n)) ++
  ((List.range 4).map fun n => (b + 0x2000 + n * 0x100 + 0x20, WrReg.stpStatus seat n)) ++ [(b + 0x3000, .mbxStatus seat)]

/-- The registers an LD may write: its seat's page, and from seat 0's LD the GLB_ block (R44, R620). -/
def writableRegs (s : State) (port ld : Nat) : List (Nat × WrReg) :=
  match seatOfLd s port ld with
  | some n => pageRegs n ++ (if n = 0 then glbRegs else [])
  | none => []

/-- Bytes of a register. -/
def WrReg.size : WrReg → Nat
  | .ditherSalt => 8
  | _ => 4

/-- Writable registers that an access touches. -/
def touched (s : State) (port ld offset n : Nat) : List (Nat × WrReg) :=
  (writableRegs s port ld).filter fun r => overlaps offset n r.1 r.2.size

/-- A 64-bit register whose low half this LD has written and not yet completed (R618). -/
def heldHalf (s : State) (port ld : Nat) : Option (Nat × Nat) := (s.lds.get (ldKey port ld)).heldLow

/-- Set or discard an LD's held low half. -/
def holdHalf (port ld : Nat) (h : Option (Nat × Nat)) (s : State) : State := updLd port ld (fun d => { d with heldLow := h }) s

/-- A malformed write: discarded, with a transient record of EVENT 10 (R618). -/
def malformedWrite (s : State) (port ld : Nat) : State :=
  let n := (seatOfLd s port ld).getD 255
  logFault { unit := 5, index := n, event := 10, action := 6, seat := n } s

/-- The outcome of a write a command's meaning gives as a state. -/
def settled (o : Host.Outcome State Fault Refusal) (s : State) : State :=
  match o with
  | .next t => t
  | _ => s

/-- A whole write of a register (R4, R618). -/
def applyWrite (r : WrReg) (v : Nat) (s : State) : State :=
  match r with
  | .stepCtrl => writeStepCtrl v s
  | .ditherCtrl => writeDitherCtrl v s
  | .deltaCfg => writeDeltaCfg v s
  | .ditherSalt => writeDitherSalt v s
  | .cohCfg => writeCohCfg v s
  | .pwrCtrl => stagePwrCtrl v s
  | .prtCtrl _ => writePrtCtrl s
  | .seatStatus n => if v / 16 % 2 = 1 then updSeat n (fun t => { t with noticeLost := false }) s else s
  | .noticeHead n => settled (execSeatNoticeHeadWrite n v s) s
  | .cqHead n k => settled (execStpCqHeadWrite n k v s) s
  | .stpStatus n k => updRing n k (fun x => { x with
      cqHeadBad := x.cqHeadBad && v / 16 % 2 = 0, overrun := x.overrun && v / 8 % 2 = 0
      partialStore := x.partialStore && v / 4 % 2 = 0, malformed := x.malformed && v / 2 % 2 = 0 }) s
  | .mbxStatus n => if v % 2 = 1 then updMbx n (fun m => { m with spoiled := false }) s else s

/-- A write of a half of a 64-bit register: the low half is held, and the high half completes it (R618). -/
def writeHalf (port ld base offset value : Nat) (s : State) : State :=
  if offset = base then holdHalf port ld (some (base, value % 2 ^ 32)) s
  else match heldHalf s port ld with
    | some h => if h.1 = base then writeDitherSalt (value % 2 ^ 32 * 2 ^ 32 + h.2) (holdHalf port ld none s) else malformedWrite s port ld
    | none => malformedWrite s port ld

/-- A write that touches one writable register: well formed, or discarded (R618). -/
def writeOne (port ld base : Nat) (r : WrReg) (offset width value : Nat) (s : State) : State :=
  if r.size = 8 then
    if width = 64 && offset = base then applyWrite r value (holdHalf port ld none s)
    else if width = 32 && (offset = base || offset = base + 4) then writeHalf port ld base offset value s
    else malformedWrite (holdHalf port ld none s) port ld
  else if width = 32 && offset = base then applyWrite r (value % 2 ^ 32) s
  else malformedWrite s port ld

/-- An access that is not a half of the held register leaves the held half; one that touches that register otherwise discards it. -/
def dropHalf (port ld : Nat) (l : List (Nat × WrReg)) (s : State) : State :=
  match heldHalf s port ld with
  | some h => if l.any fun r => r.1 = h.1 then holdHalf port ld none s else s
  | none => s

/-! ### The primary mailbox (R77, R79) -/

/-- The seat's mailbox registers or payload, at a page offset (Table 22-15). -/
def mailboxSpace (seat offset n : Nat) : Bool :=
  overlaps offset n (0x100000 + seat * 0x20000 + 0xFFE0) 32 || overlaps offset n (0x100000 + seat * 0x20000 + 0x10000) 65536

/-- A write into the mailbox: it spoils a mailbox whose Doorbell is 1; otherwise Mailbox Control takes its interrupt enable (PRESUMED
from CXL 3.1: bit 1 of the register at 4; log entry 14), and a payload write takes the place of the response. -/
def writeMailbox (seat offset width value : Nat) (s : State) : State :=
  let b := 0x100000 + seat * 0x20000
  if doorbell s seat then updMbx seat (fun m => { m with spoiled := true }) s
  else if offset = b + 0xFFE4 && width = 32 then updMbx seat (fun m => { m with irqEnable := value / 2 % 2 = 1 }) s
  else if b + 0x10000 ≤ offset then updMbx seat (fun m => { m with resp := none }) s
  else s

/-- A write of any offset from an LD (R617, R618, R620). -/
def regWrite (port ld offset width value : Nat) (s : State) : State :=
  match touched s port ld offset (width / 8) with
  | [] => match seatOfLd s port ld with
    | some n => if mailboxSpace n offset (width / 8) then writeMailbox n offset width value s else s
    | none => s
  | [r] => writeOne port ld r.1 r.2 offset width value s
  | l => malformedWrite (dropHalf port ld l s) port ld

/-- REGISTER_WRITE (R618): a write of 8, 16, 32 or 64 bits at any offset of an LD's BAR0. -/
def execRegisterWrite (port ld offset width value : Nat) (s : State) : Host.Outcome State Fault Refusal :=
  if 8 ≤ port || 16 ≤ ld || !([8, 16, 32, 64] : List Nat).contains width then .next s
  else if memReached s port ld then .next (regWrite port ld offset width value s)
  else .next s

/-! ### Rows of their own -/

/-- A whole aligned write of a GLB_ register from a seat's LD: only seat 0's takes effect, the others are discarded without a record
(R44, R620). -/
def glbWrite (seat : Nat) (f : State → State) (s : State) : Host.Outcome State Fault Refusal :=
  if 64 ≤ seat then .next s
  else if seat = 0 && seatReached s 0 then .next (f s)
  else .next s

/-- GLB_STEP_CTRL_WRITE (R629). -/
def execGlbStepCtrlWrite (seat value : Nat) (s : State) : Host.Outcome State Fault Refusal := glbWrite seat (writeStepCtrl value) s

/-- GLB_DITHER_CTRL_WRITE (R256). -/
def execGlbDitherCtrlWrite (seat value : Nat) (s : State) : Host.Outcome State Fault Refusal := glbWrite seat (writeDitherCtrl value) s

/-- A write of GLB_DITHER_SALT from seat 0's LD: 0 the low half, 1 the high half, 2 the whole (R618, R631). -/
def saltWrite (half value : Nat) (s : State) : State :=
  match (s.seats.get 0).map with
  | none => s
  | some (p, l) =>
    if half = 2 then writeOne p l 0x10020 .ditherSalt 0x10020 64 value s
    else writeOne p l 0x10020 .ditherSalt (0x10020 + 4 * half) 32 value s

/-- GLB_DITHER_SALT_WRITE (R631). -/
def execGlbDitherSaltWrite (seat half value : Nat) (s : State) : Host.Outcome State Fault Refusal :=
  if 3 ≤ half then .next s else glbWrite seat (saltWrite half value) s

/-- GLB_DELTA_CFG_WRITE (R630). -/
def execGlbDeltaCfgWrite (seat value : Nat) (s : State) : Host.Outcome State Fault Refusal := glbWrite seat (writeDeltaCfg value) s

/-- GLB_COH_CFG_WRITE (R460). -/
def execGlbCohCfgWrite (seat value : Nat) (s : State) : Host.Outcome State Fault Refusal := glbWrite seat (writeCohCfg value) s

/-- PWR_CTRL_WRITE (R547). -/
def execPwrCtrlWrite (seat value : Nat) (s : State) : Host.Outcome State Fault Refusal := glbWrite seat (stagePwrCtrl value) s

/-- PRT_CTRL_WRITE (R625): CLKMODE is locked, so the value changes nothing. -/
def execPrtCtrlWrite (seat port _value : Nat) (s : State) : Host.Outcome State Fault Refusal :=
  if 8 ≤ port then .next s else glbWrite seat writePrtCtrl s

/-- TEL_REC0_READ (R556, R619): the LD's latch takes TEL_REC1 to TEL_REC3. -/
def execTelRec0Read (port ld : Nat) (s : State) : Host.Outcome State Fault Refusal :=
  if 8 ≤ port || 16 ≤ ld then .next s
  else if memReached s port ld then
    .next (emit (.regValue port ld 0x14000 ((telWords s).headD 0)) (updLd port ld (fun d => { d with telLatch := some ((telWords s).drop 1) }) s))
  else .next s

/-- DEVTIME_LOW_READ (R74): the low half is returned and the high half latched for the LD. -/
def execDevtimeLowRead (port ld : Nat) (s : State) : Host.Outcome State Fault Refusal :=
  if 8 ≤ port || 16 ≤ ld then .next s
  else if memReached s port ld then
    .next (emit (.regValue port ld 0x10008 (s.dev.devtime % 2 ^ 32))
      (updLd port ld (fun d => { d with devtimeHigh := some (s.dev.devtime / 2 ^ 32 % 2 ^ 32) }) s))
  else .next s

end Sys2Proof.Machine
end

