-- ==== Sys2Proof/Machine/Views.lean ====
section
/-! DEFINITION. What a register read returns (R617 to R621, chapter 22, Tables 3-2 to 3-12): every register of BAR0 with its offset, its width
and its value, and the bytes an access selects. No command of the block carries a read but the two whose reads latch; statements are made
through this view. -/

namespace Sys2Proof.Machine

/-! ### GLB_ (Table 22-4) -/

/-- GLB_DITHER_CTRL and GLB_DITHER_SALT as read: the value last written (R4, R256, R631). -/
def ditherCtrlRead (s : State) : Nat := s.glb.ditherCtrlPend.getD s.glb.ditherCtrl
def ditherSaltRead (s : State) : Nat := s.glb.ditherSaltPend.getD s.glb.ditherSalt

/-- TEL_REC1 to TEL_REC3 as an LD reads them: its latch, else the shadow (R556). -/
def telRead (s : State) (port ld k : Nat) : Nat :=
  if k = 0 then (telWords s).getD 0 0 else ((s.lds.get (ldKey port ld)).telLatch.getD ((telWords s).drop 1)).getD (k - 1) 0

/-- The registers of the GLB_ block: offset, bytes and value (Table 22-4); every LD decodes them. -/
def glbView (s : State) (port ld : Nat) : List (Nat × Nat × Nat) :=
  [(0x10000, 8, glbId s), (0x10008, 8, s.dev.devtime), (0x10010, 4, glbResetCause s), (0x10014, 4, glbStepCtrl s),
   (0x10018, 4, ditherCtrlRead s), (0x1001C, 4, s.glb.areaLog2), (0x10020, 8, ditherSaltRead s), (0x10028, 4, s.glb.snoopTo),
   (0x10030, 8, s.coh.fenced.toNat), (0x11000, 4, pwrCtrlRead s), (0x11004, 4, pwrStatus s), (0x12000, 4, clkStatus s)] ++
  ((List.range 8).map fun p =>
    let b := 0x13000 + p * 0x100
    [(b, 4, prtCtrl s p), (b + 4, 4, prtStatus s p)] ++ (List.range 4).map fun k => (b + 0x10 + 4 * k, 4, prtLdmap s p k)).flatten ++
  ((List.range 4).map fun k => (0x14000 + 8 * k, 8, telRead s port ld k)) ++
  [(0x15000, 4, fltStatus s), (0x15004, 4, s.flt.nextSeq), (0x16000, 4, hupStatus s), (0x16004, 4, hupEnergy s),
   (0x16008, 4, hupCapacity s), (0x1600C, 4, s.tier.ceiling), (0x16010, 4, dirtyCount s)]

/-! ### The seat page (Tables 3-2, 22-15) -/

/-- Work of a partition's step waits for completion space in the ring (R104): its boundary, an expiry, an item's end, or a draw. -/
def stepStalls (s : State) (r : RingSet) (part : Nat) : Bool :=
  let p := s.parts.get part
  let x := p.step
  let ends := match s.svc.inService with
    | some (q, i) => q = part && (match itemOf s q i with
      | some it => (it.ending.isSome && !r.hasEntry true) ||
          (it.rec?.isNone && !r.hasFree 1 && (x.cond != .open_ || it.since + 1000 * x.waitUs ≤ s.dev.devtime))
      | none => false)
    | none => false
  let unsampled := x.cond = .closing && x.sample && x.items.all (·.left) &&
    x.kept.any fun k => (rtOf s k.handle).eddy && !k.drawQueued && !k.drawDone
  (stepDone s part && !r.hasFree (boundaryComps p)) || ends ||
    (!r.hasFree 1 && (unsampled || s.draws.head?.any fun d => d.part = part))

/-- CQ_STALL: parsing or a completion waits for completion space (R104, Table 3-12). A NOP needs none (R100). -/
def cqStall (s : State) (seat ring : Nat) : Bool :=
  let r := ringOf s seat ring
  r.live && ((r.backlog.head?.any fun c => !r.hasEntry c.2) ||
    ((headRecord s seat ring).any fun x => recKind x.2 != 0 && !r.canReserve) ||
    (List.range 16).any fun p =>
      let x := (s.parts.get p).step
      x.cond != .idle && x.ownerSeat = seat && x.ownerRing = ring && stepStalls s r p)

/-- STP_STATUS (Table 3-12). -/
def stpStatus (s : State) (seat ring : Nat) : Nat :=
  let r := ringOf s seat ring
  bit (r.live && !s.glb.hwparse) * 64 + bit (cqStall s seat ring) * 32 + bit r.cqHeadBad * 16 + bit r.overrun * 8 + bit r.partialStore * 4 +
    bit r.malformed * 2 + bit r.live

/-- A ring set (Table 3-11). -/
def stpView (s : State) (seat ring : Nat) : List (Nat × Nat × Nat) :=
  let r := ringOf s seat ring
  let b := 0x2000 + ring * 0x100
  [(b, 8, r.sqBase), (b + 8, 8, r.cqBase), (b + 0x10, 4, stpCfg r), (b + 0x14, 4, r.head), (b + 0x18, 4, r.cqTail), (b + 0x1C, 4, r.cqHead),
   (b + 0x20, 4, stpStatus s seat ring)]

/-- One capability header of the CXL Device Capabilities Array (Table 22-16; its layout and versions PRESUMED from CXL 3.1, log entry 14). -/
def capHeader (id version offset len : Nat) : Nat := id + version * 2 ^ 16 + offset * 2 ^ 32 + len * 2 ^ 64

/-- The CXL device register blocks (Table 22-16). -/
def deviceView (s : State) (port ld : Nat) : List (Nat × Nat × Nat) :=
  [(0x00, 16, 1 * 2 ^ 16 + 1 * 2 ^ 24 + 3 * 2 ^ 32), (0x10, 16, capHeader 1 2 0x100 256), (0x20, 16, capHeader 2 1 0xFFE0 (32 + 65536)),
   (0x30, 16, capHeader 0x4000 1 0x200 256), (0x100, 8, eventStatus (s.lds.get (ldKey port ld))),
   (0x200, 8, bit s.flt.sable + mediaStatus s * 4 + bit s.dev.fwReady * 16)]

/-- The primary mailbox's registers (Table 3-5): Capabilities, Control, Command, Status. What the host wrote as the payload length is a free
value (log entry 122). -/
def primaryView (s : State) (seat : Nat) : List (Nat × Nat × Nat) :=
  let m := (s.seats.get seat).mbx
  [(0xFFE0, 4, 16 + 32), (0xFFE4, 4, bit (doorbell s seat) + 2 * bit m.irqEnable),
   (0xFFE8, 8, m.opcode + (Config.hostWrote seat 0).toNat % 2 ^ 21 * 2 ^ 16), (0xFFF0, 8, m.returnCode * 2 ^ 32 + m.extStatus * 2 ^ 48)]

/-- The registers of a seat's page, but for the payload: offset in the page, bytes and value (Table 22-15). -/
def pageView (s : State) (port ld seat : Nat) : List (Nat × Nat × Nat) :=
  let t := s.seats.get seat
  deviceView s port ld ++
  [(0x1000, 4, seatStatus s seat), (0x1008, 8, t.noticeBase), (0x1010, 4, seatNoticeCfg s seat), (0x1014, 4, t.noticeTail),
   (0x1018, 4, t.noticeHead)] ++
  ((List.range 4).map fun n => stpView s seat n).flatten ++
  [(0x3000, 4, mbxExtStatus s seat), (0x3004, 4, t.mbx.opcode), (0x3008, 8, t.mbx.posted)] ++ primaryView s seat

/-! ### The mailbox payload (R85) -/

/-- The 64 bytes of a response envelope (Table 3-7). -/
def Response.envelope (r : Response) : List Byte :=
  leBytes 2 r.version ++ leBytes 2 (bit r.deferred + 2 * bit r.staged) ++ leBytes 4 r.tag ++ leBytes 4 r.bodyLen ++ leBytes 2 r.status.code ++
  leBytes 2 r.retryAfter ++ leBytes 4 r.effStep ++ leBytes 1 r.effPart ++ leBytes 3 0 ++ leBytes 4 r.opid ++ leBytes 4 0 ++
  leBytes 8 r.tPosted ++ leBytes 8 r.tAccept ++ leBytes 8 r.tDone ++ leBytes 8 r.hostTime

/-- A response as the payload holds it: the envelope, and the body at offset 64 (R85). -/
def Response.bytes (r : Response) : List Byte := r.envelope ++ r.body.toBytes

/-- A byte of a seat's payload: the response's, else what the host wrote there, a free value (log entry 122). -/
def payloadByte (s : State) (seat i : Nat) : Byte :=
  match (s.seats.get seat).mbx.resp with
  | some r => r.bytes.getD i (Config.hostWrote seat (1 + i))
  | none => Config.hostWrote seat (1 + i)

/-! ### Reads (R617, R618) -/

/-- The byte that a list of registers gives at an offset; none where no register lies. -/
def viewByte (l : List (Nat × Nat × Nat)) (off : Nat) : Option Byte :=
  (l.find? fun r => r.1 ≤ off && off < r.1 + r.2.1).map fun r => BitVec.ofNat 8 (r.2.2 / 2 ^ (8 * (off - r.1)))

/-- A byte of the component registers: the CXL.cachemem range holds its capabilities, the rest is reserved and reads 0 (R641). -/
def componentByte (s : State) (port ld off : Nat) : Byte :=
  let d := s.lds.get (ldKey port ld)
  if off < 0x1000 || 0x2000 ≤ off then 0
  else Config.componentByte (ldKey port ld) d.biEnable
    ((List.range 4).map fun i => let x := d.decoders.get i; (x.base, x.size, x.bi)) off

/-- A byte of the pool-set aperture (Table 16-9): a member's CREDIT, and the entries that stand in its slot; 0 elsewhere. -/
def apertureByte (s : State) (off : Nat) : Byte :=
  let at_ := off % 0x200000
  match memberOf s (off / 0x200000) with
  | none => 0
  | some m =>
    if 0x4000 ≤ at_ && at_ < 0x4004 then BitVec.ofNat 8 (m.credit / 2 ^ (8 * (at_ - 0x4000)))
    else if at_ < 0x4000 || 0x100000 ≤ at_ then Config.apertureByte m.index m.applied at_
    else 0

/-- A byte of BAR0 as an LD reads it: the component registers, the GLB_ block, the LD's own seat page, the aperture in seat 0's LD, and 0 elsewhere
(R485, R617, R620). -/
def barByte (s : State) (port ld off : Nat) : Byte :=
  if off < 0x10000 then componentByte s port ld off
  else match viewByte (glbView s port ld) off, seatOfLd s port ld with
  | some b, _ => b
  | none, none => 0
  | none, some n =>
    let b := 0x100000 + n * 0x20000
    if 0x1000000 ≤ off && off < 0x2000000 then (if n = 0 && s.pset.phase != .none then apertureByte s (off - 0x1000000) else 0)
    else if off < b || b + 0x20000 ≤ off then 0
    else if b + 0x10000 ≤ off then payloadByte s n (off - b - 0x10000)
    else (viewByte (pageView s port ld n) (off - b)).getD 0

/-- What a read of 8, 16, 32 or 64 bits at an offset returns to an LD (R618, R621): each byte as its own register stands, but the high half of
GLB_DEVTIME as its low half was last read (R74). -/
def regRead (s : State) (port ld offset width : Nat) : Nat :=
  if offset = 0x1000C && width = 32 then (s.lds.get (ldKey port ld)).devtimeHigh.getD (s.dev.devtime / 2 ^ 32)
  else leNat ((List.range (width / 8)).map fun i => barByte s port ld (offset + i))

end Sys2Proof.Machine
end

