-- ==== Sys2Proof/Machine/Idle.lean ====
section
/-! DEFINITION. What the device does when no command waits (DESIGN CHOICE, log entry 69): CC0 takes the next latched mailbox command, or
an AON clock passes and the device goes on by itself. -/

namespace Sys2Proof.Machine

/-- The command CC0 takes next: of the first seat after the last served whose mailbox has one waiting, a command from before a seat reset
first (R83, R89). -/
def nextLatched (s : State) : Option (Instr × State) :=
  (List.range 64).findSome? fun i =>
    let n := (s.lastServed + 1 + i) % 64
    let m := (s.seats.get n).mbx
    match m.orphans with
    | x :: rest => some (x.1, updMbx n (fun m => { m with orphans := rest, orphan := some x.2 }) s)
    | [] => m.latched.map fun c => (c, updMbx n (fun m => { m with latched := none }) s)

/-- CC0 takes a latched command once it serves: the command, and the state in which it runs (R79, R89); on the firmware path no record waits
for it (R107). -/
def takeLatched (s : State) : Option (Instr × State) :=
  if !s.dev.fwReady || recordsWait s then none else nextLatched s

/-- GLB_DEVTIME advances by 10 ns with the AON clock (R74). -/
def clockTick (s : State) : State := if s.pwr.stage = .off then s else updDev (fun d => { d with devtime := (d.devtime + 10) % 2 ^ 64 }) s

/-- Every DOE instance that processes a data object goes on to its end (R57; log entry 112). -/
def doeProgress (s : State) : State := (s.lds.cells.map (·.1)).foldl (fun s k => finishDoe k s) s

/-- Delta's operations each go on by one bucket step (R198; log entry 117). -/
def deltaProgress (s : State) : State := if s.dev.memActive && !s.flt.sable then deltaRound s else s

/-- An AON clock: a commanded warm reset that has come due begins, a firmware restart whose operations have ended reloads the cores;
otherwise held CXL.mem requests and acknowledgements, the flush reads of the item in service, DOE, Delta and the service of items go on. -/
def tick (s : State) : State :=
  let s := clockTick s
  if warmDueNow s then beginWarm 6 s
  else if reloadDue s then reload s
  else if s.pwr.stage = .up then pump (endFlush (deltaProgress (doeProgress (ackConflicts (drainAll s)))))
  else s

end Sys2Proof.Machine
end

