-- ==== Sys2Proof/Machine/Dispatch.lean ====
section
/-! DEFINITION. Which meaning each command has: one direct call per command. -/

namespace Sys2Proof.Machine

def exec (i : Instr) (s : State) : Host.Outcome State Fault Refusal :=
  match i with
  | .identifySeat e => Sys2Proof.Machine.execIdentifySeat e s
  | .negotiateVersion e low high => Sys2Proof.Machine.execNegotiateVersion e low high s
  | .setNoticeRing e base log2 => Sys2Proof.Machine.execSetNoticeRing e base log2 s
  | .getOperation e opid => Sys2Proof.Machine.execGetOperation e opid s
  | .setPortConfig e port clkMode => Sys2Proof.Machine.execSetPortConfig e port clkMode s
  | .mapSeat e seat port ldId => Sys2Proof.Machine.execMapSeat e seat port ldId s
  | .unsupportedOpcode e opcode => Sys2Proof.Machine.execUnsupportedOpcode e opcode s
  | .loadPartition e b => Sys2Proof.Machine.execLoadPartition e b s
  | .queryPartition e part => Sys2Proof.Machine.execQueryPartition e part s
  | .swapOutPartition e part release => Sys2Proof.Machine.execSwapOutPartition e part release s
  | .swapInPartition e modelId part => Sys2Proof.Machine.execSwapInPartition e modelId part s
  | .unloadPartition e part force => Sys2Proof.Machine.execUnloadPartition e part force s
  | .bindKvWindow e part offset => Sys2Proof.Machine.execBindKvWindow e part offset s
  | .unbindKvWindow e part seat => Sys2Proof.Machine.execUnbindKvWindow e part seat s
  | .listImages e start => Sys2Proof.Machine.execListImages e start s
  | .deleteImage e modelId => Sys2Proof.Machine.execDeleteImage e modelId s
  | .createTenant e tenant mode rate cap => Sys2Proof.Machine.execCreateTenant e tenant mode rate cap s
  | .deleteTenant e tenant => Sys2Proof.Machine.execDeleteTenant e tenant s
  | .setTenantBudget e tenant mode rate cap => Sys2Proof.Machine.execSetTenantBudget e tenant mode rate cap s
  | .grantBudget e tenant amount => Sys2Proof.Machine.execGrantBudget e tenant amount s
  | .queryTenant e tenant => Sys2Proof.Machine.execQueryTenant e tenant s
  | .setSeatQuota e seat maxEntries maxFrames => Sys2Proof.Machine.execSetSeatQuota e seat maxEntries maxFrames s
  | .setPartitionCap e part cap => Sys2Proof.Machine.execSetPartitionCap e part cap s
  | .queryCapacity e => Sys2Proof.Machine.execQueryCapacity e s
  | .admitRequest e b => Sys2Proof.Machine.execAdmitRequest e b s
  | .commitPrompt e handle => Sys2Proof.Machine.execCommitPrompt e handle s
  | .setRequest e handle prio dlToken dlItem => Sys2Proof.Machine.execSetRequest e handle prio dlToken dlItem s
  | .cancelRequest e handle => Sys2Proof.Machine.execCancelRequest e handle s
  | .queryRequest e handle => Sys2Proof.Machine.execQueryRequest e handle s
  | .listRequests e start => Sys2Proof.Machine.execListRequests e start s
  | .createStepRing e b => Sys2Proof.Machine.execCreateStepRing e b s
  | .destroyStepRing e ring seat => Sys2Proof.Machine.execDestroyStepRing e ring seat s
  | .closeStep e part => Sys2Proof.Machine.execCloseStep e part s
  | .queryStep e part => Sys2Proof.Machine.execQueryStep e part s
  | .registerWindow e kind portMask base length => Sys2Proof.Machine.execRegisterWindow e kind portMask base length s
  | .releaseWindow e window => Sys2Proof.Machine.execReleaseWindow e window s
  | .setDigests e part on => Sys2Proof.Machine.execSetDigests e part on s
  | .setSelection e handle sel sink recent => Sys2Proof.Machine.execSetSelection e handle sel sink recent s
  | .lookupPrefix e part pin tenant count tokens => Sys2Proof.Machine.execLookupPrefix e part pin tenant count tokens s
  | .insertPrefix e part pin count tokens handle => Sys2Proof.Machine.execInsertPrefix e part pin count tokens handle s
  | .pinPrefix e part tenant pfx => Sys2Proof.Machine.execPinPrefix e part tenant pfx s
  | .unpinPrefix e part tenant pfx => Sys2Proof.Machine.execUnpinPrefix e part tenant pfx s
  | .queryPrefix e part tenant pfx => Sys2Proof.Machine.execQueryPrefix e part tenant pfx s
  | .setPrefixPolicy e part charge scope maxSlots insertMask => Sys2Proof.Machine.execSetPrefixPolicy e part charge scope maxSlots insertMask s
  | .purgePrefix e part => Sys2Proof.Machine.execPurgePrefix e part s
  | .queryPrefixStore e part => Sys2Proof.Machine.execQueryPrefixStore e part s
  | .parkConversation e handle release ttl => Sys2Proof.Machine.execParkConversation e handle release ttl s
  | .unparkConversation e handle ticket => Sys2Proof.Machine.execUnparkConversation e handle ticket s
  | .renewPark e handle ticket ttl => Sys2Proof.Machine.execRenewPark e handle ticket ttl s
  | .queryTicket e ticket => Sys2Proof.Machine.execQueryTicket e ticket s
  | .discardTicket e ticket => Sys2Proof.Machine.execDiscardTicket e ticket s
  | .pullKv e handle window offset first reaches layer0 layer1 => Sys2Proof.Machine.execPullKv e handle window offset first reaches layer0 layer1 s
  | .parkRegion e base => Sys2Proof.Machine.execParkRegion e base s
  | .unparkRegion e base => Sys2Proof.Machine.execUnparkRegion e base s
  | .setTierConfig e imageGb parkGb => Sys2Proof.Machine.execSetTierConfig e imageGb parkGb s
  | .queryTiers e => Sys2Proof.Machine.execQueryTiers e s
  | .queryFlash e => Sys2Proof.Machine.execQueryFlash e s
  | .setLogitWindow e handle addr length => Sys2Proof.Machine.execSetLogitWindow e handle addr length s
  | .loadCounts e handle count list => Sys2Proof.Machine.execLoadCounts e handle count list s
  | .clearCounts e handle => Sys2Proof.Machine.execClearCounts e handle s
  | .queryCounts e handle first count => Sys2Proof.Machine.execQueryCounts e handle first count s
  | .allocateRegion e b => Sys2Proof.Machine.execAllocateRegion e b s
  | .freeRegion e id => Sys2Proof.Machine.execFreeRegion e id s
  | .queryRegion e id => Sys2Proof.Machine.execQueryRegion e id s
  | .grantRegion e id seat mode => Sys2Proof.Machine.execGrantRegion e id seat mode s
  | .attachRegion e id base => Sys2Proof.Machine.execAttachRegion e id base s
  | .detachRegion e id => Sys2Proof.Machine.execDetachRegion e id s
  | .setPoolLimits e seat cls maxRate maxOps keySlots regions dbSize => Sys2Proof.Machine.execSetPoolLimits e seat cls maxRate maxOps keySlots regions dbSize s
  | .queryPoolLimits e seat => Sys2Proof.Machine.execQueryPoolLimits e seat s
  | .queryKeySlots e => Sys2Proof.Machine.execQueryKeySlots e s
  | .poolOperation e descs => Sys2Proof.Machine.execPoolOperation e descs s
  | .joinPoolSet e b => Sys2Proof.Machine.execJoinPoolSet e b s
  | .leavePoolSet e => Sys2Proof.Machine.execLeavePoolSet e s
  | .queryPoolSet e => Sys2Proof.Machine.execQueryPoolSet e s
  | .rebuildMember e => Sys2Proof.Machine.execRebuildMember e s
  | .queryLine e addr => Sys2Proof.Machine.execQueryLine e addr s
  | .fenceSeat e seat => Sys2Proof.Machine.execFenceSeat e seat s
  | .unfenceSeat e seat => Sys2Proof.Machine.execUnfenceSeat e seat s
  | .queryCoherence e => Sys2Proof.Machine.execQueryCoherence e s
  | .openRun e part run frames maxObjects => Sys2Proof.Machine.execOpenRun e part run frames maxObjects s
  | .closeRun e part run => Sys2Proof.Machine.execCloseRun e part run s
  | .stashTransfer e descs => Sys2Proof.Machine.execStashTransfer e descs s
  | .setSchedule e part run count list => Sys2Proof.Machine.execSetSchedule e part run count list s
  | .queryStash e part run start => Sys2Proof.Machine.execQueryStash e part run start s
  | .setTelemetryRing e base log2 => Sys2Proof.Machine.execSetTelemetryRing e base log2 s
  | .queryPower e => Sys2Proof.Machine.execQueryPower e s
  | .queryOcRegions e => Sys2Proof.Machine.execQueryOcRegions e s
  | .setPowerConfig e idleGate idleUs => Sys2Proof.Machine.execSetPowerConfig e idleGate idleUs s
  | .queryHoldup e => Sys2Proof.Machine.execQueryHoldup e s
  | .testHoldup e => Sys2Proof.Machine.execTestHoldup e s
  | .setHoldupConfig e periodDays => Sys2Proof.Machine.execSetHoldupConfig e periodDays s
  | .readFaultRecords e firstSeq => Sys2Proof.Machine.execReadFaultRecords e firstSeq s
  | .clearFaultRecords e seq => Sys2Proof.Machine.execClearFaultRecords e seq s
  | .queryFaultState e => Sys2Proof.Machine.execQueryFaultState e s
  | .queryDump e => Sys2Proof.Machine.execQueryDump e s
  | .readDump e slot section_ offset length dst => Sys2Proof.Machine.execReadDump e slot section_ offset length dst s
  | .clearDump e slot => Sys2Proof.Machine.execClearDump e slot s
  | .injectFault e target correctable => Sys2Proof.Machine.execInjectFault e target correctable s
  | .queryFirmware e => Sys2Proof.Machine.execQueryFirmware e s
  | .writeFirmware e src length => Sys2Proof.Machine.execWriteFirmware e src length s
  | .activateFirmware e => Sys2Proof.Machine.execActivateFirmware e s
  | .restartFirmware e => Sys2Proof.Machine.execRestartFirmware e s
  | .resetWarm e => Sys2Proof.Machine.execResetWarm e s
  | .shoalEncode e src dst class0 class1 => Sys2Proof.Machine.execShoalEncode e src dst class0 class1 s
  | .shoalDecode e src dst length => Sys2Proof.Machine.execShoalDecode e src dst length s
  | .identifyMemoryDevice seat => Sys2Proof.Machine.execIdentifyMemoryDevice seat s
  | .getSupportedLogs seat => Sys2Proof.Machine.execGetSupportedLogs seat s
  | .getLog seat cel offset length => Sys2Proof.Machine.execGetLog seat cel offset length s
  | .getTimestamp seat => Sys2Proof.Machine.execGetTimestamp seat s
  | .setTimestamp seat time => Sys2Proof.Machine.execSetTimestamp seat time s
  | .getEventRecords seat log => Sys2Proof.Machine.execGetEventRecords seat log s
  | .clearEventRecords seat log all handles => Sys2Proof.Machine.execClearEventRecords seat log all handles s
  | .unsupportedCxlOpcode seat opcode => Sys2Proof.Machine.execUnsupportedCxlOpcode seat opcode s
  | .getLdInfo port => Sys2Proof.Machine.execGetLdInfo port s
  | .getLdAllocations port => Sys2Proof.Machine.execGetLdAllocations port s
  | .setLdAllocations port allocs => Sys2Proof.Machine.execSetLdAllocations port allocs s
  | .getQosControl port => Sys2Proof.Machine.execGetQosControl port s
  | .setQosControl port bsi moderate severe cci => Sys2Proof.Machine.execSetQosControl port bsi moderate severe cci s
  | .getQosStatus port => Sys2Proof.Machine.execGetQosStatus port s
  | .getQosAllocatedBw port => Sys2Proof.Machine.execGetQosAllocatedBw port s
  | .setQosAllocatedBw port values => Sys2Proof.Machine.execSetQosAllocatedBw port values s
  | .getQosBwLimit port => Sys2Proof.Machine.execGetQosBwLimit port s
  | .setQosBwLimit port values => Sys2Proof.Machine.execSetQosBwLimit port values s
  | .fmIdentify port => Sys2Proof.Machine.execFmIdentify port s
  | .tunnelManagementCommand port cmd => Sys2Proof.Machine.execTunnelManagementCommand port cmd s
  | .configurationRequest port ld write item value => Sys2Proof.Machine.execConfigurationRequest port ld write item value s
  | .doeObject port ld dataType length => Sys2Proof.Machine.execDoeObject port ld dataType length s
  | .doeDiscovery port ld index => Sys2Proof.Machine.execDoeDiscovery port ld index s
  | .cdatTableAccess port ld entry => Sys2Proof.Machine.execCdatTableAccess port ld entry s
  | .spdmRequest port ld version req => Sys2Proof.Machine.execSpdmRequest port ld version req s
  | .setCertificate port ld slot secured chain => Sys2Proof.Machine.execSetCertificate port ld slot secured chain s
  | .cxlKeyProg port ld secured keySet => Sys2Proof.Machine.execCxlKeyProg port ld secured keySet s
  | .cxlKSetGo port ld secured keySet => Sys2Proof.Machine.execCxlKSetGo port ld secured keySet s
  | .cxlKSetStop port ld secured keySet => Sys2Proof.Machine.execCxlKSetStop port ld secured keySet s
  | .cxlQuery port ld secured keySet => Sys2Proof.Machine.execCxlQuery port ld secured keySet s
  | .cxlGetkey port ld secured keySet => Sys2Proof.Machine.execCxlGetkey port ld secured keySet s
  | .keyInstall port ld secured slot key1 key2 => Sys2Proof.Machine.execKeyInstall port ld secured slot key1 key2 s
  | .keyErase port ld secured slot => Sys2Proof.Machine.execKeyErase port ld secured slot s
  | .keyQuery port ld secured slot => Sys2Proof.Machine.execKeyQuery port ld secured slot s
  | .mctpControlMessage cmd => Sys2Proof.Machine.execMctpControlMessage cmd s
  | .i3cAddressAssignment assign => Sys2Proof.Machine.execI3cAddressAssignment assign s
  | .pldmBaseRequest req => Sys2Proof.Machine.execPldmBaseRequest req s
  | .pldmSensorRead sensor reading => Sys2Proof.Machine.execPldmSensorRead sensor reading s
  | .pldmFirmwareUpdate size => Sys2Proof.Machine.execPldmFirmwareUpdate size s
  | .pldmActivateFirmware => Sys2Proof.Machine.execPldmActivateFirmware s
  | .carmirRelay verMajor verMinor bodyLen tag hostTime cmd => Sys2Proof.Machine.execCarmirRelay verMajor verMinor bodyLen tag hostTime cmd s
  | .ringStore seat ring slot full data => Sys2Proof.Machine.execRingStore seat ring slot full data s
  | .nop seat ring => Sys2Proof.Machine.execNop seat ring s
  | .undefinedKind seat ring => Sys2Proof.Machine.execUndefinedKind seat ring s
  | .stepOpen seat ring => Sys2Proof.Machine.execStepOpen seat ring s
  | .attend seat ring => Sys2Proof.Machine.execAttend seat ring s
  | .append seat ring => Sys2Proof.Machine.execAppend seat ring s
  | .deliver seat ring => Sys2Proof.Machine.execDeliver seat ring s
  | .stepClose seat ring => Sys2Proof.Machine.execStepClose seat ring s
  | .logitHeaderStore seat addr full data => Sys2Proof.Machine.execLogitHeaderStore seat addr full data s
  | .cxlMemRead port ld addr mv => Sys2Proof.Machine.execCxlMemRead port ld addr mv s
  | .cxlMemWrite port ld addr mv mask data => Sys2Proof.Machine.execCxlMemWrite port ld addr mv mask data s
  | .memInv port ld addr mv => Sys2Proof.Machine.execMemInv port ld addr mv s
  | .memRdData port ld addr => Sys2Proof.Machine.execMemRdData port ld addr s
  | .memClnEvct port ld addr => Sys2Proof.Machine.execMemClnEvct port ld addr s
  | .memSpecRd port ld addr => Sys2Proof.Machine.execMemSpecRd port ld addr s
  | .birsp port ld addr rsp block => Sys2Proof.Machine.execBirsp port ld addr rsp block s
  | .biconflict port ld addr => Sys2Proof.Machine.execBiconflict port ld addr s
  | .poolsetEntry member seq entry => Sys2Proof.Machine.execPoolsetEntry member seq entry s
  | .pciPmStateChange port ld d3hot => Sys2Proof.Machine.execPciPmStateChange port ld d3hot s
  | .linkTrainingComplete port offer => Sys2Proof.Machine.execLinkTrainingComplete port offer s
  | .recoveryEntry port => Sys2Proof.Machine.execRecoveryEntry port s
  | .laneGroupFailure port high hard => Sys2Proof.Machine.execLaneGroupFailure port high hard s
  | .ideIntegrityFailure port => Sys2Proof.Machine.execIdeIntegrityFailure port s
  | .hotReset port => Sys2Proof.Machine.execHotReset port s
  | .linkDisable port => Sys2Proof.Machine.execLinkDisable port s
  | .functionLevelReset port ld => Sys2Proof.Machine.execFunctionLevelReset port ld s
  | .cxlReset port ld => Sys2Proof.Machine.execCxlReset port ld s
  | .gpfPhase1 port => Sys2Proof.Machine.execGpfPhase1 port s
  | .gpfPhase2 port => Sys2Proof.Machine.execGpfPhase2 port s
  | .gpfPhase2Deadline => Sys2Proof.Machine.execGpfPhase2Deadline s
  | .standbyStart => Sys2Proof.Machine.execStandbyStart s
  | .pwrEnAssert => Sys2Proof.Machine.execPwrEnAssert s
  | .railGood => Sys2Proof.Machine.execRailGood s
  | .railStartTimeout => Sys2Proof.Machine.execRailStartTimeout s
  | .perstDeassert => Sys2Proof.Machine.execPerstDeassert s
  | .coldReset => Sys2Proof.Machine.execColdReset s
  | .perstAssert => Sys2Proof.Machine.execPerstAssert s
  | .warmResetSaveComplete => Sys2Proof.Machine.execWarmResetSaveComplete s
  | .pwrEnDeassert => Sys2Proof.Machine.execPwrEnDeassert s
  | .inputLossTrigger high => Sys2Proof.Machine.execInputLossTrigger high s
  | .busUndervoltage => Sys2Proof.Machine.execBusUndervoltage s
  | .flushDataPhaseEnd frames => Sys2Proof.Machine.execFlushDataPhaseEnd frames s
  | .flushComplete => Sys2Proof.Machine.execFlushComplete s
  | .flushRefclkLoss => Sys2Proof.Machine.execFlushRefclkLoss s
  | .refclkLoss => Sys2Proof.Machine.execRefclkLoss s
  | .refclkReturn => Sys2Proof.Machine.execRefclkReturn s
  | .rootPllLock => Sys2Proof.Machine.execRootPllLock s
  | .portPllLock => Sys2Proof.Machine.execPortPllLock s
  | .fwReady => Sys2Proof.Machine.execFwReady s
  | .memoryActive => Sys2Proof.Machine.execMemoryActive s
  | .mapReady => Sys2Proof.Machine.execMapReady s
  | .admitOpen => Sys2Proof.Machine.execAdmitOpen s
  | .restoreComplete => Sys2Proof.Machine.execRestoreComplete s
  | .packPoll reading => Sys2Proof.Machine.execPackPoll reading s
  | .holdupMeasurement eStored => Sys2Proof.Machine.execHoldupMeasurement eStored s
  | .packInsert => Sys2Proof.Machine.execPackInsert s
  | .packRemove written => Sys2Proof.Machine.execPackRemove written s
  | .chargeComplete => Sys2Proof.Machine.execChargeComplete s
  | .testDue => Sys2Proof.Machine.execTestDue s
  | .testRestEnd => Sys2Proof.Machine.execTestRestEnd s
  | .testDischargeEnd energy => Sys2Proof.Machine.execTestDischargeEnd energy s
  | .overTemperature location => Sys2Proof.Machine.execOverTemperature location s
  | .converterLoss bc => Sys2Proof.Machine.execConverterLoss bc s
  | .railOutOfWindow rail overCurrent => Sys2Proof.Machine.execRailOutOfWindow rail overCurrent s
  | .phaseFault phase => Sys2Proof.Machine.execPhaseFault phase s
  | .throttleEngage region => Sys2Proof.Machine.execThrottleEngage region s
  | .throttleRelease region => Sys2Proof.Machine.execThrottleRelease region s
  | .overCurrentTrip region => Sys2Proof.Machine.execOverCurrentTrip region s
  | .tripHoldEnd region => Sys2Proof.Machine.execTripHoldEnd region s
  | .idleGateTimeout => Sys2Proof.Machine.execIdleGateTimeout s
  | .tileWakeComplete => Sys2Proof.Machine.execTileWakeComplete s
  | .telemetryWindowEnd currents => Sys2Proof.Machine.execTelemetryWindowEnd currents s
  | .devloadSample port occupancy => Sys2Proof.Machine.execDevloadSample port occupancy s
  | .collectionIntervalEnd port => Sys2Proof.Machine.execCollectionIntervalEnd port s
  | .tenantRefill => Sys2Proof.Machine.execTenantRefill s
  | .parkClockSecond => Sys2Proof.Machine.execParkClockSecond s
  | .parkExpiry => Sys2Proof.Machine.execParkExpiry s
  | .claimLapse => Sys2Proof.Machine.execClaimLapse s
  | .itemExpiry => Sys2Proof.Machine.execItemExpiry s
  | .stagingComplete => Sys2Proof.Machine.execStagingComplete s
  | .itemComputeComplete => Sys2Proof.Machine.execItemComputeComplete s
  | .deliverPushComplete => Sys2Proof.Machine.execDeliverPushComplete s
  | .draw => Sys2Proof.Machine.execDraw s
  | .stepBoundary part => Sys2Proof.Machine.execStepBoundary part s
  | .idleCommit => Sys2Proof.Machine.execIdleCommit s
  | .hbmRecalDeadline stack => Sys2Proof.Machine.execHbmRecalDeadline stack s
  | .flashCalDeadline channel => Sys2Proof.Machine.execFlashCalDeadline channel s
  | .hbmPatrolScrub stack => Sys2Proof.Machine.execHbmPatrolScrub stack s
  | .writebackUnit => Sys2Proof.Machine.execWritebackUnit s
  | .flashProgramComplete idx => Sys2Proof.Machine.execFlashProgramComplete idx s
  | .flashProgramFail idx => Sys2Proof.Machine.execFlashProgramFail idx s
  | .flashEraseFail lane block => Sys2Proof.Machine.execFlashEraseFail lane block s
  | .flashReadUncorrectable idx => Sys2Proof.Machine.execFlashReadUncorrectable idx s
  | .blockRefresh place readFound => Sys2Proof.Machine.execBlockRefresh place readFound s
  | .flashPatrolScrub channel readFound => Sys2Proof.Machine.execFlashPatrolScrub channel readFound s
  | .staticLevelling lane => Sys2Proof.Machine.execStaticLevelling lane s
  | .journalPageFlush => Sys2Proof.Machine.execJournalPageFlush s
  | .mapCheckpoint => Sys2Proof.Machine.execMapCheckpoint s
  | .channelFailure channel fail => Sys2Proof.Machine.execChannelFailure channel fail s
  | .laneEvacuationComplete lane => Sys2Proof.Machine.execLaneEvacuationComplete lane s
  | .hbmError stack pc bank row place correctable => Sys2Proof.Machine.execHbmError stack pc bank row place correctable s
  | .frameRepair place => Sys2Proof.Machine.execFrameRepair place s
  | .pcRetirementCopyEnd pc => Sys2Proof.Machine.execPcRetirementCopyEnd pc s
  | .tileArrayError tile row fail => Sys2Proof.Machine.execTileArrayError tile row fail s
  | .coreWatchdog fail => Sys2Proof.Machine.execCoreWatchdog fail s
  | .failureExpiry => Sys2Proof.Machine.execFailureExpiry s
  | .fatalEvent kind index location => Sys2Proof.Machine.execFatalEvent kind index location s
  | .activationTimeout => Sys2Proof.Machine.execActivationTimeout s
  | .svnCommit => Sys2Proof.Machine.execSvnCommit s
  | .snoopTimeout seat => Sys2Proof.Machine.execSnoopTimeout seat s
  | .fenceSweepEnd seat => Sys2Proof.Machine.execFenceSweepEnd seat s
  | .memberAbsent member => Sys2Proof.Machine.execMemberAbsent member s
  | .joinTimeout => Sys2Proof.Machine.execJoinTimeout s
  | .poolSetFormed => Sys2Proof.Machine.execPoolSetFormed s
  | .memberRejoin member => Sys2Proof.Machine.execMemberRejoin member s
  | .peerReadFailure src => Sys2Proof.Machine.execPeerReadFailure src s
  | .swapOutComplete => Sys2Proof.Machine.execSwapOutComplete s
  | .swapInComplete => Sys2Proof.Machine.execSwapInComplete s
  | .parkComplete op => Sys2Proof.Machine.execParkComplete op s
  | .unparkComplete op => Sys2Proof.Machine.execUnparkComplete op s
  | .pullComplete op data => Sys2Proof.Machine.execPullComplete op data s
  | .cowCopyComplete handle => Sys2Proof.Machine.execCowCopyComplete handle s
  | .prefixOperationComplete op => Sys2Proof.Machine.execPrefixOperationComplete op s
  | .digestBuild part => Sys2Proof.Machine.execDigestBuild part s
  | .regionZeroFillComplete op => Sys2Proof.Machine.execRegionZeroFillComplete op s
  | .poolDescriptorEnd op data => Sys2Proof.Machine.execPoolDescriptorEnd op data s
  | .stashDescriptorEnd op data => Sys2Proof.Machine.execStashDescriptorEnd op data s
  | .unspill part run => Sys2Proof.Machine.execUnspill part run s
  | .rebuildComplete op found => Sys2Proof.Machine.execRebuildComplete op found s
  | .stpCqHeadWrite seat ring value => Sys2Proof.Machine.execStpCqHeadWrite seat ring value s
  | .seatNoticeHeadWrite seat value => Sys2Proof.Machine.execSeatNoticeHeadWrite seat value s
  | .glbStepCtrlWrite seat value => Sys2Proof.Machine.execGlbStepCtrlWrite seat value s
  | .glbDitherCtrlWrite seat value => Sys2Proof.Machine.execGlbDitherCtrlWrite seat value s
  | .glbDitherSaltWrite seat half value => Sys2Proof.Machine.execGlbDitherSaltWrite seat half value s
  | .glbDeltaCfgWrite seat value => Sys2Proof.Machine.execGlbDeltaCfgWrite seat value s
  | .glbCohCfgWrite seat value => Sys2Proof.Machine.execGlbCohCfgWrite seat value s
  | .pwrCtrlWrite seat value => Sys2Proof.Machine.execPwrCtrlWrite seat value s
  | .prtCtrlWrite seat port value => Sys2Proof.Machine.execPrtCtrlWrite seat port value s
  | .telRec0Read port ld => Sys2Proof.Machine.execTelRec0Read port ld s
  | .devtimeLowRead port ld => Sys2Proof.Machine.execDevtimeLowRead port ld s
  | .registerWrite port ld offset width value => Sys2Proof.Machine.execRegisterWrite port ld offset width value s
  | .surpriseLinkDown port => Sys2Proof.Machine.execSurpriseLinkDown port s
  | .inputProtectionClose => Sys2Proof.Machine.execInputProtectionClose s
  | .chargerCurrentLoss => Sys2Proof.Machine.execChargerCurrentLoss s
  | .poolsetCredit member value => Sys2Proof.Machine.execPoolsetCredit member value s
  | .firmwareRestartTimeout => Sys2Proof.Machine.execFirmwareRestartTimeout s
  | .mapCheckpointComplete => Sys2Proof.Machine.execMapCheckpointComplete s
  | .unspillComplete part run => Sys2Proof.Machine.execUnspillComplete part run s
  | .mirrorResyncComplete region => Sys2Proof.Machine.execMirrorResyncComplete region s
  | .regionParkComplete op => Sys2Proof.Machine.execRegionParkComplete op s
  | .regionUnparkComplete op => Sys2Proof.Machine.execRegionUnparkComplete op s
  | .loadCountsComplete op => Sys2Proof.Machine.execLoadCountsComplete op s
  | .firmwareWriteComplete image => Sys2Proof.Machine.execFirmwareWriteComplete image s
  | .dumpCopyComplete op => Sys2Proof.Machine.execDumpCopyComplete op s

end Sys2Proof.Machine
end

