-- ==== Sys2Proof/Machine/Step.lean ====
section
/-! DEFINITION. One step of the block: the command at the front of the queue, or, on an empty queue, what the device does by itself. -/

namespace Sys2Proof.Machine

/-- The command at the front runs with the rest of the queue; on an empty queue CC0 takes a latched command, or a clock passes. -/
def step (s : State) : Host.Outcome State Fault Refusal :=
  match s.pending with
  | c :: rest => exec c { s with pending := rest }
  | [] =>
    match takeLatched s with
    | some (c, t) => exec c t
    | none => .next (tick s)

/-- The command a word spells stands at the front of the queue; no word spells one (the table gives no bits). -/
def State.withFetchWord (s : State) (nbits w : Nat) : State :=
  match decodeTableWord nbits w with
  | some c => { s with pending := c :: s.pending }
  | none => s

end Sys2Proof.Machine
end

