-- ==== Sys2Proof/Safety.lean ====
section
/-! DEFINITION. The words in which statements speak of commands: a mailbox command that CC0 takes and that passes the checks every
command shares, the state in which it is served, a seat that reaches the device, and the invariants every step keeps. -/

namespace Sys2Proof.Machine

/-- The doorbell write of this command is taken now: the seat exists, and the command is one of before a seat reset that CC0 has come to
(R83), or the Doorbell is 0 and it is the latched one CC0 has come to, or the seat reaches the device outside D3hot while CC0 serves, with no
command and, on the firmware path, no record before it (R79, R89, R107). -/
def taken (e : Env) (s : State) : Bool :=
  decide (e.seat < 64) && ((s.seats.get e.seat).mbx.orphan.isSome || (!doorbell s e.seat &&
    ((s.seats.get e.seat).mbx.waitingSince.isSome ||
      (seatReached s e.seat && !seatD3 s e.seat && s.dev.fwReady && !aheadOf s e.seat && !recordsWait s))))

/-- PAYLOAD_LEN is the envelope and the body, and the body is what Table 23-3 gives the command (R80, R645). -/
def lengthOk (o : OpInfo) (e : Env) : Bool :=
  e.payloadLen == 64 + e.bodyLen && decide (e.bodyLen ≤ 65472) &&
    (match o.body with
     | some n => e.bodyLen == n
     | none => e.bodyLen % 64 == 0 && e.bodyLen != 0)

/-- The envelope carries the negotiated version; IDENTIFY_SEAT and NEGOTIATE_VERSION take any (R94). -/
def versionOk (o : OpInfo) (e : Env) (s : State) : Bool :=
  o.opcode == 0xC000 || o.opcode == 0xC001 ||
    (envVersion s e.seat != 0 && envVersion s e.seat == e.verMajor * 256 + e.verMinor)

/-- The device's state lets this command run: seat 0's commands from seat 0, in Sable those of flag S, admission's with ADMIT_OPEN,
others with Memory_Active but those of flag F, and no long-running one while a firmware restart runs (R82, R647). -/
def gateOpen (o : OpInfo) (e : Env) (s : State) : Bool :=
  (!o.seat0 || e.seat == 0) && (!s.flt.sable || o.s) && (!o.a || s.dev.admitOpen) && (o.a || o.f || s.dev.memActive) &&
    (!o.long || !s.flt.restarting)

/-- The command is taken and passes every check of R82 that all commands share, no RETRY_AFTER of the seat runs for it and no claim of another
seat holds its objects (R91, R92); what is left is the command's own. -/
def served (o : OpInfo) (e : Env) (objs : List ClaimObj) (s : State) : Bool :=
  taken e s && lengthOk o e && versionOk o e s && gateOpen o e s && (tooSoon e.seat o.opcode objs s).isNone &&
    (claimBusy e.seat s objs).isNone

/-- The state in which a served command has its effect: CC0 has taken it, and the seat's claims on its objects have ended (R79, R89,
R92). Only the seat's mailbox, the seat served last and the claims differ from the state before. -/
def accepted (o : OpInfo) (e : Env) (objs : List ClaimObj) (s : State) : State := endClaims e.seat objs (takeCmd e.seat o.opcode s)

/-- The command is served, and in state `u`. -/
def Serves (o : OpInfo) (e : Env) (objs : List ClaimObj) (s u : State) : Prop := served o e objs s = true ∧ accepted o e objs s = u

/-- The operation a long-running command of this kind starts (R86, R88). -/
def newOp (e : Env) (k : OpKind) (s : State) : Op :=
  { n := s.opCtr, seat := e.seat, kind := k, deferred := e.deferOk, tag := e.tag, hostTime := e.hostTime
    tPosted := (s.seats.get e.seat).mbx.posted, tAccept := s.dev.devtime }

/-- What a long-running command answers whose one effect at acceptance is to start its operation (R86). -/
def started (e : Env) (k : OpKind) (u : State) : Host.Outcome State Fault Refusal := .next (answer e (startLong e k u).2 (startLong e k u).1)

/-- A standard mailbox command reaches seat `n`, mapped to LD `l` of port `p`, with its Doorbell 0 outside D3hot and nothing before it, and is
served (R79, R89, R107, R579). -/
def StdServed (n p l : Nat) (s : State) : Prop :=
  n < 64 ∧ (s.seats.get n).map = some (p, l) ∧ seatReached s n = true ∧ seatD3 s n = false ∧ doorbell s n = false ∧
    (s.seats.get n).mbx.orphan = none ∧ (s.seats.get n).mbx.waitingSince = none ∧ s.dev.fwReady = true ∧
    aheadOf s n = false ∧ recordsWait s = false

/-- An FM API command reaches a port in MLD operation, and is served (R41, R46, R579). -/
def FmServed (port : Nat) (s : State) : Prop :=
  port < 8 ∧ (s.ports.get port).linkUp = true ∧ (s.ports.get port).ideFailed = false ∧ (s.ports.get port).mld = true ∧ s.dev.fwReady = true

/-- A configuration, DOE, SPDM or register access reaches its LD's function, and firmware serves it (R36, R574). -/
def ldServed (s : State) (port ld : Nat) : Bool := decide (port < 8) && decide (ld < 16) && ldReached s port ld && s.dev.fwReady

/-- An object for the DOE instance of an LD is accepted: the LD is served and processes none (R57). -/
def doeServed (s : State) (port ld : Nat) : Bool := ldServed s port ld && (s.lds.get (ldKey port ld)).doeWork.isNone

/-- The row of Table 23-3 and the request envelope of a command that Table 23-3 lists; none for every other command. READ_DUMP is
long-running only with a destination (R606), and the answer of ADMIT_REQUEST is never deferred (R86). -/
def mail? (i : Instr) : Option (OpInfo × Env) :=
  match i with
  | .identifySeat e => some (Op.identifySeat, e)
  | .negotiateVersion e _ _ => some (Op.negotiateVersion, e)
  | .setNoticeRing e _ _ => some (Op.setNoticeRing, e)
  | .getOperation e _ => some (Op.getOperation, e)
  | .setPortConfig e _ _ => some (Op.setPortConfig, e)
  | .mapSeat e _ _ _ => some (Op.mapSeat, e)
  | .loadPartition e _ => some (Op.loadPartition, e)
  | .queryPartition e _ => some (Op.queryPartition, e)
  | .swapOutPartition e _ _ => some (Op.swapOutPartition, e)
  | .swapInPartition e _ _ => some (Op.swapInPartition, e)
  | .unloadPartition e _ _ => some (Op.unloadPartition, e)
  | .bindKvWindow e _ _ => some (Op.bindKvWindow, e)
  | .unbindKvWindow e _ _ => some (Op.unbindKvWindow, e)
  | .listImages e _ => some (Op.listImages, e)
  | .deleteImage e _ => some (Op.deleteImage, e)
  | .createTenant e _ _ _ _ => some (Op.createTenant, e)
  | .deleteTenant e _ => some (Op.deleteTenant, e)
  | .setTenantBudget e _ _ _ _ => some (Op.setTenantBudget, e)
  | .grantBudget e _ _ => some (Op.grantBudget, e)
  | .queryTenant e _ => some (Op.queryTenant, e)
  | .setSeatQuota e _ _ _ => some (Op.setSeatQuota, e)
  | .setPartitionCap e _ _ => some (Op.setPartitionCap, e)
  | .queryCapacity e => some (Op.queryCapacity, e)
  | .admitRequest e _ => some (Op.admitRequest, { e with deferOk := false })
  | .commitPrompt e _ => some (Op.commitPrompt, e)
  | .setRequest e _ _ _ _ => some (Op.setRequest, e)
  | .cancelRequest e _ => some (Op.cancelRequest, e)
  | .queryRequest e _ => some (Op.queryRequest, e)
  | .listRequests e _ => some (Op.listRequests, e)
  | .createStepRing e _ => some (Op.createStepRing, e)
  | .destroyStepRing e _ _ => some (Op.destroyStepRing, e)
  | .closeStep e _ => some (Op.closeStep, e)
  | .queryStep e _ => some (Op.queryStep, e)
  | .registerWindow e _ _ _ _ => some (Op.registerWindow, e)
  | .releaseWindow e _ => some (Op.releaseWindow, e)
  | .setDigests e _ _ => some (Op.setDigests, e)
  | .setSelection e _ _ _ _ => some (Op.setSelection, e)
  | .lookupPrefix e _ _ _ _ _ => some (Op.lookupPrefix, e)
  | .pinPrefix e _ _ _ => some (Op.pinPrefix, e)
  | .unpinPrefix e _ _ _ => some (Op.unpinPrefix, e)
  | .queryPrefix e _ _ _ => some (Op.queryPrefix, e)
  | .setPrefixPolicy e _ _ _ _ _ => some (Op.setPrefixPolicy, e)
  | .purgePrefix e _ => some (Op.purgePrefix, e)
  | .queryPrefixStore e _ => some (Op.queryPrefixStore, e)
  | .parkConversation e _ _ _ => some (Op.parkConversation, e)
  | .unparkConversation e _ _ => some (Op.unparkConversation, e)
  | .renewPark e _ _ _ => some (Op.renewPark, e)
  | .queryTicket e _ => some (Op.queryTicket, e)
  | .discardTicket e _ => some (Op.discardTicket, e)
  | .pullKv e _ _ _ _ _ _ _ => some (Op.pullKv, e)
  | .parkRegion e _ => some (Op.parkRegion, e)
  | .unparkRegion e _ => some (Op.unparkRegion, e)
  | .setTierConfig e _ _ => some (Op.setTierConfig, e)
  | .queryTiers e => some (Op.queryTiers, e)
  | .queryFlash e => some (Op.queryFlash, e)
  | .setLogitWindow e _ _ _ => some (Op.setLogitWindow, e)
  | .loadCounts e _ _ _ => some (Op.loadCounts, e)
  | .clearCounts e _ => some (Op.clearCounts, e)
  | .queryCounts e _ _ _ => some (Op.queryCounts, e)
  | .allocateRegion e _ => some (Op.allocateRegion, e)
  | .freeRegion e _ => some (Op.freeRegion, e)
  | .queryRegion e _ => some (Op.queryRegion, e)
  | .grantRegion e _ _ _ => some (Op.grantRegion, e)
  | .attachRegion e _ _ => some (Op.attachRegion, e)
  | .detachRegion e _ => some (Op.detachRegion, e)
  | .setPoolLimits e _ _ _ _ _ _ _ => some (Op.setPoolLimits, e)
  | .queryPoolLimits e _ => some (Op.queryPoolLimits, e)
  | .queryKeySlots e => some (Op.queryKeySlots, e)
  | .poolOperation e _ => some (Op.poolOperation, e)
  | .joinPoolSet e _ => some (Op.joinPoolSet, e)
  | .leavePoolSet e => some (Op.leavePoolSet, e)
  | .queryPoolSet e => some (Op.queryPoolSet, e)
  | .rebuildMember e => some (Op.rebuildMember, e)
  | .queryLine e _ => some (Op.queryLine, e)
  | .fenceSeat e _ => some (Op.fenceSeat, e)
  | .unfenceSeat e _ => some (Op.unfenceSeat, e)
  | .queryCoherence e => some (Op.queryCoherence, e)
  | .openRun e _ _ _ _ => some (Op.openRun, e)
  | .closeRun e _ _ => some (Op.closeRun, e)
  | .stashTransfer e _ => some (Op.stashTransfer, e)
  | .setSchedule e _ _ _ _ => some (Op.setSchedule, e)
  | .queryStash e _ _ _ => some (Op.queryStash, e)
  | .setTelemetryRing e _ _ => some (Op.setTelemetryRing, e)
  | .queryPower e => some (Op.queryPower, e)
  | .queryOcRegions e => some (Op.queryOcRegions, e)
  | .setPowerConfig e _ _ => some (Op.setPowerConfig, e)
  | .queryHoldup e => some (Op.queryHoldup, e)
  | .testHoldup e => some (Op.testHoldup, e)
  | .setHoldupConfig e _ => some (Op.setHoldupConfig, e)
  | .readFaultRecords e _ => some (Op.readFaultRecords, e)
  | .clearFaultRecords e _ => some (Op.clearFaultRecords, e)
  | .queryFaultState e => some (Op.queryFaultState, e)
  | .queryDump e => some (Op.queryDump, e)
  | .readDump e _ _ _ _ dst => some ({ Op.readDump with long := dst != 0 }, e)
  | .clearDump e _ => some (Op.clearDump, e)
  | .injectFault e _ _ => some (Op.injectFault, e)
  | .queryFirmware e => some (Op.queryFirmware, e)
  | .writeFirmware e _ _ => some (Op.writeFirmware, e)
  | .activateFirmware e => some (Op.activateFirmware, e)
  | .restartFirmware e => some (Op.restartFirmware, e)
  | .resetWarm e => some (Op.resetWarm, e)
  | .shoalEncode e _ _ _ _ => some (Op.shoalEncode, e)
  | .shoalDecode e _ _ _ => some (Op.shoalDecode, e)
  | _ => none

/-- What is retired in `s` is retired in `t`: the hardware parser, pseudo-channels, tiles, flash channels, regions out of use for their
over-current, and the lane groups of every port (R586). -/
structure RetiredStays (s t : State) : Prop where
  parser : s.glb.parserRetired = true → t.glb.parserRetired = true
  channels : ∀ pc ∈ s.flt.retiredPcs, pc ∈ t.flt.retiredPcs
  tiles : ∀ x ∈ s.flt.retiredTiles, x ∈ t.flt.retiredTiles
  flash : ∀ c ∈ s.flash.failed, c ∈ t.flash.failed
  regions : ∀ r ∈ s.pwr.failed, r ∈ t.pwr.failed
  groupsLow : ∀ p, (s.ports.get p).groupL = false → (t.ports.get p).groupL = false
  groupsHigh : ∀ p, (s.ports.get p).groupH = false → (t.ports.get p).groupH = false

/-- What the layout of the device-wide registers allows, for the committed values and the pending ones: AREA_LOG2 within 29–32 (R630),
SNOOP_TO in 10 bits (R460), the reserved bits of GLB_DITHER_CTRL and PWR_CTRL zero (R256, R547), GLB_DITHER_SALT in 64 bits (R631),
and HWPARSE, as it reads, held at 0 once the parser is retired (R108, R625). -/
structure GlbOk (g : Glb) : Prop where
  area_low : 29 ≤ g.areaLog2
  area_high : g.areaLog2 ≤ 32
  snoop_to : g.snoopTo < 1024
  dither : ditherMask g.ditherCtrl = g.ditherCtrl
  dither_pend : ∀ v, g.ditherCtrlPend = some v → ditherMask v = v
  salt : g.ditherSalt < 2 ^ 64
  salt_pend : ∀ v, g.ditherSaltPend = some v → v < 2 ^ 64
  power : pwrCtrlMask g.pwrCtrl = g.pwrCtrl
  power_pend : ∀ v, g.pwrCtrlPend = some v → pwrCtrlMask v = v
  parser : g.parserRetired = true → g.hwparsePend.getD g.hwparse = false

end Sys2Proof.Machine
end

