-- ==== Sys2Proof/Certificates/Slice0/Obligations.lean ====
section
/-! DEFINITION. What is claimed of the device: one statement for each family of commands and each rule about the whole machine.

A command of a mailbox is spoken of once it is `served`; `accepted` is the state in which its effect happens, and `answer` gives the
response. An event, a record or an access is spoken of under the conditions that give it its effect. -/

open Sys2Proof Sys2Proof.Machine

/-- The seat and identity commands have the effects of chapter 3. -/
def Obligations.SeatCommandsAnswer : Prop :=
  (∀ e s u, Serves Op.identifySeat e [] s u →
    exec (.identifySeat e) s = .next (answer e
      { body := .fields ([(1, e.seat), (1, ((u.seats.get e.seat).map.map (·.1)).getD 255), (1, ((u.seats.get e.seat).map.map (·.2)).getD 255),
                          (1, devState u), (4, activeVersion u)] ++ versionBitmaps ++
                         [(4, (u.seats.get e.seat).maxEntries), (4, (u.seats.get e.seat).maxFrames)]) } u)) ∧
  (∀ e low high s u, Serves Op.negotiateVersion e [] s u → low ≤ 0x0302 → 0x0302 ≤ high →
    exec (.negotiateVersion e low high) s =
      .next (answer e (.okFields ([(2, 0x0302)] ++ versionBitmaps)) (updSeat e.seat (fun t => { t with negVersion := 0x0302 }) u))) ∧
  (∀ e low high s u, Serves Op.negotiateVersion e [] s u → 0x0302 < low ∨ high < 0x0302 →
    exec (.negotiateVersion e low high) s = .next (answer e { status := .version, body := .fields ([(2, 0)] ++ versionBitmaps) } u)) ∧
  (∀ e log2 s u, Serves Op.setNoticeRing e [] s u →
    let t := updSeat e.seat (fun t => { t with noticeSet := false, noticeBase := 0, noticeLog2 := 0, noticeTail := 0, noticeHead := 0 }) u
    exec (.setNoticeRing e 0 log2) s = .next (answer e {} (flushNotices e.seat (t.seats.get e.seat).noticeHeld t))) ∧
  (∀ e base log2 s u, Serves Op.setNoticeRing e [] s u → base ≠ 0 → 6 ≤ log2 → log2 ≤ 12 → base % (32 * 2 ^ log2) = 0 →
    (regionAt u e.seat base (32 * 2 ^ log2)).isNone = false → meetsRing u e.seat base (32 * 2 ^ log2) = false →
    let t := updSeat e.seat (fun t => { t with noticeSet := true, noticeBase := base, noticeLog2 := log2, noticeTail := 0, noticeHead := 0 }) u
    exec (.setNoticeRing e base log2) s = .next (answer e {} (flushNotices e.seat (t.seats.get e.seat).noticeHeld t))) ∧
  (∀ e opid s u op, Serves Op.getOperation e [] s u → opOfId u e.seat opid = some op →
    exec (.getOperation e opid) s = .next (answer e (.okFields [(1, bit op.done.isSome), (2, (op.done.map Status.code).getD 0)]) u)) ∧
  (∀ e port clk s u, Serves Op.setPortConfig e [] s u → port ≤ 7 → clk ≤ 1 → (u.ports.get port).retired = false →
    exec (.setPortConfig e port clk) s = .next (answer e {} (updPort port (fun p => { p with clkModeNext := clk = 1 }) u))) ∧
  (∀ e seat port ld s u, Serves Op.mapSeat e [] s u → 0 < seat → seat ≤ 63 → port ≤ 7 → ld ≤ 15 → (u.seats.get seat).map = none →
    (u.lds.get (ldKey port ld)).alloc = 0 → seatOfLd u port ld = none → (u.ports.get port).retired = false →
    exec (.mapSeat e seat port ld) s = .next (answer e {}
      (updLd port ld (fun d => { d with cdatSeq := (d.cdatSeq + 1) % 2 ^ 32 }) (updSeat seat (fun t => { t with map := some (port, ld) }) u)))) ∧
  (∀ e opcode s, taken e s = true → 64 ≤ e.payloadLen → e.payloadLen = 64 + e.bodyLen → e.bodyLen ≤ 65472 →
    exec (.unsupportedOpcode e opcode) s = .next (answer e (.of .unsupported) (takeCmd e.seat opcode s)))

/-- The partition commands have the effects of chapter 4. -/
def Obligations.PartitionCommandsAnswer : Prop :=
  (∀ e b s, served Op.loadPartition e [] s = true →
    let u := accepted Op.loadPartition e [] s
    b.valid = true → (u.parts.get b.part).state = .empty → modelTaken u b.modelId = false →
    exec (.loadPartition e b) s = .next (answer e
      { body := .fields [(8, b.row), (8, b.slice), (8, b.stride), (8, b.layers * b.stride), (8, kvSpace b)] }
      (updPart b.part (fun p => { state := .resident, body := b, cap := p.cap }) u))) ∧
  (∀ e part s, served Op.queryPartition e [] s = true →
    let u := accepted Op.queryPartition e [] s
    part ≤ 15 → (u.parts.get part).state ≠ .empty →
    exec (.queryPartition e part) s = .next (answer e
      { body := .fields ((1, (u.parts.get part).state.code) :: (loadFields (u.parts.get part).body ++ sizeFields (u.parts.get part).body) ++
          [(4, u.acct.partFrames.get part), (4, (u.parts.get part).stepNo), (4, (partRequests u part).length)]) } u)) ∧
  (∀ e part release s, served Op.swapOutPartition e [.swap, .partition part] s = true →
    let u := accepted Op.swapOutPartition e [.swap, .partition part] s
    swapOutCheck part release u = none →
    ∃ t, exec (.swapOutPartition e part release) s = .next t ∧
      (t.swap = some { out := true, part := part, release := release, op := u.opCtr } ∨
        t.swap = some { out := true, part := part, release := release, op := u.opCtr, began := u.dev.devtime, bytes := swapOutBytes u part }) ∧
      t.ops = u.ops ++ [newOp e (.swapOut part) u] ∧
      ((t.parts.get part).state = .draining ∨ (t.parts.get part).state = .swappingOut) ∧
      (∀ p, p ≠ part → t.parts.get p = u.parts.get p) ∧ t.regions = u.regions ∧ t.rt = u.rt ∧ t.acct = u.acct) ∧
  (∀ e modelId part i s, served Op.swapInPartition e [.swap, .partition part] s = true →
    let u := accepted Op.swapInPartition e [.swap, .partition part] s
    swapInCheck modelId part u = none →
    imageOf u modelId = some i →
    ∃ t, exec (.swapInPartition e modelId part) s = .next t ∧
      t.swap = some { out := false, part := part, release := false, op := u.opCtr, began := u.dev.devtime
                      bytes := 32768 * swapInFrames i part u + i.metaBytes } ∧ (t.parts.get part).state = .swappingIn ∧
      t.images = updFirst (fun x => x.modelId = modelId) (fun x => { x with owner := some part, homeUnits := 0 }) u.images) ∧
  (∀ e part force s, served Op.unloadPartition e [.swap, .partition part] s = true →
    let u := accepted Op.unloadPartition e [.swap, .partition part] s
    unloadCheck part force u = none → stepOpen u part = true →
    ∃ t, exec (.unloadPartition e part force) s = .next t ∧
      t.parts = u.parts.upd part (fun p => { p with staged := { p.staged with unload := some u.opCtr } }) ∧
      t.ops = u.ops ++ [newOp e (.unload part) u] ∧ t.regions = u.regions ∧ t.rt = u.rt ∧ t.acct = u.acct) ∧
  (∀ e part force s, served Op.unloadPartition e [.swap, .partition part] s = true →
    let u := accepted Op.unloadPartition e [.swap, .partition part] s
    unloadCheck part force u = none → stepOpen u part = false →
    exec (.unloadPartition e part force) s = .next (answer e (startLong e (.unload part) u).2
      (finishOp u.opCtr .ok (emptyPart part (unloadNow part [] (startLong e (.unload part) u).1))))) ∧
  (∀ e part offset s, served Op.bindKvWindow e [] s = true →
    let u := accepted Op.bindKvWindow e [] s
    part ≤ 15 → (u.parts.get part).state ≠ .empty → (u.parts.get part).body.mode ≠ 1 →
    offset % 2 ^ 30 = 0 → offset + kvSpace (u.parts.get part).body ≤ seatHdmH u e.seat →
    ((hdmTaken u e.seat).any fun x => overlaps offset (kvSpace (u.parts.get part).body) x.1 x.2) = false →
    ((u.seats.get e.seat).kvWindows.any fun w => w.1 = part) = false →
    exec (.bindKvWindow e part offset) s = .next (answer e {}
      (updSeat e.seat (fun t => { t with kvWindows := t.kvWindows ++ [(part, offset)] }) u))) ∧
  (∀ e part seat s, served Op.unbindKvWindow e [] s = true →
    let u := accepted Op.unbindKvWindow e [] s
    part ≤ 15 → unbindSeat e seat ≤ 63 →
    ((u.seats.get (unbindSeat e seat)).kvWindows.any fun w => w.1 = part) = true →
    exec (.unbindKvWindow e part seat) s = .next (answer e {}
      (updSeat (unbindSeat e seat) (fun t => { t with kvWindows := t.kvWindows.filter fun w => w.1 != part }) u))) ∧
  (∀ e start s, served Op.listImages e [] s = true →
    let u := accepted Op.listImages e [] s
   
    exec (.listImages e start) s = .next (answer e { body := listBody start 49 [] (u.images.map (imageEntry u)) } u)) ∧
  (∀ e modelId i s, served Op.deleteImage e [] s = true →
    let u := accepted Op.deleteImage e [] s
    imageOf u modelId = some i → i.owner = none →
    let v := freeHomes (fun k => match k with
      | .image m _ => m = modelId
      | .imageKv m _ _ => m = modelId
      | _ => false) u
    exec (.deleteImage e modelId) s = .next (answer e {}
      { v with images := v.images.filter (fun x => x.modelId != modelId), acct := { v.acct with homes := v.acct.homes - i.homeUnits } }))

/-- The tenant and limit commands have the effects of chapter 5. -/
def Obligations.TenantAndLimitCommandsAnswer : Prop :=
  (∀ e tenant mode rate cap s, served Op.createTenant e [] s = true →
    let u := accepted Op.createTenant e [] s
    tenant ≤ 4095 → mode ≤ 1 → rate < 2 ^ 32 → cap < 2 ^ 32 →
    (u.tenants.get tenant).exists_ = false →
    exec (.createTenant e tenant mode rate cap) s = .next (answer e {}
      { u with tenants := u.tenants.set tenant (Tenant.journal
          { exists_ := true, unmetered := mode = 1, rate := rate, cap := cap, balance := if mode = 1 then 0 else cap * 1000 }) })) ∧
  (∀ e tenant s, served Op.deleteTenant e [] s = true →
    let u := accepted Op.deleteTenant e [] s
    tenant ≠ 0 → tenant ≤ 4095 → (u.tenants.get tenant).exists_ = true → tenantLive u tenant = 0 →
    exec (.deleteTenant e tenant) s = .next (answer e {} { u with tenants := u.tenants.set tenant {} })) ∧
  (∀ e tenant mode rate cap s, served Op.setTenantBudget e [] s = true →
    let u := accepted Op.setTenantBudget e [] s
    tenant ≤ 4095 → mode ≤ 1 → rate < 2 ^ 32 → cap < 2 ^ 32 →
    (u.tenants.get tenant).exists_ = true →
    let t := u.tenants.get tenant
    exec (.setTenantBudget e tenant mode rate cap) s = .next (answer e {}
      { u with tenants := u.tenants.set tenant (Tenant.journal { t with
          unmetered := mode = 1, rate := rate, cap := cap
          balance := if mode = 1 then 0 else if t.unmetered then cap * 1000 else t.balance }) })) ∧
  (∀ e tenant amount s, served Op.grantBudget e [] s = true →
    let u := accepted Op.grantBudget e [] s
    tenant ≤ 4095 → (u.tenants.get tenant).exists_ = true →
    (u.tenants.get tenant).unmetered = false →
    exec (.grantBudget e tenant amount) s = .next (answer e {}
      { u with tenants := u.tenants.set tenant (Tenant.journal { u.tenants.get tenant with
          balance := min ((u.tenants.get tenant).balance + amount) ((u.tenants.get tenant).cap * 1000) }) })) ∧
  (∀ e tenant s, served Op.queryTenant e [] s = true →
    let u := accepted Op.queryTenant e [] s
    tenant ≤ 4095 → (u.tenants.get tenant).exists_ = true →
    let t := u.tenants.get tenant
    exec (.queryTenant e tenant) s = .next (answer e
      (.okFields [(1, bit t.unmetered), (4, t.rate), (4, t.cap), (8, ofInt 64 t.balance), (8, t.consumed), (4, tenantLive u tenant)]) u)) ∧
  (∀ e seat maxEntries maxFrames s, served Op.setSeatQuota e [] s = true →
    let u := accepted Op.setSeatQuota e [] s
    seat ≤ 63 → maxEntries ≤ 131072 → maxFrames < 2 ^ 32 →
    exec (.setSeatQuota e seat maxEntries maxFrames) s = .next (answer e {}
      (updSeat seat (fun t => { t with maxEntries := maxEntries, maxFrames := maxFrames }) u))) ∧
  (∀ e part cap s, served Op.setPartitionCap e [] s = true →
    let u := accepted Op.setPartitionCap e [] s
    part ≤ 15 → cap < 2 ^ 32 →
    exec (.setPartitionCap e part cap) s = .next (answer e {} (updPart part (fun p => { p with cap := cap }) u))) ∧
  (∀ e s, served Op.queryCapacity e [] s = true →
    let u := accepted Op.queryCapacity e [] s
   
    exec (.queryCapacity e) s = .next (answer e { body := listBody 0 12 [] (accountList u e.seat) } u))

/-- The request commands have the effects of chapter 5. -/
def Obligations.RequestCommandsAnswer : Prop :=
  (∀ e b i s, served Op.admitRequest e [.partition b.part] s = true →
    let u := accepted Op.admitRequest e [.partition b.part] s
    admitCheck e b u = none → nextFreeRt u = some i →
    ∃ t r, exec (.admitRequest e b) s = .next (answer e r t) ∧ r.status = .ok ∧ handleSeat (mkHandle e.seat i (u.rt.get i).gen) = e.seat ∧
      (∃ fields, r.body = .fields ((4, mkHandle e.seat i (admitEntry b e.seat (u.rt.get i).gen u).gen) :: fields)) ∧
      t.regions = u.regions) ∧
  (∀ e handle s, served Op.commitPrompt e [.request handle] s = true →
    let u := accepted Op.commitPrompt e [.request handle] s
    handleCheck u e.seat handle = none → (rtOf u handle).state = .prefill →
    (u.pulls.any fun p => p.handle = handle) = false → (rtOf u handle).cowFrom = none →
    exec (.commitPrompt e handle) s = .next (answer e {} (updRt handle (fun r => { r with state := .active }) u))) ∧
  (∀ e handle prio dlToken dlItem s, served Op.setRequest e [] s = true →
    let u := accepted Op.setRequest e [] s
    handleCheck u e.seat handle = none → prio ≤ 255 → dlToken ≤ 1048575 →
    dlItem ≤ 4095 →
    stepOpen u (rtOf u handle).part = false ∨ (rtOf u handle).state = .parking ∨ (rtOf u handle).state = .parked →
    exec (.setRequest e handle prio dlToken dlItem) s = .next (answer e {}
      (updRt handle (fun r => { r with prio := prio, dlToken := dlToken, dlItem := dlItem })
        (updPart (rtOf u handle).part (fun p => { p with staged := { p.staged with
          requests := p.staged.requests.filter fun x => x.handle != handle } }) u)))) ∧
  (∀ e handle prio dlToken dlItem s, served Op.setRequest e [] s = true →
    let u := accepted Op.setRequest e [] s
    handleCheck u e.seat handle = none → prio ≤ 255 → dlToken ≤ 1048575 →
    dlItem ≤ 4095 → stepOpen u (rtOf u handle).part = true →
    (rtOf u handle).state = .prefill ∨ (rtOf u handle).state = .active ∨ (rtOf u handle).state = .full →
    exec (.setRequest e handle prio dlToken dlItem) s = .next (answer e (stagedNow u (rtOf u handle).part)
      (updPart (rtOf u handle).part (fun p => { p with staged := { p.staged with
        requests := p.staged.requests.filter (fun x => x.handle != handle) ++
          [{ handle := handle, prio := prio, dlToken := dlToken, dlItem := dlItem }] } }) u))) ∧
  (∀ e handle s, served Op.cancelRequest e [.request handle, .partition (rtOf s handle).part] s = true →
    let u := accepted Op.cancelRequest e [.request handle, .partition (rtOf s handle).part] s
    handleCheck u e.seat handle = none →
    cancelCheck handle u = none → stepOpen u (rtOf u handle).part = false →
    exec (.cancelRequest e handle) s = .next (answer e {} (freeRequest handle u))) ∧
  (∀ e handle s, served Op.cancelRequest e [.request handle, .partition (rtOf s handle).part] s = true →
    let u := accepted Op.cancelRequest e [.request handle, .partition (rtOf s handle).part] s
    handleCheck u e.seat handle = none →
    cancelCheck handle u = none → stepOpen u (rtOf u handle).part = true → (rtOf u handle).state ≠ .parked →
    exec (.cancelRequest e handle) s = .next (answer e (stagedNow u (rtOf u handle).part) (updRt handle (fun r => { r with cancel := true }) u))) ∧
  (∀ e handle s, served Op.queryRequest e [] s = true →
    let u := accepted Op.queryRequest e [] s
    handleCheck u e.seat handle = none →
    exec (.queryRequest e handle) s = .next (answer e { body := .bytes (leBytes 32 (rtOf u handle).word) } u)) ∧
  (∀ e start s, served Op.listRequests e [] s = true →
    let u := accepted Op.listRequests e [] s
   
    exec (.listRequests e start) s = .next (answer e { body := listBody start 4 [] (requestList u e.seat) } u))

/-- The step ring, window, digest, selection and step commands have the effects of chapters 3, 6 and 9. -/
def Obligations.RingWindowAndStepCommandsAnswer : Prop :=
  (∀ e b s, served Op.createStepRing e [.partition b.part] s = true →
    let u := accepted Op.createStepRing e [.partition b.part] s
    createStepRingCheck e b u = none →
    exec (.createStepRing e b) s = .next (answer e {} (updRing e.seat b.ring (fun _ =>
      { live := true, part := b.part, sqLog2 := b.sqLog2, cqLog2 := b.cqLog2, sqBase := b.sqBase, cqBase := b.cqBase
        cqPeer := b.cqPeer, cqWindow := b.cqWindow }) u))) ∧
  (∀ e ring seat s, served Op.destroyStepRing e [] s = true →
    let u := accepted Op.destroyStepRing e [] s
    ring ≤ 3 → seat ≤ 63 → e.seat = 0 ∨ seat = e.seat → (ringOf u seat ring).live = true →
    (u.parts.get (ringOf u seat ring).part).step.cond = .idle →
    exec (.destroyStepRing e ring seat) s = .next (answer e {}
      (updRing seat ring (fun _ => {}) { u with held := u.held.filter fun h => !(h.seat = seat && h.ring = ring) }))) ∧
  (∀ e ring seat s, served Op.destroyStepRing e [] s = true →
    let u := accepted Op.destroyStepRing e [] s
    ring ≤ 3 → seat ≤ 63 → e.seat = 0 ∨ seat = e.seat → (ringOf u seat ring).live = true →
    (u.parts.get (ringOf u seat ring).part).step.cond ≠ .idle →
    exec (.destroyStepRing e ring seat) s = .next (answer e
      { staged := some ((ringOf u seat ring).part, (u.parts.get (ringOf u seat ring).part).stepNo) }
      (updRing seat ring (fun r => { r with destroying := true }) u))) ∧
  (∀ e part s, served Op.closeStep e [] s = true →
    let u := accepted Op.closeStep e [] s
    closeStepCheck e part u = none → (u.parts.get part).step.cond ≠ .closing →
    exec (.closeStep e part) s = .next (answer e (stagedNow u part) (closeStep part false u))) ∧
  (∀ e part s, served Op.queryStep e [] s = true →
    let u := accepted Op.queryStep e [] s
    part ≤ 15 → (u.parts.get part).state ≠ .empty →
    exec (.queryStep e part) s = .next (answer e { body := stepBody u part } u)) ∧
  (∀ e kind mask base length s, served Op.registerWindow e [] s = true →
    let u := accepted Op.registerWindow e [] s
    badWindow kind mask base length = false →
    (u.seats.get e.seat).windows.length < 256 →
    let id := e.seat * 65536 + freeWindow (u.seats.get e.seat) e.seat
    exec (.registerWindow e kind mask base length) s = .next (answer e (.okFields [(4, id)])
      (updSeat e.seat (fun t => { t with windows := t.windows ++ [{ id := id, kind := kind, mask := mask, base := base, len := length }] }) u))) ∧
  (∀ e window s, served Op.releaseWindow e [] s = true →
    let u := accepted Op.releaseWindow e [] s
    window / 65536 < 64 → (windowOf u (window / 65536) window).isNone = false →
    e.seat = 0 ∨ window / 65536 = e.seat → windowInUse u (window / 65536) window = false →
    exec (.releaseWindow e window) s = .next (answer e {}
      (updSeat (window / 65536) (fun t => { t with windows := t.windows.filter fun w => w.id != window }) u))) ∧
  (∀ e part on s, served Op.setDigests e [] s = true →
    let u := accepted Op.setDigests e [] s
    setDigestsCheck part on u = none → stepOpen u part = true →
    exec (.setDigests e part on) s = .next (answer e (stagedNow u part)
      (updPart part (fun p => { p with staged := { p.staged with digests := some on } }) u))) ∧
  (∀ e part on s, served Op.setDigests e [] s = true →
    let u := accepted Op.setDigests e [] s
    setDigestsCheck part on u = none → stepOpen u part = false →
    exec (.setDigests e part on) s = .next (answer e {}
      (updPart part (fun p => { p with digests := on, digestHeld := on, digestValid := [] })
        (if (u.parts.get part).digestHeld = on then u
         else if on then chargeAcct { seat := 0, part := part, frames := digestFrames (u.parts.get part).body, seatFrames := false } u
         else releaseAcct { seat := 0, part := part, frames := digestFrames (u.parts.get part).body, seatFrames := false } u)))) ∧
  (∀ e handle sel sink recent s, served Op.setSelection e [] s = true →
    let u := accepted Op.setSelection e [] s
    handleCheck u e.seat handle = none →
    (u.parts.get (rtOf u handle).part).digests = true → sel = 0 ∨ sink + recent + 1 ≤ sel → stepOpen u (rtOf u handle).part = false →
    exec (.setSelection e handle sel sink recent) s = .next (answer e {} (applySelect handle sel sink recent u))) ∧
  (∀ e handle sel sink recent s, served Op.setSelection e [] s = true →
    let u := accepted Op.setSelection e [] s
    handleCheck u e.seat handle = none →
    (u.parts.get (rtOf u handle).part).digests = true → sel = 0 ∨ sink + recent + 1 ≤ sel → stepOpen u (rtOf u handle).part = true →
    (rtOf u handle).state = .active →
    exec (.setSelection e handle sel sink recent) s = .next (answer e (stagedNow u (rtOf u handle).part)
      (updPart (rtOf u handle).part (fun p => { p with staged := { p.staged with
        select := p.staged.select.filter (fun x => x.1 != handle) ++ [(handle, sel, sink, recent)] } }) u)))

/-- The prefix store commands have the effects of chapter 7. -/
def Obligations.PrefixCommandsAnswer : Prop :=
  (∀ e part pin tenant count tokens s, served Op.lookupPrefix e [.delta, .partition part] s = true →
    let u := accepted Op.lookupPrefix e [.delta, .partition part] s
    lookupCheck e part tenant count tokens u = none →
    exec (.lookupPrefix e part pin tenant count tokens) s = started e (.lookup part tenant count tokens pin) u) ∧
  (∀ e part pin count tokens handle s, insertDenied s part e.seat = false →
    served Op.insertPrefix e [.delta, .request handle, .partition part] s = true →
    let u := accepted Op.insertPrefix e [.delta, .request handle, .partition part] s
    insertCheck e part count tokens handle u = none →
    exec (.insertPrefix e part pin count tokens handle) s = started e (.insertPfx part handle count tokens pin) u) ∧
  (∀ e part tenant pfx n s, served Op.pinPrefix e [.partition part] s = true →
    let u := accepted Op.pinPrefix e [.partition part] s
    prefixPart u part = none →
    resolvePrefix u part tenant pfx = some n → u.pins.length < 262144 →
    exec (.pinPrefix e part tenant pfx) s = .next (answer e {} (takeRef n.idx { u with pins := u.pins ++ [(n.idx, e.seat)] }))) ∧
  (∀ e part tenant pfx p s, served Op.unpinPrefix e [.partition part] s = true →
    let u := accepted Op.unpinPrefix e [.partition part] s
    prefixPart u part = none →
    unpinTarget u e.seat part tenant pfx = some p →
    exec (.unpinPrefix e part tenant pfx) s = .next (answer e {} (dropRef p.1 { u with pins := u.pins.erase p }))) ∧
  (∀ e part tenant pfx n s, served Op.queryPrefix e [.partition part] s = true →
    let u := accepted Op.queryPrefix e [.partition part] s
    prefixPart u part = none →
    resolvePrefix u part tenant pfx = some n →
    exec (.queryPrefix e part tenant pfx) s = .next (answer e { body := .bytes (leBytes 64 (nodeWord u n)) } u)) ∧
  (∀ e part charge scope maxSlots mask s, served Op.setPrefixPolicy e [.partition part] s = true →
    let u := accepted Op.setPrefixPolicy e [.partition part] s
   
    prefixPolicyCheck part charge scope maxSlots mask u = none →
    let v := updPart part (fun p => { p with pfxCharge := charge, pfxScope := scope, pfxMaxSlots := maxSlots, pfxInsertMask := mask }) u
    exec (.setPrefixPolicy e part charge scope maxSlots mask) s = .next (answer e {} (updPart part (fun p => { p with
      shrinking := p.shrinking || (storeCap v part < storeCap u part && storeCap v part < storeHeld v part) }) v))) ∧
  (∀ e part s, served Op.purgePrefix e [.delta, .partition part] s = true →
    let u := accepted Op.purgePrefix e [.delta, .partition part] s
    deltaBusy u = none → prefixPart u part = none →
    exec (.purgePrefix e part) s = started e (.purge part) u) ∧
  (∀ e part s, served Op.queryPrefixStore e [.partition part] s = true →
    let u := accepted Op.queryPrefixStore e [.partition part] s
    prefixPart u part = none →
    exec (.queryPrefixStore e part) s = .next (answer e { body := prefixStoreBody u part } u))

/-- The park, ticket, pull and tier commands have the effects of chapters 5 and 11. -/
def Obligations.ParkTicketAndPullCommandsAnswer : Prop :=
  (∀ e handle release ttl s, served Op.parkConversation e [.request handle, .partition (rtOf s handle).part] s = true →
    let u := accepted Op.parkConversation e [.request handle, .partition (rtOf s handle).part] s
   
    parkCheck e handle release ttl u = none → keptInStep u handle = false →
    exec (.parkConversation e handle release ttl) s = .next (answer e (startLong e (.park handle ttl release) u).2
      (beginPark u.opCtr handle (startLong e (.park handle ttl release) u).1))) ∧
  (∀ e handle release ttl s, served Op.parkConversation e [.request handle, .partition (rtOf s handle).part] s = true →
    let u := accepted Op.parkConversation e [.request handle, .partition (rtOf s handle).part] s
   
    parkCheck e handle release ttl u = none → keptInStep u handle = true →
    ∃ r, exec (.parkConversation e handle release ttl) s = .next (answer e r
      (updPart (rtOf u handle).part (fun p => { p with staged := { p.staged with parks := p.staged.parks ++ [u.opCtr] } })
        (startLong e (.park handle ttl release) u).1)) ∧
      r.op = some u.opCtr ∧ r.staged = (stagedNow u (rtOf u handle).part).staged) ∧
  (∀ e handle k s, handle ≠ 0 → served Op.unparkConversation e [.request handle, .partition (rtOf s handle).part] s = true →
    let u := accepted Op.unparkConversation e [.request handle, .partition (rtOf s handle).part] s
   
    unparkCheck e handle 0 u = none → unparkTarget u e.seat handle 0 = some k →
    let v := chargeAcct (unparkCharge u e.seat false k) u
    let w := updRt handle (fun r => { r with
      state := .unparking, before := k.saved.state, slots := takeSlots u k.part (ownReaches k)
      reaches := rewriteReaches k.saved.reaches (takeSlots u k.part (ownReaches k)), frames := (unparkCharge u e.seat false k).frames }) v
    let x := startLong e (.unpark handle 0) w
    let ops := updFirst (fun o => o.n = u.opCtr) (fun o => { o with began := u.dev.devtime, bytes := unparkBytes w k }) x.1.ops
    exec (.unparkConversation e handle 0) s = .next (answer e x.2 { x.1 with ops := ops })) ∧
  (∀ e handle ticket ttl s, served Op.renewPark e [if handle != 0 then .request handle else .ticket ticket] s = true →
    let u := accepted Op.renewPark e [if handle != 0 then .request handle else .ticket ticket] s
   
    renewCheck e handle ticket ttl u = none →
    exec (.renewPark e handle ticket ttl) s = .next (answer e {} { u with parks := u.parks.map fun p =>
      if (if handle != 0 then p.handle = some handle else p.ticket = some ticket) then { p with expiry := u.dev.parkClock + ttl } else p })) ∧
  (∀ e ticket k s, served Op.queryTicket e [] s = true →
    let u := accepted Op.queryTicket e [] s
    parkOfTicket u e.seat ticket = some k →
    exec (.queryTicket e ticket) s = .next (answer e { body := .bytes (ticketBytes u k) } u)) ∧
  (∀ e ticket k s, served Op.discardTicket e [.ticket ticket] s = true →
    let u := accepted Op.discardTicket e [.ticket ticket] s
    parkOfTicket u e.seat ticket = some k → unparkRuns u ticket = false →
    exec (.discardTicket e ticket) s = .next (answer e {} (freePark k u))) ∧
  (∀ e handle window offset first reaches layer0 layer1 w s, served Op.pullKv e [.request handle, .pulls, .partition (rtOf s handle).part] s = true →
    let u := accepted Op.pullKv e [.request handle, .pulls, .partition (rtOf s handle).part] s
   
    pullCheck e handle window offset first reaches layer0 layer1 u = none → windowOf u e.seat window = some w →
    (firstUp u w.mask).isNone = false →
    exec (.pullKv e handle window offset first reaches layer0 layer1) s = started e (.pull handle)
      (peerReads w.mask (w.base + offset) (reaches * (layer1 + 1 - layer0) * (u.parts.get (rtOf u handle).part).body.slice)
        { u with pulls := u.pulls ++ [{ op := u.opCtr, handle := handle, seat := e.seat, window := window, offset := offset, first := first
                                        reaches := reaches, layer0 := layer0, layer1 := layer1 }] })) ∧
  (∀ e base r s, served Op.parkRegion e [.region r.id] s = true →
    let u := accepted Op.parkRegion e [.region r.id] s
    regionBase s e.seat base = some r → parkRegionCheck e base u = none →
    exec (.parkRegion e base) s = started e (.parkRegion r.id) (updRegion r.id (fun r => { r with st := .parking }) u)) ∧
  (∀ e base r s, served Op.unparkRegion e [.region r.id] s = true →
    let u := accepted Op.unparkRegion e [.region r.id] s
    regionBase s e.seat base = some r → unparkRegionCheck e base u = none →
    exec (.unparkRegion e base) s = started e (.unparkRegion r.id) (updRegion r.id (fun r => { r with st := .unparking })
      (chargeAcct (framesCharge r) u))) ∧
  (∀ e imageGb parkGb s, served Op.setTierConfig e [] s = true →
    let u := accepted Op.setTierConfig e [] s
    tierConfigCheck imageGb parkGb u = none →
    exec (.setTierConfig e imageGb parkGb) s = .next (answer e {} { u with tier := { u.tier with imageGb := imageGb, parkGb := parkGb } })) ∧
  (∀ e s, served Op.queryTiers e [] s = true →
    let u := accepted Op.queryTiers e [] s
    exec (.queryTiers e) s = .next (answer e { body := tiersBody u } u)) ∧
  (∀ e s, served Op.queryFlash e [] s = true →
    let u := accepted Op.queryFlash e [] s
   
    exec (.queryFlash e) s = .next (answer e
      { body := listBody 0 36 [(4, sparesFree u), (4, u.flash.jSince)] ((List.range 992).map (laneEntry u)) } u))

/-- The logit window and count commands have the effects of chapter 10. -/
def Obligations.LogitWindowAndCountCommandsAnswer : Prop :=
  (∀ e handle addr length s, served Op.setLogitWindow e [] s = true →
    let u := accepted Op.setLogitWindow e [] s
    onEddy e handle (setLogitCheck handle addr length) u = none →
    (stepOpen u (rtOf u handle).part && (keptOf u (rtOf u handle).part handle).isSome) = false →
    exec (.setLogitWindow e handle addr length) s =
      .next (answer e {} (applyLogit handle (if addr = 0 then none else some (addr, length)) u))) ∧
  (∀ e handle addr length s, served Op.setLogitWindow e [] s = true →
    let u := accepted Op.setLogitWindow e [] s
    onEddy e handle (setLogitCheck handle addr length) u = none →
    stepOpen u (rtOf u handle).part = true → (keptOf u (rtOf u handle).part handle).isSome = true →
    exec (.setLogitWindow e handle addr length) s = .next (answer e (stagedNow u (rtOf u handle).part)
      (updPart (rtOf u handle).part (fun p => { p with staged := { p.staged with
        logit := p.staged.logit.filter (fun x => x.1 != handle) ++ [(handle, if addr = 0 then none else some (addr, length))] } }) u))) ∧
  (∀ e handle count list s, served Op.loadCounts e [.request handle] s = true →
    let u := accepted Op.loadCounts e [.request handle] s
    handleCheck u e.seat handle = none → (rtOf u handle).eddy = true →
    0 < count → count ≤ 65536 → placedOk u e.seat list (4 * count) 64 = true → countsBusy u handle = false →
    exec (.loadCounts e handle count list) s = started e (.loadCounts handle count list) u) ∧
  (∀ e handle s, served Op.clearCounts e [.request handle] s = true →
    let u := accepted Op.clearCounts e [.request handle] s
    handleCheck u e.seat handle = none → (rtOf u handle).eddy = true →
    countsBusy u handle = false →
    exec (.clearCounts e handle) s = .next (answer e {} (clearCounts handle u)) ∧
    (((List.range 8).any fun i => heldAt u true (.counts (handleRti handle)) (32768 * i) 1) = false →
      (rtOf (clearCounts handle u) handle).counts = [])) ∧
  (∀ e handle first count s, served Op.queryCounts e [] s = true →
    let u := accepted Op.queryCounts e [] s
    handleCheck u e.seat handle = none → (rtOf u handle).eddy = true →
    0 < count → count ≤ 1023 → first + count ≤ 4096 →
    exec (.queryCounts e handle first count) s = .next (answer e
      { body := .bytes ((List.range count).map fun i => bucketBytes (rtOf u handle).counts (first + i)).flatten } u))

/-- The region commands have the effects of chapter 16. -/
def Obligations.RegionCommandsAnswer : Prop :=
  (∀ e b s, served Op.allocateRegion e [] s = true →
    let u := accepted Op.allocateRegion e [] s
    allocateCheck e b u = none →
    let v := (takeRegionId u).1
    let id := (takeRegionId u).2
    let r := regionOfBody v e.seat id b
    let w := startLong e (.allocRegion id) (reserveReplica r (chargeRegion e.seat b { v with regions := v.regions ++ [r] }))
    exec (.allocateRegion e b) s = .next (answer e { w.2 with body := .fields [(8, id)] } w.1)) ∧
  (∀ e id r s, served Op.freeRegion e [.region id] s = true →
    let u := accepted Op.freeRegion e [.region id] s
    freeRegionCheck e id u = none → regionOf u id = some r → r.shared = false →
    exec (.freeRegion e id) s =
      .next (answer e (startLong e (.freeRegion id) u).2 (endFree u.opCtr r (startLong e (.freeRegion id) u).1))) ∧
  (∀ e id r s, served Op.queryRegion e [] s = true →
    let u := accepted Op.queryRegion e [] s
    regionFor u e.seat id = some r →
    exec (.queryRegion e id) s = .next (answer e
      (.okFields [(1, r.flags), (1, r.part), (1, r.seat), (1, r.st.code), (1, bit r.degraded), (4, r.keySlot), (8, r.base), (8, r.size)]) u)) ∧
  (∀ e id g mode s, served Op.grantRegion e [.region id] s = true →
    let u := accepted Op.grantRegion e [.region id] s
    grantCheck e id g mode u = none →
    ((regionOf u id).map (·.mode g)).getD 0 ≤ mode →
    exec (.grantRegion e id g mode) s = .next (answer e (startLong e (.grantRegion id g mode) u).2
      (finishOp u.opCtr .ok (setGrant id g mode (startLong e (.grantRegion id g mode) u).1)))) ∧
  (∀ e id g mode s, served Op.grantRegion e [.region id] s = true →
    let u := accepted Op.grantRegion e [.region id] s
    grantCheck e id g mode u = none →
    mode < ((regionOf u id).map (·.mode g)).getD 0 →
    exec (.grantRegion e id g mode) s = .next (answer e (startLong e (.grantRegion id g mode) u).2
      (cohSettle (revokeLines id g (startLong e (.grantRegion id g mode) u).1)))) ∧
  (∀ e id base s, served Op.attachRegion e [.region id] s = true →
    let u := accepted Op.attachRegion e [.region id] s
    attachCheck e id base u = none →
    exec (.attachRegion e id base) s = .next (answer e {} (updRegion id (fun r => { r with attached := r.attached ++ [(e.seat, base)] }) u))) ∧
  (∀ e id r s, served Op.detachRegion e [.region id] s = true →
    let u := accepted Op.detachRegion e [.region id] s
    regionOf u id = some r → (lookupKey e.seat r.attached).isSome = true →
    exec (.detachRegion e id) s = .next (answer e {} (cohSettle
      (updRegion id (fun r => { r with attached := r.attached.filter fun x => x.1 != e.seat }) (forgetHoldings id e.seat u)))))

/-- The pool limit, key slot, pool operation and pool set commands have the effects of chapter 16. -/
def Obligations.PoolCommandsAnswer : Prop :=
  (∀ e seat cls maxRate maxOps keySlots regions dbSize s, served Op.setPoolLimits e [] s = true →
    let u := accepted Op.setPoolLimits e [] s
   
    poolLimitsCheck seat cls maxRate maxOps keySlots regions dbSize u = none →
    let l : PoolLimits := { cls := cls, maxRate := maxRate, maxOps := maxOps, keySlots := keySlots, regions := regions, dbSize := dbSize }
    exec (.setPoolLimits e seat cls maxRate maxOps keySlots regions dbSize) s = .next (answer e {}
      (match (u.seats.get seat).map with
       | none => updSeat seat (fun t => { t with limits := l }) u
       | some (p, d) =>
         if (u.seats.get seat).limits.dbSize = dbSize then updSeat seat (fun t => { t with limits := l }) u
         else updLd p d (fun x => { x with cdatSeq := (x.cdatSeq + 1) % 2 ^ 32 }) (updSeat seat (fun t => { t with limits := l }) u)))) ∧
  (∀ e seat s, served Op.queryPoolLimits e [] s = true →
    let u := accepted Op.queryPoolLimits e [] s
    seat ≤ 63 → e.seat = 0 ∨ seat = e.seat →
    let l := (u.seats.get seat).limits
    exec (.queryPoolLimits e seat) s = .next (answer e
      (.okFields [(1, l.cls), (4, l.maxRate), (4, l.maxOps), (4, l.keySlots), (4, l.regions), (8, l.dbSize)]) u)) ∧
  (∀ e s, served Op.queryKeySlots e [] s = true →
    let u := accepted Op.queryKeySlots e [] s
   
    exec (.queryKeySlots e) s = .next (answer e { body := listBody 0 12 [] (keySlotEntries u e.seat) } u)) ∧
  (∀ e descs s, served Op.poolOperation e [.poolOps] s = true →
    let u := accepted Op.poolOperation e [.poolOps] s
    opsFull u e.seat = none → e.bodyLen = 64 * descs.length →
    descs.all (poolDescOk u e.seat) = true →
    let x : Xfer := { op := u.opCtr, seat := e.seat, pool := descs }
    let v := startLong e .poolOp { u with xfers := u.xfers ++ [x] }
    exec (.poolOperation e descs) s = .next (answer e v.2 (startNext x v.1))) ∧
  (∀ e b s, served Op.joinPoolSet e [] s = true →
    let u := accepted Op.joinPoolSet e [] s
    joinCheck b u = none →
    exec (.joinPoolSet e b) s = started e .joinSet { u with pset :=
      { phase := .forming, setId := b.setId, n := b.n, index := b.index, setTo := if b.setTo = 0 then 1000 else b.setTo
        parityGb := b.parityGb, rebuild := b.rebuild
        members := (otherMembers b.n b.index).map fun m => { index := m, window := (lookupKey m b.windows).getD 0 }
        joinOp := some u.opCtr, joinAt := u.dev.devtime } }) ∧
  (∀ e s, served Op.leavePoolSet e [] s = true →
    let u := accepted Op.leavePoolSet e [] s
    leaveCheck u = none →
    let v := startLong e .leaveSet (endJoin .notReady u)
    exec (.leavePoolSet e) s = .next (answer e v.2 (finishOp u.opCtr .ok (releaseWrites { v.1 with
      acct := { v.1.acct with frames := v.1.acct.frames - replicaFrames v.1.pset.replicas }, pset := {} })))) ∧
  (∀ e s, served Op.queryPoolSet e [] s = true →
    let u := accepted Op.queryPoolSet e [] s
    exec (.queryPoolSet e) s = .next (answer e { body := poolSetBody u } u)) ∧
  (∀ e s, served Op.rebuildMember e [] s = true →
    let u := accepted Op.rebuildMember e [] s
    u.pset.phase = .formed → u.pset.rebuild = true → u.pset.rebuildOp = none →
    exec (.rebuildMember e) s = started e .rebuild { u with pset := { u.pset with rebuildOp := some u.opCtr } })

/-- The coherence and stash commands have the effects of chapters 15 and 17. -/
def Obligations.CoherenceAndStashCommandsAnswer : Prop :=
  (∀ e addr r l s, served Op.queryLine e [] s = true →
    let u := accepted Op.queryLine e [] s
    sharedLine u e.seat addr = some (r, l) →
    exec (.queryLine e addr) s = .next (answer e { body := lineBody u e.seat r l } u)) ∧
  (∀ e seat s, served Op.fenceSeat e [.cohSeat seat] s = true →
    let u := accepted Op.fenceSeat e [.cohSeat seat] s
    seat ≤ 63 → u.coh.fenced.getLsbD seat = false →
    exec (.fenceSeat e seat) s = .next (answer e {} (fenceSeat seat u))) ∧
  (∀ e seat s, served Op.unfenceSeat e [.cohSeat seat] s = true →
    let u := accepted Op.unfenceSeat e [.cohSeat seat] s
    seat ≤ 63 → u.coh.fenced.getLsbD seat = true → u.coh.sweeping.getLsbD seat = false →
    exec (.unfenceSeat e seat) s = .next (answer e {} { u with coh := { u.coh with
      fenced := u.coh.fenced &&& ~~~seatBit seat, lifting := u.coh.lifting &&& ~~~seatBit seat } })) ∧
  (∀ e s, served Op.queryCoherence e [] s = true →
    let u := accepted Op.queryCoherence e [] s
   
    exec (.queryCoherence e) s = .next (answer e
      { body := listBody 0 8 [(8, u.coh.fenced.toNat), (4, snoopTo u)] ((List.range 64).map (sliceCounts u)) } u)) ∧
  (∀ e part run frames maxObjects s, served Op.openRun e [.partition part] s = true →
    let u := accepted Op.openRun e [.partition part] s
    openRunCheck e part run frames maxObjects u = none →
    let r : Run := { run := run, seat := e.seat, budget := frames, maxObjects := maxObjects }
    exec (.openRun e part run frames maxObjects) s = .next (answer e {}
      (updPart part (fun p => { p with runs := p.runs ++ [r] }) (chargeAcct (runCharge part r) u)))) ∧
  (∀ e part run s, served Op.closeRun e [.partition part, .run part run] s = true →
    let u := accepted Op.closeRun e [.partition part, .run part run] s
    closeRunCheck e part run u = none →
    exec (.closeRun e part run) s = .next (answer e (startLong e (.closeRun part run) u).2
      (finishOp u.opCtr .ok (closeRunNow part run (startLong e (.closeRun part run) u).1)))) ∧
  (∀ e d ds s, served Op.stashTransfer e (.poolOps :: ((d :: ds).map fun d => ClaimObj.partition d.part).eraseDups) s = true →
    let u := accepted Op.stashTransfer e (.poolOps :: ((d :: ds).map fun d => ClaimObj.partition d.part).eraseDups) s
   
    stashCheck e (d :: ds) u = none →
    let x : Xfer := { op := u.opCtr, seat := e.seat, stash := d :: ds }
    let v := startLong e (.stash d.part (keyRun d.key)) { u with xfers := u.xfers ++ [x] }
    exec (.stashTransfer e (d :: ds)) s = .next (answer e v.2 (beginStash x v.1))) ∧
  (∀ e part run count list s, served Op.setSchedule e [.partition part, .run part run] s = true →
    let u := accepted Op.setSchedule e [.partition part, .run part run] s
    setScheduleCheck e part run count list u = none →
    exec (.setSchedule e part run count list) s =
      .next (answer e (startLong e (.schedule part run) u).2 (setSchedule e part run count list u).1)) ∧
  (∀ e part run start r s, served Op.queryStash e [.partition part] s = true →
    let u := accepted Op.queryStash e [.partition part] s
    stashGate part u = none → (runFor u e.seat part run).isNone = false →
    runOf u part run = some r →
    exec (.queryStash e part run start) s = .next (answer e { body := stashBody r start } u))

/-- The telemetry, power and hold-up commands have the effects of chapters 14 and 19. -/
def Obligations.PowerAndHoldupCommandsAnswer : Prop :=
  (∀ e base log2 s, served Op.setTelemetryRing e [] s = true →
    let u := accepted Op.setTelemetryRing e [] s
    telemetryRingCheck base log2 u = none →
    exec (.setTelemetryRing e base log2) s = .next (answer e {} { u with tel := { u.tel with
      ringBase := base, ringLog2 := if base = 0 then 0 else log2, ringTail := 0 } })) ∧
  (∀ e s, served Op.queryPower e [] s = true →
    let u := accepted Op.queryPower e [] s
    exec (.queryPower e) s = .next (answer e { body := powerBody u } u)) ∧
  (∀ e s, served Op.queryOcRegions e [] s = true →
    let u := accepted Op.queryOcRegions e [] s
   
    exec (.queryOcRegions e) s = .next (answer e { body := listBody 0 4 [] ((List.range 58).map fun r =>
      [(1, (regionLimits r).1), (1, (regionLimits r).2), (1, regionState u r), (1, regionTrips u r)]) } u)) ∧
  (∀ e idleGate idleUs s, served Op.setPowerConfig e [] s = true →
    let u := accepted Op.setPowerConfig e [] s
    idleGate ≤ 1 → idleUs ≤ 65535 →
    exec (.setPowerConfig e idleGate idleUs) s = .next (answer e { staged := some (255, 2 ^ 32 - 1) }
      (idleCommit { u with glb := { u.glb with pwrCtrlPend := some (pwrCtrlMask (idleGate * 2 ^ 31 + idleUs)) } }))) ∧
  (∀ e s, served Op.queryHoldup e [] s = true →
    let u := accepted Op.queryHoldup e [] s
    exec (.queryHoldup e) s = .next (answer e { body := holdupBody u } u)) ∧
  (∀ e s, served Op.testHoldup e [] s = true →
    let u := accepted Op.testHoldup e [] s
    u.hup.present = true → u.hup.chg ≠ .testing → u.hup.chg ≠ .fault →
    let v := startLong e .testHoldup u
    exec (.testHoldup e) s = .next (answer e v.2 { v.1 with hup := { v.1.hup with
      chg := .testing, step := if u.hup.chargeRange then .charge else .waiting, testOp := some u.opCtr, stopped := false } })) ∧
  (∀ e days s, served Op.setHoldupConfig e [] s = true →
    let u := accepted Op.setHoldupConfig e [] s
    7 ≤ days → days ≤ 180 →
    exec (.setHoldupConfig e days) s = .next (answer e {} { u with hup := { u.hup with period := days } }))

/-- The fault log, dump, injection, firmware and codec commands have the effects of chapters 12, 20 and 21. -/
def Obligations.FaultDumpFirmwareAndCodecCommandsAnswer : Prop :=
  (∀ e first s, served Op.readFaultRecords e [] s = true →
    let u := accepted Op.readFaultRecords e [] s
   
    exec (.readFaultRecords e first) s = .next (answer e { body := recordsBody u e.seat first } u)) ∧
  (∀ e seq s, served Op.clearFaultRecords e [] s = true →
    let u := accepted Op.clearFaultRecords e [] s
   
    exec (.clearFaultRecords e seq) s = .next (answer e {} { u with flt := { u.flt with
      log := u.flt.log.filter fun r => seq < r.seq, tcm := u.flt.tcm.filter fun r => seq < r.seq } })) ∧
  (∀ e s, served Op.queryFaultState e [] s = true →
    let u := accepted Op.queryFaultState e [] s
    exec (.queryFaultState e) s = .next (answer e { body := faultStateBody u } u)) ∧
  (∀ e s, served Op.queryDump e [] s = true →
    let u := accepted Op.queryDump e [] s
    (u.flt.dump0.isNone && u.flt.dump1.isNone) = false →
    exec (.queryDump e) s = .next (answer e { body := queryDumpBody u } u)) ∧
  (∀ e slot id off len s, served { Op.readDump with long := false } e [] s = true →
    let u := accepted { Op.readDump with long := false } e [] s
    readDumpCheck slot id off len 0 u = none →
    exec (.readDump e slot id off len 0) s = .next (answer e { status := sectionStatus u slot id, body := .bytes (dumpBytes u slot id off len) } u)) ∧
  (∀ e slot id off len dst s, dst ≠ 0 → served { Op.readDump with long := true } e [] s = true →
    let u := accepted { Op.readDump with long := true } e [] s
    readDumpCheck slot id off len dst u = none →
    exec (.readDump e slot id off len dst) s =
      started e (.dumpCopy slot id off len dst) { u with xfers := u.xfers ++ [{ op := u.opCtr, seat := 0 }] }) ∧
  (∀ e slot s, served Op.clearDump e [] s = true →
    let u := accepted Op.clearDump e [] s
    slot ≤ 1 → (dumpOf u slot).isNone = false →
    exec (.clearDump e slot) s = .next (answer e {}
      { u with flt := if slot = 0 then { u.flt with dump0 := none } else { u.flt with dump1 := none } })) ∧
  (∀ e pc bank row place correctable s, served Op.injectFault e [] s = true →
    let u := accepted Op.injectFault e [] s
    injectCheck (.hbm pc bank row place) u = none →
    exec (.injectFault e (.hbm pc bank row place) correctable) s =
      .next (answer e {} (hbmError true pc bank row place correctable u))) ∧
  (∀ e tile row correctable s, served Op.injectFault e [] s = true →
    let u := accepted Op.injectFault e [] s
    tile < 320 → row < 1024 → u.flt.retiredTiles.contains tile = false →
    exec (.injectFault e (.tile tile row) correctable) s = .next (answer e {} (tileError true tile row correctable u))) ∧
  (∀ e unit correctable s, served Op.injectFault e [] s = true →
    let u := accepted Op.injectFault e [] s
    (u.flash.map.any fun m => m.unit = unit) = true →
    exec (.injectFault e (.flash unit) correctable) s = .next (answer e {} (injectFlash unit correctable u))) ∧
  (∀ e s, served Op.queryFirmware e [] s = true →
    let u := accepted Op.queryFirmware e [] s
    exec (.queryFirmware e) s = .next (answer e { body := firmwareBody u } u)) ∧
  (∀ e src length s, served Op.writeFirmware e [.firmware] s = true →
    let u := accepted Op.writeFirmware e [.firmware] s
    writeFirmwareCheck src length u = none →
    exec (.writeFirmware e src length) s = started e .writeFw (updFlt (fun f => { f with writing := some (some u.opCtr) })
      (updInactive (fun _ => wipeImage length u) { u with freeCtr := u.freeCtr + 1 }))) ∧
  (∀ e s, served Op.activateFirmware e [.firmware] s = true →
    let u := accepted Op.activateFirmware e [.firmware] s
    u.flt.activating = none → u.flt.writing = none → (inactiveImage u).valid = true →
    exec (.activateFirmware e) s = started e .activateFw { u with
      flt := { u.flt with activating := some (some u.opCtr), newImage := false, restarting := true, restartAt := u.dev.devtime }
      dev := { u.dev with causeFw := 2 } }) ∧
  (∀ e s, served Op.restartFirmware e [] s = true →
    let u := accepted Op.restartFirmware e [] s
   
    exec (.restartFirmware e) s = started e .restartFw { u with
      flt := { u.flt with restarting := true, restartAt := u.dev.devtime }, dev := { u.dev with causeFw := 1 } }) ∧
  (∀ e s, served Op.resetWarm e [] s = true →
    let u := accepted Op.resetWarm e [] s
   
    exec (.resetWarm e) s = .next (answer e {} { u with flt := { u.flt with warmDue := some (u.dev.devtime + 100000) } })) ∧
  (∀ e src dst class0 class1 s, served Op.shoalEncode e [] s = true →
    let u := accepted Op.shoalEncode e [] s
    class0 ≤ 7 → class1 ≤ 7 → placedOk u 0 src 65536 64 = true →
    placedOk u 0 dst (encodeResult src class0 class1 u).2.length 64 = true → hdmDamaged u 0 src 65536 = false →
    exec (.shoalEncode e src dst class0 class1) s = .next (answer e
      (.okFields [(8, (encodeResult src class0 class1 u).2.length), (1, bit (encodeResult src class0 class1 u).1)])
      (hdmPut false 0 dst (encodeResult src class0 class1 u).2 u))) ∧
  (∀ e src dst length d s, served Op.shoalDecode e [] s = true →
    let u := accepted Op.shoalDecode e [] s
    32 ≤ length → length ≤ 65504 → placedOk u 0 src length 64 = true →
    placedOk u 0 dst 65536 64 = true → hdmDamaged u 0 src length = false → (hdmBytes u 0 src length).bind shoalDecode = some d →
    exec (.shoalDecode e src dst length) s = .next (answer e (.okFields [(8, d.length)]) (hdmPut false 0 dst d u)))

/-- The standard CXL mailbox commands answer from the LD of their seat and change what R81 and R599 say. -/
def Obligations.StandardMailboxCommandsAnswer : Prop :=
  (∀ n p l s, StdServed n p l s →
    let c := (s.lds.get (ldKey p l)).alloc / 256000000
    exec (.identifyMemoryDevice n) s =
      .next (stdAnswer n 0x4000 rcSuccess [activeVersion s, c, c, 0, 256, 256, 256, 256, 0] (takeCmd n 0x4000 s))) ∧
  (∀ n p l s, StdServed n p l s →
    exec (.getSupportedLogs n) s = .next (stdAnswer n 0x0400 rcSuccess [1, 4 * celOpcodes.length] (takeCmd n 0x0400 s))) ∧
  (∀ n p l offset length s, StdServed n p l s → offset + length ≤ 4 * celOpcodes.length →
    exec (.getLog n true offset length) s =
      .next (stdAnswer n 0x0401 rcSuccess (((celBytes.drop offset).take length).map (·.toNat)) (takeCmd n 0x0401 s))) ∧
  (∀ n p l s, StdServed n p l s → exec (.getTimestamp n) s = .next (stdAnswer n 0x0300 rcSuccess [timestampNow s] (takeCmd n 0x0300 s))) ∧
  (∀ n p l time s, StdServed n p l s → time < 2 ^ 64 →
    exec (.setTimestamp n time) s =
      .next (stdAnswer n 0x0301 rcSuccess [] { takeCmd n 0x0301 s with dev := { s.dev with timestamp := (time, s.dev.devtime) } })) ∧
  (∀ n p l log x s, StdServed n p l s → eventLog (s.lds.get (ldKey p l)) log = some x →
    exec (.getEventRecords n log) s = .next (stdAnswer n 0x0100 rcSuccess
      ([bit x.overflow, x.records.length] ++ (x.records.map (eventRecord s)).flatten) (takeCmd n 0x0100 s))) ∧
  (∀ n p l log all handles x y s, StdServed n p l s → eventLog (s.lds.get (ldKey p l)) log = some x → clearLog x all handles = some y →
    exec (.clearEventRecords n log all handles) s = .next (stdAnswer n 0x0101 rcSuccess [] (updLd p l (setEventLog log y) (takeCmd n 0x0101 s)))) ∧
  (∀ n p l opcode s, StdServed n p l s →
    exec (.unsupportedCxlOpcode n opcode) s = .next (stdAnswer n opcode rcUnsupported [] (takeCmd n opcode s))) ∧
  (∀ n s, n < 64 → s.dev.fwReady = false → seatReached s n = true → seatD3 s n = false → doorbell s n = false →
    exec (.getTimestamp n) s = .next (stdAnswer n 0x0300 rcBusy []
      (updMbx n (fun m => { m with opcode := 0x0300, posted := s.dev.devtime }) s)))

/-- The FM API commands of a port in MLD operation read and write what R46, R47, R51 and R52 say. -/
def Obligations.FabricManagerCommandsAnswer : Prop :=
  (∀ port s, FmServed port s → exec (.getLdInfo port) s = .next (emit (.fm port rcSuccess [(8, userBytes), (2, 16)]) s)) ∧
  (∀ port s, FmServed port s → exec (.getLdAllocations port) s =
    .next (emit (.fm port rcSuccess ((List.range 16).map fun l => (8, (s.lds.get (ldKey port l)).alloc))) s)) ∧
  (∀ port allocs s, FmServed port s → badAllocs s port allocs = false → exec (.setLdAllocations port allocs) s =
    .next (emit (.fm port rcSuccess []) (allocs.foldl (fun s a => updLd port a.1 (fun d => { d with alloc := a.2 }) s) s))) ∧
  (∀ port s, FmServed port s →
    let p := s.ports.get port
    exec (.getQosControl port) s = .next (emit (.fm port rcSuccess [(2, p.bsi), (1, p.moderate), (1, p.severe), (2, p.cci), (1, 0)]) s)) ∧
  (∀ port bsi moderate severe cci s, FmServed port s → 25 < moderate → moderate < severe → severe ≤ 100 →
    cci ∈ [128, 256, 512, 1024, 2048, 4096, 8192] → exec (.setQosControl port bsi moderate severe cci) s =
      .next (emit (.fm port rcSuccess []) (updPort port (fun p => { p with bsi := bsi, moderate := moderate, severe := severe, cci := cci }) s))) ∧
  (∀ port s, FmServed port s → exec (.getQosStatus port) s = .next (emit (.fm port rcSuccess [(1, averageA (s.ports.get port))]) s)) ∧
  (∀ port s, FmServed port s → exec (.getQosAllocatedBw port) s =
    .next (emit (.fm port rcSuccess ((List.range 16).map fun l => (1, match (s.lds.get (ldKey port l)).allocBw with
      | some v => v
      | none => if 2 ≤ ldCount s port then 256 / ldCount s port else 0))) s)) ∧
  (∀ port values s, FmServed port s → (values.any fun v => decide (15 < v.1) || decide (255 < v.2)) = false →
    exec (.setQosAllocatedBw port values) s =
      .next (emit (.fm port rcSuccess []) (values.foldl (fun s v => updLd port v.1 (fun d => { d with allocBw := some v.2 }) s) s))) ∧
  (∀ port s, FmServed port s → exec (.getQosBwLimit port) s =
    .next (emit (.fm port rcSuccess ((List.range 16).map fun l => (1, (s.lds.get (ldKey port l)).limitBw))) s)) ∧
  (∀ port values s, FmServed port s → (values.any fun v => decide (15 < v.1) || decide (255 < v.2)) = false →
    exec (.setQosBwLimit port values) s =
      .next (emit (.fm port rcSuccess []) (values.foldl (fun s v => updLd port v.1 (fun d => { d with limitBw := v.2 }) s) s))) ∧
  (∀ port s, FmServed port s →
    exec (.fmIdentify port) s = .next (emit (.fm port rcSuccess [(2, 0x1C5E), (2, 0x4800), (2, 0x0480)]) s)) ∧
  (∀ port cmd s, FmServed port s → exec (.tunnelManagementCommand port cmd) s =
    .next (emit (.fm port (fmServe port cmd s).1 (fmServe port cmd s).2.1) (fmServe port cmd s).2.2)) ∧
  (∀ port s, port < 8 → (s.ports.get port).linkUp = true → (s.ports.get port).ideFailed = false → (s.ports.get port).mld = false →
    exec (.fmIdentify port) s = .next (emit (.fm port rcUnsupported []) s))

/-- Configuration, DOE, CDAT and power-state accesses of an LD answer and change what chapter 2 says. -/
def Obligations.ConfigurationAndDoeAccessesAnswer : Prop :=
  (∀ port ld item value s, ldServed s port ld = true →
    exec (.configurationRequest port ld false item value) s = .next (emit (.cfg port ld false (cfgRead s port ld item)) s)) ∧
  (∀ port ld value s, ldServed s port ld = true → exec (.configurationRequest port ld true .biEnable value) s =
    .next (emit (.cfg port ld false []) (updLd port ld (fun d => { d with biEnable := value % 2 = 1 }) s))) ∧
  (∀ port ld value s, ldServed s port ld = true → value ∈ [128, 256, 512] →
    exec (.configurationRequest port ld true .maxPayload value) s =
      .next (emit (.cfg port ld false []) (updLd port ld (fun d => { d with maxPayload := value }) s))) ∧
  (∀ port ld i value s, ldServed s port ld = true → i < 4 →
    let after := fun (f : HdmDecoder → HdmDecoder) =>
      emit (.cfg port ld false []) (updLd port ld (fun d => { d with decoders := d.decoders.upd i f }) s)
    exec (.configurationRequest port ld true (.hdmBase i) value) s = .next (after fun x => { x with base := value % 2 ^ 64 }) ∧
    exec (.configurationRequest port ld true (.hdmSize i) value) s = .next (after fun x => { x with size := value % 2 ^ 64 }) ∧
    exec (.configurationRequest port ld true (.hdmControl i) value) s = .next (after fun x => { x with bi := value % 2 = 1 })) ∧
  (∀ port ld value s, ldServed s port ld = true → value ∈ [0, 3] →
    exec (.configurationRequest port ld true .powerState value) s =
      .next (emit (.cfg port ld false []) (updLd port ld (fun d => { d with d3hot := value = 3 }) s))) ∧
  (∀ port ld item value s, ldServed s port ld = true → item ∉ [.biEnable, .maxPayload, .powerState] →
    (∀ i, item ≠ .hdmBase i ∧ item ≠ .hdmSize i ∧ item ≠ .hdmControl i) →
    exec (.configurationRequest port ld true item value) s = .next (emit (.cfg port ld false []) s)) ∧
  (∀ port ld write item value s, port < 8 → ld < 16 → ldReached s port ld = true → s.dev.fwReady = false →
    exec (.configurationRequest port ld write item value) s = .next (emit (.cfg port ld true []) s)) ∧
  (∀ port ld kind length s, doeServed s port ld = true → length ≤ 16384 → kind ≤ 3 → exec (.doeObject port ld kind length) s =
    .next (updLd port ld (fun d => { d with doeError := false, doeWork := some (kind, length) }) s)) ∧
  (∀ port ld kind length s, doeServed s port ld = true → 16384 < length →
    exec (.doeObject port ld kind length) s = .next (updLd port ld (fun d => { d with doeError := true }) s)) ∧
  (∀ port ld kind length s, ldServed s port ld = true → (s.lds.get (ldKey port ld)).doeWork.isSome = true →
    exec (.doeObject port ld kind length) s = .next (emit (.doeBusy port ld) s)) ∧
  (∀ port ld index s, doeServed s port ld = true → index < 4 → exec (.doeDiscovery port ld index) s =
    .next (emit (.doe port ld (doeTypes.getD index [] ++ [(index + 1) % 4])) s)) ∧
  (∀ port ld entry s, doeServed s port ld = true → exec (.cdatTableAccess port ld entry) s =
    .next (emit (.doe port ld ((if entry + 1 < (cdat s port ld).length then entry + 1 else 0xFFFF) :: (cdat s port ld).getD entry [])) s)) ∧
  (∀ port ld d3 s, port < 8 → ld < 16 → ldReached s port ld = true →
    exec (.pciPmStateChange port ld d3) s = .next (updLd port ld (fun d => { d with d3hot := d3 }) s))

/-- SPDM, IDE and key-bank messages have the effects of §2.11 and chapter 16. -/
def Obligations.SecurityMessagesAnswer : Prop :=
  (∀ port ld v s, doeServed s port ld = true → exec (.spdmRequest port ld v .getVersion) s = .next (emit (.spdm port ld 0 [0x12]) s)) ∧
  (∀ port ld v req s, doeServed s port ld = true → v ≠ 0x12 → req ≠ .getVersion →
    exec (.spdmRequest port ld v req) s = .next (emit (.spdmError port ld spdmVersionMismatch) s)) ∧
  (∀ port ld s, doeServed s port ld = true → (s.lds.get (ldKey port ld)).sessions < 2 → exec (.spdmRequest port ld 0x12 .keyExchange) s =
    .next (emit (.spdm port ld 0 [(Config.spdmValue 20 s.freeCtr).toNat])
      (updLd port ld (fun d => { d with sessions := d.sessions + 1 }) { s with freeCtr := s.freeCtr + 1 }))) ∧
  (∀ slot chain s, doeServed s 0 0 = true → (s.lds.get (ldKey 0 0)).sessions ≠ 0 → (s.seats.get 0).map = some (0, 0) → 1 ≤ slot → slot ≤ 3 →
    chain.length ≤ chainRoom →
    exec (.setCertificate 0 0 slot true chain) s = .next (emit (.spdm 0 0 0 []) { s with certs := s.certs.set slot chain })) ∧
  (∀ port k s, doeServed s port 0 = true → (s.lds.get (ldKey port 0)).sessions ≠ 0 →
    exec (.cxlKeyProg port 0 true k) s = .next (emit (.spdm port 0 0 [k]) (updPort port (fun p => { p with ideProgrammed := some k }) s))) ∧
  (∀ port k s, doeServed s port 0 = true → (s.lds.get (ldKey port 0)).sessions ≠ 0 → (s.ports.get port).ideProgrammed = some k →
    exec (.cxlKSetGo port 0 true k) s =
      .next (emit (.spdm port 0 0 [k]) (updPort port (fun p => { p with ideKey := some k, ideProgrammed := none, needKeys := false }) s))) ∧
  (∀ port k s, doeServed s port 0 = true → (s.lds.get (ldKey port 0)).sessions ≠ 0 → (s.ports.get port).ideKey = some k →
    exec (.cxlKSetStop port 0 true k) s = .next (emit (.spdm port 0 0 [k]) (updPort port (fun p => { p with ideKey := none }) s))) ∧
  (∀ port k s, doeServed s port 0 = true → (s.lds.get (ldKey port 0)).sessions ≠ 0 →
    exec (.cxlQuery port 0 true k) s = .next (emit (.spdm port 0 0 [k, 1, bit (s.ports.get port).ideKey.isSome]) s)) ∧
  (∀ port k s, doeServed s port 0 = true → (s.lds.get (ldKey port 0)).sessions ≠ 0 → exec (.cxlGetkey port 0 true k) s =
    .next (emit (.spdm port 0 0 [k, (Config.spdmValue 15 s.freeCtr).toNat]) { s with freeCtr := s.freeCtr + 1 })) ∧
  (∀ port ld n slot key1 key2 s, doeServed s port ld = true → seatOfLd s port ld = some n → (s.lds.get (ldKey port ld)).sessions ≠ 0 →
    slot ≤ 4095 → keySlotOf s slot = none → key1 < 2 ^ 256 → key2 < 2 ^ 256 → key1 ≠ key2 →
    (s.keySlots.filter fun k => k.owner = n).length < (s.seats.get n).limits.keySlots →
    exec (.keyInstall port ld true slot key1 key2) s = .next (emit (.spdm port ld 0 [0, slot, kcvOf key1])
      { s with keySlots := s.keySlots.filter (fun x => x.slot != slot) ++
          [{ slot := slot, owner := n, loaded := true, key1 := key1, key2 := key2, kcv := kcvOf key1 }] })) ∧
  (∀ port ld n slot k s, doeServed s port ld = true → seatOfLd s port ld = some n → (s.lds.get (ldKey port ld)).sessions ≠ 0 →
    keySlotOf s slot = some k → k.owner = n → (s.regions.any fun r => r.protected_ && decide (r.keySlot = slot)) = false →
    exec (.keyErase port ld true slot) s = .next (emit (.spdm port ld 0 [0, slot, 0])
      { s with keySlots := s.keySlots.filter fun x => x.slot != slot })) ∧
  (∀ port ld n slot s, doeServed s port ld = true → seatOfLd s port ld = some n → (s.lds.get (ldKey port ld)).sessions ≠ 0 →
    exec (.keyQuery port ld true slot) s = .next (emit (.spdm port ld 0 (keyQuery slot n s).2) s))

/-- MCTP, PLDM and the Carmir relay have the effects of §18.7. -/
def Obligations.ManagementMessagesAnswer : Prop :=
  (∀ eid s, s.pwr.stage ≠ .off → 8 ≤ eid → eid ≤ 254 → exec (.mctpControlMessage (.setEndpointId eid)) s =
    .next (emit (.mctp 1 [pldmSuccess, eid]) { s with mgmt := { s.mgmt with eid := eid } })) ∧
  (∀ s, s.pwr.stage ≠ .off → exec (.mctpControlMessage .getEndpointId) s = .next (emit (.mctp 2 [pldmSuccess, s.mgmt.eid]) s)) ∧
  (∀ addr s, s.pwr.stage ≠ .off → s.mgmt.addr = 0 → addr < 128 →
    exec (.i3cAddressAssignment (.entdaa addr)) s = .next { s with mgmt := { s.mgmt with addr := addr } }) ∧
  (∀ addr s, s.pwr.stage ≠ .off → s.mgmt.addr = 0 → addr < 128 →
    exec (.i3cAddressAssignment (.setdasa (0x50 + Config.addrPins.toNat) addr)) s = .next { s with mgmt := { s.mgmt with addr := addr } }) ∧
  (∀ tid s, s.pwr.stage ≠ .off → 1 ≤ tid → tid ≤ 254 →
    exec (.pldmBaseRequest (.setTid tid)) s = .next (emit (.pldm 0 [pldmSuccess]) { s with mgmt := { s.mgmt with tid := tid } })) ∧
  (∀ s, s.pwr.stage ≠ .off → exec (.pldmBaseRequest .getTypes) s = .next (emit (.pldm 0 [pldmSuccess, 0, 2, 5, 63]) s)) ∧
  (∀ reading s, s.pwr.stage ≠ .off → s.dev.recovery = false →
    exec (.pldmSensorRead .vin reading) s = .next (emit (.pldm 2 [pldmSuccess, reading]) s)) ∧
  (∀ reading ev rest s, s.pwr.stage ≠ .off → s.dev.recovery = false → s.dev.fwReady = true → s.pldmQueue = ev :: rest →
    exec (.pldmSensorRead .pollEvent reading) s = .next (emit (.pldm 2 (pldmSuccess :: ev)) { s with pldmQueue := rest })) ∧
  (∀ size s, s.pwr.stage ≠ .off → s.dev.fwReady = true → s.dev.recovery = false → s.flt.writing = none → s.flt.activating = none →
    0 < size → size ≤ 67108864 → exec (.pldmFirmwareUpdate size) s = .next
      (updFlt (fun f => { f with writing := some none }) (updInactive (fun _ => wipeImage size s) { s with freeCtr := s.freeCtr + 1 }))) ∧
  (∀ s, s.pwr.stage ≠ .off → s.dev.fwReady = true → s.dev.recovery = false → s.flt.writing = none → s.flt.activating = none →
    s.flt.restarting = false → (inactiveImage s).valid = true →
    exec .pldmActivateFirmware s = .next (beginActivation none (emit (.pldm 5 [pldmSuccess]) s))) ∧
  (∀ bodyLen tag hostTime cmd s, s.pwr.stage ≠ .off → s.dev.fwReady = true →
    exec (.carmirRelay 3 2 bodyLen tag hostTime cmd) s = .next (relayCmd bodyLen tag hostTime cmd s)) ∧
  (∀ bodyLen tag hostTime code s, s.pwr.stage ≠ .off → s.dev.fwReady = true →
    exec (.carmirRelay 3 2 bodyLen tag hostTime (.other code)) s = .next (relayAnswer tag hostTime (.of .denied) s))

/-- Stores into rings and logit windows land, and the record at the head of a ring is consumed with its effect or its refusal. -/
def Obligations.RingStoresAndStepRecordsAct : Prop :=
  (∀ seat ring slot full data s, seat < 64 → ring < 4 → seatReached s seat = true → (ringOf s seat ring).live = true →
    slot < 2 ^ (ringOf s seat ring).sqLog2 →
    exec (.ringStore seat ring slot full data) s = .next (ringStore seat ring slot full data s)) ∧
  (∀ seat ring b s, seat < 64 → ring < 4 → nextRecord s seat ring = some b → recKind b = 0 →
    exec (.nop seat ring) s = .next (consume seat ring 0 s)) ∧
  (∀ seat ring b s, seat < 64 → ring < 4 → nextOfKind s seat ring (fun k => 6 ≤ k) = some b →
    let u := ringFault seat ring (recSeq b) 6 (ringOf s seat ring).part 0
      (updRing seat ring (fun r => { r with malformed := true }) (consume seat ring 1 s))
    exec (.undefinedKind seat ring) s = .next (complete seat ring
      (compOf (openValue u).2 seat ring (recKind b) .invalid (openValue u).1 0 s.dev.devtime) (openValue u).2)) ∧
  (∀ seat ring b s, seat < 64 → ring < 4 → nextOfKind s seat ring (· == 1) = some b →
    let part := (ringOf s seat ring).part
    let u := wakeTiles (consume seat ring 1 s)
    (holdsOpen u part = true → exec (.stepOpen seat ring) s =
      .next { u with held := u.held ++ [{ seat := seat, ring := ring, part := part, tArrive := s.dev.devtime, record := b }] }) ∧
    (holdsOpen u part = false → exec (.stepOpen seat ring) s = .next (openStep seat ring s.dev.devtime b u))) ∧
  (∀ seat ring b s, seat < 64 → ring < 4 → nextOfKind s seat ring (· == 2) = some b → recordCheck s seat ring 2 b = none →
    exec (.attend seat ring) s = .next (attendEffect seat ring b (consume seat ring 1 s))) ∧
  (∀ seat ring b s, seat < 64 → ring < 4 → nextOfKind s seat ring (· == 3) = some b → recordCheck s seat ring 3 b = none →
    exec (.append seat ring) s = .next (appendEffect seat ring b (consume seat ring 1 s))) ∧
  (∀ seat ring b s, seat < 64 → ring < 4 → nextOfKind s seat ring (· == 4) = some b → recordCheck s seat ring 4 b = none →
    exec (.deliver seat ring) s = .next (takeRecord seat ring (fld b 16 8) 0 b (consume seat ring 1 s))) ∧
  (∀ seat ring b s, seat < 64 → ring < 4 → nextOfKind s seat ring (· == 5) = some b → closeCheck s seat ring b = none →
    exec (.stepClose seat ring) s = .next (closeStep (ringOf s seat ring).part true (consume seat ring 1 s))) ∧
  (∀ seat addr full data h s, seat < 64 → headerOwner s seat addr = some h → seatReached s seat = true →
    exec (.logitHeaderStore seat addr full data) s = .next (headerStore seat addr h full data s))

/-- A record of a step that fails its checks is consumed and completed with its status, and only an INVALID of its own checks is logged (R185). -/
def Obligations.RefusedStepRecordsComplete : Prop :=
  ∀ seat ring k b st log s, seat < 64 → ring < 4 → k ∈ [2, 3, 4] → nextOfKind s seat ring (· == k) = some b →
    recordCheck s seat ring k b = some (st, log) →
    let u := if log then malformed seat ring (recSeq b) (recSubject b) (consume seat ring 1 s) else consume seat ring 1 s
    let done : Host.Outcome State Fault Refusal :=
      .next (complete seat ring (compOf u seat ring k st (fld b 12 2) (recSubject b) s.dev.devtime) u)
    (k = 2 → exec (.attend seat ring) s = done) ∧ (k = 3 → exec (.append seat ring) s = done) ∧
    (k = 4 → exec (.deliver seat ring) s = done)

/-- CXL.mem messages on an LD mapped to a seat act as that seat; without a seat an access answers poison and is recorded. -/
def Obligations.CxlMemMessagesAct : Prop :=
  (∀ port ld addr mv n s, port < 8 → ld < 16 → memReached s port ld = true → seatOfLd s port ld = some n →
    (s.lds.get (ldKey port ld)).ingress = [] → heldUp s port ld n (.read (lineOf addr) (.read mv)) = false →
    exec (.cxlMemRead port ld addr mv) s = .next (memRead n (lineOf addr) (.read mv) s)) ∧
  (∀ port ld addr mv mask data n s, port < 8 → ld < 16 → memReached s port ld = true → seatOfLd s port ld = some n →
    (s.lds.get (ldKey port ld)).ingress = [] →
    heldUp s port ld n (.write (lineOf addr) mv (mask % 2 ^ 64) (padTo 64 data)) = false →
    exec (.cxlMemWrite port ld addr mv mask data) s = .next (memWrite n (lineOf addr) mv (mask % 2 ^ 64) (padTo 64 data) s)) ∧
  (∀ port ld addr mv n s, port < 8 → ld < 16 → memReached s port ld = true → seatOfLd s port ld = some n →
    (s.lds.get (ldKey port ld)).ingress = [] → heldUp s port ld n (.noData (lineOf addr) (.inv mv)) = false →
    exec (.memInv port ld addr mv) s = .next (memNoData n (lineOf addr) (.inv mv) s)) ∧
  (∀ port ld addr n s, port < 8 → ld < 16 → memReached s port ld = true → seatOfLd s port ld = some n →
    (s.lds.get (ldKey port ld)).ingress = [] → heldUp s port ld n (.read (lineOf addr) .readData) = false →
    exec (.memRdData port ld addr) s = .next (memRead n (lineOf addr) .readData s)) ∧
  (∀ port ld addr n s, port < 8 → ld < 16 → memReached s port ld = true → seatOfLd s port ld = some n →
    (s.lds.get (ldKey port ld)).ingress = [] → heldUp s port ld n (.noData (lineOf addr) .evict) = false →
    exec (.memClnEvct port ld addr) s = .next (memNoData n (lineOf addr) .evict s)) ∧
  (∀ port ld addr mv mask data n s, port < 8 → ld < 16 → memReached s port ld = true → seatOfLd s port ld = some n →
    let wait := fun r => updLd port ld (fun d => { d with ingress := d.ingress ++ [r] }) s
    let r := MemReq.read (lineOf addr) (.read mv)
    let w := MemReq.write (lineOf addr) mv (mask % 2 ^ 64) (padTo 64 data)
    ((heldUp s port ld n r = true ∨ (s.lds.get (ldKey port ld)).ingress ≠ []) →
      exec (.cxlMemRead port ld addr mv) s = .next (wait r)) ∧
    ((heldUp s port ld n w = true ∨ (s.lds.get (ldKey port ld)).ingress ≠ []) →
      exec (.cxlMemWrite port ld addr mv mask data) s = .next (wait w))) ∧
  (∀ port ld addr s, port < 8 → ld < 16 → exec (.memSpecRd port ld addr) s = .next s) ∧
  (∀ port ld addr rsp block n s, port < 8 → ld < 16 → memReached s port ld = true → seatOfLd s port ld = some n →
    exec (.birsp port ld addr rsp block) s = .next (biRsp n (lineOf addr) rsp block s)) ∧
  (∀ port ld addr n s, port < 8 → ld < 16 → memReached s port ld = true → seatOfLd s port ld = some n →
    (responseDue s (n, lineOf addr) = false → exec (.biconflict port ld addr) s = .next (emit (.biConflictAck n (lineOf addr)) s)) ∧
    (responseDue s (n, lineOf addr) = true →
      exec (.biconflict port ld addr) s = .next (updCoh (fun c => { c with acks := c.acks ++ [(n, lineOf addr)] }) s))) ∧
  (∀ port ld addr mv s, port < 8 → ld < 16 → memReached s port ld = true → seatOfLd s port ld = none →
    exec (.cxlMemRead port ld addr mv) s =
      .next (if s.flt.sable then sableRecord port (emit (.ldPoison port ld) s)
        else logFault { unit := 4, index := port, event := 11, action := 6, port := port } (emit (.ldPoison port ld) s)))

/-- A pool-set stream entry is applied in its order, and a credit that acknowledges what is in flight is taken. -/
def Obligations.PoolSetMessagesAct : Prop :=
  (∀ member seq entry m s, member < 8 → memberOf s member = some m → apertureOpen s = true → memClosed s = false → seq = m.applied →
    entryWaits entry s = false →
    let u := updMember member (fun x => { x with applied := (x.applied + 1) % 2 ^ 32 }) (serveEntry member seq entry s)
    exec (.poolsetEntry member seq entry) s = .next (cohSettle (match memberOf u member with
      | some x => writeCredit x u
      | none => u))) ∧
  (∀ member seq entry m s, member < 8 → memberOf s member = some m → seq ≠ m.applied →
    exec (.poolsetEntry member seq entry) s = .next s) ∧
  (∀ member value m s, member < 8 → memberOf s member = some m → apertureOpen s = true → m.absent = false →
    (value + 2 ^ 32 - m.credit) % 2 ^ 32 ≤ m.inFlight →
    exec (.poolsetCredit member value) s = .next (takeCredit m (value % 2 ^ 32) s)) ∧
  (∀ member value m s, member < 8 → memberOf s member = some m → m.inFlight < (value + 2 ^ 32 - m.credit) % 2 ^ 32 →
    exec (.poolsetCredit member value) s = .next s)

/-- Forming, leaving and rejoining a pool set, and the ends of what crosses it, act by the rules of chapter 16. -/
def Obligations.PoolSetEventsAct : Prop :=
  (∀ member m s, member < 8 → memberOf s member = some m → m.absent = false →
    (m.waiting.any fun e => !covered m.credit e.1 && e.2.1 + s.pset.setTo * 1000000 ≤ s.dev.devtime) = true →
    exec (.memberAbsent member) s = .next (memberAbsent m s)) ∧
  (∀ s, s.pset.phase = .forming → s.pset.joinOp.isSome = true → s.pset.joinAt + 10000000000 ≤ s.dev.devtime →
    exec .joinTimeout s = .next { endJoin .notReady s with pset := {} }) ∧
  (∀ s, s.pset.phase = .forming →
    exec .poolSetFormed s = .next (endJoin .ok (updSet (fun p => { p with phase := .formed }) s))) ∧
  (∀ member m s, member < 8 → memberOf s member = some m → s.pset.phase = .formed →
    exec (.memberRejoin member) s =
      .next (cohSettle (rejoin m ((m.waiting.map (·.2.2) ++ m.queued).foldl (fun s e => settleAbsent e s) s)))) ∧
  (∀ op found o s, opOf s op = some o → o.kind = .rebuild → s.pset.rebuildOp = some op →
    exec (.rebuildComplete op found) s = .next (finishOp op .ok (updSet (fun p => { p with rebuildOp := none, rebuild := false })
      (restoreAll found s)))) ∧
  (∀ region r m s, regionOf s region = some r → memberOf s (partnerIx s) = some m → m.absent = false → r.mirrored = true →
    r.degraded = true → s.pset.phase = .formed → replicaWaits s region = false → bulkClosed s = false →
    exec (.mirrorResyncComplete region) s = .next (updRegion region (fun r => { r with degraded := false }) (copyReplica r s)))

/-- Link events, resets and global persistent flush of a port act by the rules of chapter 2. -/
def Obligations.PortEventsAct : Prop :=
  (∀ port offer s, port < 8 →
    let p := s.ports.get port
    p.linkUp = false → p.retired = false → s.pwr.held.contains (48 + port) = false → s.dev.portLock / 2 ^ port % 2 ≠ 0 →
    s.dev.recovery = false → 0 < trainWidth p offer → 0 < offer.speed → offer.speed ≤ 6 →
    ∃ t, exec (.linkTrainingComplete port offer) s = .next t ∧ (t.ports.get port).linkUp = true ∧
      (t.ports.get port).width = trainWidth p offer ∧ (t.ports.get port).speed = offer.speed ∧
      (t.ports.get port).cxlMode = (offer.cxl && decide (offer.speed ≤ 4))) ∧
  (∀ port s, port < 8 → (s.ports.get port).linkUp = true →
    exec (.recoveryEntry port) s = .next (logFault { unit := 4, index := port, event := 3, action := 1, port := port } s)) ∧
  (∀ port high hard s, port < 8 → groupUsable s port high = true →
    let c := countFailure { unit := 4, index := port, place := bit high } false s
    ((hard = true ∨ 3 ≤ c.2) → exec (.laneGroupFailure port high hard) s = .next (retireGroup port high c.2 c.1)) ∧
    (hard = false → c.2 < 3 → exec (.laneGroupFailure port high hard) s = .next (logFault
      { unit := 4, index := port, event := 4, count := c.2, action := 1, port := port, location := groupMask high } c.1))) ∧
  (∀ port s, port < 8 → (s.ports.get port).linkUp = true →
    ((s.ports.get port).ideKey.isSome || (s.ports.get port).ioKey.isSome) = true →
    (s.ports.get port).ideFailed = false → exec (.ideIntegrityFailure port) s =
      .next (emit (.aer port) (logFault { unit := 4, index := port, event := 13, action := 6, port := port } (stopForIde port s)))) ∧
  (∀ port s, port < 8 → (s.ports.get port).linkUp = true → exec (.hotReset port) s = .next (resetPort port s)) ∧
  (∀ port s, port < 8 → (s.ports.get port).linkUp = true →
    exec (.linkDisable port) s = .next (updPort port (fun p => { p with disabled := true }) (resetPort port s))) ∧
  (∀ port s, port < 8 → (s.ports.get port).linkUp = true → exec (.surpriseLinkDown port) s = .next (resetPort port s)) ∧
  (∀ port ld n s, port < 8 → ld < 16 → ldReached s port ld = true → seatOfLd s port ld = some n →
    exec (.functionLevelReset port ld) s = .next (seatReset n s)) ∧
  (∀ port ld n s, port < 8 → ld < 16 → ldReached s port ld = true → seatOfLd s port ld = some n →
    exec (.cxlReset port ld) s = .next (seatReset n s)) ∧
  (∀ port s, port < 8 → (s.ports.get port).linkUp = true → exec (.gpfPhase1 port) s = .next (emit (.gpfDone port 1) s)) ∧
  (∀ port s, port < 8 → (s.ports.get port).linkUp = true → s.pwr.gpf.contains port = false →
    exec (.gpfPhase2 port) s = .next (gpfSettle (updPwr (fun p => { p with gpf := p.gpf ++ [port] }) s))) ∧
  (∀ port rest s, s.pwr.gpf = port :: rest →
    exec .gpfPhase2Deadline s = .next (emit (.gpfDone port 2) (updPwr (fun w => { w with gpf := rest }) (programJournal s))))

/-- The start of the device and its resets go through the stages the spec gives them. -/
def Obligations.StartAndResetEventsAct : Prop :=
  (∀ s, s.pwr.vin = false → s.pwr.protOpen = false → exec .standbyStart s = .next (inputBack s)) ∧
  (∀ s, s.pwr.protOpen = true → exec .inputProtectionClose s = .next (inputBack s)) ∧
  (∀ s, s.pwr.pwrEn = false → exec .pwrEnAssert s = .next (tryRamp (updPwr (fun p => { p with pwrEn := true }) s))) ∧
  (∀ s, s.pwr.stage = .ramping →
    (s.pwr.rails < 9 → exec .railGood s = .next (updPwr (fun p => { p with rails := p.rails + 1 }) s)) ∧
    (9 ≤ s.pwr.rails → exec .railGood s = .next (coldWait (if s.dev.nextCause = 4 then 4 else 1) s))) ∧
  (∀ s, s.pwr.stage = .ramping → exec .railStartTimeout s =
    .next (railsOff (updPwr (fun p => { p with startStopped := true })
      (logFault { cls := 1, unit := (rampUnit s.pwr.rails).1, index := (rampUnit s.pwr.rails).2, event := 17 } s)))) ∧
  (∀ s, exec .perstDeassert s = .next (tryStart (updPwr (fun p => { p with perst := false }) s))) ∧
  (∀ s, s.dev.coldDue = true → exec .coldReset s = .next (tryStart s)) ∧
  (∀ s, s.pwr.stage = .up → s.dev.recovery = false →
    exec .perstAssert s = .next (beginWarm 5 (updPwr (fun p => { p with perst := true }) s))) ∧
  (∀ s, s.pwr.stage = .saving → exec .warmResetSaveComplete s = .next (endSave s)) ∧
  (∀ s, s.pwr.pwrEn = true →
    let u := updPwr (fun p => { p with pwrEn := false, startStopped := false, fatalOff := false }) s
    (live u = true → exec .pwrEnDeassert s = .next (beginFlush .pwrEn true false u)) ∧
    (live u = false → flushing u = false → u.pwr.stage ≠ .off → exec .pwrEnDeassert s = .next (railsOff u))) ∧
  (∀ s, s.pwr.stage = .up → s.dev.refclkOk = true →
    exec .rootPllLock s = .next (updDev (fun d => { d with rootLock := true, rootRosc := false }) s)) ∧
  (∀ s, s.pwr.stage = .up → s.dev.rootLock = true →
    exec .portPllLock s = .next (updDev (fun d => { d with portLock := 255 }) s)) ∧
  (∀ s, s.pwr.stage = .up → s.dev.recovery = false → s.dev.rootLock = true →
    (reloadDue s = true → exec .fwReady s = .next (serveFirmware (reload s))) ∧
    (reloadDue s = false → s.dev.fwReady = false → exec .fwReady s = .next (serveFirmware s))) ∧
  (∀ s, s.pwr.stage = .up → s.dev.portLock ≠ 0 → s.dev.recovery = false → s.dev.memActive = false →
    exec .memoryActive s = .next (retireHard (updDev (fun d => { d with memActive := true }) s))) ∧
  (∀ s, s.dev.memActive = true → s.dev.mapReady = false →
    exec .mapReady s = .next (updDev (fun d => { d with mapReady := true }) s)) ∧
  (∀ s, s.dev.fwReady = true → s.dev.memActive = true → s.dev.mapReady = true → s.dev.admitOpen = false → s.flt.sable = false →
    exec .admitOpen s = .next (noticeAll { kind := 0x81 } (updDev (fun d => { d with admitOpen := true }) s))) ∧
  (∀ s, s.dev.memActive = true → s.dev.mapReady = true → s.flt.sable = false → (s.swap.any (·.restore)) = true →
    (∀ id rest, s.dev.restoreRegions = id :: rest →
      let u := updRegion id (fun r => { r with st := .held }) (readHomes (mappedHomes s (homeOfRegion id)) s)
      exec .restoreComplete s = .next (releaseWrites (nextRestore { u with dev := { u.dev with restoreRegions := rest } }))) ∧
    (∀ p rest, s.dev.restoreRegions = [] → s.dev.restoreParts = p :: rest → exec .restoreComplete s =
      .next (releaseWrites (nextRestore (partRestored p { s with dev := { s.dev with restoreParts := rest } })))) ∧
    (s.dev.restoreRegions = [] → s.dev.restoreParts = [] → exec .restoreComplete s = .next { s with swap := none }))

/-- Losing the input or a bus begins a flush, a flush goes through its phases, and the reference clock is watched. -/
def Obligations.FlushAndClockEventsAct : Prop :=
  (∀ high s, s.pwr.vin = true → exec (.inputLossTrigger high) s = .next (inputLost (updPwr (fun p => { p with vin := false, protOpen := high }) s))) ∧
  (∀ s, live s = true → exec .busUndervoltage s = .next (inputTrigger (busLoss { s with freeCtr := s.freeCtr + 1 }))) ∧
  (∀ frames x s, s.pwr.flush = some x → s.pwr.stage = .flushData → x.full = true →
    exec (.flushDataPhaseEnd frames) s = .next (endData x frames s)) ∧
  (∀ x s, s.pwr.flush = some x →
    (x.full = true → s.pwr.stage = .flushMeta → exec .flushComplete s = .next (afterFlush x (bootRecord s))) ∧
    (x.full = false → flushing s = true → exec .flushComplete s =
      .next (afterFlush x (updDev (fun d => { d with bootFlush := false, flushFailed := false }) (programJournal s))))) ∧
  (∀ s, flushing s = true →
    exec .flushRefclkLoss s = .next (updDev (fun d => { d with rootRosc := true, rootLock := false, refclkOk := false }) s)) ∧
  (∀ s, s.dev.refclkOk = true → flushing s = false →
    let u := updDev (fun d => { d with refclkOk := false }) s
    exec .refclkLoss s = .next (if s.pwr.stage = .up then refclkLost u else u)) ∧
  (∀ s, exec .refclkReturn s = .next (tryStart (updDev (fun d => { d with refclkOk := true }) s)))

/-- The hold-up pack, its charge and its capacity test act by the rules of chapter 14. -/
def Obligations.HoldupEventsAct : Prop :=
  (∀ s, s.hup.present = true →
    exec (.packPoll none) s = .next (judgePack (updHup (fun h => { h with healthy := false }) s))) ∧
  (∀ r s, s.hup.present = true → exec (.packPoll (some r)) s = .next (judgePack (updHup (fun h => { h with
    healthy := readingOk r, temp := ofInt 8 r.tempHigh, serial := r.serial, rated := r.rated, chargeRange := tempsWithin r 0 50 }) s))) ∧
  (∀ e s, s.hup.present = true →
    let u := updHup (fun h => { h with eStored := e }) s
    (s.hup.chg = .ready → 100 * e ≤ 98 * s.hup.eCap → exec (.holdupMeasurement e) s =
      .next (setCeiling (updHup (fun h => { h with chg := .charging, stopped := false }) u))) ∧
    (s.hup.chg ≠ .ready → exec (.holdupMeasurement e) s = .next (setCeiling u)) ∧
    (98 * s.hup.eCap < 100 * e → exec (.holdupMeasurement e) s = .next (setCeiling u))) ∧
  (∀ s, s.hup.present = false → exec .packInsert s = .next (clearCause 12 (startTest none
    (updHup (fun h => { h with present := true, healthy := true, tested := false, low := false, eCap := 0, eStored := 0 }) s)))) ∧
  (∀ written s, s.hup.present = true → s.pwr.flush = none → exec (.packRemove written) s = .next (packGone s)) ∧
  (∀ written x s, s.hup.present = true → s.pwr.flush = some x → x.full = true → s.pwr.vin = false → s.pwr.stage = .flushData →
    exec (.packRemove written) s = .next (flushFails x (packGone (flushFrames ((flushOrder s).take written) s)))) ∧
  (∀ s, s.hup.present = true → s.hup.stopped = false → s.hup.chargeRange = true →
    (s.hup.chg = .charging → exec .chargeComplete s = .next (updHup (fun h => { h with chg := .ready }) s)) ∧
    (s.hup.chg = .testing → s.hup.step = .charge → exec .chargeComplete s = .next (updHup (fun h => { h with step := .rest }) s))) ∧
  (∀ s, (s.hup.chg = .charging ∨ s.hup.chg = .testing ∧ s.hup.step = .charge) →
    exec .chargerCurrentLoss s = .next (updHup (fun h => { h with stopped := true }) s)) ∧
  (∀ s, s.hup.present = true → (s.hup.chg = .charging ∨ s.hup.chg = .ready) → s.hup.lastTest + periodSeconds s ≤ s.dev.parkClock →
    exec .testDue s = .next (startTest none s)) ∧
  (∀ s, s.hup.chg = .testing → s.hup.step = .rest →
    exec .testRestEnd s = .next (updHup (fun h => { h with step := .discharge }) s)) ∧
  (∀ energy s, s.hup.chg = .testing → s.hup.step = .discharge →
    let u := updHup (fun h => { h with
      chg := .charging, step := .waiting, eCap := energy, tested := true, lastTest := s.dev.parkClock, low := energy < 643000 }) s
    (energy < 643000 → exec (.testDischargeEnd energy) s =
      .next (endTestOp .ok (packFaulted (causeFault 14 { cls := 1, unit := 11, event := 19, detail := energy / 1000 } u)))) ∧
    (643000 ≤ energy → energy < 2880000 → exec (.testDischargeEnd energy) s =
      .next (endTestOp .ok (setCeiling (causeFault 14 { cls := 1, unit := 11, event := 19, detail := energy / 1000 } u)))) ∧
    (2880000 ≤ energy → exec (.testDischargeEnd energy) s = .next (endTestOp .ok (setCeiling (clearCause 14 u)))))

/-- Temperatures, converters, rails, phases, throttling and over-current act by chapters 18 and 19. -/
def Obligations.PowerProtectionEventsAct : Prop :=
  (∀ location s, location < 3 →
    exec (.overTemperature location) s =
      .next (fatal true false { unit := 14, index := location, event := 9, detail := (openValue s).1 } (openValue s).2)) ∧
  (∀ bc s, bc < 2 → s.pwr.bcLost.contains bc = false → exec (.converterLoss bc) s =
    .next (fatal true true { unit := 10, index := bc, event := 17 } (updPwr (fun p => { p with bcLost := p.bcLost ++ [bc] }) s))) ∧
  (∀ rail high s, rail < 9 → (high = true → rail = 0) → exec (.railOutOfWindow rail high) s =
    .next (fatal true false { unit := 9, index := rail, event := 17, detail := (openValue s).1 } (openValue s).2)) ∧
  (∀ phase s, phase < 120 → s.pwr.phasesOff.contains phase = false →
    let u := causeFault 10 { cls := 1, unit := 8, index := phase, event := 15, action := 3 }
      (updPwr (fun p => { p with phasesOff := p.phasesOff ++ [phase] }) s)
    exec (.phaseFault phase) s = .next (if phasesShort u then fatal true true { unit := 8, index := phase, event := 17 } u else u)) ∧
  (∀ region s, region < 58 → s.pwr.stage = .up → s.pwr.throttled.contains region = false → exec (.throttleEngage region) s =
    .next (logFault { unit := 3, index := region, event := 7, action := 4, detail := (openValue s).1 }
      (updPwr (fun p => { p with throttled := p.throttled ++ [region], winThrottle := true }) (openValue s).2))) ∧
  (∀ region s, region < 58 →
    exec (.throttleRelease region) s = .next (updPwr (fun p => { p with throttled := p.throttled.filter (· != region) }) s)) ∧
  (∀ region s, region < 58 → s.pwr.stage = .up ∨ flushing s = true → s.pwr.held.contains region = false →
    s.pwr.failed.contains region = false →
    let c := countFailure (regionLoc region) false s
    (c.2 < 3 → exec (.overCurrentTrip region) s = .next (tripRegion region c.2 c.1)) ∧
    (3 ≤ c.2 → 56 ≤ region → exec (.overCurrentTrip region) s = .next (failRegion region c.2 c.1)) ∧
    (3 ≤ c.2 → region < 56 → exec (.overCurrentTrip region) s = .next (failRegion region c.2
      (updPwr (fun p => { p with winTrip := true }) c.1)))) ∧
  (∀ region s, region < 58 →
    exec (.tripHoldEnd region) s = .next (updPwr (fun p => { p with held := p.held.filter (· != region) }) s))

/-- Idle gating, telemetry, usage counters, tenants, the park clock and its expiries act at their times. -/
def Obligations.IdleTelemetryAndClockEventsAct : Prop :=
  (∀ s, s.pwr.stage = .up → s.dev.memActive = true → idleGate s = true → deviceIdle s = true → s.svc.gate = .usable →
    s.svc.idleSince + 1000 * idleUs s ≤ s.dev.devtime → exec .idleGateTimeout s = .next { s with svc := { s.svc with gate := .gated } }) ∧
  (∀ s, s.svc.gate = .waking → exec .tileWakeComplete s =
    .next (pump (updPwr (fun p => { p with winWake := true }) { s with svc := { s.svc with gate := .usable } }))) ∧
  (∀ currents s, s.pwr.stage = .up → (s.tel.window + 1) * 10 ^ 6 ≤ s.dev.devtime →
    let n := s.dev.devtime / 10 ^ 6 - 1
    let cs := (List.range 9).map fun i => min 65535 (currents.getD i 0)
    let r := ((n + 1) * 10 ^ 6, telFlags s cs, n % 2 ^ 32, cs)
    exec (.telemetryWindowEnd currents) s = .next (telRingWrite n (telBytes r)
      (updPwr (fun p => { p with winThrottle := !p.throttled.isEmpty, winTrip := false, winWake := false })
        { s with tel := { s.tel with window := n + 1, latest := some r } }))) ∧
  (∀ port occupancy s, port < 8 → exec (.devloadSample port occupancy) s =
    .next (updPort port (fun p => { p with samples := (min (max occupancy (heldIngress s port)) 1024 :: p.samples).take (sampleCount p) }) s)) ∧
  (∀ port s, port < 8 → exec (.collectionIntervalEnd port) s = .next ((List.range 16).foldl (fun s l =>
    drainIngress port l (updLd port l (fun d => { d with usage := max d.rdBytes d.wrBytes, rdBytes := 0, wrBytes := 0 }) s)) s)) ∧
  (∀ s, s.dev.admitOpen = true → exec .tenantRefill s =
    .next { s with tenants := { s.tenants with cells := s.tenants.cells.map fun c => (c.1, c.2.refill) } }) ∧
  (∀ s, let n := (s.dev.parkClock + 1) % 2 ^ 48
    exec .parkClockSecond s = .next { s with dev := { s.dev with parkClock := n
                                                                 parkClockPersist := if n ≤ s.dev.parkClockPersist then s.dev.parkClockPersist
                                                                   else ceilDiv n 64 * 64 } }) ∧
  (∀ s, s.dev.memActive = true → exec .parkExpiry s = .next ((s.parks.filter (parkExpired s)).foldl
    (fun s k => postNotice k.seat (expiredNotice k) (freePark k s)) s)) ∧
  (∀ s, exec .claimLapse s = .next { s with claims := s.claims.filter fun c => s.dev.devtime < c.lapse })

/-- The service of items, draws and the step boundary go on by chapters 6, 9 and 10. -/
def Obligations.AttentionServiceEventsAct : Prop :=
  (∀ p i it s, s.svc.inService = some (p, i) → itemOf s p i = some it → it.rec? = none →
    it.since + 1000 * (s.parts.get p).step.waitUs ≤ s.dev.devtime →
    canComplete s (s.parts.get p).step.ownerSeat (s.parts.get p).step.ownerRing 1 = true →
    exec .itemExpiry s = .next (pump (expireItem p i s))) ∧
  (∀ h it s, arraysHalted s = false → stagingHalf s = some h → itemOf s h.part h.idx = some it →
    let bad := (passOf s h.part it h.pass).any fun r => sliceDamaged s h.part it.layer (reachSlot s it.handle r)
    let u := if bad then updItem h.part h.idx (fun it => { it with bad := true }) s else s
    exec .stagingComplete s =
      .next (pump { u with svc := { u.svc with halfA := readyHalf h u.svc.halfA, halfB := readyHalf h u.svc.halfB } })) ∧
  (∀ p i it s, arraysHalted s = false → s.svc.inService = some (p, i) → itemOf s p i = some it → (s.parts.get p).step.deliver = false →
    it.started.isSome = true → it.ending = none → it.record = none → passReady s p i it.passes = true →
    let u := updItem p i (fun it => { it with passes := it.passes + 1 }) (freePass p i it.passes s)
    exec .itemComputeComplete s = .next (pump (if it.passes + 1 < itemPasses u p it then u else writeResult p i it u))) ∧
  (∀ p i it w s, pushing s = some (p, i, it) → hbmHalted s = false →
    ((List.range (itemAll s p it)).any fun r => sliceDamaged s p it.layer (reachSlot s it.handle r)) = false →
    windowOf s (s.parts.get p).step.ownerSeat (s.parts.get p).step.window = some w → it.ports ≠ [] →
    let t := pushSlices w it p s
    ((it.ports.any fun q => !carriesPeer s q) = false → exec .deliverPushComplete s = .next (pump (endItem p i .ok t))) ∧
    ((it.ports.any fun q => !carriesPeer s q) = true → exec .deliverPushComplete s =
      .next (pump (leaveItem p i (releaseSpace (s.parts.get p).step.ownerSeat (s.parts.get p).step.ownerRing t))))) ∧
  (∀ p i it s, pushing s = some (p, i, it) → hbmHalted s = false →
    ((List.range (itemAll s p it)).any fun r => sliceDamaged s p it.layer (reachSlot s it.handle r)) = true →
    exec .deliverPushComplete s = .next (pump (readerFault (endItem p i .invalid s) p it.handle 2 .invalid))) ∧
  (∀ p i it s, pushing s = some (p, i, it) → hbmHalted s = false →
    ((List.range (itemAll s p it)).any fun r => sliceDamaged s p it.layer (reachSlot s it.handle r)) = false →
    windowOf s (s.parts.get p).step.ownerSeat (s.parts.get p).step.window = none ∨ it.ports = [] →
    exec .deliverPushComplete s = .next (pump (readerFault (endItem p i .invalid s) p it.handle 11 .invalid))) ∧
  (∀ d rest x s, s.draws = d :: rest → s.dev.memActive = true → s.flt.sable = false →
    canComplete s (s.parts.get d.part).step.ownerSeat (s.parts.get d.part).step.ownerRing 1 = true → windowHeld s d.handle = false → clearHeld s d.handle = false →
    (drawOutcome s d).1 = some x → holdsWrite s true (countFrame d.handle x.token) = false →
    exec .draw s = .next (endDraw d x { s with draws := rest })) ∧
  (∀ d rest s, s.draws = d :: rest → s.dev.memActive = true → s.flt.sable = false →
    canComplete s (s.parts.get d.part).step.ownerSeat (s.parts.get d.part).step.ownerRing 1 = true → windowHeld s d.handle = false → clearHeld s d.handle = false →
    (drawOutcome s d).1 = none →
    let u := noToken d.part d.handle .invalid s.dev.devtime { s with draws := rest }
    exec .draw s = .next (if (drawOutcome s d).2 then readerFault u d.part d.handle 2 .invalid else u)) ∧
  (∀ part s, part < 16 → boundaryDue s part = true → exec (.stepBoundary part) s = .next (boundary part s)) ∧
  (∀ part s, part < 16 → boundaryDue s part = false → stepDone s part = true → boundarySpace s part = true →
    exec (.stepBoundary part) s = .next (askComps (s.parts.get part).step.ownerSeat (s.parts.get part).step.ownerRing
      ((missingAppends (s.parts.get part)).length + 1) s)) ∧
  (∀ s, deviceIdle s = true → globalPending s = true → exec .idleCommit s = .next (idleCommit s))

/-- Calibration, scrubbing, write-back, programming, wear and failures of HBM and flash act by chapters 11, 13 and 19. -/
def Obligations.FlashEventsAct : Prop :=
  (∀ stack s, stack < 8 → s.flash.recalDue.get stack + 6000000000 ≤ s.dev.devtime → exec (.hbmRecalDeadline stack) s =
    .next { s with flash := { s.flash with recalDue := s.flash.recalDue.set stack (s.dev.devtime + 24000000000) } }) ∧
  (∀ channel s, channel < 32 → s.flash.calLast.get channel + 30000000000 ≤ s.dev.devtime → exec (.flashCalDeadline channel) s =
    .next { s with flash := { s.flash with calLast := s.flash.calLast.set channel s.dev.devtime } }) ∧
  (∀ stack s, stack < 8 → s.dev.memActive = true →
    let x := hbmPass s stack
    let reached := ((scrubNext s stack x.1 x.2.1 stackBlocks).map (· + 1)).getD x.2.1
    exec (.hbmPatrolScrub stack) s =
      .next { s with flash := { s.flash with hbmScrub := s.flash.hbmScrub.set stack (x.1, reached, x.2.2) } }) ∧
  (∀ f u x pos s t, s.dev.memActive = true → s.pwr.held.contains 57 = false → hbmHalted s = false → nextWriteBack s = some f →
    unitOfFrame s f.key = some (u, x) →
    let v := giveUnit u s
    let unit := (unitNo v u).getD 0
    let q := progOf v u unit 0
    place false false unit q.len (parityProgram false u (memBytes q.data 0 65536) v) = some (t, pos) →
    let w := readForWb (framesOfUnit t u) t
    exec .writebackUnit s = .next { w with flash := { w.flash with inflight := w.flash.inflight ++ [{ q with pos := pos }] } }) ∧
  (∀ idx q s, s.flash.inflight[idx]? = some q → parityWaits s q.key = false →
    let fs := framesOfUnit s q.key
    let u := programDone q { s with flash := { s.flash with inflight := s.flash.inflight.eraseIdx idx } }
    exec (.flashProgramComplete idx) s = .next (gpfSettle (releaseWrites { u with frames :=
      (u.frames.map fun g => if fs.contains g.key then { g with wb := false } else g).filter fun g => g.dirty || g.wb }))) ∧
  (∀ idx q s, s.flash.inflight[idx]? = some q →
    let u := dirtyAgain q { s with flash := { s.flash with inflight := s.flash.inflight.eraseIdx idx } }
    (parityIndex u q.key = none → exec (.flashProgramFail idx) s = .next (retireBlock (laneOf q.unit) (q.pos / 65536) u)) ∧
    (∀ k, parityIndex u q.key = some k → exec (.flashProgramFail idx) s = .next (retireBlock (laneOf q.unit) (q.pos / 65536)
      (sendDelta k (memBytes q.data 0 65536) (parityView u q.key) u)))) ∧
  (∀ lane block s, lane < 992 → block < 3724 → goodBlock s lane block = true →
    exec (.flashEraseFail lane block) s = .next (retireBlock lane block s)) ∧
  (∀ idx m s, s.flash.map[idx]? = some m → m.lost = false → exec (.flashReadUncorrectable idx) s = .next
    (loseUnits (fun x => x.unit = m.unit) (logFault { unit := 7, index := laneOf m.unit, event := 2, location := m.unit } s))) ∧
  (∀ lane block found s, lane < 992 → block < 3724 → ((s.flash.lanes.get lane).blocks.get block).st = .closed →
    refreshDue s ((s.flash.lanes.get lane).blocks.get block) found = true →
    exec (.blockRefresh ⟨lane, block⟩ found) s = .next (relocate lane block s)) ∧
  (∀ channel found s, channel < 32 →
    let u := if (s.flash.scrub.get channel).2.2 + 604800 ≤ s.dev.parkClock then nextFlashPass channel s else s
    let x := u.flash.scrub.get channel
    let bs := channelBlocks u channel
    (∀ k lane, scrubNext u (256 + channel) x.1 x.2.1 (bs.map (·.1)) = some k → lookupKey (k % 2 ^ 20) bs = some lane →
      exec (.flashPatrolScrub channel found) s = .next (updBlk lane (k % 2 ^ 20 % 3724)
        (fun b => { b with reads := b.reads + 4064, refresh := b.refresh || found })
        { u with flash := { u.flash with scrub := u.flash.scrub.set channel (x.1, k + 1, x.2.2) } })) ∧
    (scrubNext u (256 + channel) x.1 x.2.1 (bs.map (·.1)) = none → exec (.flashPatrolScrub channel found) s = .next u)) ∧
  (∀ lane b s, lane < 992 →
    let er := fun k => ((s.flash.lanes.get lane).blocks.get k).erase
    leastBlock er (blocksIn s lane .closed) = some b → er b + 200 < ((goodBlocks s lane).map er).foldl max 0 →
    exec (.staticLevelling lane) s = .next (relocate lane b s)) ∧
  (∀ s, exec .journalPageFlush s = .next (programJournal s)) ∧
  (∀ s, s.flash.ckpt = none → (if s.tier.flushMode then 2 ^ 30 else 2 ^ 27) ≤ s.flash.jSince →
    exec .mapCheckpoint s = .next (startCheckpoint s)) ∧
  (∀ n s, s.flash.ckpt = some n →
    let u := ((List.range 992).filter fun l => (s.flash.lanes.get l).cond != .dead).foldl (fun s l => takeSysBlock l s) s
    exec .mapCheckpointComplete s =
      .next (releaseWrites { u with flash := { u.flash with ckpt := none, jSince := u.flash.jSince - n } })) ∧
  (∀ channel s, channel < 32 → s.flash.failed.contains channel = false →
    let c := countFailure { unit := 6, index := channel, place := 0 } false s
    exec (.channelFailure channel .noDie) s = .next (failChannel channel true c.2 c.1) ∧
    (3 ≤ c.2 → exec (.channelFailure channel .error) s = .next (failChannel channel false c.2 c.1)) ∧
    (c.2 < 3 → exec (.channelFailure channel .error) s = .next
      (logFault { unit := 6, index := channel, event := 4, count := c.2, action := 1, location := 255 } c.1))) ∧
  (∀ channel die lane s, channel < 32 → s.flash.failed.contains channel = false → laneOfDie s channel die = some lane →
    let u := causeFault 7 { cls := 1, unit := 7, index := lane, event := 6, count := 1, action := 3, location := 0xFFFFFFFF } s
    exec (.channelFailure channel (.die die)) s = .next (evacuate (laneDie u lane).1 true [lane] u)) ∧
  (∀ lane s, lane < 992 → (s.flash.lanes.get lane).cond = .evacuating →
    let move := fun (x : Option State) (m : MapEnt) => x.bind fun s => (place true false m.unit m.len s).map fun y => moveEntry m.unit y.2 y.1
    let moved := (s.flash.map.filter fun m => m.old && !m.lost && laneOf m.unit = lane).foldl move (some s)
    (∀ u, moved = some u → ∃ t, exec (.laneEvacuationComplete lane) s = .next t ∧ (t.flash.lanes.get lane).cond = .live) ∧
    (moved = none → exec (.laneEvacuationComplete lane) s = .next s))

/-- Memory and array errors, watchdogs, fatal events and firmware time limits act by chapters 18, 20 and 21. -/
def Obligations.ErrorEventsAct : Prop :=
  (∀ stack pc bank row place cor s, stack < 8 → pc < 32 → hbmRowOk (stack * 32 + pc) bank row = true →
    pcServes s (stack * 32 + pc) = true →
    exec (.hbmError stack pc bank row place cor) s = .next (hbmError false (stack * 32 + pc) bank row place cor s)) ∧
  (∀ place k u n m s, placeFrame s place = some k → s.dev.memActive = true → s.dev.mapReady = true → frameDamaged s k = true →
    isClean s k = true → unitOfFrame s k = some (u, n) → mapOf s u = some m → m.lost = false →
    let fs := framesOfUnit s u
    exec (.frameRepair place) s = .next ((fs.zip (List.range fs.length)).foldl (fun s x => repairFrame m x s) s)) ∧
  (∀ pc s, pc < 256 → s.dev.memActive = true → s.flt.retiringPcs.contains pc = true → s.acct.frames ≤ frameLimit s →
    exec (.pcRetirementCopyEnd pc) s = .next (updFlt (fun f => { f with
      retiringPcs := f.retiringPcs.filter (· != pc), retiredPcs := f.retiredPcs ++ [pc] }) s)) ∧
  (∀ tile row s, tile < 320 → row < 1024 →
    (tileServes s tile = true →
      exec (.tileArrayError tile row .corrected) s = .next (tileError false tile row true s) ∧
      exec (.tileArrayError tile row .uncorrectable) s = .next (tileError false tile row false s)) ∧
    (s.pwr.stage = .up → s.dev.memActive = false → s.dev.recovery = false → s.flt.retiredTiles.contains tile = false →
      exec (.tileArrayError tile row .selfTest) s = .next (retireTile tile { unit := 2, index := tile, event := 18 } s))) ∧
  (∀ core s, core < 4 → s.pwr.stage = .up → s.dev.recovery = false →
    let c := countFailure { unit := 13, index := core, place := 0 } false s
    (c.2 < 3 → exec (.coreWatchdog (.core core)) s =
      .next (beginRestart 0 (logFault { unit := 13, index := core, event := 5, count := c.2, action := 7 } c.1))) ∧
    (3 ≤ c.2 → exec (.coreWatchdog (.core core)) s = .next (fatal true true { unit := 13, index := core, event := 5, count := c.2 } c.1))) ∧
  (∀ s, s.pwr.stage = .up → s.dev.recovery = false →
    let c := countFailure { unit := 0, index := 0, place := 1 } false s
    (c.2 < 3 → exec (.coreWatchdog .parser) s = .next (logFault { unit := 0, event := 3, count := c.2, action := 1 } c.1)) ∧
    (3 ≤ c.2 → c.1.glb.parserRetired = false →
      let u := causeFault 11 { cls := 1, unit := 0, event := 3, count := c.2, action := 3 } c.1
      exec (.coreWatchdog .parser) s =
        .next (idleCommit { u with glb := { u.glb with parserRetired := true, hwparsePend := some false } }))) ∧
  (∀ k entry s, k < 68 → s.pwr.stage = .up → s.dev.recovery = false →
    let c := countFailure { unit := 12, index := k, place := entry } false s
    let loss : FaultEv := { unit := 12, index := k, event := 2, location := entry }
    let corrected : FaultEv := { unit := 12, index := k, event := 1, count := c.2, action := 2, location := entry }
    let single : FaultEv := { cls := 1, unit := 12, index := k, event := 1, count := c.2, action := 3, location := entry }
    ((s.flt.singleCopy.any fun x => x.1 = k) = true → exec (.coreWatchdog (.sramCopy k entry)) s = .next (fatal false false loss s)) ∧
    ((s.flt.singleCopy.any fun x => x.1 = k) = false → c.2 < 3 →
      exec (.coreWatchdog (.sramCopy k entry)) s = .next (logFault corrected c.1)) ∧
    ((s.flt.singleCopy.any fun x => x.1 = k) = false → 3 ≤ c.2 → exec (.coreWatchdog (.sramCopy k entry)) s =
      .next (causeFault 15 single (updFlt (fun f => { f with singleCopy := f.singleCopy ++ [(k, entry)] }) c.1)))) ∧
  (∀ k user s, 68 ≤ k → k < 71 → s.pwr.stage = .up → s.dev.recovery = false →
    let c := countFailure { unit := 12, index := k, place := 0 } false s
    (3 ≤ c.2 → exec (.coreWatchdog (.sram k (some user))) s = .next (fatal true true { unit := 12, index := k, event := 2, count := c.2 } c.1)) ∧
    (c.2 < 3 → exec (.coreWatchdog (.sram k (some user))) s =
      .next (failUser user (logFault { unit := 12, index := k, event := 2, count := c.2, action := 6 } c.1)))) ∧
  (∀ s, exec .failureExpiry s = .next (updFlt (fun f => { f with
    failures := (f.failures.map fun x => (x.1, unexpired s x.2)).filter (fun x => !x.2.isEmpty)
    fatalTimes := unexpired s f.fatalTimes }) s)) ∧
  (∀ kind index location x s, fatalKind kind index location = some x → kind ≠ 6 →
    exec (.fatalEvent kind index location) s = .next (fatal x.1 x.2.1 x.2.2 s)) ∧
  (∀ index location x s, fatalKind 6 index location = some x →
    exec (.fatalEvent 6 index location) s = .next (fatal x.1 x.2.1 x.2.2 (updFlt (fun f => { f with hardPc := some index }) s))) ∧
  (∀ s, s.flt.activating.isSome = true → s.flt.newImage = true → s.dev.fwReady = false →
    s.flt.restartAt + 2000000000 ≤ s.dev.devtime → exec .activationTimeout s =
    .next (updFlt (fun f => { f with activeB := !f.activeB, newImage := false })
      (logFault { unit := 18, index := bit s.flt.activeB, event := 20, action := 7 } s))) ∧
  (∀ s, s.dev.fwReady = true → s.flt.newImage = false → s.flt.activeSince + 3600 ≤ s.dev.parkClock →
    exec .svnCommit s = .next (updFlt (fun f => { f with minSvn := max f.minSvn (activeImage s).svn }) s)) ∧
  (∀ s, s.flt.restarting = true → s.dev.fwReady = true → s.flt.restartAt + 5000000000 ≤ s.dev.devtime →
    exec .firmwareRestartTimeout s = .next (reload (if restartWaits s then endOps s else s))) ∧
  (∀ image w s, s.flt.writing = some w →
    let st := imageStatus s image
    let u := updFlt (fun f => { f with writing := none })
      (if s.dev.recovery then updFlt (fun f => { f with imageA := verifiedImage st image f.imageA }) s
       else updInactive (verifiedImage st image) s)
    exec (.firmwareWriteComplete image) s = .next (match w with
      | some n => finishOp n st u
      | none => emit (.pldm 5 [st.code]) u))

/-- Swaps, parks, pulls, copies, prefix operations, digests and counts end by the rules of their chapters. -/
def Obligations.SwapParkAndCopyOperationsEnd : Prop :=
  (∀ w s t, s.swap = some w → w.out = true → s.dev.memActive = true → flashClosed s = false →
    (s.parts.get w.part).state = .swappingOut → swapOutEnd w s = some t → exec .swapOutComplete s = .next t) ∧
  (∀ w s, s.swap = some w → w.out = false → w.restore = false → s.dev.memActive = true → flashClosed s = false →
    (s.parts.get w.part).state = .swappingIn →
    exec .swapInComplete s = .next (swapInEnd w s)) ∧
  (∀ op o h ttl release s t, opOf s op = some o → o.kind = .park h ttl release → bulkTurn s (parkReady s) op = true →
    parkEnd o h ttl release s = some t → exec (.parkComplete op) s = .next t) ∧
  (∀ op o h t k s, opOf s op = some o → o.kind = .unpark h t →
    (if t = 0 then parkOfHandle s h else s.parks.find? fun p => p.ticket = some t) = some k → bulkTurn s (unparkReady s) op = true →
    exec (.unparkComplete op) s = .next (unparkEnd o h k s)) ∧
  (∀ op data p o s u, s.pulls.find? (fun p => p.op = op) = some p → opOf s op = some o → writePull p data s = some u →
    exec (.pullComplete op data) s = .next (finishOp op .ok { u with pulls := u.pulls.filter fun q => q.op != op })) ∧
  (∀ op p s, s.pulls.find? (fun p => p.op = op) = some p → exec (.peerReadFailure (.op op)) s = .next (finishOp op .invalid
    (logFault { unit := 5, index := p.seat, event := 6, action := 6, seat := p.seat, tag := (Config.opid op).toNat
                detail := Status.invalid.code } { s with pulls := s.pulls.filter fun q => q.op != op }))) ∧
  (∀ s, exec (.peerReadFailure .item) s = .next (failFlush s)) ∧
  (∀ h s t, handleCurrent s h = true → s.dev.memActive = true → s.flt.sable = false → endCow h s = some t →
    exec (.cowCopyComplete h) s = .next t) ∧
  (∀ op o s, opOf s op = some o → o.kind.isDelta = true → s.dev.memActive = true → s.flt.sable = false →
    let u := finishDelta op (deltaRounds (o.kind.turns s.nodes.length) op s)
    exec (.prefixOperationComplete op) s = .next (match o.kind.deltaPart with
      | some p => tryStartSwapOut p u
      | none => u)) ∧
  (∀ part d s, part < 16 → bulkClosed s = false → nextDigest s part = some d →
    exec (.digestBuild part) s = .next (updPart part (fun p => { p with digestValid := p.digestValid ++ [d] }) s)) ∧
  (∀ op o h count list w s, opOf s op = some o → o.kind = .loadCounts h count list → words32 s o.seat list count = some w →
    s.draws = [] → s.dev.memActive = true → clearHeld s h = false → loadLost s h = none →
    ((w.filter (· < 524288)).any fun t => holdsWrite s true (countFrame h t)) = false →
    hdmDamaged s o.seat list (4 * count) = false →
    let r := recordList (rtOf s h).counts w
    exec (.loadCountsComplete op) s = .next (finishOpWith op .ok (.fields [(4, r.2.1), (4, r.2.2.1), (4, r.2.2.2)])
      { first := r.2.1, second := r.2.2.1, handle := r.2.2.2 } (putCounts h r.1 (w.filter (· < 524288)) s)))

/-- Region fills and parks, pool and stash descriptors, unspills, fences and dump copies end by the rules of their chapters. -/
def Obligations.RegionPoolAndFenceOperationsEnd : Prop :=
  (∀ op o id s, opOf s op = some o → o.kind = .allocRegion id → bulkTurn s (poolReady s) op = true →
    exec (.regionZeroFillComplete op) s =
      .next (finishOpBody op .ok (.fields [(8, id)]) (updRegion id (fun r => { r with st := .held }) s))) ∧
  (∀ op o id r s v, opOf s op = some o → o.kind = .parkRegion id → regionOf s id = some r → r.st = .parking →
    bulkTurn s (parkReady s) op = true → writeBackAll (frameOfRegion r.id) s = some v →
    let u := updRegion r.id (fun r => { r with st := .parked, data := [] }) (forgetFrames (frameOfRegion r.id) v)
    exec (.regionParkComplete op) s = .next (finishOp op .ok (releaseWrites (releaseAcct (framesCharge r) u)))) ∧
  (∀ op o id r s, opOf s op = some o → o.kind = .unparkRegion id → regionOf s id = some r → r.st = .unparking →
    bulkTurn s (unparkReady s) op = true →
    let l := mappedHomes s (homeOfRegion id)
    let u := readHomes l (updRegion id (fun r => { r with data := [] }) s)
    exec (.regionUnparkComplete op) s = .next (finishOp op (if l.any (·.2.lost) then .invalid else .ok)
      (updRegion id (fun r => { r with st := .held }) u))) ∧
  (∀ op data x d rest s, xferOf s op = some x → x.pool = d :: rest → s.flt.sable = false → bulkTurn s (poolReady s) op = true →
    exec (.poolDescriptorEnd op data) s = .next (runPool x d data s)) ∧
  (∀ op data x d rest s, xferOf s op = some x → x.stash = d :: rest → stashTurn s (xferPlace x.op) = true →
    (x.issued.isSome = true → exec (.stashDescriptorEnd op data) s = .next (runStash x d data s)) ∧
    (∀ st, x.issued = none → stashStatus s x.seat d = some st → exec (.stashDescriptorEnd op data) s = .next (failStash x d st s)) ∧
    (x.issued = none → stashStatus s x.seat d = none → exec (.stashDescriptorEnd op data) s = .next (beginStash x s))) ∧
  (∀ part run r i o s, part < 16 → runOf s part run = some r → r.unspill = none → (s.parts.get part).state = .resident →
    memClosed s = false → flashClosed s = false → unspillNext r = some (i, o) →
    o.frames - o.held ≤ r.free + ((spillable s part r (some i)).map (·.held)).sum →
    let u := makeRoom part run (o.frames - o.held) (some i) (r.objs.length + 1) s
    o.frames - o.held ≤ ((runOf u part run).map (·.free)).getD 0 →
    exec (.unspill part run) s = .next (updObj part run o.key (fun o => { o with st := .mixed })
      (updRun part run (fun r => { r with unspill := some o.key, unspillAt := u.opCtr }) u))) ∧
  (∀ part run r key s, part < 16 → runOf s part run = some r → r.unspill = some key → stashTurn s (unspillPlace r.unspillAt) = true →
    exec (.unspillComplete part run) s = .next (endUnspill part run (((objOf s part run key).map (·.frames)).getD 0) s)) ∧
  (∀ seat s, seat < 64 → (s.coh.snoops.any fun n => n.seat = seat && n.since + n.timeout * 1000000 ≤ s.dev.devtime) = true →
    exec (.snoopTimeout seat) s = .next (fenceSeat seat s)) ∧
  (∀ seat s, seat < 64 → s.coh.sweeping.getLsbD seat = true → exec (.fenceSweepEnd seat) s = .next (endSweep seat s)) ∧
  (∀ op o slot id off len dst x s, opOf s op = some o → o.kind = .dumpCopy slot id off len dst → s.dev.memActive = true →
    xferOf s op = some x → residentAt s dst len = true → (dumpExtent s slot id).isSome = true →
    (x.issued.isSome = true → xferHeld s op = false →
      exec (.dumpCopyComplete op) s = .next (endXfer op (sectionStatus s slot id) s)) ∧
    (x.issued = none → writeWaits s 0 [(dst, len)] ≠ [] →
      exec (.dumpCopyComplete op) s = .next (askLines op [] (writeWaits s 0 [(dst, len)]) s)) ∧
    (x.issued = none → writeWaits s 0 [(dst, len)] = [] →
      let u := updXfer op (fun x => { x with issued := some len }) (writeHdm op 0 dst (dumpBytes s slot id off len) s)
      xferHeld u op = false → exec (.dumpCopyComplete op) s = .next (endXfer op (sectionStatus u slot id) u)))

/-- Writes of heads, of device-wide registers through seat 0, and reads that latch act by chapter 22. -/
def Obligations.RegisterAccessesAct : Prop :=
  (∀ seat ring value s, seat < 64 → ring < 4 → seatReached s seat = true →
    (ringUsed (ringOf s seat ring).cqTail (ringOf s seat ring).cqHead < ringUsed value (ringOf s seat ring).cqHead →
      exec (.stpCqHeadWrite seat ring value) s = .next (logFault { unit := 5, index := seat, event := 10, action := 6, seat := seat }
        (updRing seat ring (fun r => { r with cqHeadBad := true }) s))) ∧
    (ringUsed value (ringOf s seat ring).cqHead ≤ ringUsed (ringOf s seat ring).cqTail (ringOf s seat ring).cqHead →
      let u := updRing seat ring (fun r => { r with cqHead := value % 2 ^ 32 }) s
      exec (.stpCqHeadWrite seat ring value) s = .next (pump (drainBacklog seat ring (ringOf u seat ring).backlog u)))) ∧
  (∀ seat value s, seat < 64 → seatReached s seat = true →
    (ringUsed (s.seats.get seat).noticeTail (s.seats.get seat).noticeHead < ringUsed value (s.seats.get seat).noticeHead →
      exec (.seatNoticeHeadWrite seat value) s =
        .next (logFault { unit := 5, index := seat, event := 10, action := 6, seat := seat } s)) ∧
    (ringUsed value (s.seats.get seat).noticeHead ≤ ringUsed (s.seats.get seat).noticeTail (s.seats.get seat).noticeHead →
      let u := updSeat seat (fun t => { t with noticeHead := value % 2 ^ 32 }) s
      exec (.seatNoticeHeadWrite seat value) s = .next (flushNotices seat (u.seats.get seat).noticeHeld u))) ∧
  (∀ value s, seatReached s 0 = true → exec (.glbStepCtrlWrite 0 value) s = .next (writeStepCtrl value s)) ∧
  (∀ value s, seatReached s 0 = true → exec (.glbDitherCtrlWrite 0 value) s = .next (writeDitherCtrl value s)) ∧
  (∀ half value s, half < 3 → seatReached s 0 = true → exec (.glbDitherSaltWrite 0 half value) s = .next (saltWrite half value s)) ∧
  (∀ value s, seatReached s 0 = true → exec (.glbDeltaCfgWrite 0 value) s = .next (writeDeltaCfg value s)) ∧
  (∀ value s, seatReached s 0 = true → exec (.glbCohCfgWrite 0 value) s = .next (writeCohCfg value s)) ∧
  (∀ value s, seatReached s 0 = true → exec (.pwrCtrlWrite 0 value) s = .next (stagePwrCtrl value s)) ∧
  (∀ port value s, port < 8 → seatReached s 0 = true → exec (.prtCtrlWrite 0 port value) s = .next (writePrtCtrl s)) ∧
  (∀ port ld s, port < 8 → ld < 16 → memReached s port ld = true → exec (.telRec0Read port ld) s =
    .next (emit (.regValue port ld 0x14000 ((telWords s).headD 0)) (updLd port ld (fun d => { d with telLatch := some ((telWords s).drop 1) }) s))) ∧
  (∀ port ld s, port < 8 → ld < 16 → memReached s port ld = true → exec (.devtimeLowRead port ld) s =
    .next (emit (.regValue port ld 0x10008 (s.dev.devtime % 2 ^ 32))
      (updLd port ld (fun d => { d with devtimeHigh := some (s.dev.devtime / 2 ^ 32 % 2 ^ 32) }) s))) ∧
  (∀ port ld offset width value s, port < 8 → ld < 16 → width ∈ [8, 16, 32, 64] → memReached s port ld = true →
    exec (.registerWrite port ld offset width value) s = .next (regWrite port ld offset width value s))

/-- A step runs the command at the front of the queue; that the queue is first in, first out is the model's (log entry 69) -/
def Obligations.StepRunsTheFrontCommand : Prop :=
  ∀ c rest s, s.pending = c :: rest → step s = exec c { s with pending := rest }

/-- What an empty queue makes the device do is the model's choice (log entry 69); the order of service is R89's and the step of device time R74's -/
def Obligations.IdleDeviceGoesOn : Prop :=
  (∀ s c t, s.pending = [] → takeLatched s = some (c, t) → step s = exec c t) ∧
  (∀ s, s.pending = [] → takeLatched s = none → step s = .next (tick s)) ∧
  (∀ s, s.pwr.stage ≠ .off → (clockTick s).dev.devtime = (s.dev.devtime + 10) % 2 ^ 64) ∧
  (∀ s, s.pwr.stage = .off → clockTick s = s)

/-- No command and nothing the device does by itself adds to, drops from or reorders the queue of commands, which is the model's own (log entry 69) -/
def Obligations.QueueIsServedInOrder : Prop :=
  ∀ s t, step s = .next t → t.pending = s.pending.tail

/-- The device-wide registers have their layout at reset. -/
def Obligations.ResetHoldsTheLayout : Prop :=
  GlbOk State.reset.glb

/-- No step, of any command in any state, brings a device-wide register out of its layout. -/
def Obligations.EveryStepKeepsTheLayout : Prop :=
  ∀ s t, GlbOk s.glb → step s = .next t → GlbOk t.glb

/-- A retired unit never returns to service: no command, reset or power cycle undoes a retirement. -/
def Obligations.NoRetiredUnitReturns : Prop :=
  ∀ s t, step s = .next t → RetiredStays s t

/-- Every well-formed command runs: it answers a next state from every state of the device. -/
def Obligations.WellFormedCommandsRun : Prop :=
  ∀ i s, i.wf = true → ∃ t, exec i s = .next t

/-- What the write of a doorbell does when the command is not taken at once. -/
def Obligations.DoorbellWrites : Prop :=
  ∀ i o e s, mail? i = some (o, e) → e.seat < 64 → (s.seats.get e.seat).mbx.orphan = none →
    (seatReached s e.seat = false ∨ seatD3 s e.seat = true →
      (s.seats.get e.seat).mbx.waitingSince = none ∨ doorbell s e.seat = true → exec i s = .next s) ∧
    (seatReached s e.seat = true → seatD3 s e.seat = false →
      (doorbell s e.seat = true → exec i s = .next (updMbx e.seat (fun m => { m with spoiled := true }) s)) ∧
      (doorbell s e.seat = false → (s.seats.get e.seat).mbx.waitingSince = none →
        s.dev.fwReady = false ∨ aheadOf s e.seat = true ∨ recordsWait s = true →
        exec i s = .next (updMbx e.seat (fun m =>
          { m with latched := some i, waitingSince := some s.dev.devtime, opcode := o.opcode, posted := s.dev.devtime }) s)))

/-- The checks of R82 that all commands share decide in their order. -/
def Obligations.ChecksAnswerInOrder : Prop :=
  ∀ i o e s, mail? i = some (o, e) → taken e s = true →
    let u := takeCmd e.seat o.opcode s
    (e.payloadLen < 64 ∨ e.payloadLen ≠ 64 + e.bodyLen ∨ 65472 < e.bodyLen → exec i s = .next (placeBadLength e.seat u)) ∧
    (e.payloadLen = 64 + e.bodyLen → e.bodyLen ≤ 65472 →
      (versionOk o e s = false → exec i s = .next (answer e (.of .version) u)) ∧
      (versionOk o e s = true →
        (o.seat0 = true → e.seat ≠ 0 → exec i s = .next (answer e (.of .denied) u)) ∧
        ((o.seat0 = true → e.seat = 0) →
          (s.flt.sable = true → o.s = false → exec i s = .next (answer e (.of .fatal) u)) ∧
          ((s.flt.sable = true → o.s = true) →
            (o.a = true → s.dev.admitOpen = false → exec i s = .next (answer e (.of .notReady) u)) ∧
            ((o.a = true → s.dev.admitOpen = true) →
              (o.a = false ∧ o.f = false ∧ s.dev.memActive = false ∨ o.long = true ∧ s.flt.restarting = true →
                ∃ r, exec i s = .next (answer e r u) ∧ (r.status = .notReady ∨ r.status = .busy)))))))

/-- An opcode in 0xC000-0xCFFF that CCS 3.2 does not define returns UNSUPPORTED and has no other effect. -/
def Obligations.UndefinedOpcodesReturnUnsupported : Prop :=
  ∀ e opcode s, 0xC000 ≤ opcode → opcode ≤ 0xCFFF → taken e s = true → e.payloadLen = 64 + e.bodyLen → e.bodyLen ≤ 65472 →
    exec (.unsupportedOpcode e opcode) s = .next (answer e (.of .unsupported) (takeCmd e.seat opcode s)) ∧
    ((s.seats.get e.seat).mbx.orphan = none →
     let t := answer e (.of .unsupported) (takeCmd e.seat opcode s)
     t = { s with seats := t.seats, lastServed := e.seat, out := t.out } ∧
     (∀ n, t.seats.get n = { s.seats.get n with mbx := (t.seats.get n).mbx }) ∧
     (∀ n, n ≠ e.seat → t.seats.get n = s.seats.get n) ∧
     ((t.seats.get e.seat).mbx.resp.map (·.status)) = some .unsupported)

/-- A port that trains at x8 because its partner offers only x8 is not degraded. -/
def Obligations.NarrowPartnersAreNotDegraded : Prop :=
  ∀ port offer s, port < 8 →
    let p := s.ports.get port
    p.linkUp = false → p.groupL = true → p.groupH = true → s.pwr.held.contains (48 + port) = false →
    s.dev.portLock / 2 ^ port % 2 ≠ 0 → s.dev.recovery = false → 8 ≤ offer.width → offer.width < 16 → 0 < offer.speed → offer.speed ≤ 6 →
    ∃ t t16, exec (.linkTrainingComplete port offer) s = .next t ∧
      exec (.linkTrainingComplete port { offer with width := 16 }) s = .next t16 ∧
      (t.ports.get port).linkUp = true ∧ (t.ports.get port).width = 8 ∧ (t.ports.get port).groupL = true ∧
      (t.ports.get port).groupH = true ∧ t.flt = t16.flt ∧ (offer.cxl = true → offer.speed = 4 → t.flt = s.flt)

/-- The Return Code is Success with every envelope, and a wrong length returns Invalid Payload Length, INVALID and no envelope. -/
def Obligations.BadLengthsHaveNoEnvelope : Prop :=
  (∀ seat tag hostTime tPosted tAccept r s,
    let m := ((placeResp seat tag hostTime tPosted tAccept r s).seats.get seat).mbx
    m.returnCode = 0 ∧ m.resp.map (·.status) = some r.status) ∧
  (∀ i o e s, mail? i = some (o, e) → taken e s = true → (s.seats.get e.seat).mbx.orphan = none →
    e.payloadLen < 64 ∨ e.payloadLen ≠ 64 + e.bodyLen →
    ∃ t, exec i s = .next t ∧ (t.seats.get e.seat).mbx.returnCode = 0x16 ∧
      (t.seats.get e.seat).mbx.extStatus = Status.invalid.code ∧ (t.seats.get e.seat).mbx.resp = (s.seats.get e.seat).mbx.resp)

/-- The item order of a step: layer-major, then priority, then the order of the list. -/
def Obligations.ItemsFollowLayerPriorityAndList : Prop :=
  ∀ s seat ring tArrive b,
    let x := openedStep s seat ring tArrive b
    let kept := x.kept.map (·.handle)
    ∃ order : List Nat,
      x.items = ((List.range (s.parts.get (ringOf s seat ring).part).body.layers).map
        fun l => order.map fun h => ({ handle := h, layer := l } : Item)).flatten ∧
      order.Perm kept ∧
      (∀ i j, i < j → j < order.length → (rtOf s (order.getD j 0)).prio ≤ (rtOf s (order.getD i 0)).prio) ∧
      (∀ p, order.filter (fun h => (rtOf s h).prio = p) = kept.filter (fun h => (rtOf s h).prio = p))

/-- A store of bytes keeps the canonical form, reads back byte for byte, and leaves every other byte as it was. -/
def Obligations.BytesReadAsLastStored : Prop :=
  ∀ m a l, memWf m = true → memWf (memPuts m a l) = true ∧
    ∀ i, memByte (memPuts m a l) i = if a ≤ i ∧ i < a + l.length then l.getD (i - a) 0 else memByte m i

/-- A block coded by Shoal decodes to the data it was made of. -/
def Obligations.ShoalBlocksDecodeToTheirData : Prop :=
  ∀ cls data, cls ≤ 7 → data.length = 4096 → decodeBlock cls (shoalBlock cls data).1 (shoalBlock cls data).2 = some data

/-- A map unit coded by Shoal decodes to the 64 KiB it was made of. -/
def Obligations.ShoalUnitsDecodeToTheirData : Prop :=
  ∀ c0 c1 data, c0 ≤ 7 → c1 ≤ 7 → data.length = 65536 →
    ((shoalUnit c0 c1 data).1 = false → shoalDecode (shoalUnit c0 c1 data).2 = some data) ∧
    ((shoalUnit c0 c1 data).1 = true → (shoalUnit c0 c1 data).2 = data)

/-- The device right after reset: the values the register tables and the chapters give. -/
def Obligations.ResetValues : Prop :=
  State.reset.dev.devtime = 0 ∧ State.reset.glb.hwparse = true ∧ State.reset.glb.ditherCtrl = 0 ∧ State.reset.glb.ditherSalt = 0 ∧
  State.reset.glb.areaLog2 = 32 ∧ State.reset.glb.snoopTo = 128 ∧ State.reset.coh.fenced = 0 ∧ State.reset.pending = [] ∧
  State.reset.dev.fwReady = false ∧ State.reset.dev.memActive = false ∧ State.reset.dev.mapReady = false ∧
  State.reset.dev.admitOpen = false ∧ State.reset.ops = [] ∧ State.reset.claims = [] ∧
  (∀ n, (State.reset.ports.get n).linkUp = false) ∧ (∀ n, (State.reset.parts.get n).state = .empty)

/-- A GLB_ register is written from seat 0's LD alone, and a seat page from the LD of its seat alone; other writes are discarded without a record. -/
def Obligations.OnlyItsLdWritesARegister : Prop :=
  (∀ port ld offset width value s,
    (∀ n, seatOfLd s port ld = some n →
      (n = 0 → 0x20000 ≤ offset) ∧ (offset + width / 8 ≤ 0x100000 + n * 0x20000 ∨ 0x100000 + n * 0x20000 + 0x20000 ≤ offset)) →
    exec (.registerWrite port ld offset width value) s = .next s) ∧
  (∀ seat value half port s, seat ≠ 0 →
    exec (.glbStepCtrlWrite seat value) s = .next s ∧ exec (.glbDitherCtrlWrite seat value) s = .next s ∧
    exec (.glbDitherSaltWrite seat half value) s = .next s ∧ exec (.glbDeltaCfgWrite seat value) s = .next s ∧
    exec (.glbCohCfgWrite seat value) s = .next s ∧ exec (.pwrCtrlWrite seat value) s = .next s ∧
    exec (.prtCtrlWrite seat port value) s = .next s)

/-- An offset that no register takes, or that does not decode in the LD, reads 0; the latched half of device time stays each LD's own. -/
def Obligations.ReadsOutsideTheLdReturnZero : Prop :=
  (∀ port ld offset width s, 0x20000 ≤ offset → offset + width / 8 ≤ 0x100000 → regRead s port ld offset width = 0) ∧
  (∀ port ld n offset width s, n < 64 → seatOfLd s port ld ≠ some n → 0x100000 + n * 0x20000 ≤ offset →
    offset + width / 8 ≤ 0x100000 + n * 0x20000 + 0x20000 → regRead s port ld offset width = 0) ∧
  (∀ port ld offset width s, 0x900000 ≤ offset → offset + width / 8 ≤ 0x1000000 →
    regRead s port ld offset width = 0) ∧
  (∀ port ld offset width s, 0x1000000 ≤ offset → offset + width / 8 ≤ 0x2000000 →
    (seatOfLd s port ld ≠ some 0 ∨ s.pset.phase = .none) → regRead s port ld offset width = 0) ∧
  (∀ port ld s, port < 8 → ld < 16 → memReached s port ld = true → ∃ t, exec (.devtimeLowRead port ld) s = .next t ∧
    (∀ k, regRead (Nat.repeat clockTick k t) port ld 0x1000C 32 = s.dev.devtime / 2 ^ 32 % 2 ^ 32) ∧
    ∀ p l, ldKey p l ≠ ldKey port ld → regRead t p l 0x1000C 32 = regRead s p l 0x1000C 32)

/-- Every frame has exactly one 128 B unit on each of the 256 pseudo-channels, and uncorrectable data there damages that unit. -/
def Obligations.FramesStripeOverEveryChannel : Prop :=
  (∀ pc k, pc < 256 → unitOnPc pc k < 256 ∧ (unitOnPc pc k + frameNo k) % 256 = pc ∧
    ∀ u, u < 256 → (u + frameNo k) % 256 = pc → u = unitOnPc pc k) ∧
  (∀ pc bank row place k s, hbmRowOk pc bank row = true → pcServes s pc = true →
    let j := judgeHbm false pc bank row (countFailure { unit := 1, index := pc, place := bank * 2 ^ 24 + row } false s).2 false
      (countFailure { unit := 1, index := pc, place := bank * 2 ^ 24 + row } false s).1
    placeFrame j place = some k → j.flt.damage.length < 65536 →
    ∃ t, exec (.hbmError (pc / 32) (pc % 32) bank row place false) s = .next t ∧
      t.flt.damage.any (fun d => d.1 = k && d.2.getLsbD (unitOnPc pc k)) = true)

/-- Two products of one phase never share a clock and lane, so neither shares a dither byte. -/
def Obligations.ProductsHaveDitherOfTheirOwn : Prop :=
  ∀ a : Attn,
  (∀ n h j i h' j' i', h < a.b.qHeads → j < n → i < a.b.headDim → h' < a.b.qHeads → j' < n → i' < a.b.headDim →
    a.slot (.score n h j i) = a.slot (.score n h' j' i') → h = h' ∧ j = j' ∧ i = i') ∧
  (∀ n p h j i h' j' i', h < a.b.qHeads → j < n → i < p → h' < a.b.qHeads → j' < n → i' < p →
    a.slot (.scale n p h j i) = a.slot (.scale n p h' j' i') → h = h' ∧ j = j' ∧ i = i') ∧
  (∀ n h j h' j', h < a.b.qHeads → j < n → h' < a.b.qHeads → j' < n →
    a.slot (.weight n h j) = a.slot (.weight n h' j') → h = h' ∧ j = j') ∧
  (∀ n h j i h' j' i', h < a.b.qHeads → j < n → i < a.b.headDim → h' < a.b.qHeads → j' < n → i' < a.b.headDim →
    a.slot (.value n h j i) = a.slot (.value n h' j' i') → h = h' ∧ j = j' ∧ i = i') ∧
  (∀ h i h' i', h < a.b.qHeads → i ≤ a.b.headDim → h' < a.b.qHeads → i' ≤ a.b.headDim →
    a.slot (.rescale h i) = a.slot (.rescale h' i') → h = h' ∧ i = i') ∧
  (∀ h i h' i', h < a.b.qHeads → i < a.b.headDim → h' < a.b.qHeads → i' < a.b.headDim →
    a.slot (.norm h i) = a.slot (.norm h' i') → h = h' ∧ i = i') ∧
  (∀ n h r i h' r' i', h < a.b.qHeads → r < n → i < a.b.headDim → h' < a.b.qHeads → r' < n → i' < a.b.headDim →
    a.slot (.bound n h r i) = a.slot (.bound n h' r' i') → h = h' ∧ r = r' ∧ i = i') ∧
  (∀ w, (a.slot w).2 < 64)
end

