-- ==== Sys2Proof/Laws/Tab.lean ====
section
/-! SUPPORT. Reading a numbered table after a write of it. -/

namespace Sys2Proof

variable {α : Type}

/-- A key just put is found. -/
theorem lookupKey_insertKey_self (k : Nat) (v : α) (l : List (Nat × α)) : lookupKey k (insertKey k v l) = some v := by
  induction l with
  | nil => simp [insertKey, lookupKey]
  | cons c l ih =>
    obtain ⟨j, w⟩ := c
    unfold insertKey
    split
    · simp [lookupKey]
    · split
      · simp [lookupKey]
      · rename_i h
        have : ¬ j = k := fun e => h e.symm
        simp [lookupKey, this, ih]

/-- Another key is found as before. -/
theorem lookupKey_insertKey_ne {j k : Nat} (h : j ≠ k) (v : α) (l : List (Nat × α)) :
    lookupKey j (insertKey k v l) = lookupKey j l := by
  induction l with
  | nil => simp [insertKey, lookupKey, Ne.symm h]
  | cons c l ih =>
    obtain ⟨i, w⟩ := c
    unfold insertKey
    split
    · simp [lookupKey, Ne.symm h]
    · split
      · rename_i e
        subst e
        simp [lookupKey, Ne.symm h]
      · simp only [lookupKey, ih]

@[simp] theorem Tab.get_set_self (t : Tab α) (k : Nat) (v : α) : (t.set k v).get k = v := by
  simp [Tab.set, Tab.get, lookupKey_insertKey_self]

@[simp] theorem Tab.get_set_ne (t : Tab α) {j k : Nat} (h : j ≠ k) (v : α) : (t.set k v).get j = t.get j := by
  simp [Tab.set, Tab.get, lookupKey_insertKey_ne h]

@[simp] theorem Tab.get_upd_self (t : Tab α) (k : Nat) (f : α → α) : (t.upd k f).get k = f (t.get k) := by
  simp [Tab.upd]

@[simp] theorem Tab.get_upd_ne (t : Tab α) {j k : Nat} (h : j ≠ k) (f : α → α) : (t.upd k f).get j = t.get j := by
  simp [Tab.upd, h]

/-- Writing the whole of a unit that is not there, or another, reads as the case says. -/
theorem Tab.get_upd (t : Tab α) (j k : Nat) (f : α → α) : (t.upd k f).get j = if j = k then f (t.get k) else t.get j := by
  by_cases h : j = k
  · subst h; simp
  · simp [h]

end Sys2Proof
end

