-- ==== Sys2Proof/Laws/Mailbox.lean ====
section
/-! SUPPORT. What a mailbox command does: one lemma per way it can go, which the result of every mailbox command cites. -/

namespace Sys2Proof.Machine

/-- A command is taken now exactly when the doorbell write answers nothing by itself. -/
theorem doorWrite_taken {e : Env} {s : State} (h : taken e s = true) (self : Instr) (opcode : Nat) :
    doorWrite e.seat self opcode s = none := by
  simp only [taken, Bool.and_eq_true, Bool.or_eq_true, Bool.not_eq_true', decide_eq_true_eq] at h
  obtain ⟨-, ho | ⟨hd, hw⟩⟩ := h
  · simp [doorWrite, ho]
  · unfold doorWrite
    simp only [hd]
    rcases hw with hw | ⟨⟨⟨⟨hr, h3⟩, hf⟩, ha⟩, hp⟩
    · simp [hw]
    · simp [hr, h3, hf, ha, hp]

@[simp] theorem takeCmd_claims (n o : Nat) (s : State) : (takeCmd n o s).claims = s.claims := rfl
@[simp] theorem takeCmd_dev (n o : Nat) (s : State) : (takeCmd n o s).dev = s.dev := rfl
@[simp] theorem takeCmd_flt (n o : Nat) (s : State) : (takeCmd n o s).flt = s.flt := rfl
@[simp] theorem takeCmd_ops (n o : Nat) (s : State) : (takeCmd n o s).ops = s.ops := rfl
@[simp] theorem takeCmd_pulls (n o : Nat) (s : State) : (takeCmd n o s).pulls = s.pulls := rfl
@[simp] theorem takeCmd_xfers (n o : Nat) (s : State) : (takeCmd n o s).xfers = s.xfers := rfl

/-- Taking a command changes of a seat only its mailbox. -/
theorem takeCmd_seat (n o : Nat) (s : State) (k : Nat) :
    (takeCmd n o s).seats.get k = { s.seats.get k with mbx := ((takeCmd n o s).seats.get k).mbx } := by
  by_cases h : k = n
  · subst h; simp [takeCmd, updMbx, updSeat]
  · simp [takeCmd, updMbx, updSeat, h]

@[simp] theorem takeCmd_negVersion (n o : Nat) (s : State) (k : Nat) :
    ((takeCmd n o s).seats.get k).negVersion = (s.seats.get k).negVersion := by rw [takeCmd_seat]

@[simp] theorem takeCmd_orphan (n o : Nat) (s : State) (k : Nat) :
    ((takeCmd n o s).seats.get k).mbx.orphan = (s.seats.get k).mbx.orphan := by
  by_cases h : k = n
  · subst h; simp only [takeCmd, updMbx, updSeat, Tab.get_upd_self]; split <;> rfl
  · simp [takeCmd, updMbx, updSeat, h]

@[simp] theorem takeCmd_busyUntil (n o : Nat) (s : State) (k : Nat) :
    ((takeCmd n o s).seats.get k).mbx.busyUntil = (s.seats.get k).mbx.busyUntil := by
  by_cases h : k = n
  · subst h; simp only [takeCmd, updMbx, updSeat, Tab.get_upd_self]; split <;> rfl
  · simp [takeCmd, updMbx, updSeat, h]

@[simp] theorem takeCmd_envVersion (n o : Nat) (s : State) (k : Nat) : envVersion (takeCmd n o s) k = envVersion s k := by
  simp [envVersion]

@[simp] theorem takeCmd_placesFree (n o : Nat) (s : State) (x : ClaimObj) : placesFree (takeCmd n o s) x = placesFree s x := rfl
@[simp] theorem takeCmd_claimsOn (n o : Nat) (s : State) (x : ClaimObj) : claimsOn (takeCmd n o s) x = claimsOn s x := rfl

@[simp] theorem takeCmd_claimBusy (n o : Nat) (s : State) (objs : List ClaimObj) (k : Nat) :
    claimBusy k (takeCmd n o s) objs = claimBusy k s objs := rfl

@[simp] theorem takeCmd_tooSoon (n o : Nat) (s : State) (objs : List ClaimObj) (k c : Nat) :
    tooSoon k c objs (takeCmd n o s) = tooSoon k c objs s := by
  unfold tooSoon
  rw [takeCmd_busyUntil]
  rfl

/-- A served command's body has the length of Table 23-3. -/
theorem badBody_served {o : OpInfo} {e : Env} {objs : List ClaimObj} {s : State} (h : served o e objs s = true) :
    badBody o e = false := by
  simp only [served, lengthOk, Bool.and_eq_true, decide_eq_true_eq, beq_iff_eq] at h
  obtain ⟨⟨⟨⟨⟨-, ⟨⟨-, hle⟩, hbody⟩⟩, -⟩, -⟩, -⟩, -⟩ := h
  unfold badBody
  cases hob : o.body with
  | some n => simp_all
  | none => simp_all

/-- Checks 3 to 6 answer nothing to a served command (R82). -/
theorem gate_served {o : OpInfo} {e : Env} {objs : List ClaimObj} {s : State} (h : served o e objs s = true) :
    gate o e (takeCmd e.seat o.opcode s) = none := by
  simp only [served, versionOk, gateOpen, Bool.and_eq_true, Bool.or_eq_true, Bool.not_eq_true', Option.isNone_iff_eq_none] at h
  obtain ⟨⟨⟨⟨⟨-, -⟩, hv⟩, ⟨⟨⟨⟨h0, hs⟩, ha⟩, hm⟩, hr⟩⟩, -⟩, -⟩ := h
  unfold gate
  rw [if_neg, if_neg, if_neg, if_neg] <;> (try simp only [takeCmd_envVersion, takeCmd_flt, takeCmd_dev]) <;> grind

/-- The shared part of check 7 answers nothing to a served command (R91, R573, R581). -/
theorem commonBusy_served {o : OpInfo} {e : Env} {objs : List ClaimObj} {s : State} (h : served o e objs s = true) :
    commonBusy o e objs (takeCmd e.seat o.opcode s) = none := by
  simp only [served, gateOpen, Bool.and_eq_true, Bool.or_eq_true, Bool.not_eq_true', Option.isNone_iff_eq_none] at h
  obtain ⟨⟨⟨⟨⟨-, -⟩, -⟩, ⟨⟨⟨⟨-, -⟩, -⟩, hm⟩, hr⟩⟩, ht⟩, -⟩ := h
  unfold commonBusy
  rw [takeCmd_tooSoon, ht]
  show (if _ then _ else if _ then _ else _) = none
  rw [if_neg, if_neg] <;> (try simp only [takeCmd_flt, takeCmd_dev]) <;> grind

/-- What a served command's payload length gives. -/
theorem served_length {o : OpInfo} {e : Env} {objs : List ClaimObj} {s : State} (h : served o e objs s = true) :
    (e.payloadLen < 64 || e.payloadLen != 64 + e.bodyLen || decide (65472 < e.bodyLen)) = false := by
  simp only [served, lengthOk, Bool.and_eq_true, decide_eq_true_eq, beq_iff_eq] at h
  obtain ⟨⟨⟨⟨⟨-, ⟨⟨hl, hb⟩, -⟩⟩, -⟩, -⟩, -⟩, -⟩ := h
  simp [hl]
  omega

theorem served_taken {o : OpInfo} {e : Env} {objs : List ClaimObj} {s : State} (h : served o e objs s = true) :
    taken e s = true := by
  simp only [served, Bool.and_eq_true] at h
  exact h.1.1.1.1.1

theorem taken_seat {e : Env} {s : State} (h : taken e s = true) : e.seat < 64 := by
  simp only [taken, Bool.and_eq_true, decide_eq_true_eq] at h
  exact h.1

theorem served_claims {o : OpInfo} {e : Env} {objs : List ClaimObj} {s : State} (h : served o e objs s = true) :
    claimBusy e.seat s objs = none := by
  simp only [served, Bool.and_eq_true, Option.isNone_iff_eq_none] at h
  exact h.2

/-- The answer of a check that is not NOT_READY or BUSY comes after check 7 of R82. -/
def Reply.late (r : Reply) : Bool := r.status != .notReady && r.status != .busy

/-- What R82 leaves to a served command is its own checks (R92). -/
theorem judge_served {o : OpInfo} {e : Env} {objs : List ClaimObj} {s : State} (h : served o e objs s = true) (own : Option Reply) :
    judge o e objs own (takeCmd e.seat o.opcode s) = (own, own.all Reply.late) := by
  unfold judge
  rw [gate_served h, commonBusy_served h]
  simp only [takeCmd_claimBusy, served_claims h, badBody_served h]
  cases own with
  | none => rfl
  | some r =>
    cases hr : r.status <;> simp [Reply.late, hr]

/-- A served command comes to its own checks. -/
theorem mailbox_served {o : OpInfo} {e : Env} {objs : List ClaimObj} {s : State} (h : served o e objs s = true)
    (self : Instr) (check : State → Option Reply) (effect : State → State × Reply) :
    mailbox o e self objs check effect s =
      .next (match check (takeCmd e.seat o.opcode s) with
        | some r => answer e r (if r.late then accepted o e objs s else takeCmd e.seat o.opcode s)
        | none => answer e (effect (accepted o e objs s)).2 (effect (accepted o e objs s)).1) := by
  have hs := taken_seat (served_taken h)
  unfold mailbox serve
  rw [if_neg (by omega), doorWrite_taken (served_taken h)]
  simp only [served_length h, judge_served h]
  cases check (takeCmd e.seat o.opcode s) <;> rfl

/-- A command served in state `u`, whose own checks do not read the claims, is judged and has its effect in `u`. -/
theorem mailbox_serves {o : OpInfo} {e : Env} {objs : List ClaimObj} {s u : State} (h : Serves o e objs s u)
    {self : Instr} {check : State → Option Reply} {effect : State → State × Reply}
    (hc : check (takeCmd e.seat o.opcode s) = check (accepted o e objs s)) :
    mailbox o e self objs check effect s =
      .next (match check u with
        | some r => answer e r (if r.late then u else takeCmd e.seat o.opcode s)
        | none => answer e (effect u).2 (effect u).1) := by
  obtain ⟨h, rfl⟩ := h
  rw [mailbox_served h, hc]

/-- SET_TIER_CONFIG's check reads no claim (R92, R316). -/
theorem tierConfigCheck_endClaims (imageGb parkGb opcode : Nat) (e : Env) (objs : List ClaimObj) (s : State) :
    tierConfigCheck imageGb parkGb (takeCmd e.seat opcode s) =
      tierConfigCheck imageGb parkGb (endClaims e.seat objs (takeCmd e.seat opcode s)) := by
  unfold tierConfigCheck
  rfl

end Sys2Proof.Machine
end

