-- ==== Sys2Proof/Laws/Answer.lean ====
section
/-! SUPPORT. What the mailbox operations leave as it was, field by field of State. -/

namespace Sys2Proof.Machine

@[simp] theorem updMbx_pending (n : Nat) (f : Mailbox → Mailbox) (s : State) : (updMbx n f s).pending = s.pending := rfl
@[simp] theorem updMbx_ports (n : Nat) (f : Mailbox → Mailbox) (s : State) : (updMbx n f s).ports = s.ports := rfl
@[simp] theorem updMbx_lds (n : Nat) (f : Mailbox → Mailbox) (s : State) : (updMbx n f s).lds = s.lds := rfl
@[simp] theorem updMbx_lastServed (n : Nat) (f : Mailbox → Mailbox) (s : State) : (updMbx n f s).lastServed = s.lastServed := rfl
@[simp] theorem updMbx_ops (n : Nat) (f : Mailbox → Mailbox) (s : State) : (updMbx n f s).ops = s.ops := rfl
@[simp] theorem updMbx_opCtr (n : Nat) (f : Mailbox → Mailbox) (s : State) : (updMbx n f s).opCtr = s.opCtr := rfl
@[simp] theorem updMbx_claims (n : Nat) (f : Mailbox → Mailbox) (s : State) : (updMbx n f s).claims = s.claims := rfl
@[simp] theorem updMbx_parts (n : Nat) (f : Mailbox → Mailbox) (s : State) : (updMbx n f s).parts = s.parts := rfl
@[simp] theorem updMbx_rt (n : Nat) (f : Mailbox → Mailbox) (s : State) : (updMbx n f s).rt = s.rt := rfl
@[simp] theorem updMbx_rtNext (n : Nat) (f : Mailbox → Mailbox) (s : State) : (updMbx n f s).rtNext = s.rtNext := rfl
@[simp] theorem updMbx_rtFree (n : Nat) (f : Mailbox → Mailbox) (s : State) : (updMbx n f s).rtFree = s.rtFree := rfl
@[simp] theorem updMbx_tenants (n : Nat) (f : Mailbox → Mailbox) (s : State) : (updMbx n f s).tenants = s.tenants := rfl
@[simp] theorem updMbx_acct (n : Nat) (f : Mailbox → Mailbox) (s : State) : (updMbx n f s).acct = s.acct := rfl
@[simp] theorem updMbx_images (n : Nat) (f : Mailbox → Mailbox) (s : State) : (updMbx n f s).images = s.images := rfl
@[simp] theorem updMbx_swap (n : Nat) (f : Mailbox → Mailbox) (s : State) : (updMbx n f s).swap = s.swap := rfl
@[simp] theorem updMbx_held (n : Nat) (f : Mailbox → Mailbox) (s : State) : (updMbx n f s).held = s.held := rfl
@[simp] theorem updMbx_svc (n : Nat) (f : Mailbox → Mailbox) (s : State) : (updMbx n f s).svc = s.svc := rfl
@[simp] theorem updMbx_glb (n : Nat) (f : Mailbox → Mailbox) (s : State) : (updMbx n f s).glb = s.glb := rfl
@[simp] theorem updMbx_dev (n : Nat) (f : Mailbox → Mailbox) (s : State) : (updMbx n f s).dev = s.dev := rfl
@[simp] theorem updMbx_flt (n : Nat) (f : Mailbox → Mailbox) (s : State) : (updMbx n f s).flt = s.flt := rfl
@[simp] theorem updMbx_regions (n : Nat) (f : Mailbox → Mailbox) (s : State) : (updMbx n f s).regions = s.regions := rfl
@[simp] theorem updMbx_frames (n : Nat) (f : Mailbox → Mailbox) (s : State) : (updMbx n f s).frames = s.frames := rfl
@[simp] theorem updMbx_nodes (n : Nat) (f : Mailbox → Mailbox) (s : State) : (updMbx n f s).nodes = s.nodes := rfl
@[simp] theorem updMbx_pins (n : Nat) (f : Mailbox → Mailbox) (s : State) : (updMbx n f s).pins = s.pins := rfl
@[simp] theorem updMbx_tier (n : Nat) (f : Mailbox → Mailbox) (s : State) : (updMbx n f s).tier = s.tier := rfl
@[simp] theorem updMbx_pldmQueue (n : Nat) (f : Mailbox → Mailbox) (s : State) : (updMbx n f s).pldmQueue = s.pldmQueue := rfl
@[simp] theorem updMbx_tel (n : Nat) (f : Mailbox → Mailbox) (s : State) : (updMbx n f s).tel = s.tel := rfl
@[simp] theorem updMbx_certs (n : Nat) (f : Mailbox → Mailbox) (s : State) : (updMbx n f s).certs = s.certs := rfl
@[simp] theorem updMbx_keySlots (n : Nat) (f : Mailbox → Mailbox) (s : State) : (updMbx n f s).keySlots = s.keySlots := rfl
@[simp] theorem updMbx_tickets (n : Nat) (f : Mailbox → Mailbox) (s : State) : (updMbx n f s).tickets = s.tickets := rfl
@[simp] theorem updMbx_parks (n : Nat) (f : Mailbox → Mailbox) (s : State) : (updMbx n f s).parks = s.parks := rfl
@[simp] theorem updMbx_pulls (n : Nat) (f : Mailbox → Mailbox) (s : State) : (updMbx n f s).pulls = s.pulls := rfl
@[simp] theorem updMbx_draws (n : Nat) (f : Mailbox → Mailbox) (s : State) : (updMbx n f s).draws = s.draws := rfl
@[simp] theorem updMbx_flash (n : Nat) (f : Mailbox → Mailbox) (s : State) : (updMbx n f s).flash = s.flash := rfl
@[simp] theorem updMbx_xfers (n : Nat) (f : Mailbox → Mailbox) (s : State) : (updMbx n f s).xfers = s.xfers := rfl
@[simp] theorem updMbx_pset (n : Nat) (f : Mailbox → Mailbox) (s : State) : (updMbx n f s).pset = s.pset := rfl
@[simp] theorem updMbx_coh (n : Nat) (f : Mailbox → Mailbox) (s : State) : (updMbx n f s).coh = s.coh := rfl
@[simp] theorem updMbx_hup (n : Nat) (f : Mailbox → Mailbox) (s : State) : (updMbx n f s).hup = s.hup := rfl
@[simp] theorem updMbx_pwr (n : Nat) (f : Mailbox → Mailbox) (s : State) : (updMbx n f s).pwr = s.pwr := rfl
@[simp] theorem updMbx_mgmt (n : Nat) (f : Mailbox → Mailbox) (s : State) : (updMbx n f s).mgmt = s.mgmt := rfl
@[simp] theorem updMbx_out (n : Nat) (f : Mailbox → Mailbox) (s : State) : (updMbx n f s).out = s.out := rfl
@[simp] theorem updMbx_freeCtr (n : Nat) (f : Mailbox → Mailbox) (s : State) : (updMbx n f s).freeCtr = s.freeCtr := rfl

@[simp] theorem emit_pending (o : OutMsg) (s : State) : (emit o s).pending = s.pending := rfl
@[simp] theorem emit_seats (o : OutMsg) (s : State) : (emit o s).seats = s.seats := rfl
@[simp] theorem emit_ports (o : OutMsg) (s : State) : (emit o s).ports = s.ports := rfl
@[simp] theorem emit_lds (o : OutMsg) (s : State) : (emit o s).lds = s.lds := rfl
@[simp] theorem emit_lastServed (o : OutMsg) (s : State) : (emit o s).lastServed = s.lastServed := rfl
@[simp] theorem emit_ops (o : OutMsg) (s : State) : (emit o s).ops = s.ops := rfl
@[simp] theorem emit_opCtr (o : OutMsg) (s : State) : (emit o s).opCtr = s.opCtr := rfl
@[simp] theorem emit_claims (o : OutMsg) (s : State) : (emit o s).claims = s.claims := rfl
@[simp] theorem emit_parts (o : OutMsg) (s : State) : (emit o s).parts = s.parts := rfl
@[simp] theorem emit_rt (o : OutMsg) (s : State) : (emit o s).rt = s.rt := rfl
@[simp] theorem emit_rtNext (o : OutMsg) (s : State) : (emit o s).rtNext = s.rtNext := rfl
@[simp] theorem emit_rtFree (o : OutMsg) (s : State) : (emit o s).rtFree = s.rtFree := rfl
@[simp] theorem emit_tenants (o : OutMsg) (s : State) : (emit o s).tenants = s.tenants := rfl
@[simp] theorem emit_acct (o : OutMsg) (s : State) : (emit o s).acct = s.acct := rfl
@[simp] theorem emit_images (o : OutMsg) (s : State) : (emit o s).images = s.images := rfl
@[simp] theorem emit_swap (o : OutMsg) (s : State) : (emit o s).swap = s.swap := rfl
@[simp] theorem emit_held (o : OutMsg) (s : State) : (emit o s).held = s.held := rfl
@[simp] theorem emit_svc (o : OutMsg) (s : State) : (emit o s).svc = s.svc := rfl
@[simp] theorem emit_glb (o : OutMsg) (s : State) : (emit o s).glb = s.glb := rfl
@[simp] theorem emit_dev (o : OutMsg) (s : State) : (emit o s).dev = s.dev := rfl
@[simp] theorem emit_flt (o : OutMsg) (s : State) : (emit o s).flt = s.flt := rfl
@[simp] theorem emit_regions (o : OutMsg) (s : State) : (emit o s).regions = s.regions := rfl
@[simp] theorem emit_frames (o : OutMsg) (s : State) : (emit o s).frames = s.frames := rfl
@[simp] theorem emit_nodes (o : OutMsg) (s : State) : (emit o s).nodes = s.nodes := rfl
@[simp] theorem emit_pins (o : OutMsg) (s : State) : (emit o s).pins = s.pins := rfl
@[simp] theorem emit_tier (o : OutMsg) (s : State) : (emit o s).tier = s.tier := rfl
@[simp] theorem emit_pldmQueue (o : OutMsg) (s : State) : (emit o s).pldmQueue = s.pldmQueue := rfl
@[simp] theorem emit_tel (o : OutMsg) (s : State) : (emit o s).tel = s.tel := rfl
@[simp] theorem emit_certs (o : OutMsg) (s : State) : (emit o s).certs = s.certs := rfl
@[simp] theorem emit_keySlots (o : OutMsg) (s : State) : (emit o s).keySlots = s.keySlots := rfl
@[simp] theorem emit_tickets (o : OutMsg) (s : State) : (emit o s).tickets = s.tickets := rfl
@[simp] theorem emit_parks (o : OutMsg) (s : State) : (emit o s).parks = s.parks := rfl
@[simp] theorem emit_pulls (o : OutMsg) (s : State) : (emit o s).pulls = s.pulls := rfl
@[simp] theorem emit_draws (o : OutMsg) (s : State) : (emit o s).draws = s.draws := rfl
@[simp] theorem emit_flash (o : OutMsg) (s : State) : (emit o s).flash = s.flash := rfl
@[simp] theorem emit_xfers (o : OutMsg) (s : State) : (emit o s).xfers = s.xfers := rfl
@[simp] theorem emit_pset (o : OutMsg) (s : State) : (emit o s).pset = s.pset := rfl
@[simp] theorem emit_coh (o : OutMsg) (s : State) : (emit o s).coh = s.coh := rfl
@[simp] theorem emit_hup (o : OutMsg) (s : State) : (emit o s).hup = s.hup := rfl
@[simp] theorem emit_pwr (o : OutMsg) (s : State) : (emit o s).pwr = s.pwr := rfl
@[simp] theorem emit_mgmt (o : OutMsg) (s : State) : (emit o s).mgmt = s.mgmt := rfl
@[simp] theorem emit_freeCtr (o : OutMsg) (s : State) : (emit o s).freeCtr = s.freeCtr := rfl

@[simp] theorem addClaim_pending (n k : Nat) (o : ClaimObj) (s : State) : (addClaim n k o s).pending = s.pending := by unfold addClaim; split <;> rfl
@[simp] theorem addClaim_seats (n k : Nat) (o : ClaimObj) (s : State) : (addClaim n k o s).seats = s.seats := by unfold addClaim; split <;> rfl
@[simp] theorem addClaim_ports (n k : Nat) (o : ClaimObj) (s : State) : (addClaim n k o s).ports = s.ports := by unfold addClaim; split <;> rfl
@[simp] theorem addClaim_lds (n k : Nat) (o : ClaimObj) (s : State) : (addClaim n k o s).lds = s.lds := by unfold addClaim; split <;> rfl
@[simp] theorem addClaim_lastServed (n k : Nat) (o : ClaimObj) (s : State) : (addClaim n k o s).lastServed = s.lastServed := by unfold addClaim; split <;> rfl
@[simp] theorem addClaim_ops (n k : Nat) (o : ClaimObj) (s : State) : (addClaim n k o s).ops = s.ops := by unfold addClaim; split <;> rfl
@[simp] theorem addClaim_opCtr (n k : Nat) (o : ClaimObj) (s : State) : (addClaim n k o s).opCtr = s.opCtr := by unfold addClaim; split <;> rfl
@[simp] theorem addClaim_parts (n k : Nat) (o : ClaimObj) (s : State) : (addClaim n k o s).parts = s.parts := by unfold addClaim; split <;> rfl
@[simp] theorem addClaim_rt (n k : Nat) (o : ClaimObj) (s : State) : (addClaim n k o s).rt = s.rt := by unfold addClaim; split <;> rfl
@[simp] theorem addClaim_rtNext (n k : Nat) (o : ClaimObj) (s : State) : (addClaim n k o s).rtNext = s.rtNext := by unfold addClaim; split <;> rfl
@[simp] theorem addClaim_rtFree (n k : Nat) (o : ClaimObj) (s : State) : (addClaim n k o s).rtFree = s.rtFree := by unfold addClaim; split <;> rfl
@[simp] theorem addClaim_tenants (n k : Nat) (o : ClaimObj) (s : State) : (addClaim n k o s).tenants = s.tenants := by unfold addClaim; split <;> rfl
@[simp] theorem addClaim_acct (n k : Nat) (o : ClaimObj) (s : State) : (addClaim n k o s).acct = s.acct := by unfold addClaim; split <;> rfl
@[simp] theorem addClaim_images (n k : Nat) (o : ClaimObj) (s : State) : (addClaim n k o s).images = s.images := by unfold addClaim; split <;> rfl
@[simp] theorem addClaim_swap (n k : Nat) (o : ClaimObj) (s : State) : (addClaim n k o s).swap = s.swap := by unfold addClaim; split <;> rfl
@[simp] theorem addClaim_held (n k : Nat) (o : ClaimObj) (s : State) : (addClaim n k o s).held = s.held := by unfold addClaim; split <;> rfl
@[simp] theorem addClaim_svc (n k : Nat) (o : ClaimObj) (s : State) : (addClaim n k o s).svc = s.svc := by unfold addClaim; split <;> rfl
@[simp] theorem addClaim_glb (n k : Nat) (o : ClaimObj) (s : State) : (addClaim n k o s).glb = s.glb := by unfold addClaim; split <;> rfl
@[simp] theorem addClaim_dev (n k : Nat) (o : ClaimObj) (s : State) : (addClaim n k o s).dev = s.dev := by unfold addClaim; split <;> rfl
@[simp] theorem addClaim_flt (n k : Nat) (o : ClaimObj) (s : State) : (addClaim n k o s).flt = s.flt := by unfold addClaim; split <;> rfl
@[simp] theorem addClaim_regions (n k : Nat) (o : ClaimObj) (s : State) : (addClaim n k o s).regions = s.regions := by unfold addClaim; split <;> rfl
@[simp] theorem addClaim_frames (n k : Nat) (o : ClaimObj) (s : State) : (addClaim n k o s).frames = s.frames := by unfold addClaim; split <;> rfl
@[simp] theorem addClaim_nodes (n k : Nat) (o : ClaimObj) (s : State) : (addClaim n k o s).nodes = s.nodes := by unfold addClaim; split <;> rfl
@[simp] theorem addClaim_pins (n k : Nat) (o : ClaimObj) (s : State) : (addClaim n k o s).pins = s.pins := by unfold addClaim; split <;> rfl
@[simp] theorem addClaim_tier (n k : Nat) (o : ClaimObj) (s : State) : (addClaim n k o s).tier = s.tier := by unfold addClaim; split <;> rfl
@[simp] theorem addClaim_pldmQueue (n k : Nat) (o : ClaimObj) (s : State) : (addClaim n k o s).pldmQueue = s.pldmQueue := by unfold addClaim; split <;> rfl
@[simp] theorem addClaim_tel (n k : Nat) (o : ClaimObj) (s : State) : (addClaim n k o s).tel = s.tel := by unfold addClaim; split <;> rfl
@[simp] theorem addClaim_certs (n k : Nat) (o : ClaimObj) (s : State) : (addClaim n k o s).certs = s.certs := by unfold addClaim; split <;> rfl
@[simp] theorem addClaim_keySlots (n k : Nat) (o : ClaimObj) (s : State) : (addClaim n k o s).keySlots = s.keySlots := by unfold addClaim; split <;> rfl
@[simp] theorem addClaim_tickets (n k : Nat) (o : ClaimObj) (s : State) : (addClaim n k o s).tickets = s.tickets := by unfold addClaim; split <;> rfl
@[simp] theorem addClaim_parks (n k : Nat) (o : ClaimObj) (s : State) : (addClaim n k o s).parks = s.parks := by unfold addClaim; split <;> rfl
@[simp] theorem addClaim_pulls (n k : Nat) (o : ClaimObj) (s : State) : (addClaim n k o s).pulls = s.pulls := by unfold addClaim; split <;> rfl
@[simp] theorem addClaim_draws (n k : Nat) (o : ClaimObj) (s : State) : (addClaim n k o s).draws = s.draws := by unfold addClaim; split <;> rfl
@[simp] theorem addClaim_flash (n k : Nat) (o : ClaimObj) (s : State) : (addClaim n k o s).flash = s.flash := by unfold addClaim; split <;> rfl
@[simp] theorem addClaim_xfers (n k : Nat) (o : ClaimObj) (s : State) : (addClaim n k o s).xfers = s.xfers := by unfold addClaim; split <;> rfl
@[simp] theorem addClaim_pset (n k : Nat) (o : ClaimObj) (s : State) : (addClaim n k o s).pset = s.pset := by unfold addClaim; split <;> rfl
@[simp] theorem addClaim_coh (n k : Nat) (o : ClaimObj) (s : State) : (addClaim n k o s).coh = s.coh := by unfold addClaim; split <;> rfl
@[simp] theorem addClaim_hup (n k : Nat) (o : ClaimObj) (s : State) : (addClaim n k o s).hup = s.hup := by unfold addClaim; split <;> rfl
@[simp] theorem addClaim_pwr (n k : Nat) (o : ClaimObj) (s : State) : (addClaim n k o s).pwr = s.pwr := by unfold addClaim; split <;> rfl
@[simp] theorem addClaim_mgmt (n k : Nat) (o : ClaimObj) (s : State) : (addClaim n k o s).mgmt = s.mgmt := by unfold addClaim; split <;> rfl
@[simp] theorem addClaim_out (n k : Nat) (o : ClaimObj) (s : State) : (addClaim n k o s).out = s.out := by unfold addClaim; split <;> rfl
@[simp] theorem addClaim_freeCtr (n k : Nat) (o : ClaimObj) (s : State) : (addClaim n k o s).freeCtr = s.freeCtr := by unfold addClaim; split <;> rfl

@[simp] theorem placeResp_pending (n a b c d : Nat) (r : Reply) (s : State) : (placeResp n a b c d r s).pending = s.pending := by unfold placeResp; extract_lets; split <;> rfl
@[simp] theorem placeResp_ports (n a b c d : Nat) (r : Reply) (s : State) : (placeResp n a b c d r s).ports = s.ports := by unfold placeResp; extract_lets; split <;> rfl
@[simp] theorem placeResp_lds (n a b c d : Nat) (r : Reply) (s : State) : (placeResp n a b c d r s).lds = s.lds := by unfold placeResp; extract_lets; split <;> rfl
@[simp] theorem placeResp_lastServed (n a b c d : Nat) (r : Reply) (s : State) : (placeResp n a b c d r s).lastServed = s.lastServed := by unfold placeResp; extract_lets; split <;> rfl
@[simp] theorem placeResp_ops (n a b c d : Nat) (r : Reply) (s : State) : (placeResp n a b c d r s).ops = s.ops := by unfold placeResp; extract_lets; split <;> rfl
@[simp] theorem placeResp_opCtr (n a b c d : Nat) (r : Reply) (s : State) : (placeResp n a b c d r s).opCtr = s.opCtr := by unfold placeResp; extract_lets; split <;> rfl
@[simp] theorem placeResp_claims (n a b c d : Nat) (r : Reply) (s : State) : (placeResp n a b c d r s).claims = s.claims := by unfold placeResp; extract_lets; split <;> rfl
@[simp] theorem placeResp_parts (n a b c d : Nat) (r : Reply) (s : State) : (placeResp n a b c d r s).parts = s.parts := by unfold placeResp; extract_lets; split <;> rfl
@[simp] theorem placeResp_rt (n a b c d : Nat) (r : Reply) (s : State) : (placeResp n a b c d r s).rt = s.rt := by unfold placeResp; extract_lets; split <;> rfl
@[simp] theorem placeResp_rtNext (n a b c d : Nat) (r : Reply) (s : State) : (placeResp n a b c d r s).rtNext = s.rtNext := by unfold placeResp; extract_lets; split <;> rfl
@[simp] theorem placeResp_rtFree (n a b c d : Nat) (r : Reply) (s : State) : (placeResp n a b c d r s).rtFree = s.rtFree := by unfold placeResp; extract_lets; split <;> rfl
@[simp] theorem placeResp_tenants (n a b c d : Nat) (r : Reply) (s : State) : (placeResp n a b c d r s).tenants = s.tenants := by unfold placeResp; extract_lets; split <;> rfl
@[simp] theorem placeResp_acct (n a b c d : Nat) (r : Reply) (s : State) : (placeResp n a b c d r s).acct = s.acct := by unfold placeResp; extract_lets; split <;> rfl
@[simp] theorem placeResp_images (n a b c d : Nat) (r : Reply) (s : State) : (placeResp n a b c d r s).images = s.images := by unfold placeResp; extract_lets; split <;> rfl
@[simp] theorem placeResp_swap (n a b c d : Nat) (r : Reply) (s : State) : (placeResp n a b c d r s).swap = s.swap := by unfold placeResp; extract_lets; split <;> rfl
@[simp] theorem placeResp_held (n a b c d : Nat) (r : Reply) (s : State) : (placeResp n a b c d r s).held = s.held := by unfold placeResp; extract_lets; split <;> rfl
@[simp] theorem placeResp_svc (n a b c d : Nat) (r : Reply) (s : State) : (placeResp n a b c d r s).svc = s.svc := by unfold placeResp; extract_lets; split <;> rfl
@[simp] theorem placeResp_glb (n a b c d : Nat) (r : Reply) (s : State) : (placeResp n a b c d r s).glb = s.glb := by unfold placeResp; extract_lets; split <;> rfl
@[simp] theorem placeResp_dev (n a b c d : Nat) (r : Reply) (s : State) : (placeResp n a b c d r s).dev = s.dev := by unfold placeResp; extract_lets; split <;> rfl
@[simp] theorem placeResp_flt (n a b c d : Nat) (r : Reply) (s : State) : (placeResp n a b c d r s).flt = s.flt := by unfold placeResp; extract_lets; split <;> rfl
@[simp] theorem placeResp_regions (n a b c d : Nat) (r : Reply) (s : State) : (placeResp n a b c d r s).regions = s.regions := by unfold placeResp; extract_lets; split <;> rfl
@[simp] theorem placeResp_frames (n a b c d : Nat) (r : Reply) (s : State) : (placeResp n a b c d r s).frames = s.frames := by unfold placeResp; extract_lets; split <;> rfl
@[simp] theorem placeResp_nodes (n a b c d : Nat) (r : Reply) (s : State) : (placeResp n a b c d r s).nodes = s.nodes := by unfold placeResp; extract_lets; split <;> rfl
@[simp] theorem placeResp_pins (n a b c d : Nat) (r : Reply) (s : State) : (placeResp n a b c d r s).pins = s.pins := by unfold placeResp; extract_lets; split <;> rfl
@[simp] theorem placeResp_tier (n a b c d : Nat) (r : Reply) (s : State) : (placeResp n a b c d r s).tier = s.tier := by unfold placeResp; extract_lets; split <;> rfl
@[simp] theorem placeResp_pldmQueue (n a b c d : Nat) (r : Reply) (s : State) : (placeResp n a b c d r s).pldmQueue = s.pldmQueue := by unfold placeResp; extract_lets; split <;> rfl
@[simp] theorem placeResp_tel (n a b c d : Nat) (r : Reply) (s : State) : (placeResp n a b c d r s).tel = s.tel := by unfold placeResp; extract_lets; split <;> rfl
@[simp] theorem placeResp_certs (n a b c d : Nat) (r : Reply) (s : State) : (placeResp n a b c d r s).certs = s.certs := by unfold placeResp; extract_lets; split <;> rfl
@[simp] theorem placeResp_keySlots (n a b c d : Nat) (r : Reply) (s : State) : (placeResp n a b c d r s).keySlots = s.keySlots := by unfold placeResp; extract_lets; split <;> rfl
@[simp] theorem placeResp_tickets (n a b c d : Nat) (r : Reply) (s : State) : (placeResp n a b c d r s).tickets = s.tickets := by unfold placeResp; extract_lets; split <;> rfl
@[simp] theorem placeResp_parks (n a b c d : Nat) (r : Reply) (s : State) : (placeResp n a b c d r s).parks = s.parks := by unfold placeResp; extract_lets; split <;> rfl
@[simp] theorem placeResp_pulls (n a b c d : Nat) (r : Reply) (s : State) : (placeResp n a b c d r s).pulls = s.pulls := by unfold placeResp; extract_lets; split <;> rfl
@[simp] theorem placeResp_draws (n a b c d : Nat) (r : Reply) (s : State) : (placeResp n a b c d r s).draws = s.draws := by unfold placeResp; extract_lets; split <;> rfl
@[simp] theorem placeResp_flash (n a b c d : Nat) (r : Reply) (s : State) : (placeResp n a b c d r s).flash = s.flash := by unfold placeResp; extract_lets; split <;> rfl
@[simp] theorem placeResp_xfers (n a b c d : Nat) (r : Reply) (s : State) : (placeResp n a b c d r s).xfers = s.xfers := by unfold placeResp; extract_lets; split <;> rfl
@[simp] theorem placeResp_pset (n a b c d : Nat) (r : Reply) (s : State) : (placeResp n a b c d r s).pset = s.pset := by unfold placeResp; extract_lets; split <;> rfl
@[simp] theorem placeResp_coh (n a b c d : Nat) (r : Reply) (s : State) : (placeResp n a b c d r s).coh = s.coh := by unfold placeResp; extract_lets; split <;> rfl
@[simp] theorem placeResp_hup (n a b c d : Nat) (r : Reply) (s : State) : (placeResp n a b c d r s).hup = s.hup := by unfold placeResp; extract_lets; split <;> rfl
@[simp] theorem placeResp_pwr (n a b c d : Nat) (r : Reply) (s : State) : (placeResp n a b c d r s).pwr = s.pwr := by unfold placeResp; extract_lets; split <;> rfl
@[simp] theorem placeResp_mgmt (n a b c d : Nat) (r : Reply) (s : State) : (placeResp n a b c d r s).mgmt = s.mgmt := by unfold placeResp; extract_lets; split <;> rfl
@[simp] theorem placeResp_freeCtr (n a b c d : Nat) (r : Reply) (s : State) : (placeResp n a b c d r s).freeCtr = s.freeCtr := by unfold placeResp; extract_lets; split <;> rfl

/-- What an answer can be to the state: the claims, the mailboxes and what has been sent apart, all is as before. -/
def Answers (s t : State) : Prop := ∃ c m l, t = { s with claims := c, seats := m, out := l }

theorem Answers.trans {s t u : State} (h : Answers s t) (k : Answers t u) : Answers s u := by
  obtain ⟨_, _, _, rfl⟩ := h
  obtain ⟨_, _, _, rfl⟩ := k
  exact ⟨_, _, _, rfl⟩

theorem addClaim_answers (n k : Nat) (o : ClaimObj) (s : State) : Answers s (addClaim n k o s) := by
  unfold addClaim
  split <;> exact ⟨_, _, _, rfl⟩

theorem placeResp_answers (n a b c d : Nat) (r : Reply) (s : State) : Answers s (placeResp n a b c d r s) := by
  unfold placeResp
  extract_lets
  split <;> exact ⟨_, _, _, rfl⟩

/-- An answer changes at most the claims, the mailboxes and what has been sent. -/
theorem answer_form (e : Env) (r : Reply) (s : State) : Answers s (answer e r s) := by
  have h : ∀ t, Answers s t → ∀ m : Mailbox, Answers s (if discards t e.seat then dropResp e.seat t
      else match r.op with
      | some _ => if e.deferOk then placeResp e.seat e.tag e.hostTime m.posted t.dev.devtime r t else t
      | none => placeResp e.seat e.tag e.hostTime m.posted t.dev.devtime r t) := by
    intro t ht m
    split
    · exact ht.trans ⟨_, _, _, rfl⟩
    · split
      · split
        · exact ht.trans (placeResp_answers ..)
        · exact ht
      · exact ht.trans (placeResp_answers ..)
  unfold answer
  refine h _ ?_ _
  split
  · exact addClaim_answers ..
  · exact ⟨_, _, _, rfl⟩
  · exact ⟨_, _, _, rfl⟩

@[simp] theorem answer_pending (e : Env) (r : Reply) (s : State) : (answer e r s).pending = s.pending := by obtain ⟨_, _, _, h⟩ := answer_form e r s; rw [h]
@[simp] theorem answer_ports (e : Env) (r : Reply) (s : State) : (answer e r s).ports = s.ports := by obtain ⟨_, _, _, h⟩ := answer_form e r s; rw [h]
@[simp] theorem answer_lds (e : Env) (r : Reply) (s : State) : (answer e r s).lds = s.lds := by obtain ⟨_, _, _, h⟩ := answer_form e r s; rw [h]
@[simp] theorem answer_lastServed (e : Env) (r : Reply) (s : State) : (answer e r s).lastServed = s.lastServed := by obtain ⟨_, _, _, h⟩ := answer_form e r s; rw [h]
@[simp] theorem answer_ops (e : Env) (r : Reply) (s : State) : (answer e r s).ops = s.ops := by obtain ⟨_, _, _, h⟩ := answer_form e r s; rw [h]
@[simp] theorem answer_opCtr (e : Env) (r : Reply) (s : State) : (answer e r s).opCtr = s.opCtr := by obtain ⟨_, _, _, h⟩ := answer_form e r s; rw [h]
@[simp] theorem answer_parts (e : Env) (r : Reply) (s : State) : (answer e r s).parts = s.parts := by obtain ⟨_, _, _, h⟩ := answer_form e r s; rw [h]
@[simp] theorem answer_rt (e : Env) (r : Reply) (s : State) : (answer e r s).rt = s.rt := by obtain ⟨_, _, _, h⟩ := answer_form e r s; rw [h]
@[simp] theorem answer_rtNext (e : Env) (r : Reply) (s : State) : (answer e r s).rtNext = s.rtNext := by obtain ⟨_, _, _, h⟩ := answer_form e r s; rw [h]
@[simp] theorem answer_rtFree (e : Env) (r : Reply) (s : State) : (answer e r s).rtFree = s.rtFree := by obtain ⟨_, _, _, h⟩ := answer_form e r s; rw [h]
@[simp] theorem answer_tenants (e : Env) (r : Reply) (s : State) : (answer e r s).tenants = s.tenants := by obtain ⟨_, _, _, h⟩ := answer_form e r s; rw [h]
@[simp] theorem answer_acct (e : Env) (r : Reply) (s : State) : (answer e r s).acct = s.acct := by obtain ⟨_, _, _, h⟩ := answer_form e r s; rw [h]
@[simp] theorem answer_images (e : Env) (r : Reply) (s : State) : (answer e r s).images = s.images := by obtain ⟨_, _, _, h⟩ := answer_form e r s; rw [h]
@[simp] theorem answer_swap (e : Env) (r : Reply) (s : State) : (answer e r s).swap = s.swap := by obtain ⟨_, _, _, h⟩ := answer_form e r s; rw [h]
@[simp] theorem answer_held (e : Env) (r : Reply) (s : State) : (answer e r s).held = s.held := by obtain ⟨_, _, _, h⟩ := answer_form e r s; rw [h]
@[simp] theorem answer_svc (e : Env) (r : Reply) (s : State) : (answer e r s).svc = s.svc := by obtain ⟨_, _, _, h⟩ := answer_form e r s; rw [h]
@[simp] theorem answer_glb (e : Env) (r : Reply) (s : State) : (answer e r s).glb = s.glb := by obtain ⟨_, _, _, h⟩ := answer_form e r s; rw [h]
@[simp] theorem answer_dev (e : Env) (r : Reply) (s : State) : (answer e r s).dev = s.dev := by obtain ⟨_, _, _, h⟩ := answer_form e r s; rw [h]
@[simp] theorem answer_flt (e : Env) (r : Reply) (s : State) : (answer e r s).flt = s.flt := by obtain ⟨_, _, _, h⟩ := answer_form e r s; rw [h]
@[simp] theorem answer_regions (e : Env) (r : Reply) (s : State) : (answer e r s).regions = s.regions := by obtain ⟨_, _, _, h⟩ := answer_form e r s; rw [h]
@[simp] theorem answer_frames (e : Env) (r : Reply) (s : State) : (answer e r s).frames = s.frames := by obtain ⟨_, _, _, h⟩ := answer_form e r s; rw [h]
@[simp] theorem answer_nodes (e : Env) (r : Reply) (s : State) : (answer e r s).nodes = s.nodes := by obtain ⟨_, _, _, h⟩ := answer_form e r s; rw [h]
@[simp] theorem answer_pins (e : Env) (r : Reply) (s : State) : (answer e r s).pins = s.pins := by obtain ⟨_, _, _, h⟩ := answer_form e r s; rw [h]
@[simp] theorem answer_tier (e : Env) (r : Reply) (s : State) : (answer e r s).tier = s.tier := by obtain ⟨_, _, _, h⟩ := answer_form e r s; rw [h]
@[simp] theorem answer_pldmQueue (e : Env) (r : Reply) (s : State) : (answer e r s).pldmQueue = s.pldmQueue := by obtain ⟨_, _, _, h⟩ := answer_form e r s; rw [h]
@[simp] theorem answer_tel (e : Env) (r : Reply) (s : State) : (answer e r s).tel = s.tel := by obtain ⟨_, _, _, h⟩ := answer_form e r s; rw [h]
@[simp] theorem answer_certs (e : Env) (r : Reply) (s : State) : (answer e r s).certs = s.certs := by obtain ⟨_, _, _, h⟩ := answer_form e r s; rw [h]
@[simp] theorem answer_keySlots (e : Env) (r : Reply) (s : State) : (answer e r s).keySlots = s.keySlots := by obtain ⟨_, _, _, h⟩ := answer_form e r s; rw [h]
@[simp] theorem answer_tickets (e : Env) (r : Reply) (s : State) : (answer e r s).tickets = s.tickets := by obtain ⟨_, _, _, h⟩ := answer_form e r s; rw [h]
@[simp] theorem answer_parks (e : Env) (r : Reply) (s : State) : (answer e r s).parks = s.parks := by obtain ⟨_, _, _, h⟩ := answer_form e r s; rw [h]
@[simp] theorem answer_pulls (e : Env) (r : Reply) (s : State) : (answer e r s).pulls = s.pulls := by obtain ⟨_, _, _, h⟩ := answer_form e r s; rw [h]
@[simp] theorem answer_draws (e : Env) (r : Reply) (s : State) : (answer e r s).draws = s.draws := by obtain ⟨_, _, _, h⟩ := answer_form e r s; rw [h]
@[simp] theorem answer_flash (e : Env) (r : Reply) (s : State) : (answer e r s).flash = s.flash := by obtain ⟨_, _, _, h⟩ := answer_form e r s; rw [h]
@[simp] theorem answer_xfers (e : Env) (r : Reply) (s : State) : (answer e r s).xfers = s.xfers := by obtain ⟨_, _, _, h⟩ := answer_form e r s; rw [h]
@[simp] theorem answer_pset (e : Env) (r : Reply) (s : State) : (answer e r s).pset = s.pset := by obtain ⟨_, _, _, h⟩ := answer_form e r s; rw [h]
@[simp] theorem answer_coh (e : Env) (r : Reply) (s : State) : (answer e r s).coh = s.coh := by obtain ⟨_, _, _, h⟩ := answer_form e r s; rw [h]
@[simp] theorem answer_hup (e : Env) (r : Reply) (s : State) : (answer e r s).hup = s.hup := by obtain ⟨_, _, _, h⟩ := answer_form e r s; rw [h]
@[simp] theorem answer_pwr (e : Env) (r : Reply) (s : State) : (answer e r s).pwr = s.pwr := by obtain ⟨_, _, _, h⟩ := answer_form e r s; rw [h]
@[simp] theorem answer_mgmt (e : Env) (r : Reply) (s : State) : (answer e r s).mgmt = s.mgmt := by obtain ⟨_, _, _, h⟩ := answer_form e r s; rw [h]
@[simp] theorem answer_freeCtr (e : Env) (r : Reply) (s : State) : (answer e r s).freeCtr = s.freeCtr := by obtain ⟨_, _, _, h⟩ := answer_form e r s; rw [h]

@[simp] theorem takeCmd_pending (e o : Nat) (s : State) : (takeCmd e o s).pending = s.pending := rfl
@[simp] theorem takeCmd_ports (e o : Nat) (s : State) : (takeCmd e o s).ports = s.ports := rfl
@[simp] theorem takeCmd_lds (e o : Nat) (s : State) : (takeCmd e o s).lds = s.lds := rfl
@[simp] theorem takeCmd_opCtr (e o : Nat) (s : State) : (takeCmd e o s).opCtr = s.opCtr := rfl
@[simp] theorem takeCmd_parts (e o : Nat) (s : State) : (takeCmd e o s).parts = s.parts := rfl
@[simp] theorem takeCmd_rt (e o : Nat) (s : State) : (takeCmd e o s).rt = s.rt := rfl
@[simp] theorem takeCmd_rtNext (e o : Nat) (s : State) : (takeCmd e o s).rtNext = s.rtNext := rfl
@[simp] theorem takeCmd_rtFree (e o : Nat) (s : State) : (takeCmd e o s).rtFree = s.rtFree := rfl
@[simp] theorem takeCmd_tenants (e o : Nat) (s : State) : (takeCmd e o s).tenants = s.tenants := rfl
@[simp] theorem takeCmd_acct (e o : Nat) (s : State) : (takeCmd e o s).acct = s.acct := rfl
@[simp] theorem takeCmd_images (e o : Nat) (s : State) : (takeCmd e o s).images = s.images := rfl
@[simp] theorem takeCmd_swap (e o : Nat) (s : State) : (takeCmd e o s).swap = s.swap := rfl
@[simp] theorem takeCmd_held (e o : Nat) (s : State) : (takeCmd e o s).held = s.held := rfl
@[simp] theorem takeCmd_svc (e o : Nat) (s : State) : (takeCmd e o s).svc = s.svc := rfl
@[simp] theorem takeCmd_glb (e o : Nat) (s : State) : (takeCmd e o s).glb = s.glb := rfl
@[simp] theorem takeCmd_regions (e o : Nat) (s : State) : (takeCmd e o s).regions = s.regions := rfl
@[simp] theorem takeCmd_frames (e o : Nat) (s : State) : (takeCmd e o s).frames = s.frames := rfl
@[simp] theorem takeCmd_nodes (e o : Nat) (s : State) : (takeCmd e o s).nodes = s.nodes := rfl
@[simp] theorem takeCmd_pins (e o : Nat) (s : State) : (takeCmd e o s).pins = s.pins := rfl
@[simp] theorem takeCmd_tier (e o : Nat) (s : State) : (takeCmd e o s).tier = s.tier := rfl
@[simp] theorem takeCmd_pldmQueue (e o : Nat) (s : State) : (takeCmd e o s).pldmQueue = s.pldmQueue := rfl
@[simp] theorem takeCmd_tel (e o : Nat) (s : State) : (takeCmd e o s).tel = s.tel := rfl
@[simp] theorem takeCmd_certs (e o : Nat) (s : State) : (takeCmd e o s).certs = s.certs := rfl
@[simp] theorem takeCmd_keySlots (e o : Nat) (s : State) : (takeCmd e o s).keySlots = s.keySlots := rfl
@[simp] theorem takeCmd_tickets (e o : Nat) (s : State) : (takeCmd e o s).tickets = s.tickets := rfl
@[simp] theorem takeCmd_parks (e o : Nat) (s : State) : (takeCmd e o s).parks = s.parks := rfl
@[simp] theorem takeCmd_draws (e o : Nat) (s : State) : (takeCmd e o s).draws = s.draws := rfl
@[simp] theorem takeCmd_flash (e o : Nat) (s : State) : (takeCmd e o s).flash = s.flash := rfl
@[simp] theorem takeCmd_pset (e o : Nat) (s : State) : (takeCmd e o s).pset = s.pset := rfl
@[simp] theorem takeCmd_coh (e o : Nat) (s : State) : (takeCmd e o s).coh = s.coh := rfl
@[simp] theorem takeCmd_hup (e o : Nat) (s : State) : (takeCmd e o s).hup = s.hup := rfl
@[simp] theorem takeCmd_pwr (e o : Nat) (s : State) : (takeCmd e o s).pwr = s.pwr := rfl
@[simp] theorem takeCmd_mgmt (e o : Nat) (s : State) : (takeCmd e o s).mgmt = s.mgmt := rfl
@[simp] theorem takeCmd_out (e o : Nat) (s : State) : (takeCmd e o s).out = s.out := rfl
@[simp] theorem takeCmd_freeCtr (e o : Nat) (s : State) : (takeCmd e o s).freeCtr = s.freeCtr := rfl

@[simp] theorem accepted_pending (o : OpInfo) (e : Env) (l : List ClaimObj) (s : State) : (accepted o e l s).pending = s.pending := rfl
@[simp] theorem accepted_ports (o : OpInfo) (e : Env) (l : List ClaimObj) (s : State) : (accepted o e l s).ports = s.ports := rfl
@[simp] theorem accepted_lds (o : OpInfo) (e : Env) (l : List ClaimObj) (s : State) : (accepted o e l s).lds = s.lds := rfl
@[simp] theorem accepted_ops (o : OpInfo) (e : Env) (l : List ClaimObj) (s : State) : (accepted o e l s).ops = s.ops := rfl
@[simp] theorem accepted_opCtr (o : OpInfo) (e : Env) (l : List ClaimObj) (s : State) : (accepted o e l s).opCtr = s.opCtr := rfl
@[simp] theorem accepted_parts (o : OpInfo) (e : Env) (l : List ClaimObj) (s : State) : (accepted o e l s).parts = s.parts := rfl
@[simp] theorem accepted_rt (o : OpInfo) (e : Env) (l : List ClaimObj) (s : State) : (accepted o e l s).rt = s.rt := rfl
@[simp] theorem accepted_rtNext (o : OpInfo) (e : Env) (l : List ClaimObj) (s : State) : (accepted o e l s).rtNext = s.rtNext := rfl
@[simp] theorem accepted_rtFree (o : OpInfo) (e : Env) (l : List ClaimObj) (s : State) : (accepted o e l s).rtFree = s.rtFree := rfl
@[simp] theorem accepted_tenants (o : OpInfo) (e : Env) (l : List ClaimObj) (s : State) : (accepted o e l s).tenants = s.tenants := rfl
@[simp] theorem accepted_acct (o : OpInfo) (e : Env) (l : List ClaimObj) (s : State) : (accepted o e l s).acct = s.acct := rfl
@[simp] theorem accepted_images (o : OpInfo) (e : Env) (l : List ClaimObj) (s : State) : (accepted o e l s).images = s.images := rfl
@[simp] theorem accepted_swap (o : OpInfo) (e : Env) (l : List ClaimObj) (s : State) : (accepted o e l s).swap = s.swap := rfl
@[simp] theorem accepted_held (o : OpInfo) (e : Env) (l : List ClaimObj) (s : State) : (accepted o e l s).held = s.held := rfl
@[simp] theorem accepted_svc (o : OpInfo) (e : Env) (l : List ClaimObj) (s : State) : (accepted o e l s).svc = s.svc := rfl
@[simp] theorem accepted_glb (o : OpInfo) (e : Env) (l : List ClaimObj) (s : State) : (accepted o e l s).glb = s.glb := rfl
@[simp] theorem accepted_dev (o : OpInfo) (e : Env) (l : List ClaimObj) (s : State) : (accepted o e l s).dev = s.dev := rfl
@[simp] theorem accepted_flt (o : OpInfo) (e : Env) (l : List ClaimObj) (s : State) : (accepted o e l s).flt = s.flt := rfl
@[simp] theorem accepted_regions (o : OpInfo) (e : Env) (l : List ClaimObj) (s : State) : (accepted o e l s).regions = s.regions := rfl
@[simp] theorem accepted_frames (o : OpInfo) (e : Env) (l : List ClaimObj) (s : State) : (accepted o e l s).frames = s.frames := rfl
@[simp] theorem accepted_nodes (o : OpInfo) (e : Env) (l : List ClaimObj) (s : State) : (accepted o e l s).nodes = s.nodes := rfl
@[simp] theorem accepted_pins (o : OpInfo) (e : Env) (l : List ClaimObj) (s : State) : (accepted o e l s).pins = s.pins := rfl
@[simp] theorem accepted_tier (o : OpInfo) (e : Env) (l : List ClaimObj) (s : State) : (accepted o e l s).tier = s.tier := rfl
@[simp] theorem accepted_pldmQueue (o : OpInfo) (e : Env) (l : List ClaimObj) (s : State) : (accepted o e l s).pldmQueue = s.pldmQueue := rfl
@[simp] theorem accepted_tel (o : OpInfo) (e : Env) (l : List ClaimObj) (s : State) : (accepted o e l s).tel = s.tel := rfl
@[simp] theorem accepted_certs (o : OpInfo) (e : Env) (l : List ClaimObj) (s : State) : (accepted o e l s).certs = s.certs := rfl
@[simp] theorem accepted_keySlots (o : OpInfo) (e : Env) (l : List ClaimObj) (s : State) : (accepted o e l s).keySlots = s.keySlots := rfl
@[simp] theorem accepted_tickets (o : OpInfo) (e : Env) (l : List ClaimObj) (s : State) : (accepted o e l s).tickets = s.tickets := rfl
@[simp] theorem accepted_parks (o : OpInfo) (e : Env) (l : List ClaimObj) (s : State) : (accepted o e l s).parks = s.parks := rfl
@[simp] theorem accepted_pulls (o : OpInfo) (e : Env) (l : List ClaimObj) (s : State) : (accepted o e l s).pulls = s.pulls := rfl
@[simp] theorem accepted_draws (o : OpInfo) (e : Env) (l : List ClaimObj) (s : State) : (accepted o e l s).draws = s.draws := rfl
@[simp] theorem accepted_flash (o : OpInfo) (e : Env) (l : List ClaimObj) (s : State) : (accepted o e l s).flash = s.flash := rfl
@[simp] theorem accepted_xfers (o : OpInfo) (e : Env) (l : List ClaimObj) (s : State) : (accepted o e l s).xfers = s.xfers := rfl
@[simp] theorem accepted_pset (o : OpInfo) (e : Env) (l : List ClaimObj) (s : State) : (accepted o e l s).pset = s.pset := rfl
@[simp] theorem accepted_coh (o : OpInfo) (e : Env) (l : List ClaimObj) (s : State) : (accepted o e l s).coh = s.coh := rfl
@[simp] theorem accepted_hup (o : OpInfo) (e : Env) (l : List ClaimObj) (s : State) : (accepted o e l s).hup = s.hup := rfl
@[simp] theorem accepted_pwr (o : OpInfo) (e : Env) (l : List ClaimObj) (s : State) : (accepted o e l s).pwr = s.pwr := rfl
@[simp] theorem accepted_mgmt (o : OpInfo) (e : Env) (l : List ClaimObj) (s : State) : (accepted o e l s).mgmt = s.mgmt := rfl
@[simp] theorem accepted_out (o : OpInfo) (e : Env) (l : List ClaimObj) (s : State) : (accepted o e l s).out = s.out := rfl
@[simp] theorem accepted_freeCtr (o : OpInfo) (e : Env) (l : List ClaimObj) (s : State) : (accepted o e l s).freeCtr = s.freeCtr := rfl

@[simp] theorem startOp_pending (e : Env) (k : OpKind) (s : State) : ((startOp e k s).1).pending = s.pending := rfl
@[simp] theorem startOp_seats (e : Env) (k : OpKind) (s : State) : ((startOp e k s).1).seats = s.seats := rfl
@[simp] theorem startOp_ports (e : Env) (k : OpKind) (s : State) : ((startOp e k s).1).ports = s.ports := rfl
@[simp] theorem startOp_lds (e : Env) (k : OpKind) (s : State) : ((startOp e k s).1).lds = s.lds := rfl
@[simp] theorem startOp_lastServed (e : Env) (k : OpKind) (s : State) : ((startOp e k s).1).lastServed = s.lastServed := rfl
@[simp] theorem startOp_claims (e : Env) (k : OpKind) (s : State) : ((startOp e k s).1).claims = s.claims := rfl
@[simp] theorem startOp_parts (e : Env) (k : OpKind) (s : State) : ((startOp e k s).1).parts = s.parts := rfl
@[simp] theorem startOp_rt (e : Env) (k : OpKind) (s : State) : ((startOp e k s).1).rt = s.rt := rfl
@[simp] theorem startOp_rtNext (e : Env) (k : OpKind) (s : State) : ((startOp e k s).1).rtNext = s.rtNext := rfl
@[simp] theorem startOp_rtFree (e : Env) (k : OpKind) (s : State) : ((startOp e k s).1).rtFree = s.rtFree := rfl
@[simp] theorem startOp_tenants (e : Env) (k : OpKind) (s : State) : ((startOp e k s).1).tenants = s.tenants := rfl
@[simp] theorem startOp_acct (e : Env) (k : OpKind) (s : State) : ((startOp e k s).1).acct = s.acct := rfl
@[simp] theorem startOp_images (e : Env) (k : OpKind) (s : State) : ((startOp e k s).1).images = s.images := rfl
@[simp] theorem startOp_swap (e : Env) (k : OpKind) (s : State) : ((startOp e k s).1).swap = s.swap := rfl
@[simp] theorem startOp_held (e : Env) (k : OpKind) (s : State) : ((startOp e k s).1).held = s.held := rfl
@[simp] theorem startOp_svc (e : Env) (k : OpKind) (s : State) : ((startOp e k s).1).svc = s.svc := rfl
@[simp] theorem startOp_glb (e : Env) (k : OpKind) (s : State) : ((startOp e k s).1).glb = s.glb := rfl
@[simp] theorem startOp_dev (e : Env) (k : OpKind) (s : State) : ((startOp e k s).1).dev = s.dev := rfl
@[simp] theorem startOp_flt (e : Env) (k : OpKind) (s : State) : ((startOp e k s).1).flt = s.flt := rfl
@[simp] theorem startOp_regions (e : Env) (k : OpKind) (s : State) : ((startOp e k s).1).regions = s.regions := rfl
@[simp] theorem startOp_frames (e : Env) (k : OpKind) (s : State) : ((startOp e k s).1).frames = s.frames := rfl
@[simp] theorem startOp_nodes (e : Env) (k : OpKind) (s : State) : ((startOp e k s).1).nodes = s.nodes := rfl
@[simp] theorem startOp_pins (e : Env) (k : OpKind) (s : State) : ((startOp e k s).1).pins = s.pins := rfl
@[simp] theorem startOp_tier (e : Env) (k : OpKind) (s : State) : ((startOp e k s).1).tier = s.tier := rfl
@[simp] theorem startOp_pldmQueue (e : Env) (k : OpKind) (s : State) : ((startOp e k s).1).pldmQueue = s.pldmQueue := rfl
@[simp] theorem startOp_tel (e : Env) (k : OpKind) (s : State) : ((startOp e k s).1).tel = s.tel := rfl
@[simp] theorem startOp_certs (e : Env) (k : OpKind) (s : State) : ((startOp e k s).1).certs = s.certs := rfl
@[simp] theorem startOp_keySlots (e : Env) (k : OpKind) (s : State) : ((startOp e k s).1).keySlots = s.keySlots := rfl
@[simp] theorem startOp_tickets (e : Env) (k : OpKind) (s : State) : ((startOp e k s).1).tickets = s.tickets := rfl
@[simp] theorem startOp_parks (e : Env) (k : OpKind) (s : State) : ((startOp e k s).1).parks = s.parks := rfl
@[simp] theorem startOp_pulls (e : Env) (k : OpKind) (s : State) : ((startOp e k s).1).pulls = s.pulls := rfl
@[simp] theorem startOp_draws (e : Env) (k : OpKind) (s : State) : ((startOp e k s).1).draws = s.draws := rfl
@[simp] theorem startOp_flash (e : Env) (k : OpKind) (s : State) : ((startOp e k s).1).flash = s.flash := rfl
@[simp] theorem startOp_xfers (e : Env) (k : OpKind) (s : State) : ((startOp e k s).1).xfers = s.xfers := rfl
@[simp] theorem startOp_pset (e : Env) (k : OpKind) (s : State) : ((startOp e k s).1).pset = s.pset := rfl
@[simp] theorem startOp_coh (e : Env) (k : OpKind) (s : State) : ((startOp e k s).1).coh = s.coh := rfl
@[simp] theorem startOp_hup (e : Env) (k : OpKind) (s : State) : ((startOp e k s).1).hup = s.hup := rfl
@[simp] theorem startOp_pwr (e : Env) (k : OpKind) (s : State) : ((startOp e k s).1).pwr = s.pwr := rfl
@[simp] theorem startOp_mgmt (e : Env) (k : OpKind) (s : State) : ((startOp e k s).1).mgmt = s.mgmt := rfl
@[simp] theorem startOp_out (e : Env) (k : OpKind) (s : State) : ((startOp e k s).1).out = s.out := rfl
@[simp] theorem startOp_freeCtr (e : Env) (k : OpKind) (s : State) : ((startOp e k s).1).freeCtr = s.freeCtr := rfl

@[simp] theorem acceptLong_pending (e : Env) (n : Nat) (s : State) : ((acceptLong e n s).1).pending = s.pending := by unfold acceptLong; split <;> rfl
@[simp] theorem acceptLong_ports (e : Env) (n : Nat) (s : State) : ((acceptLong e n s).1).ports = s.ports := by unfold acceptLong; split <;> rfl
@[simp] theorem acceptLong_lds (e : Env) (n : Nat) (s : State) : ((acceptLong e n s).1).lds = s.lds := by unfold acceptLong; split <;> rfl
@[simp] theorem acceptLong_lastServed (e : Env) (n : Nat) (s : State) : ((acceptLong e n s).1).lastServed = s.lastServed := by unfold acceptLong; split <;> rfl
@[simp] theorem acceptLong_ops (e : Env) (n : Nat) (s : State) : ((acceptLong e n s).1).ops = s.ops := by unfold acceptLong; split <;> rfl
@[simp] theorem acceptLong_opCtr (e : Env) (n : Nat) (s : State) : ((acceptLong e n s).1).opCtr = s.opCtr := by unfold acceptLong; split <;> rfl
@[simp] theorem acceptLong_claims (e : Env) (n : Nat) (s : State) : ((acceptLong e n s).1).claims = s.claims := by unfold acceptLong; split <;> rfl
@[simp] theorem acceptLong_parts (e : Env) (n : Nat) (s : State) : ((acceptLong e n s).1).parts = s.parts := by unfold acceptLong; split <;> rfl
@[simp] theorem acceptLong_rt (e : Env) (n : Nat) (s : State) : ((acceptLong e n s).1).rt = s.rt := by unfold acceptLong; split <;> rfl
@[simp] theorem acceptLong_rtNext (e : Env) (n : Nat) (s : State) : ((acceptLong e n s).1).rtNext = s.rtNext := by unfold acceptLong; split <;> rfl
@[simp] theorem acceptLong_rtFree (e : Env) (n : Nat) (s : State) : ((acceptLong e n s).1).rtFree = s.rtFree := by unfold acceptLong; split <;> rfl
@[simp] theorem acceptLong_tenants (e : Env) (n : Nat) (s : State) : ((acceptLong e n s).1).tenants = s.tenants := by unfold acceptLong; split <;> rfl
@[simp] theorem acceptLong_acct (e : Env) (n : Nat) (s : State) : ((acceptLong e n s).1).acct = s.acct := by unfold acceptLong; split <;> rfl
@[simp] theorem acceptLong_images (e : Env) (n : Nat) (s : State) : ((acceptLong e n s).1).images = s.images := by unfold acceptLong; split <;> rfl
@[simp] theorem acceptLong_swap (e : Env) (n : Nat) (s : State) : ((acceptLong e n s).1).swap = s.swap := by unfold acceptLong; split <;> rfl
@[simp] theorem acceptLong_held (e : Env) (n : Nat) (s : State) : ((acceptLong e n s).1).held = s.held := by unfold acceptLong; split <;> rfl
@[simp] theorem acceptLong_svc (e : Env) (n : Nat) (s : State) : ((acceptLong e n s).1).svc = s.svc := by unfold acceptLong; split <;> rfl
@[simp] theorem acceptLong_glb (e : Env) (n : Nat) (s : State) : ((acceptLong e n s).1).glb = s.glb := by unfold acceptLong; split <;> rfl
@[simp] theorem acceptLong_dev (e : Env) (n : Nat) (s : State) : ((acceptLong e n s).1).dev = s.dev := by unfold acceptLong; split <;> rfl
@[simp] theorem acceptLong_flt (e : Env) (n : Nat) (s : State) : ((acceptLong e n s).1).flt = s.flt := by unfold acceptLong; split <;> rfl
@[simp] theorem acceptLong_regions (e : Env) (n : Nat) (s : State) : ((acceptLong e n s).1).regions = s.regions := by unfold acceptLong; split <;> rfl
@[simp] theorem acceptLong_frames (e : Env) (n : Nat) (s : State) : ((acceptLong e n s).1).frames = s.frames := by unfold acceptLong; split <;> rfl
@[simp] theorem acceptLong_nodes (e : Env) (n : Nat) (s : State) : ((acceptLong e n s).1).nodes = s.nodes := by unfold acceptLong; split <;> rfl
@[simp] theorem acceptLong_pins (e : Env) (n : Nat) (s : State) : ((acceptLong e n s).1).pins = s.pins := by unfold acceptLong; split <;> rfl
@[simp] theorem acceptLong_tier (e : Env) (n : Nat) (s : State) : ((acceptLong e n s).1).tier = s.tier := by unfold acceptLong; split <;> rfl
@[simp] theorem acceptLong_pldmQueue (e : Env) (n : Nat) (s : State) : ((acceptLong e n s).1).pldmQueue = s.pldmQueue := by unfold acceptLong; split <;> rfl
@[simp] theorem acceptLong_tel (e : Env) (n : Nat) (s : State) : ((acceptLong e n s).1).tel = s.tel := by unfold acceptLong; split <;> rfl
@[simp] theorem acceptLong_certs (e : Env) (n : Nat) (s : State) : ((acceptLong e n s).1).certs = s.certs := by unfold acceptLong; split <;> rfl
@[simp] theorem acceptLong_keySlots (e : Env) (n : Nat) (s : State) : ((acceptLong e n s).1).keySlots = s.keySlots := by unfold acceptLong; split <;> rfl
@[simp] theorem acceptLong_tickets (e : Env) (n : Nat) (s : State) : ((acceptLong e n s).1).tickets = s.tickets := by unfold acceptLong; split <;> rfl
@[simp] theorem acceptLong_parks (e : Env) (n : Nat) (s : State) : ((acceptLong e n s).1).parks = s.parks := by unfold acceptLong; split <;> rfl
@[simp] theorem acceptLong_pulls (e : Env) (n : Nat) (s : State) : ((acceptLong e n s).1).pulls = s.pulls := by unfold acceptLong; split <;> rfl
@[simp] theorem acceptLong_draws (e : Env) (n : Nat) (s : State) : ((acceptLong e n s).1).draws = s.draws := by unfold acceptLong; split <;> rfl
@[simp] theorem acceptLong_flash (e : Env) (n : Nat) (s : State) : ((acceptLong e n s).1).flash = s.flash := by unfold acceptLong; split <;> rfl
@[simp] theorem acceptLong_xfers (e : Env) (n : Nat) (s : State) : ((acceptLong e n s).1).xfers = s.xfers := by unfold acceptLong; split <;> rfl
@[simp] theorem acceptLong_pset (e : Env) (n : Nat) (s : State) : ((acceptLong e n s).1).pset = s.pset := by unfold acceptLong; split <;> rfl
@[simp] theorem acceptLong_coh (e : Env) (n : Nat) (s : State) : ((acceptLong e n s).1).coh = s.coh := by unfold acceptLong; split <;> rfl
@[simp] theorem acceptLong_hup (e : Env) (n : Nat) (s : State) : ((acceptLong e n s).1).hup = s.hup := by unfold acceptLong; split <;> rfl
@[simp] theorem acceptLong_pwr (e : Env) (n : Nat) (s : State) : ((acceptLong e n s).1).pwr = s.pwr := by unfold acceptLong; split <;> rfl
@[simp] theorem acceptLong_mgmt (e : Env) (n : Nat) (s : State) : ((acceptLong e n s).1).mgmt = s.mgmt := by unfold acceptLong; split <;> rfl
@[simp] theorem acceptLong_out (e : Env) (n : Nat) (s : State) : ((acceptLong e n s).1).out = s.out := by unfold acceptLong; split <;> rfl
@[simp] theorem acceptLong_freeCtr (e : Env) (n : Nat) (s : State) : ((acceptLong e n s).1).freeCtr = s.freeCtr := by unfold acceptLong; split <;> rfl

@[simp] theorem startLong_pending (e : Env) (k : OpKind) (s : State) : ((startLong e k s).1).pending = s.pending := by simp [startLong]
@[simp] theorem startLong_ports (e : Env) (k : OpKind) (s : State) : ((startLong e k s).1).ports = s.ports := by simp [startLong]
@[simp] theorem startLong_lds (e : Env) (k : OpKind) (s : State) : ((startLong e k s).1).lds = s.lds := by simp [startLong]
@[simp] theorem startLong_lastServed (e : Env) (k : OpKind) (s : State) : ((startLong e k s).1).lastServed = s.lastServed := by simp [startLong]
@[simp] theorem startLong_claims (e : Env) (k : OpKind) (s : State) : ((startLong e k s).1).claims = s.claims := by simp [startLong]
@[simp] theorem startLong_parts (e : Env) (k : OpKind) (s : State) : ((startLong e k s).1).parts = s.parts := by simp [startLong]
@[simp] theorem startLong_rt (e : Env) (k : OpKind) (s : State) : ((startLong e k s).1).rt = s.rt := by simp [startLong]
@[simp] theorem startLong_rtNext (e : Env) (k : OpKind) (s : State) : ((startLong e k s).1).rtNext = s.rtNext := by simp [startLong]
@[simp] theorem startLong_rtFree (e : Env) (k : OpKind) (s : State) : ((startLong e k s).1).rtFree = s.rtFree := by simp [startLong]
@[simp] theorem startLong_tenants (e : Env) (k : OpKind) (s : State) : ((startLong e k s).1).tenants = s.tenants := by simp [startLong]
@[simp] theorem startLong_acct (e : Env) (k : OpKind) (s : State) : ((startLong e k s).1).acct = s.acct := by simp [startLong]
@[simp] theorem startLong_images (e : Env) (k : OpKind) (s : State) : ((startLong e k s).1).images = s.images := by simp [startLong]
@[simp] theorem startLong_swap (e : Env) (k : OpKind) (s : State) : ((startLong e k s).1).swap = s.swap := by simp [startLong]
@[simp] theorem startLong_held (e : Env) (k : OpKind) (s : State) : ((startLong e k s).1).held = s.held := by simp [startLong]
@[simp] theorem startLong_svc (e : Env) (k : OpKind) (s : State) : ((startLong e k s).1).svc = s.svc := by simp [startLong]
@[simp] theorem startLong_glb (e : Env) (k : OpKind) (s : State) : ((startLong e k s).1).glb = s.glb := by simp [startLong]
@[simp] theorem startLong_dev (e : Env) (k : OpKind) (s : State) : ((startLong e k s).1).dev = s.dev := by simp [startLong]
@[simp] theorem startLong_flt (e : Env) (k : OpKind) (s : State) : ((startLong e k s).1).flt = s.flt := by simp [startLong]
@[simp] theorem startLong_regions (e : Env) (k : OpKind) (s : State) : ((startLong e k s).1).regions = s.regions := by simp [startLong]
@[simp] theorem startLong_frames (e : Env) (k : OpKind) (s : State) : ((startLong e k s).1).frames = s.frames := by simp [startLong]
@[simp] theorem startLong_nodes (e : Env) (k : OpKind) (s : State) : ((startLong e k s).1).nodes = s.nodes := by simp [startLong]
@[simp] theorem startLong_pins (e : Env) (k : OpKind) (s : State) : ((startLong e k s).1).pins = s.pins := by simp [startLong]
@[simp] theorem startLong_tier (e : Env) (k : OpKind) (s : State) : ((startLong e k s).1).tier = s.tier := by simp [startLong]
@[simp] theorem startLong_pldmQueue (e : Env) (k : OpKind) (s : State) : ((startLong e k s).1).pldmQueue = s.pldmQueue := by simp [startLong]
@[simp] theorem startLong_tel (e : Env) (k : OpKind) (s : State) : ((startLong e k s).1).tel = s.tel := by simp [startLong]
@[simp] theorem startLong_certs (e : Env) (k : OpKind) (s : State) : ((startLong e k s).1).certs = s.certs := by simp [startLong]
@[simp] theorem startLong_keySlots (e : Env) (k : OpKind) (s : State) : ((startLong e k s).1).keySlots = s.keySlots := by simp [startLong]
@[simp] theorem startLong_tickets (e : Env) (k : OpKind) (s : State) : ((startLong e k s).1).tickets = s.tickets := by simp [startLong]
@[simp] theorem startLong_parks (e : Env) (k : OpKind) (s : State) : ((startLong e k s).1).parks = s.parks := by simp [startLong]
@[simp] theorem startLong_pulls (e : Env) (k : OpKind) (s : State) : ((startLong e k s).1).pulls = s.pulls := by simp [startLong]
@[simp] theorem startLong_draws (e : Env) (k : OpKind) (s : State) : ((startLong e k s).1).draws = s.draws := by simp [startLong]
@[simp] theorem startLong_flash (e : Env) (k : OpKind) (s : State) : ((startLong e k s).1).flash = s.flash := by simp [startLong]
@[simp] theorem startLong_xfers (e : Env) (k : OpKind) (s : State) : ((startLong e k s).1).xfers = s.xfers := by simp [startLong]
@[simp] theorem startLong_pset (e : Env) (k : OpKind) (s : State) : ((startLong e k s).1).pset = s.pset := by simp [startLong]
@[simp] theorem startLong_coh (e : Env) (k : OpKind) (s : State) : ((startLong e k s).1).coh = s.coh := by simp [startLong]
@[simp] theorem startLong_hup (e : Env) (k : OpKind) (s : State) : ((startLong e k s).1).hup = s.hup := by simp [startLong]
@[simp] theorem startLong_pwr (e : Env) (k : OpKind) (s : State) : ((startLong e k s).1).pwr = s.pwr := by simp [startLong]
@[simp] theorem startLong_mgmt (e : Env) (k : OpKind) (s : State) : ((startLong e k s).1).mgmt = s.mgmt := by simp [startLong]
@[simp] theorem startLong_out (e : Env) (k : OpKind) (s : State) : ((startLong e k s).1).out = s.out := by simp [startLong]
@[simp] theorem startLong_freeCtr (e : Env) (k : OpKind) (s : State) : ((startLong e k s).1).freeCtr = s.freeCtr := by simp [startLong]

/-- The operation a long-running command starts. -/
theorem startLong_ops (e : Env) (k : OpKind) (s : State) : (startLong e k s).1.ops = s.ops ++ [newOp e k s] := by
  simp [startLong, startOp, newOp]

theorem startLong_opCtr (e : Env) (k : OpKind) (s : State) : (startLong e k s).1.opCtr = s.opCtr + 1 := by
  simp [startLong, startOp]

end Sys2Proof.Machine
end

