-- ==== Sys2Proof/Laws/Kept.lean ====
section
/-! SUPPORT. What every operation and meaning keeps: the queue of commands as it is, the layout of the device-wide registers
(`GlbOk`), and every unit that is retired. Here the tools; the lemmas, one for each operation that answers a state, follow in Kept1 to Kept6 in the order of the model. -/

namespace Sys2Proof.Machine

/-- What is held against a state: its queue, whether the layout of the device-wide registers is asked, and what is retired. -/
structure Base where
  q : List Instr
  ok : Prop
  parser : Bool
  pcs : List Nat
  tiles : List Nat
  chans : List Nat
  regs : List Nat
  lows : Nat → Prop
  highs : Nat → Prop
/-- The queue, the layout and the retired units of a state, held against a base. -/
structure InvOn (Q : Base) (p : List Instr) (g : Glb) (pcs tiles chans regs : List Nat) (ports : Tab Port) : Prop where
  pend : p = Q.q
  glb : Q.ok → GlbOk g
  parser : Q.parser = true → g.parserRetired = true
  pcs : Q.pcs ⊆ pcs
  tiles : Q.tiles ⊆ tiles
  chans : Q.chans ⊆ chans
  regs : Q.regs ⊆ regs
  lows : ∀ n, Q.lows n → (ports.get n).groupL = false
  highs : ∀ n, Q.highs n → (ports.get n).groupH = false
/-- What every meaning keeps of a state: its queue, the layout of the device-wide registers, and what is retired. -/
def Inv (Q : Base) (s : State) : Prop :=
  InvOn Q s.pending s.glb s.flt.retiredPcs s.flt.retiredTiles s.flash.failed s.pwr.failed s.ports
/-- If the outcome is a next state, it satisfies `Inv`. -/
def OkNext (Q : Base) : Host.Outcome State Fault Refusal → Prop
  | .next t => Inv Q t
  | _ => True

theorem inv_fst {α : Type} {Q : Base} {p : State × α} {a : State} {b : α} (e : p = (a, b)) (h : Inv Q p.1) : Inv Q a := by subst e; exact h

theorem inv_snd {α : Type} {Q : Base} {p : α × State} {a : State} {b : α} (e : p = (b, a)) (h : Inv Q p.2) : Inv Q a := by subst e; exact h

theorem inv_trd {α β : Type} {Q : Base} {p : α × β × State} {a : State} {b : α} {c : β} (e : p = (b, c, a)) (h : Inv Q p.2.2) : Inv Q a := by subst e; exact h

theorem inv_foldl {α : Type} {Q : Base} {f : State → α → State} {l : List α} {s : State} (hf : ∀ s a, Inv Q s → Inv Q (f s a)) (h : Inv Q s) : Inv Q (l.foldl f s) := by
  induction l generalizing s with
  | nil => exact h
  | cons a l ih => exact ih (hf _ _ h)

theorem inv_mk {Q : Base} {a seats ports lds lastServed ops opCtr accepts claims parts rt rtNext rtFree tenants acct images swap held svc b dev flt regions frames nodes pins tier pldmQueue tel certs keySlots tickets parks pulls draws flash xfers pset coh hup pwr mgmt out freeCtr} :
  Inv Q (State.mk a seats ports lds lastServed ops opCtr accepts claims parts rt rtNext rtFree tenants acct images swap held svc b dev flt regions frames nodes pins tier pldmQueue tel certs keySlots tickets parks pulls draws flash xfers pset coh hup pwr mgmt out freeCtr) = InvOn Q a b flt.retiredPcs flt.retiredTiles flash.failed pwr.failed ports := rfl

theorem inv_ite {Q : Base} {c : Prop} [Decidable c] {a b : State} (h : Inv Q a) (k : Inv Q b) : Inv Q (if c then a else b) := by split <;> assumption

theorem inv_have {Q : Base} {s : State} {P : Prop} (h : Inv Q s) (k : Inv Q s → P) : P := k h

theorem okNext_next {Q : Base} {t : State} (h : Inv Q t) : OkNext Q (.next t) := h

theorem okNext_fault {Q : Base} {t : Fault} : OkNext Q (.fault t) := trivial

theorem okNext_refused {Q : Base} {t : Refusal} : OkNext Q (.refused t) := trivial

theorem GlbOk.commit {g : Glb} (h : GlbOk g) : GlbOk { g with
      hwparse := g.hwparsePend.getD g.hwparse, hwparsePend := none
      ditherCtrl := g.ditherCtrlPend.getD g.ditherCtrl, ditherCtrlPend := none
      ditherSalt := g.ditherSaltPend.getD g.ditherSalt, ditherSaltPend := none
      pwrCtrl := g.pwrCtrlPend.getD g.pwrCtrl, pwrCtrlPend := none } := by
  obtain ⟨h1, h2, h3, h4, h5, h6, h7, h8, h9, h10⟩ := h
  refine ⟨h1, h2, h3, ?_, by simp, ?_, by simp, ?_, by simp, ?_⟩
  · cases e : g.ditherCtrlPend <;> simp_all
  · cases e : g.ditherSaltPend <;> simp_all
  · cases e : g.pwrCtrlPend <;> simp_all
  · exact h10
/-- If there is a state, it satisfies `Inv`. -/
def OptInv (Q : Base) : Option State → Prop
  | some t => Inv Q t
  | none => True

theorem optInv_some {Q : Base} {t : State} (h : Inv Q t) : OptInv Q (some t) := h

theorem optInv_none {Q : Base} : OptInv Q none := trivial

theorem optInv_map {Q : Base} {o : Option State} {f : State → State} (h : OptInv Q o) (hf : ∀ t, Inv Q t → Inv Q (f t)) : OptInv Q (o.map f) := by
  cases o with
  | none => trivial
  | some t => exact hf t h

theorem optInv_mapAny {α : Type} {Q : Base} {o : Option α} {f : α → State} (hf : ∀ a, Inv Q (f a)) : OptInv Q (o.map f) := by
  cases o with
  | none => trivial
  | some a => exact hf a

theorem optInv_bind {Q : Base} {o : Option State} {f : State → Option State} (h : OptInv Q o) (hf : ∀ t, Inv Q t → OptInv Q (f t)) : OptInv Q (o.bind f) := by
  cases o with
  | none => trivial
  | some t => exact hf t h

theorem optInv_foldl {α : Type} {Q : Base} {f : α → State → Option State} {l : List α} {o : Option State} (hf : ∀ t a, Inv Q t → OptInv Q (f a t)) (h : OptInv Q o) :
    OptInv Q (l.foldl (fun x a => x.bind (f a)) o) := by
  induction l generalizing o with
  | nil => exact h
  | cons a l ih => exact ih (optInv_bind h fun t ht => hf t a ht)

theorem inv_getD {Q : Base} {o : Option State} {s : State} (h : OptInv Q o) (k : Inv Q s) : Inv Q (o.getD s) := by
  cases o with
  | none => exact k
  | some t => exact h
/-- If there is a state, with a number beside it, it satisfies `Inv`. -/
def OptInvP (Q : Base) : Option (State × Nat) → Prop
  | some x => Inv Q x.1
  | none => True

theorem optInvP_map {Q : Base} {o : Option (State × Nat)} {f : State × Nat → State} (h : OptInvP Q o) (hf : ∀ x, Inv Q x.1 → Inv Q (f x)) : OptInv Q (o.map f) := by
  cases o with
  | none => trivial
  | some x => exact hf x h

theorem optInvP_or {Q : Base} {o p : Option (State × Nat)} (h : OptInvP Q o) (k : OptInvP Q p) : OptInvP Q (o.or p) := by
  cases o with
  | none => exact k
  | some x => exact h

theorem inv_optP {Q : Base} {o : Option (State × Nat)} {t : State} {n : Nat} (e : o = some (t, n)) (h : OptInvP Q o) : Inv Q t := by subst e; exact h

theorem inv_opt {Q : Base} {o : Option State} {t : State} (e : o = some t) (h : OptInv Q o) : Inv Q t := by subst e; exact h

theorem ditherMask_idem (v : Nat) : ditherMask (ditherMask v) = ditherMask v := by
  simp only [ditherMask, bits]
  omega

theorem pwrCtrlMask_idem (v : Nat) : pwrCtrlMask (pwrCtrlMask v) = pwrCtrlMask v := by
  simp only [pwrCtrlMask, bits]
  omega

theorem GlbOk.fresh {g : Glb} (h : GlbOk g) :
    GlbOk { g with hwparse := !g.parserRetired, ditherCtrl := 0, ditherSalt := 0 } := by
  obtain ⟨h1, h2, h3, h4, h5, h6, h7, h8, h9, h10⟩ := h
  refine ⟨h1, h2, h3, (by decide : ditherMask 0 = 0), h5, Nat.two_pow_pos 64, h7, h8, h9, fun hr => ?_⟩
  have h11 : g.hwparsePend.getD g.hwparse = false := h10 hr
  have h12 : g.parserRetired = true := hr
  show g.hwparsePend.getD (!g.parserRetired) = false
  cases e : g.hwparsePend <;> simp_all

end Sys2Proof.Machine
end

