-- ==== Sys2Proof/Laws/Kept1.lean ====
section
/-! SUPPORT. Each operation and meaning keeps the queue, the layout of the device-wide registers and what is retired (part 1 of 6). -/

namespace Sys2Proof.Machine

set_option maxRecDepth 4000
set_option linter.unusedVariables false

theorem emit_inv (o : OutMsg) (s : State) {Q : Base} (hInv : Inv Q s) : Inv Q (emit o s) := by
  unfold emit
  repeat' first
    | with_reducible assumption
    | (simp -zeta only [inv_mk]; show Inv Q _)

theorem drawFree_inv (s : State) {Q : Base} (hInv : Inv Q s) : Inv Q (drawFree s).2 := by
  unfold drawFree
  repeat' first
    | with_reducible assumption
    | (simp -zeta only [inv_mk]; show Inv Q _)
    | dsimp -zeta only

theorem freeRetry_inv (s : State) {Q : Base} (hInv : Inv Q s) : Inv Q (freeRetry s).2 := by
  unfold freeRetry
  repeat' first
    | with_reducible assumption
    | (simp -zeta only [inv_mk]; show Inv Q _)
    | dsimp -zeta only

theorem updSeat_inv (n : Nat) (f : Seat → Seat) (s : State) {Q : Base} (hInv : Inv Q s) : Inv Q (updSeat n f s) := by
  unfold updSeat
  repeat' first
    | with_reducible assumption
    | (simp -zeta only [inv_mk]; show Inv Q _)

theorem updPort_inv (p : Nat) (f : Port → Port) (s : State) {Q : Base} (hInv : Inv Q s)
    (hf : ∀ x : Port, (x.groupL = false → (f x).groupL = false) ∧ (x.groupH = false → (f x).groupH = false)) :
    Inv Q (updPort p f s) :=
  { hInv with
    lows := fun n h => by
      show ((s.ports.upd p f).get n).groupL = false
      rw [Tab.get_upd]
      split
      · rename_i e
        exact (hf _).1 (e ▸ hInv.lows n h)
      · exact hInv.lows n h
    highs := fun n h => by
      show ((s.ports.upd p f).get n).groupH = false
      rw [Tab.get_upd]
      split
      · rename_i e
        exact (hf _).2 (e ▸ hInv.highs n h)
      · exact hInv.highs n h }

theorem updLd_inv (port ld : Nat) (f : Ld → Ld) (s : State) {Q : Base} (hInv : Inv Q s) : Inv Q (updLd port ld f s) := by
  unfold updLd
  repeat' first
    | with_reducible assumption
    | (simp -zeta only [inv_mk]; show Inv Q _)

theorem updPart_inv (p : Nat) (f : Part → Part) (s : State) {Q : Base} (hInv : Inv Q s) : Inv Q (updPart p f s) := by
  unfold updPart
  repeat' first
    | with_reducible assumption
    | (simp -zeta only [inv_mk]; show Inv Q _)

theorem updRing_inv (seat ring : Nat) (f : RingSet → RingSet) (s : State) {Q : Base} (hInv : Inv Q s) : Inv Q (updRing seat ring f s) := by
  unfold updRing
  repeat' first
    | with_reducible assumption
    | with_reducible apply updSeat_inv
    | (simp -zeta only [inv_mk]; show Inv Q _)
    | dsimp -zeta only

theorem countTraffic_inv (seat rd wr : Nat) (s : State) {Q : Base} (hInv : Inv Q s) : Inv Q (countTraffic seat rd wr s) := by
  unfold countTraffic
  repeat' first
    | with_reducible assumption
    | with_reducible apply updLd_inv
    | (simp -zeta only [inv_mk]; show Inv Q _)
    | with_reducible apply optInv_map
    | with_reducible apply optInv_bind
    | with_reducible apply inv_getD
    | split
    | dsimp -zeta only

theorem enterLogs_inv (r : FaultRec) (s : State) {Q : Base} (hInv : Inv Q s) : Inv Q (enterLogs r s) := by
  unfold enterLogs
  repeat' first
    | with_reducible assumption
    | (intro _)
    | with_reducible apply updLd_inv
    | (simp -zeta only [inv_mk]; show Inv Q _)
    | with_reducible apply optInv_map
    | with_reducible apply optInv_bind
    | with_reducible apply inv_getD
    | with_reducible apply inv_foldl
    | split
    | dsimp -zeta only

theorem logFault_inv (f : FaultEv) (s : State) {Q : Base} (hInv : Inv Q s) : Inv Q (logFault f s) := by
  unfold logFault
  repeat' first
    | with_reducible assumption
    | (intro x; refine inv_have (Q := Q) (s := x) ?_ ?_; rotate_left; clear_value x; rotate_left; unfold x)
    | (intro (x : Flt))
    | (intro (x : Flash))
    | (intro (x : Pwr))
    | (intro (x : Glb))
    | (intro x; clear_value x)
    | (intro _)
    | with_reducible apply enterLogs_inv
    | (simp -zeta only [inv_mk]; show Inv Q _)
    | split
    | lift_lets

theorem updRegion_inv (id : Nat) (f : Region → Region) (s : State) {Q : Base} (hInv : Inv Q s) : Inv Q (updRegion id f s) := by
  unfold updRegion
  repeat' first
    | with_reducible assumption
    | (simp -zeta only [inv_mk]; show Inv Q _)
    | dsimp -zeta only

theorem peerReads_inv (mask addr len : Nat) (s : State) {Q : Base} (hInv : Inv Q s) : Inv Q (peerReads mask addr len s) := by
  unfold peerReads
  repeat' first
    | with_reducible assumption
    | (intro _)
    | with_reducible apply emit_inv
    | with_reducible apply inv_foldl
    | dsimp -zeta only

theorem peerWritesOn_inv (ports : List Nat) (seat addr : Nat) (data : List Byte) (s : State) {Q : Base} (hInv : Inv Q s) : Inv Q (peerWritesOn ports seat addr data s) := by
  unfold peerWritesOn
  repeat' first
    | with_reducible assumption
    | (intro x; refine inv_have (Q := Q) (s := x) ?_ ?_; rotate_left; clear_value x; rotate_left; unfold x)
    | (intro (x : Flt))
    | (intro (x : Flash))
    | (intro (x : Pwr))
    | (intro (x : Glb))
    | (intro x; clear_value x)
    | (intro _)
    | with_reducible apply emit_inv
    | with_reducible apply inv_foldl
    | dsimp -zeta only
    | lift_lets

theorem peerWrites_inv (seat mask addr : Nat) (data : List Byte) (s : State) {Q : Base} (hInv : Inv Q s) : Inv Q (peerWrites seat mask addr data s) := by
  unfold peerWrites
  repeat' first
    | with_reducible assumption
    | with_reducible apply peerWritesOn_inv

theorem flushReads_inv (base : Nat) (ports : List Nat) (s : State) {Q : Base} (hInv : Inv Q s) : Inv Q (flushReads base ports s) := by
  unfold flushReads
  repeat' first
    | with_reducible assumption
    | (intro _)
    | with_reducible apply emit_inv
    | with_reducible apply inv_foldl
    | dsimp -zeta only

theorem peerRecord_inv (mask addr : Nat) (data : List Byte) (s : State) {Q : Base} (hInv : Inv Q s) : Inv Q (peerRecord mask addr data s) := by
  unfold peerRecord
  repeat' first
    | with_reducible assumption
    | with_reducible apply emit_inv
    | split

theorem updMember_inv (i : Nat) (f : Member → Member) (s : State) {Q : Base} (hInv : Inv Q s) : Inv Q (updMember i f s) := by
  unfold updMember
  repeat' first
    | with_reducible assumption
    | (simp -zeta only [inv_mk]; show Inv Q _)
    | dsimp -zeta only

theorem writeEntry_inv (m : Member) (k : Nat) (e : Entry) (s : State) {Q : Base} (hInv : Inv Q s) : Inv Q (writeEntry m k e s) := by
  unfold writeEntry
  repeat' first
    | with_reducible assumption
    | (intro x; refine inv_have (Q := Q) (s := x) ?_ ?_; rotate_left; clear_value x; rotate_left; unfold x)
    | (intro (x : Flt))
    | (intro (x : Flash))
    | (intro (x : Pwr))
    | (intro (x : Glb))
    | (intro x; clear_value x)
    | (intro _)
    | with_reducible apply peerRecord_inv
    | with_reducible apply peerWrites_inv
    | split
    | lift_lets

theorem settleUses_inv (l : List EntryUse) (s : State) {Q : Base} (hInv : Inv Q s) : Inv Q (settleUses l s) := by
  unfold settleUses
  repeat' first
    | with_reducible assumption
    | (intro _)
    | with_reducible apply emit_inv
    | with_reducible apply inv_foldl
    | split
    | dsimp -zeta only

theorem pumpStream_inv (i : Nat) (x0 : List Entry) (x1 : State) {Q : Base} (hInv : Inv Q x1) : Inv Q (pumpStream i x0 x1) := by
  induction x0 generalizing x1 with
  | nil =>
    unfold pumpStream
    repeat' first
      | with_reducible assumption
      | (intro x; refine inv_have (Q := Q) (s := x) ?_ ?_; rotate_left; clear_value x; rotate_left; unfold x)
      | (intro (x : Flt))
      | (intro (x : Flash))
      | (intro (x : Pwr))
      | (intro (x : Glb))
      | (intro x; clear_value x)
      | (intro _)
      | with_reducible apply updMember_inv
      | with_reducible apply writeEntry_inv
      | (simp -zeta only [inv_mk]; show Inv Q _)
      | split
      | dsimp -zeta only
      | lift_lets
  | cons a l ih =>
    unfold pumpStream
    repeat' first
      | with_reducible assumption
      | (intro x; refine inv_have (Q := Q) (s := x) ?_ ?_; rotate_left; clear_value x; rotate_left; unfold x)
      | (intro (x : Flt))
      | (intro (x : Flash))
      | (intro (x : Pwr))
      | (intro (x : Glb))
      | (intro x; clear_value x)
      | (intro _)
      | with_reducible apply updMember_inv
      | with_reducible apply writeEntry_inv
      | (simp -zeta only [inv_mk]; show Inv Q _)
      | with_reducible apply ih
      | split
      | dsimp -zeta only
      | lift_lets

theorem sendEntry_inv (i : Nat) (e : Entry) (s : State) {Q : Base} (hInv : Inv Q s) : Inv Q (sendEntry i e s) := by
  unfold sendEntry
  repeat' first
    | with_reducible assumption
    | with_reducible apply settleUses_inv
    | with_reducible apply pumpStream_inv
    | split

theorem mirrorOut_inv (r : Region) (x0 : Nat) (x1 : Nat) (x2 : List Byte) (x3 : List EntryUse) (x4 : State) {Q : Base} (hInv : Inv Q x4) : Inv Q (mirrorOut r x0 x1 x2 x3 x4) := by
  induction x0 generalizing x1 x2 x3 x4 with
  | zero =>
    unfold mirrorOut
    repeat' first
      | with_reducible assumption
      | with_reducible apply sendEntry_inv
      | split
  | succ n ih =>
    unfold mirrorOut
    repeat' first
      | with_reducible assumption
      | with_reducible apply sendEntry_inv
      | with_reducible apply ih
      | split

theorem giveUnit_inv (u : UnitKey) (s : State) {Q : Base} (hInv : Inv Q s) : Inv Q (giveUnit u s) := by
  unfold giveUnit
  repeat' first
    | with_reducible assumption
    | (simp -zeta only [inv_mk]; show Inv Q _)
    | split

theorem markDirty_inv (k : FrameKey) (s : State) {Q : Base} (hInv : Inv Q s) : Inv Q (markDirty k s) := by
  unfold markDirty
  repeat' first
    | with_reducible assumption
    | (intro x; refine inv_have (Q := Q) (s := x) ?_ ?_; rotate_left; clear_value x; rotate_left; unfold x)
    | (intro (x : Flt))
    | (intro (x : Flash))
    | (intro (x : Pwr))
    | (intro (x : Glb))
    | (intro x; clear_value x)
    | (intro _)
    | with_reducible apply giveUnit_inv
    | (simp -zeta only [inv_mk]; show Inv Q _)
    | split
    | dsimp -zeta only
    | lift_lets

theorem programJournal_inv (s : State) {Q : Base} (hInv : Inv Q s) : Inv Q (programJournal s) := by
  unfold programJournal
  repeat' first
    | with_reducible assumption
    | (simp -zeta only [inv_mk]; show Inv Q _)
    | with_reducible apply optInv_map
    | with_reducible apply optInv_bind
    | with_reducible apply inv_getD

theorem journal_inv (n : Nat) (s : State) {Q : Base} (hInv : Inv Q s) : Inv Q (journal n s) := by
  unfold journal
  repeat' first
    | with_reducible assumption
    | (simp -zeta only [inv_mk]; show Inv Q _)
    | with_reducible apply optInv_map
    | with_reducible apply optInv_bind
    | with_reducible apply inv_getD
    | split

theorem addStale_inv (k : Nat) (s : State) {Q : Base} (hInv : Inv Q s) : Inv Q (addStale k s) := by
  unfold addStale
  repeat' first
    | with_reducible assumption
    | with_reducible apply journal_inv
    | (simp -zeta only [inv_mk]; show Inv Q _)
    | split

theorem sendDelta_inv (k : Nat) (old new : List Byte) (s : State) {Q : Base} (hInv : Inv Q s) : Inv Q (sendDelta k old new s) := by
  unfold sendDelta
  repeat' first
    | with_reducible assumption
    | (intro x; refine inv_have (Q := Q) (s := x) ?_ ?_; rotate_left; clear_value x; rotate_left; unfold x)
    | (intro (x : Flt))
    | (intro (x : Flash))
    | (intro (x : Pwr))
    | (intro (x : Glb))
    | (intro x; clear_value x)
    | (intro _)
    | with_reducible apply addStale_inv
    | with_reducible apply sendEntry_inv
    | with_reducible apply inv_foldl
    | split
    | dsimp -zeta only
    | lift_lets

theorem dropParity_inv (p : UnitKey → Bool) (s : State) {Q : Base} (hInv : Inv Q s) : Inv Q (dropParity p s) := by
  unfold dropParity
  repeat' first
    | with_reducible assumption
    | (intro x; refine inv_have (Q := Q) (s := x) ?_ ?_; rotate_left; clear_value x; rotate_left; unfold x)
    | (intro (x : Flt))
    | (intro (x : Flash))
    | (intro (x : Pwr))
    | (intro (x : Glb))
    | (intro x; clear_value x)
    | (intro _)
    | with_reducible apply sendDelta_inv
    | (simp -zeta only [inv_mk]; show Inv Q _)
    | with_reducible apply inv_foldl
    | dsimp -zeta only
    | lift_lets

theorem freeHomes_inv (p : UnitKey → Bool) (s : State) {Q : Base} (hInv : Inv Q s) : Inv Q (freeHomes p s) := by
  unfold freeHomes
  repeat' first
    | with_reducible assumption
    | (intro x; refine inv_have (Q := Q) (s := x) ?_ ?_; rotate_left; clear_value x; rotate_left; unfold x)
    | (intro (x : Flt))
    | (intro (x : Flash))
    | (intro (x : Pwr))
    | (intro (x : Glb))
    | (intro x; clear_value x)
    | (intro _)
    | with_reducible apply dropParity_inv
    | with_reducible apply journal_inv
    | (simp -zeta only [inv_mk]; show Inv Q _)
    | with_reducible apply optInv_map
    | with_reducible apply optInv_bind
    | with_reducible apply inv_getD
    | dsimp -zeta only
    | lift_lets

theorem leaveHbm_inv (p : FrameKey → Bool) (s : State) {Q : Base} (hInv : Inv Q s) : Inv Q (leaveHbm p s) := by
  unfold leaveHbm
  repeat' first
    | with_reducible assumption
    | (simp -zeta only [inv_mk]; show Inv Q _)
    | dsimp -zeta only

theorem dropFrames_inv (p : FrameKey → Bool) (s : State) {Q : Base} (hInv : Inv Q s) : Inv Q (dropFrames p s) := by
  unfold dropFrames
  repeat' first
    | with_reducible assumption
    | with_reducible apply leaveHbm_inv
    | with_reducible apply freeHomes_inv
    | dsimp -zeta only

theorem forgetFrames_inv (p : FrameKey → Bool) (s : State) {Q : Base} (hInv : Inv Q s) : Inv Q (forgetFrames p s) := by
  unfold forgetFrames
  repeat' first
    | with_reducible assumption
    | with_reducible apply leaveHbm_inv

theorem putFor_inv (uses : List EntryUse) (t : Target) (off : Nat) (data : List Byte) (s : State) {Q : Base} (hInv : Inv Q s) : Inv Q (putFor uses t off data s) := by
  unfold putFor
  repeat' first
    | with_reducible assumption
    | (intro x; refine inv_have (Q := Q) (s := x) ?_ ?_; rotate_left; clear_value x; rotate_left; unfold x)
    | (intro (x : Flt))
    | (intro (x : Flash))
    | (intro (x : Pwr))
    | (intro (x : Glb))
    | (intro x; clear_value x)
    | (intro _)
    | with_reducible apply updRegion_inv
    | with_reducible apply updPart_inv
    | with_reducible apply markDirty_inv
    | with_reducible apply mirrorOut_inv
    | with_reducible apply settleUses_inv
    | (simp -zeta only [inv_mk]; show Inv Q _)
    | with_reducible apply inv_foldl
    | split
    | dsimp -zeta only
    | lift_lets

theorem putNow_inv (t : Target) (off : Nat) (data : List Byte) (s : State) {Q : Base} (hInv : Inv Q s) : Inv Q (putNow t off data s) := by
  unfold putNow
  repeat' first
    | with_reducible assumption
    | with_reducible apply putFor_inv

theorem holdWrite_inv (stepWork : Bool) (t : Target) (off : Nat) (data : List Byte) (tag : HeldTag) (s : State) {Q : Base} (hInv : Inv Q s) : Inv Q (holdWrite stepWork t off data tag s) := by
  unfold holdWrite
  repeat' first
    | with_reducible assumption
    | (simp -zeta only [inv_mk]; show Inv Q _)

theorem putBytes_inv (stepWork : Bool) (t : Target) (off : Nat) (data : List Byte) (s : State) {Q : Base} (hInv : Inv Q s) : Inv Q (putBytes stepWork t off data s) := by
  unfold putBytes
  repeat' first
    | with_reducible assumption
    | with_reducible apply holdWrite_inv
    | with_reducible apply putNow_inv
    | split

theorem putAll_inv (stepWork : Bool) (t : Target) (x0 : List (Nat × List Byte)) (x1 : State) {Q : Base} (hInv : Inv Q x1) : OptInv Q (putAll stepWork t x0 x1) := by
  induction x0 generalizing x1 with
  | nil =>
    unfold putAll
    repeat' first
      | with_reducible assumption
      | with_reducible apply putNow_inv
      | with_reducible apply optInv_some
      | with_reducible apply optInv_none
      | split
  | cons a l ih =>
    unfold putAll
    repeat' first
      | with_reducible assumption
      | with_reducible apply putNow_inv
      | with_reducible apply optInv_some
      | with_reducible apply optInv_none
      | with_reducible apply ih
      | split

theorem hdmPut_inv (stepWork : Bool) (seat addr : Nat) (data : List Byte) (s : State) {Q : Base} (hInv : Inv Q s) : Inv Q (hdmPut stepWork seat addr data s) := by
  unfold hdmPut
  repeat' first
    | with_reducible assumption
    | with_reducible apply putBytes_inv
    | split

theorem answerLine_inv (seat hpa : Nat) (r : Region) (off : Nat) (m : MetaVal) (s : State) {Q : Base} (hInv : Inv Q s) : Inv Q (answerLine seat hpa r off m s) := by
  unfold answerLine
  repeat' first
    | with_reducible assumption
    | (intro x; refine inv_have (Q := Q) (s := x) ?_ ?_; rotate_left; clear_value x; rotate_left; unfold x)
    | (intro (x : Flt))
    | (intro (x : Flash))
    | (intro (x : Pwr))
    | (intro (x : Glb))
    | (intro x; clear_value x)
    | (intro _)
    | with_reducible apply logFault_inv
    | with_reducible apply sendEntry_inv
    | with_reducible apply emit_inv
    | split
    | lift_lets

theorem dropWrite_inv (seat part addr : Nat) (s : State) {Q : Base} (hInv : Inv Q s) : Inv Q (dropWrite seat part addr s) := by
  unfold dropWrite
  repeat' first
    | with_reducible assumption
    | with_reducible apply logFault_inv
    | with_reducible apply emit_inv

theorem lineNow_inv (seat hpa : Nat) (r : Region) (off mask : Nat) (data : List Byte) (s : State) {Q : Base} (hInv : Inv Q s) : Inv Q (lineNow seat hpa r off mask data s) := by
  unfold lineNow
  repeat' first
    | with_reducible assumption
    | (intro x; refine inv_have (Q := Q) (s := x) ?_ ?_; rotate_left; clear_value x; rotate_left; unfold x)
    | (intro (x : Flt))
    | (intro (x : Flash))
    | (intro (x : Pwr))
    | (intro (x : Glb))
    | (intro x; clear_value x)
    | (intro _)
    | with_reducible apply putFor_inv
    | (simp -zeta only [inv_mk]; show Inv Q _)
    | (with_reducible refine inv_fst ‹_› ?_)
    | (with_reducible refine inv_snd ‹_› ?_)
    | split
    | lift_lets

theorem writeLine_inv (seat hpa : Nat) (r : Region) (off mask : Nat) (data : List Byte) (s : State) {Q : Base} (hInv : Inv Q s) : Inv Q (writeLine seat hpa r off mask data s) := by
  unfold writeLine
  repeat' first
    | with_reducible assumption
    | with_reducible apply holdWrite_inv
    | with_reducible apply lineNow_inv
    | split

theorem updCoh_inv (f : Coh → Coh) (s : State) {Q : Base} (hInv : Inv Q s) : Inv Q (updCoh f s) := by
  unfold updCoh
  repeat' first
    | with_reducible assumption
    | (simp -zeta only [inv_mk]; show Inv Q _)

theorem setLine_inv (region line : Nat) (holders : BitVec 64) (excl : Bool) (s : State) {Q : Base} (hInv : Inv Q s) : Inv Q (setLine region line holders excl s) := by
  unfold setLine
  repeat' first
    | with_reducible assumption
    | (intro x; refine inv_have (Q := Q) (s := x) ?_ ?_; rotate_left; clear_value x; rotate_left; unfold x)
    | (intro (x : Flt))
    | (intro (x : Flash))
    | (intro (x : Pwr))
    | (intro (x : Glb))
    | (intro x; clear_value x)
    | (intro _)
    | with_reducible apply updCoh_inv
    | (simp -zeta only [inv_mk]; show Inv Q _)
    | split
    | dsimp -zeta only
    | lift_lets

theorem leaveLine_inv (region line seat : Nat) (s : State) {Q : Base} (hInv : Inv Q s) : Inv Q (leaveLine region line seat s) := by
  unfold leaveLine
  repeat' first
    | with_reducible assumption
    | with_reducible apply setLine_inv
    | split

theorem sendSnoop_inv (region line seat kind : Nat) (s : State) {Q : Base} (hInv : Inv Q s) : Inv Q (sendSnoop region line seat kind s) := by
  unfold sendSnoop
  repeat' first
    | with_reducible assumption
    | with_reducible apply emit_inv
    | split

theorem snoop_inv (region line : Nat) (x : Nat × Nat) (s : State) {Q : Base} (hInv : Inv Q s) : Inv Q (snoop region line x s) := by
  unfold snoop
  repeat' first
    | with_reducible assumption
    | (intro x; refine inv_have (Q := Q) (s := x) ?_ ?_; rotate_left; clear_value x; rotate_left; unfold x)
    | (intro (x : Flt))
    | (intro (x : Flash))
    | (intro (x : Pwr))
    | (intro (x : Glb))
    | (intro x; clear_value x)
    | (intro _)
    | with_reducible apply updCoh_inv
    | with_reducible apply sendSnoop_inv
    | (simp -zeta only [inv_mk]; show Inv Q _)
    | split
    | dsimp -zeta only
    | lift_lets

theorem snoopSet_inv (region line : Nat) (recalled : Bool) (l : List (Nat × Nat)) (s : State) {Q : Base} (hInv : Inv Q s) : Inv Q (snoopSet region line recalled l s) := by
  unfold snoopSet
  repeat' first
    | with_reducible assumption
    | (intro x; refine inv_have (Q := Q) (s := x) ?_ ?_; rotate_left; clear_value x; rotate_left; unfold x)
    | (intro (x : Flt))
    | (intro (x : Flash))
    | (intro (x : Pwr))
    | (intro (x : Glb))
    | (intro x; clear_value x)
    | (intro _)
    | with_reducible apply snoop_inv
    | with_reducible apply updCoh_inv
    | (simp -zeta only [inv_mk]; show Inv Q _)
    | with_reducible apply inv_foldl
    | dsimp -zeta only
    | lift_lets

theorem sendHeldSnoops_inv (port : Nat) (s : State) {Q : Base} (hInv : Inv Q s) : Inv Q (sendHeldSnoops port s) := by
  unfold sendHeldSnoops
  repeat' first
    | with_reducible assumption
    | (intro x; refine inv_have (Q := Q) (s := x) ?_ ?_; rotate_left; clear_value x; rotate_left; unfold x)
    | (intro (x : Flt))
    | (intro (x : Flash))
    | (intro (x : Pwr))
    | (intro (x : Glb))
    | (intro x; clear_value x)
    | (intro _)
    | with_reducible apply updCoh_inv
    | with_reducible apply sendSnoop_inv
    | (simp -zeta only [inv_mk]; show Inv Q _)
    | with_reducible apply optInv_map
    | with_reducible apply optInv_bind
    | with_reducible apply inv_getD
    | with_reducible apply inv_foldl
    | split
    | dsimp -zeta only
    | lift_lets

theorem dropFenced_inv (seat hpa : Nat) (s : State) {Q : Base} (hInv : Inv Q s) : Inv Q (dropFenced seat hpa s) := by
  unfold dropFenced
  repeat' first
    | with_reducible assumption
    | with_reducible apply logFault_inv
    | with_reducible apply emit_inv

theorem answerFreed_inv (r : CohReq) (s : State) {Q : Base} (hInv : Inv Q s) : Inv Q (answerFreed r s) := by
  unfold answerFreed
  repeat' first
    | with_reducible assumption
    | (intro x; refine inv_have (Q := Q) (s := x) ?_ ?_; rotate_left; clear_value x; rotate_left; unfold x)
    | (intro (x : Flt))
    | (intro (x : Flash))
    | (intro (x : Pwr))
    | (intro (x : Glb))
    | (intro x; clear_value x)
    | (intro _)
    | with_reducible apply logFault_inv
    | with_reducible apply emit_inv
    | split
    | lift_lets

theorem completeReq_inv (r : CohReq) (s : State) {Q : Base} (hInv : Inv Q s) : Inv Q (completeReq r s) := by
  unfold completeReq
  repeat' first
    | with_reducible assumption
    | (intro x; refine inv_have (Q := Q) (s := x) ?_ ?_; rotate_left; clear_value x; rotate_left; unfold x)
    | (intro (x : Flt))
    | (intro (x : Flash))
    | (intro (x : Pwr))
    | (intro (x : Glb))
    | (intro x; clear_value x)
    | (intro _)
    | with_reducible apply answerFreed_inv
    | with_reducible apply updCoh_inv
    | with_reducible apply emit_inv
    | with_reducible apply leaveLine_inv
    | with_reducible apply dropFenced_inv
    | with_reducible apply writeLine_inv
    | with_reducible apply setLine_inv
    | with_reducible apply answerLine_inv
    | (simp -zeta only [inv_mk]; show Inv Q _)
    | split
    | dsimp -zeta only
    | lift_lets

theorem recallOne_inv (r : CohReq) (s : State) {Q : Base} (hInv : Inv Q s) : Inv Q (recallOne r s).1 := by
  unfold recallOne
  repeat' first
    | with_reducible assumption
    | with_reducible apply snoopSet_inv
    | with_reducible apply optInv_map
    | with_reducible apply optInv_bind
    | with_reducible apply inv_getD
    | split
    | dsimp -zeta only

theorem tryReq_inv (r : CohReq) (s : State) {Q : Base} (hInv : Inv Q s) : Inv Q (tryReq r s).1 := by
  unfold tryReq
  repeat' first
    | with_reducible assumption
    | (intro x; refine inv_have (Q := Q) (s := x) ?_ ?_; rotate_left; clear_value x; rotate_left; unfold x)
    | (intro (x : Flt))
    | (intro (x : Flash))
    | (intro (x : Pwr))
    | (intro (x : Glb))
    | (intro x; clear_value x)
    | (intro _)
    | with_reducible apply recallOne_inv
    | with_reducible apply updCoh_inv
    | with_reducible apply completeReq_inv
    | with_reducible apply snoopSet_inv
    | (simp -zeta only [inv_mk]; show Inv Q _)
    | (with_reducible refine inv_fst ‹_› ?_)
    | (with_reducible refine inv_snd ‹_› ?_)
    | split
    | dsimp -zeta only
    | lift_lets

theorem cohPass_inv (x0 : List CohReq) (x1 : State) {Q : Base} (hInv : Inv Q x1) : Inv Q (cohPass x0 x1) := by
  induction x0 generalizing x1 with
  | nil =>
    unfold cohPass
    repeat' first
      | with_reducible assumption
      | with_reducible apply updCoh_inv
      | with_reducible apply tryReq_inv
      | (simp -zeta only [inv_mk]; show Inv Q _)
      | (with_reducible refine inv_fst ‹_› ?_)
      | (with_reducible refine inv_snd ‹_› ?_)
      | split
      | dsimp -zeta only
  | cons a l ih =>
    unfold cohPass
    repeat' first
      | with_reducible assumption
      | with_reducible apply updCoh_inv
      | with_reducible apply tryReq_inv
      | (simp -zeta only [inv_mk]; show Inv Q _)
      | (with_reducible refine inv_fst ‹_› ?_)
      | (with_reducible refine inv_snd ‹_› ?_)
      | with_reducible apply ih
      | split
      | dsimp -zeta only

theorem cohRun_inv (x0 : Nat) (x1 : State) {Q : Base} (hInv : Inv Q x1) : Inv Q (cohRun x0 x1) := by
  induction x0 generalizing x1 with
  | zero =>
    unfold cohRun
    repeat' first
      | with_reducible assumption
      | (intro x; refine inv_have (Q := Q) (s := x) ?_ ?_; rotate_left; clear_value x; rotate_left; unfold x)
      | (intro (x : Flt))
      | (intro (x : Flash))
      | (intro (x : Pwr))
      | (intro (x : Glb))
      | (intro x; clear_value x)
      | (intro _)
      | with_reducible apply cohPass_inv
      | with_reducible apply updCoh_inv
      | (simp -zeta only [inv_mk]; show Inv Q _)
      | split
      | dsimp -zeta only
      | lift_lets
  | succ n ih =>
    unfold cohRun
    repeat' first
      | with_reducible assumption
      | (intro x; refine inv_have (Q := Q) (s := x) ?_ ?_; rotate_left; clear_value x; rotate_left; unfold x)
      | (intro (x : Flt))
      | (intro (x : Flash))
      | (intro (x : Pwr))
      | (intro (x : Glb))
      | (intro x; clear_value x)
      | (intro _)
      | with_reducible apply cohPass_inv
      | with_reducible apply updCoh_inv
      | (simp -zeta only [inv_mk]; show Inv Q _)
      | with_reducible apply ih
      | split
      | dsimp -zeta only
      | lift_lets

theorem cohGo_inv (s : State) {Q : Base} (hInv : Inv Q s) : Inv Q (cohGo s) := by
  unfold cohGo
  repeat' first
    | with_reducible assumption
    | with_reducible apply cohRun_inv

theorem cohAsk_inv (r : CohReq) (s : State) {Q : Base} (hInv : Inv Q s) : Inv Q (cohAsk r s) := by
  unfold cohAsk
  repeat' first
    | with_reducible assumption
    | with_reducible apply cohGo_inv
    | with_reducible apply updCoh_inv
    | (simp -zeta only [inv_mk]; show Inv Q _)
    | dsimp -zeta only

theorem cohHost_inv (seat hpa : Nat) (op : CohOp) (reg : Region) (off : Nat) (s : State) {Q : Base} (hInv : Inv Q s) : Inv Q (cohHost seat hpa op reg off s) := by
  unfold cohHost
  repeat' first
    | with_reducible assumption
    | (intro x; refine inv_have (Q := Q) (s := x) ?_ ?_; rotate_left; clear_value x; rotate_left; unfold x)
    | (intro (x : Flt))
    | (intro (x : Flash))
    | (intro (x : Pwr))
    | (intro (x : Glb))
    | (intro x; clear_value x)
    | (intro _)
    | with_reducible apply dropFenced_inv
    | with_reducible apply cohGo_inv
    | with_reducible apply completeReq_inv
    | with_reducible apply cohAsk_inv
    | split
    | lift_lets

theorem closeSnoop_inv (n : Snoop) (rsp : BiRsp) (s : State) {Q : Base} (hInv : Inv Q s) : Inv Q (closeSnoop n rsp s) := by
  unfold closeSnoop
  repeat' first
    | with_reducible assumption
    | (intro x; refine inv_have (Q := Q) (s := x) ?_ ?_; rotate_left; clear_value x; rotate_left; unfold x)
    | (intro (x : Flt))
    | (intro (x : Flash))
    | (intro (x : Pwr))
    | (intro (x : Glb))
    | (intro x; clear_value x)
    | (intro _)
    | with_reducible apply updCoh_inv
    | with_reducible apply setLine_inv
    | with_reducible apply leaveLine_inv
    | (simp -zeta only [inv_mk]; show Inv Q _)
    | split
    | dsimp -zeta only
    | lift_lets

theorem devInvalidate_inv (region line : Nat) (s : State) {Q : Base} (hInv : Inv Q s) : Inv Q (devInvalidate region line s) := by
  unfold devInvalidate
  repeat' first
    | with_reducible assumption
    | with_reducible apply cohAsk_inv
    | (with_reducible refine inv_fst ‹_› ?_)
    | (with_reducible refine inv_snd ‹_› ?_)
    | split
    | dsimp -zeta only

theorem unreserve_inv (own : Bool) (seat ring : Nat) (s : State) {Q : Base} (hInv : Inv Q s) : Inv Q (unreserve own seat ring s) := by
  unfold unreserve
  repeat' first
    | with_reducible assumption
    | with_reducible apply updRing_inv
    | (simp -zeta only [inv_mk]; show Inv Q _)
    | split
    | dsimp -zeta only

theorem writeComp_inv (seat ring : Nat) (own : Bool) (c : CompRec) (s : State) {Q : Base} (hInv : Inv Q s) : Inv Q (writeComp seat ring own c s) := by
  unfold writeComp
  repeat' first
    | with_reducible assumption
    | exact fun _ => ⟨List.Subset.refl _, List.Subset.refl _⟩
    | exact fun _ => List.Subset.refl _
    | exact fun _ => ⟨id, id⟩
    | (intro x; refine inv_have (Q := Q) (s := x) ?_ ?_; rotate_left; clear_value x; rotate_left; unfold x)
    | (intro (x : Flt))
    | (intro (x : Flash))
    | (intro (x : Pwr))
    | (intro (x : Glb))
    | (intro x; clear_value x)
    | (intro _)
    | with_reducible apply unreserve_inv
    | with_reducible apply updRing_inv
    | with_reducible apply emit_inv
    | with_reducible apply logFault_inv
    | with_reducible apply hdmPut_inv
    | (simp -zeta only [inv_mk]; show Inv Q _)
    | with_reducible apply optInv_map
    | with_reducible apply optInv_bind
    | with_reducible apply inv_getD
    | (with_reducible refine inv_fst ‹_› ?_)
    | (with_reducible refine inv_snd ‹_› ?_)
    | (with_reducible refine inv_trd ‹_› ?_)
    | with_reducible apply inv_foldl
    | (with_reducible apply inv_ite)
    | split
    | dsimp -zeta only
    | lift_lets

theorem askLine_inv (seat addr : Nat) (s : State) {Q : Base} (hInv : Inv Q s) : Inv Q (askLine seat addr s) := by
  unfold askLine
  repeat' first
    | with_reducible assumption
    | with_reducible apply devInvalidate_inv
    | split

theorem askComp_inv (seat ring : Nat) (own : Bool) (s : State) {Q : Base} (hInv : Inv Q s) : Inv Q (askComp seat ring own s) := by
  unfold askComp
  repeat' first
    | with_reducible assumption
    | (intro x; refine inv_have (Q := Q) (s := x) ?_ ?_; rotate_left; clear_value x; rotate_left; unfold x)
    | (intro (x : Flt))
    | (intro (x : Flash))
    | (intro (x : Pwr))
    | (intro (x : Glb))
    | (intro x; clear_value x)
    | (intro _)
    | with_reducible apply askLine_inv
    | split
    | lift_lets

theorem drainBacklog_inv (seat ring : Nat) (x0 : List (CompRec × Bool)) (x1 : State) {Q : Base} (hInv : Inv Q x1) : Inv Q (drainBacklog seat ring x0 x1) := by
  induction x0 generalizing x1 with
  | nil =>
    unfold drainBacklog
    repeat' first
      | with_reducible assumption
      | with_reducible apply updRing_inv
      | with_reducible apply writeComp_inv
      | with_reducible apply askComp_inv
      | (simp -zeta only [inv_mk]; show Inv Q _)
      | split
      | dsimp -zeta only
  | cons a l ih =>
    unfold drainBacklog
    repeat' first
      | with_reducible assumption
      | with_reducible apply updRing_inv
      | with_reducible apply writeComp_inv
      | with_reducible apply askComp_inv
      | (simp -zeta only [inv_mk]; show Inv Q _)
      | with_reducible apply ih
      | split
      | dsimp -zeta only

theorem askComps_inv (seat ring n : Nat) (s : State) {Q : Base} (hInv : Inv Q s) : Inv Q (askComps seat ring n s) := by
  unfold askComps
  repeat' first
    | with_reducible assumption
    | (intro x; refine inv_have (Q := Q) (s := x) ?_ ?_; rotate_left; clear_value x; rotate_left; unfold x)
    | (intro (x : Flt))
    | (intro (x : Flash))
    | (intro (x : Pwr))
    | (intro (x : Glb))
    | (intro x; clear_value x)
    | (intro _)
    | with_reducible apply askLine_inv
    | with_reducible apply inv_foldl
    | split
    | dsimp -zeta only
    | lift_lets

theorem releaseSpace_inv (seat ring : Nat) (s : State) {Q : Base} (hInv : Inv Q s) : Inv Q (releaseSpace seat ring s) := by
  unfold releaseSpace
  repeat' first
    | with_reducible assumption
    | (intro x; refine inv_have (Q := Q) (s := x) ?_ ?_; rotate_left; clear_value x; rotate_left; unfold x)
    | (intro (x : Flt))
    | (intro (x : Flash))
    | (intro (x : Pwr))
    | (intro (x : Glb))
    | (intro x; clear_value x)
    | (intro _)
    | with_reducible apply unreserve_inv
    | with_reducible apply drainBacklog_inv
    | split
    | lift_lets

theorem produceComp_inv (own : Bool) (seat ring : Nat) (c : CompRec) (s : State) {Q : Base} (hInv : Inv Q s) : Inv Q (produceComp own seat ring c s) := by
  unfold produceComp
  repeat' first
    | with_reducible assumption
    | (intro x; refine inv_have (Q := Q) (s := x) ?_ ?_; rotate_left; clear_value x; rotate_left; unfold x)
    | (intro (x : Flt))
    | (intro (x : Flash))
    | (intro (x : Pwr))
    | (intro (x : Glb))
    | (intro x; clear_value x)
    | (intro _)
    | with_reducible apply writeComp_inv
    | with_reducible apply updRing_inv
    | with_reducible apply askComp_inv
    | (simp -zeta only [inv_mk]; show Inv Q _)
    | split
    | dsimp -zeta only
    | lift_lets

theorem postComp_inv (seat ring : Nat) (c : CompRec) (s : State) {Q : Base} (hInv : Inv Q s) : Inv Q (postComp seat ring c s) := by
  unfold postComp
  repeat' first
    | with_reducible assumption
    | with_reducible apply produceComp_inv

theorem complete_inv (seat ring : Nat) (c : CompRec) (s : State) {Q : Base} (hInv : Inv Q s) : Inv Q (complete seat ring c s) := by
  unfold complete
  repeat' first
    | with_reducible assumption
    | with_reducible apply produceComp_inv

theorem askNotice_inv (seat : Nat) (s : State) {Q : Base} (hInv : Inv Q s) : Inv Q (askNotice seat s) := by
  unfold askNotice
  repeat' first
    | with_reducible assumption
    | with_reducible apply askLine_inv
    | split

theorem flushNotices_inv (seat : Nat) (x0 : List CompRec) (x1 : State) {Q : Base} (hInv : Inv Q x1) : Inv Q (flushNotices seat x0 x1) := by
  induction x0 generalizing x1 with
  | nil =>
    unfold flushNotices
    repeat' first
      | with_reducible assumption
      | (intro x; refine inv_have (Q := Q) (s := x) ?_ ?_; rotate_left; clear_value x; rotate_left; unfold x)
      | (intro (x : Flt))
      | (intro (x : Flash))
      | (intro (x : Pwr))
      | (intro (x : Glb))
      | (intro x; clear_value x)
      | (intro _)
      | with_reducible apply updSeat_inv
      | with_reducible apply hdmPut_inv
      | with_reducible apply askNotice_inv
      | (simp -zeta only [inv_mk]; show Inv Q _)
      | split
      | dsimp -zeta only
      | lift_lets
  | cons a l ih =>
    unfold flushNotices
    repeat' first
      | with_reducible assumption
      | (intro x; refine inv_have (Q := Q) (s := x) ?_ ?_; rotate_left; clear_value x; rotate_left; unfold x)
      | (intro (x : Flt))
      | (intro (x : Flash))
      | (intro (x : Pwr))
      | (intro (x : Glb))
      | (intro x; clear_value x)
      | (intro _)
      | with_reducible apply updSeat_inv
      | with_reducible apply hdmPut_inv
      | with_reducible apply askNotice_inv
      | (simp -zeta only [inv_mk]; show Inv Q _)
      | with_reducible apply ih
      | split
      | dsimp -zeta only
      | lift_lets

theorem postNotice_inv (seat : Nat) (c : CompRec) (s : State) {Q : Base} (hInv : Inv Q s) : Inv Q (postNotice seat c s) := by
  unfold postNotice
  repeat' first
    | with_reducible assumption
    | (intro x; refine inv_have (Q := Q) (s := x) ?_ ?_; rotate_left; clear_value x; rotate_left; unfold x)
    | (intro (x : Flt))
    | (intro (x : Flash))
    | (intro (x : Pwr))
    | (intro (x : Glb))
    | (intro x; clear_value x)
    | (intro _)
    | with_reducible apply flushNotices_inv
    | with_reducible apply askNotice_inv
    | with_reducible apply updSeat_inv
    | (simp -zeta only [inv_mk]; show Inv Q _)
    | split
    | dsimp -zeta only
    | lift_lets

theorem noticeAll_inv (c : CompRec) (s : State) {Q : Base} (hInv : Inv Q s) : Inv Q (noticeAll c s) := by
  unfold noticeAll
  repeat' first
    | with_reducible assumption
    | (intro _)
    | with_reducible apply postNotice_inv
    | with_reducible apply inv_foldl
    | dsimp -zeta only

theorem enterStore_inv (seat ring slot : Nat) (s : State) {Q : Base} (hInv : Inv Q s) : Inv Q (enterStore seat ring slot s) := by
  unfold enterStore
  repeat' first
    | with_reducible assumption
    | with_reducible apply updRing_inv
    | (simp -zeta only [inv_mk]; show Inv Q _)
    | split
    | dsimp -zeta only

theorem pldmEvent_inv (data : List Nat) (s : State) {Q : Base} (hInv : Inv Q s) : Inv Q (pldmEvent data s) := by
  unfold pldmEvent
  repeat' first
    | with_reducible assumption
    | with_reducible apply emit_inv
    | (simp -zeta only [inv_mk]; show Inv Q _)

theorem noticeState_inv (s : State) {Q : Base} (hInv : Inv Q s) : Inv Q (noticeState s) := by
  unfold noticeState
  repeat' first
    | with_reducible assumption
    | with_reducible apply noticeAll_inv

theorem causeFault_inv (b : Nat) (f : FaultEv) (s : State) {Q : Base} (hInv : Inv Q s) : Inv Q (causeFault b f s) := by
  unfold causeFault
  repeat' first
    | with_reducible assumption
    | (intro x; refine inv_have (Q := Q) (s := x) ?_ ?_; rotate_left; clear_value x; rotate_left; unfold x)
    | (intro (x : Flt))
    | (intro (x : Flash))
    | (intro (x : Pwr))
    | (intro (x : Glb))
    | (intro x; clear_value x)
    | (intro _)
    | with_reducible apply logFault_inv
    | with_reducible apply pldmEvent_inv
    | with_reducible apply noticeState_inv
    | (simp -zeta only [inv_mk]; show Inv Q _)
    | (with_reducible refine inv_fst ‹_› ?_)
    | (with_reducible refine inv_snd ‹_› ?_)
    | split
    | lift_lets

theorem clearCause_inv (b : Nat) (s : State) {Q : Base} (hInv : Inv Q s) : Inv Q (clearCause b s) := by
  unfold clearCause
  repeat' first
    | with_reducible assumption
    | (intro x; refine inv_have (Q := Q) (s := x) ?_ ?_; rotate_left; clear_value x; rotate_left; unfold x)
    | (intro (x : Flt))
    | (intro (x : Flash))
    | (intro (x : Pwr))
    | (intro (x : Glb))
    | (intro x; clear_value x)
    | (intro _)
    | with_reducible apply noticeState_inv
    | (simp -zeta only [inv_mk]; show Inv Q _)
    | split
    | lift_lets

theorem countFailure_inv (loc : Loc) (injected : Bool) (s : State) {Q : Base} (hInv : Inv Q s) : Inv Q (countFailure loc injected s).1 := by
  unfold countFailure
  repeat' first
    | with_reducible assumption
    | (intro x; refine inv_have (Q := Q) (s := x) ?_ ?_; rotate_left; clear_value x; rotate_left; unfold x)
    | (intro (x : Flt))
    | (intro (x : Flash))
    | (intro (x : Pwr))
    | (intro (x : Glb))
    | (intro x; clear_value x)
    | (intro _)
    | (simp -zeta only [inv_mk]; show Inv Q _)
    | with_reducible apply optInv_map
    | with_reducible apply optInv_bind
    | with_reducible apply inv_getD
    | split
    | dsimp -zeta only
    | lift_lets

theorem updRt_inv (h : Nat) (f : Rt → Rt) (s : State) {Q : Base} (hInv : Inv Q s) : Inv Q (updRt h f s) := by
  unfold updRt
  repeat' first
    | with_reducible assumption
    | (simp -zeta only [inv_mk]; show Inv Q _)

theorem updMbx_inv (seat : Nat) (f : Mailbox → Mailbox) (s : State) {Q : Base} (hInv : Inv Q s) : Inv Q (updMbx seat f s) := by
  unfold updMbx
  repeat' first
    | with_reducible assumption
    | with_reducible apply updSeat_inv
    | (simp -zeta only [inv_mk]; show Inv Q _)
    | dsimp -zeta only

theorem doorWrite_inv (seat : Nat) (self : Instr) (opcode : Nat) (s : State) {Q : Base} (hInv : Inv Q s) : OptInv Q (doorWrite seat self opcode s) := by
  unfold doorWrite
  repeat' first
    | with_reducible assumption
    | (intro x; refine inv_have (Q := Q) (s := x) ?_ ?_; rotate_left; clear_value x; rotate_left; unfold x)
    | (intro (x : Flt))
    | (intro (x : Flash))
    | (intro (x : Pwr))
    | (intro (x : Glb))
    | (intro x; clear_value x)
    | (intro _)
    | with_reducible apply updMbx_inv
    | with_reducible apply optInv_some
    | with_reducible apply optInv_none
    | (simp -zeta only [inv_mk]; show Inv Q _)
    | (with_reducible refine inv_fst ‹_› ?_)
    | (with_reducible refine inv_snd ‹_› ?_)
    | split
    | dsimp -zeta only
    | lift_lets

theorem takeCmd_inv (seat : Nat) (opcode : Nat) (s : State) {Q : Base} (hInv : Inv Q s) : Inv Q (takeCmd seat opcode s) := by
  unfold takeCmd
  repeat' first
    | with_reducible assumption
    | (intro x; refine inv_have (Q := Q) (s := x) ?_ ?_; rotate_left; clear_value x; rotate_left; unfold x)
    | (intro (x : Flt))
    | (intro (x : Flash))
    | (intro (x : Pwr))
    | (intro (x : Glb))
    | (intro x; clear_value x)
    | (intro _)
    | with_reducible apply updMbx_inv
    | (simp -zeta only [inv_mk]; show Inv Q _)
    | with_reducible apply optInv_map
    | with_reducible apply optInv_bind
    | with_reducible apply inv_getD
    | split
    | dsimp -zeta only
    | lift_lets

theorem dropResp_inv (seat : Nat) (s : State) {Q : Base} (hInv : Inv Q s) : Inv Q (dropResp seat s) := by
  unfold dropResp
  repeat' first
    | with_reducible assumption
    | with_reducible apply updMbx_inv
    | (simp -zeta only [inv_mk]; show Inv Q _)
    | dsimp -zeta only

theorem placeResp_inv (seat tag hostTime tPosted tAccept : Nat) (r : Reply) (s : State) {Q : Base} (hInv : Inv Q s) : Inv Q (placeResp seat tag hostTime tPosted tAccept r s) := by
  unfold placeResp
  repeat' first
    | with_reducible assumption
    | (intro x; refine inv_have (Q := Q) (s := x) ?_ ?_; rotate_left; clear_value x; rotate_left; unfold x)
    | (intro (x : Flt))
    | (intro (x : Flash))
    | (intro (x : Pwr))
    | (intro (x : Glb))
    | (intro x; clear_value x)
    | (intro _)
    | with_reducible apply updMbx_inv
    | with_reducible apply emit_inv
    | (simp -zeta only [inv_mk]; show Inv Q _)
    | with_reducible apply optInv_map
    | with_reducible apply optInv_bind
    | with_reducible apply inv_getD
    | split
    | dsimp -zeta only
    | lift_lets

theorem placeBadLength_inv (seat : Nat) (s : State) {Q : Base} (hInv : Inv Q s) : Inv Q (placeBadLength seat s) := by
  unfold placeBadLength
  repeat' first
    | with_reducible assumption
    | (intro x; refine inv_have (Q := Q) (s := x) ?_ ?_; rotate_left; clear_value x; rotate_left; unfold x)
    | (intro (x : Flt))
    | (intro (x : Flash))
    | (intro (x : Pwr))
    | (intro (x : Glb))
    | (intro x; clear_value x)
    | (intro _)
    | with_reducible apply dropResp_inv
    | with_reducible apply updMbx_inv
    | with_reducible apply emit_inv
    | (simp -zeta only [inv_mk]; show Inv Q _)
    | split
    | dsimp -zeta only
    | lift_lets

theorem addClaim_inv (seat retry : Nat) (o : ClaimObj) (s : State) {Q : Base} (hInv : Inv Q s) : Inv Q (addClaim seat retry o s) := by
  unfold addClaim
  repeat' first
    | with_reducible assumption
    | (intro x; refine inv_have (Q := Q) (s := x) ?_ ?_; rotate_left; clear_value x; rotate_left; unfold x)
    | (intro (x : Flt))
    | (intro (x : Flash))
    | (intro (x : Pwr))
    | (intro (x : Glb))
    | (intro x; clear_value x)
    | (intro _)
    | (simp -zeta only [inv_mk]; show Inv Q _)
    | split
    | dsimp -zeta only
    | lift_lets

theorem endClaims_inv (seat : Nat) (objs : List ClaimObj) (s : State) {Q : Base} (hInv : Inv Q s) : Inv Q (endClaims seat objs s) := by
  unfold endClaims
  repeat' first
    | with_reducible assumption
    | (simp -zeta only [inv_mk]; show Inv Q _)
    | dsimp -zeta only

theorem noteBusy_inv (seat retry : Nat) (s : State) {Q : Base} (hInv : Inv Q s) : Inv Q (noteBusy seat retry s) := by
  unfold noteBusy
  repeat' first
    | with_reducible assumption
    | (intro x; refine inv_have (Q := Q) (s := x) ?_ ?_; rotate_left; clear_value x; rotate_left; unfold x)
    | (intro (x : Flt))
    | (intro (x : Flash))
    | (intro (x : Pwr))
    | (intro (x : Glb))
    | (intro x; clear_value x)
    | (intro _)
    | with_reducible apply updMbx_inv
    | (simp -zeta only [inv_mk]; show Inv Q _)
    | split
    | dsimp -zeta only
    | lift_lets

theorem startOp_inv (e : Env) (k : OpKind) (s : State) {Q : Base} (hInv : Inv Q s) : Inv Q (startOp e k s).1 := by
  unfold startOp
  repeat' first
    | with_reducible assumption
    | (intro x; refine inv_have (Q := Q) (s := x) ?_ ?_; rotate_left; clear_value x; rotate_left; unfold x)
    | (intro (x : Flt))
    | (intro (x : Flash))
    | (intro (x : Pwr))
    | (intro (x : Glb))
    | (intro x; clear_value x)
    | (intro _)
    | (simp -zeta only [inv_mk]; show Inv Q _)
    | dsimp -zeta only
    | lift_lets

theorem acceptLong_inv (e : Env) (n : Nat) (s : State) {Q : Base} (hInv : Inv Q s) : Inv Q (acceptLong e n s).1 := by
  unfold acceptLong
  repeat' first
    | with_reducible assumption
    | with_reducible apply updMbx_inv
    | (simp -zeta only [inv_mk]; show Inv Q _)
    | split
    | dsimp -zeta only

theorem pruneOps_inv (s : State) {Q : Base} (hInv : Inv Q s) : Inv Q (pruneOps s) := by
  unfold pruneOps
  repeat' first
    | with_reducible assumption
    | (simp -zeta only [inv_mk]; show Inv Q _)
    | (with_reducible refine inv_fst ‹_› ?_)
    | (with_reducible refine inv_snd ‹_› ?_)
    | dsimp -zeta only

theorem finishOpWith_inv (n : Nat) (st : Status) (b : RespBody) (r : OpRes) (s : State) {Q : Base} (hInv : Inv Q s) : Inv Q (finishOpWith n st b r s) := by
  unfold finishOpWith
  repeat' first
    | with_reducible assumption
    | (intro x; refine inv_have (Q := Q) (s := x) ?_ ?_; rotate_left; clear_value x; rotate_left; unfold x)
    | (intro (x : Flt))
    | (intro (x : Flash))
    | (intro (x : Pwr))
    | (intro (x : Glb))
    | (intro x; clear_value x)
    | (intro _)
    | with_reducible apply placeResp_inv
    | with_reducible apply postNotice_inv
    | with_reducible apply pruneOps_inv
    | (simp -zeta only [inv_mk]; show Inv Q _)
    | split
    | dsimp -zeta only
    | lift_lets

theorem finishShort_inv (n account : Nat) (s : State) {Q : Base} (hInv : Inv Q s) : Inv Q (finishShort n account s) :=
  finishOpWith_inv _ _ _ _ _ hInv

theorem finishOpBody_inv (n : Nat) (st : Status) (b : RespBody) (s : State) {Q : Base} (hInv : Inv Q s) : Inv Q (finishOpBody n st b s) := by
  unfold finishOpBody
  repeat' first
    | with_reducible assumption
    | with_reducible apply finishOpWith_inv

theorem finishOp_inv (n : Nat) (st : Status) (s : State) {Q : Base} (hInv : Inv Q s) : Inv Q (finishOp n st s) := by
  unfold finishOp
  repeat' first
    | with_reducible assumption
    | with_reducible apply finishOpBody_inv

theorem answer_inv (e : Env) (r : Reply) (s : State) {Q : Base} (hInv : Inv Q s) : Inv Q (answer e r s) := by
  unfold answer
  repeat' first
    | with_reducible assumption
    | (intro x; refine inv_have (Q := Q) (s := x) ?_ ?_; rotate_left; clear_value x; rotate_left; unfold x)
    | (intro (x : Flt))
    | (intro (x : Flash))
    | (intro (x : Pwr))
    | (intro (x : Glb))
    | (intro x; clear_value x)
    | (intro _)
    | with_reducible apply addClaim_inv
    | with_reducible apply noteBusy_inv
    | with_reducible apply dropResp_inv
    | with_reducible apply placeResp_inv
    | split
    | lift_lets

theorem serve_inv (o : OpInfo) (e : Env) (objs : List ClaimObj) (check : State → Option Reply) (effect : State → State × Reply) (s : State) {Q : Base} (hf : ∀ v0, Inv Q v0 → Inv Q (effect v0).1) (hInv : Inv Q s) : Inv Q (serve o e objs check effect s) := by
  unfold serve
  split
  · exact placeBadLength_inv _ _ hInv
  · extract_lets v t
    have ht : Inv Q t := inv_ite (endClaims_inv _ _ _ hInv) hInv
    clear_value t v
    split
    · exact answer_inv _ _ _ ht
    · exact answer_inv _ _ _ (hf _ ht)

theorem mailbox_inv (o : OpInfo) (e : Env) (self : Instr) (objs : List ClaimObj) (check : State → Option Reply) (effect : State → State × Reply) (s : State) {Q : Base} (hf : ∀ v0, Inv Q v0 → Inv Q (effect v0).1) (hInv : Inv Q s) : OkNext Q (mailbox o e self objs check effect s) := by
  unfold mailbox
  repeat' first
    | with_reducible assumption
    | (intro _)
    | with_reducible apply doorWrite_inv
    | with_reducible apply serve_inv
    | with_reducible apply takeCmd_inv
    | with_reducible apply okNext_next
    | with_reducible apply okNext_fault
    | (with_reducible refine inv_opt ‹_› ?_)
    | split

theorem chargeAcct_inv (c : Charge) (s : State) {Q : Base} (hInv : Inv Q s) : Inv Q (chargeAcct c s) := by
  unfold chargeAcct
  repeat' first
    | with_reducible assumption
    | (simp -zeta only [inv_mk]; show Inv Q _)
    | split

theorem releaseAcct_inv (c : Charge) (s : State) {Q : Base} (hInv : Inv Q s) : Inv Q (releaseAcct c s) := by
  unfold releaseAcct
  repeat' first
    | with_reducible assumption
    | (simp -zeta only [inv_mk]; show Inv Q _)
    | split

theorem updNode_inv (i : Nat) (f : Node → Node) (s : State) {Q : Base} (hInv : Inv Q s) : Inv Q (updNode i f s) := by
  unfold updNode
  repeat' first
    | with_reducible assumption
    | (simp -zeta only [inv_mk]; show Inv Q _)
    | dsimp -zeta only

theorem unlist_inv (n : Node) (s : State) {Q : Base} (hInv : Inv Q s) : Inv Q (unlist n s) := by
  unfold unlist
  repeat' first
    | with_reducible assumption
    | with_reducible apply updPart_inv
    | (simp -zeta only [inv_mk]; show Inv Q _)
    | dsimp -zeta only

theorem takeRef_inv (i : Nat) (s : State) {Q : Base} (hInv : Inv Q s) : Inv Q (takeRef i s) := by
  unfold takeRef
  repeat' first
    | with_reducible assumption
    | with_reducible apply unlist_inv
    | with_reducible apply updNode_inv
    | (simp -zeta only [inv_mk]; show Inv Q _)
    | split
    | dsimp -zeta only

theorem dropRef_inv (i : Nat) (s : State) {Q : Base} (hInv : Inv Q s) : Inv Q (dropRef i s) := by
  unfold dropRef
  repeat' first
    | with_reducible assumption
    | (intro x; refine inv_have (Q := Q) (s := x) ?_ ?_; rotate_left; clear_value x; rotate_left; unfold x)
    | (intro (x : Flt))
    | (intro (x : Flash))
    | (intro (x : Pwr))
    | (intro (x : Glb))
    | (intro x; clear_value x)
    | (intro _)
    | with_reducible apply updNode_inv
    | with_reducible apply updPart_inv
    | (simp -zeta only [inv_mk]; show Inv Q _)
    | split
    | dsimp -zeta only
    | lift_lets

theorem dropReachRefs_inv (part : Nat) (l : List Reach) (s : State) {Q : Base} (hInv : Inv Q s) : Inv Q (dropReachRefs part l s) := by
  unfold dropReachRefs
  repeat' first
    | with_reducible assumption
    | (intro _)
    | with_reducible apply dropRef_inv
    | with_reducible apply inv_foldl
    | split
    | dsimp -zeta only

theorem chargeTenant_inv (t amount : Nat) (s : State) {Q : Base} (hInv : Inv Q s) : Inv Q (chargeTenant t amount s) := by
  unfold chargeTenant
  repeat' first
    | with_reducible assumption
    | (intro x; refine inv_have (Q := Q) (s := x) ?_ ?_; rotate_left; clear_value x; rotate_left; unfold x)
    | (intro (x : Flt))
    | (intro (x : Flash))
    | (intro (x : Pwr))
    | (intro (x : Glb))
    | (intro x; clear_value x)
    | (intro _)
    | (simp -zeta only [inv_mk]; show Inv Q _)
    | split
    | lift_lets

theorem takeRt_inv (s : State) {Q : Base} (hInv : Inv Q s) : Inv Q (takeRt s) := by
  unfold takeRt
  repeat' first
    | with_reducible assumption
    | (simp -zeta only [inv_mk]; show Inv Q _)
    | split

theorem freeEntry_inv (i : Nat) (s : State) {Q : Base} (hInv : Inv Q s) : Inv Q (freeEntry i s) := by
  unfold freeEntry
  repeat' first
    | with_reducible assumption
    | (simp -zeta only [inv_mk]; show Inv Q _)

theorem dropDigests_inv (part : Nat) (slots : List Nat) (s : State) {Q : Base} (hInv : Inv Q s) : Inv Q (dropDigests part slots s) := by
  unfold dropDigests
  repeat' first
    | with_reducible assumption
    | with_reducible apply updPart_inv
    | (simp -zeta only [inv_mk]; show Inv Q _)
    | dsimp -zeta only

theorem advanceLength_inv (h : Nat) (s : State) {Q : Base} (hInv : Inv Q s) : Inv Q (advanceLength h s) := by
  unfold advanceLength
  repeat' first
    | with_reducible assumption
    | with_reducible apply updRt_inv
    | (simp -zeta only [inv_mk]; show Inv Q _)
    | split
    | dsimp -zeta only

theorem updKept_inv (part h : Nat) (f : Kept → Kept) (s : State) {Q : Base} (hInv : Inv Q s) : Inv Q (updKept part h f s) := by
  unfold updKept
  repeat' first
    | with_reducible assumption
    | with_reducible apply updPart_inv
    | (simp -zeta only [inv_mk]; show Inv Q _)
    | dsimp -zeta only

theorem appendWritten_inv (h layer : Nat) (s : State) {Q : Base} (hInv : Inv Q s) : Inv Q (appendWritten h layer s) := by
  unfold appendWritten
  repeat' first
    | with_reducible assumption
    | (intro x; refine inv_have (Q := Q) (s := x) ?_ ?_; rotate_left; clear_value x; rotate_left; unfold x)
    | (intro (x : Flt))
    | (intro (x : Flash))
    | (intro (x : Pwr))
    | (intro (x : Glb))
    | (intro x; clear_value x)
    | (intro _)
    | with_reducible apply updKept_inv
    | with_reducible apply advanceLength_inv
    | (simp -zeta only [inv_mk]; show Inv Q _)
    | split
    | dsimp -zeta only
    | lift_lets

theorem queueDraw_inv (part h : Nat) (s : State) {Q : Base} (hInv : Inv Q s) : Inv Q (queueDraw part h s) := by
  unfold queueDraw
  repeat' first
    | with_reducible assumption
    | with_reducible apply updKept_inv
    | (simp -zeta only [inv_mk]; show Inv Q _)
    | dsimp -zeta only

theorem windowNow_inv (seat addr part off mask : Nat) (data : List Byte) (s : State) {Q : Base} (hInv : Inv Q s) : Inv Q (windowNow seat addr part off mask data s) := by
  unfold windowNow
  repeat' first
    | with_reducible assumption
    | (intro x; refine inv_have (Q := Q) (s := x) ?_ ?_; rotate_left; clear_value x; rotate_left; unfold x)
    | (intro (x : Flt))
    | (intro (x : Flash))
    | (intro (x : Pwr))
    | (intro (x : Glb))
    | (intro x; clear_value x)
    | (intro _)
    | with_reducible apply putFor_inv
    | with_reducible apply updPart_inv
    | (simp -zeta only [inv_mk]; show Inv Q _)
    | dsimp -zeta only
    | lift_lets

theorem afterHeld_inv (t : HeldTag) (s : State) {Q : Base} (hInv : Inv Q s) : Inv Q (afterHeld t s) := by
  unfold afterHeld
  repeat' first
    | with_reducible assumption
    | (intro x; refine inv_have (Q := Q) (s := x) ?_ ?_; rotate_left; clear_value x; rotate_left; unfold x)
    | (intro (x : Flt))
    | (intro (x : Flash))
    | (intro (x : Pwr))
    | (intro (x : Glb))
    | (intro x; clear_value x)
    | (intro _)
    | with_reducible apply appendWritten_inv
    | with_reducible apply enterStore_inv
    | with_reducible apply emit_inv
    | with_reducible apply queueDraw_inv
    | with_reducible apply updRt_inv
    | (simp -zeta only [inv_mk]; show Inv Q _)
    | split
    | dsimp -zeta only
    | lift_lets

theorem makeWrite_inv (w : HeldWrite) (s : State) {Q : Base} (hInv : Inv Q s) : Inv Q (makeWrite w s) := by
  unfold makeWrite
  repeat' first
    | with_reducible assumption
    | (intro _)
    | with_reducible apply windowNow_inv
    | with_reducible apply dropWrite_inv
    | with_reducible apply lineNow_inv
    | with_reducible apply afterHeld_inv
    | with_reducible apply putNow_inv
    | with_reducible apply inv_foldl
    | split
    | dsimp -zeta only

theorem releaseHeld_inv (x0 : List HeldWrite) (x1 : State) {Q : Base} (hInv : Inv Q x1) : Inv Q (releaseHeld x0 x1) := by
  induction x0 generalizing x1 with
  | nil =>
    unfold releaseHeld
    repeat' first
      | with_reducible assumption
      | with_reducible apply makeWrite_inv
      | (simp -zeta only [inv_mk]; show Inv Q _)
      | split
      | dsimp -zeta only
  | cons a l ih =>
    unfold releaseHeld
    repeat' first
      | with_reducible assumption
      | with_reducible apply makeWrite_inv
      | (simp -zeta only [inv_mk]; show Inv Q _)
      | with_reducible apply ih
      | split
      | dsimp -zeta only

theorem releaseRings_inv (s : State) {Q : Base} (hInv : Inv Q s) : Inv Q (releaseRings s) := by
  unfold releaseRings
  repeat' first
    | with_reducible assumption
    | (intro x; refine inv_have (Q := Q) (s := x) ?_ ?_; rotate_left; clear_value x; rotate_left; unfold x)
    | (intro (x : Flt))
    | (intro (x : Flash))
    | (intro (x : Pwr))
    | (intro (x : Glb))
    | (intro x; clear_value x)
    | (intro _)
    | with_reducible apply drainBacklog_inv
    | with_reducible apply flushNotices_inv
    | with_reducible apply inv_foldl
    | split
    | dsimp -zeta only
    | lift_lets

theorem releaseWrites_inv (s : State) {Q : Base} (hInv : Inv Q s) : Inv Q (releaseWrites s) := by
  unfold releaseWrites
  repeat' first
    | with_reducible assumption
    | with_reducible apply releaseRings_inv
    | with_reducible apply cohGo_inv
    | with_reducible apply releaseHeld_inv
    | (simp -zeta only [inv_mk]; show Inv Q _)

theorem releaseSlots_inv (i : Nat) (s : State) {Q : Base} (hInv : Inv Q s) : Inv Q (releaseSlots i s) := by
  unfold releaseSlots
  repeat' first
    | with_reducible assumption
    | (intro x; refine inv_have (Q := Q) (s := x) ?_ ?_; rotate_left; clear_value x; rotate_left; unfold x)
    | (intro (x : Flt))
    | (intro (x : Flash))
    | (intro (x : Pwr))
    | (intro (x : Glb))
    | (intro x; clear_value x)
    | (intro _)
    | with_reducible apply releaseWrites_inv
    | with_reducible apply releaseAcct_inv
    | with_reducible apply dropDigests_inv
    | lift_lets

theorem releaseHeld3to6_inv (i : Nat) (s : State) {Q : Base} (hInv : Inv Q s) : Inv Q (releaseHeld3to6 i s) := by
  unfold releaseHeld3to6
  repeat' first
    | with_reducible assumption
    | with_reducible apply releaseSlots_inv
    | with_reducible apply dropFrames_inv

theorem releaseSlot_inv (n : Node) (s : State) {Q : Base} (hInv : Inv Q s) : Inv Q (releaseSlot n s) := by
  unfold releaseSlot
  repeat' first
    | with_reducible assumption
    | (intro x; refine inv_have (Q := Q) (s := x) ?_ ?_; rotate_left; clear_value x; rotate_left; unfold x)
    | (intro (x : Flt))
    | (intro (x : Flash))
    | (intro (x : Pwr))
    | (intro (x : Glb))
    | (intro x; clear_value x)
    | (intro _)
    | with_reducible apply dropDigests_inv
    | with_reducible apply releaseWrites_inv
    | with_reducible apply releaseAcct_inv
    | with_reducible apply dropFrames_inv
    | with_reducible apply updPart_inv
    | (simp -zeta only [inv_mk]; show Inv Q _)
    | with_reducible apply optInv_map
    | with_reducible apply optInv_bind
    | with_reducible apply inv_getD
    | split
    | dsimp -zeta only
    | lift_lets

theorem dropChild_inv (n : Node) (s : State) {Q : Base} (hInv : Inv Q s) : Inv Q (dropChild n s) := by
  unfold dropChild
  repeat' first
    | with_reducible assumption
    | (intro x; refine inv_have (Q := Q) (s := x) ?_ ?_; rotate_left; clear_value x; rotate_left; unfold x)
    | (intro (x : Flt))
    | (intro (x : Flash))
    | (intro (x : Pwr))
    | (intro (x : Glb))
    | (intro x; clear_value x)
    | (intro _)
    | with_reducible apply updPart_inv
    | with_reducible apply updNode_inv
    | (simp -zeta only [inv_mk]; show Inv Q _)
    | split
    | dsimp -zeta only
    | lift_lets

theorem evict_inv (n : Node) (s : State) {Q : Base} (hInv : Inv Q s) : Inv Q (evict n s) := by
  unfold evict
  repeat' first
    | with_reducible assumption
    | (intro x; refine inv_have (Q := Q) (s := x) ?_ ?_; rotate_left; clear_value x; rotate_left; unfold x)
    | (intro (x : Flt))
    | (intro (x : Flash))
    | (intro (x : Pwr))
    | (intro (x : Glb))
    | (intro x; clear_value x)
    | (intro _)
    | with_reducible apply unlist_inv
    | with_reducible apply dropChild_inv
    | with_reducible apply releaseSlot_inv
    | (simp -zeta only [inv_mk]; show Inv Q _)
    | lift_lets

theorem dropBuilding_inv (o : Op) (s : State) {Q : Base} (hInv : Inv Q s) : Inv Q (dropBuilding o s) := by
  unfold dropBuilding
  repeat' first
    | with_reducible assumption
    | with_reducible apply evict_inv
    | split

theorem endRequestOps_inv (h : Nat) (s : State) {Q : Base} (hInv : Inv Q s) : Inv Q (endRequestOps h s) := by
  unfold endRequestOps
  repeat' first
    | with_reducible assumption
    | (intro _)
    | with_reducible apply finishOpBody_inv
    | with_reducible apply dropBuilding_inv
    | with_reducible apply finishOp_inv
    | (simp -zeta only [inv_mk]; show Inv Q _)
    | with_reducible apply inv_foldl
    | split
    | dsimp -zeta only

theorem freeParks_inv (p : Park → Bool) (s : State) {Q : Base} (hInv : Inv Q s) : Inv Q (freeParks p s) := by
  unfold freeParks
  repeat' first
    | with_reducible assumption
    | (intro x; refine inv_have (Q := Q) (s := x) ?_ ?_; rotate_left; clear_value x; rotate_left; unfold x)
    | (intro (x : Flt))
    | (intro (x : Flash))
    | (intro (x : Pwr))
    | (intro (x : Glb))
    | (intro x; clear_value x)
    | (intro _)
    | with_reducible apply freeHomes_inv
    | (simp -zeta only [inv_mk]; show Inv Q _)
    | with_reducible apply inv_foldl
    | dsimp -zeta only
    | lift_lets

theorem freeRequest_inv (h : Nat) (s : State) {Q : Base} (hInv : Inv Q s) : Inv Q (freeRequest h s) := by
  unfold freeRequest
  repeat' first
    | with_reducible assumption
    | (intro x; refine inv_have (Q := Q) (s := x) ?_ ?_; rotate_left; clear_value x; rotate_left; unfold x)
    | (intro (x : Flt))
    | (intro (x : Flash))
    | (intro (x : Pwr))
    | (intro (x : Glb))
    | (intro x; clear_value x)
    | (intro _)
    | with_reducible apply endRequestOps_inv
    | with_reducible apply releaseHeld3to6_inv
    | with_reducible apply dropReachRefs_inv
    | with_reducible apply dropRef_inv
    | with_reducible apply releaseAcct_inv
    | with_reducible apply freeParks_inv
    | with_reducible apply freeEntry_inv
    | (simp -zeta only [inv_mk]; show Inv Q _)
    | split
    | dsimp -zeta only
    | lift_lets

theorem copyRows_inv (part src dst rows : Nat) (s : State) {Q : Base} (hInv : Inv Q s) : OptInv Q (copyRows part src dst rows s) := by
  unfold copyRows
  repeat' first
    | with_reducible assumption
    | with_reducible apply putAll_inv
    | with_reducible apply optInv_some
    | with_reducible apply optInv_none

theorem endCow_inv (h : Nat) (s : State) {Q : Base} (hInv : Inv Q s) : OptInv Q (endCow h s) := by
  unfold endCow
  extract_lets e
  split
  · exact hInv
  · extract_lets copied
    have hc : OptInv Q copied := by
      unfold copied
      split
      · exact copyRows_inv _ _ _ _ _ (dropDigests_inv _ _ _ hInv)
      · exact hInv
    refine optInv_map hc fun t ht => ?_
    extract_lets u
    have hu : Inv Q u := dropRef_inv _ _ (updRt_inv _ _ _ ht)
    clear_value u
    split
    · exact finishOpBody_inv _ _ _ _ hu
    · exact hu

theorem execIdentifySeat_inv (e : Env) (s : State) {Q : Base} (hInv : Inv Q s) : OkNext Q (execIdentifySeat e s) := by
  unfold execIdentifySeat
  repeat' first
    | with_reducible assumption
    | (intro _)
    | with_reducible apply mailbox_inv
    | with_reducible apply okNext_next
    | with_reducible apply okNext_fault
    | dsimp -zeta only

theorem execNegotiateVersion_inv (e : Env) (low high : Nat) (s : State) {Q : Base} (hInv : Inv Q s) : OkNext Q (execNegotiateVersion e low high s) := by
  unfold execNegotiateVersion
  repeat' first
    | with_reducible assumption
    | (intro _)
    | with_reducible apply mailbox_inv
    | with_reducible apply updSeat_inv
    | with_reducible apply okNext_next
    | with_reducible apply okNext_fault
    | (simp -zeta only [inv_mk]; show Inv Q _)
    | split
    | dsimp -zeta only

theorem setNoticeRing_inv (e : Env) (base log2 : Nat) (s : State) {Q : Base} (hInv : Inv Q s) : Inv Q (setNoticeRing e base log2 s).1 := by
  unfold setNoticeRing
  repeat' first
    | with_reducible assumption
    | (intro x; refine inv_have (Q := Q) (s := x) ?_ ?_; rotate_left; clear_value x; rotate_left; unfold x)
    | (intro (x : Flt))
    | (intro (x : Flash))
    | (intro (x : Pwr))
    | (intro (x : Glb))
    | (intro x; clear_value x)
    | (intro _)
    | with_reducible apply updSeat_inv
    | with_reducible apply flushNotices_inv
    | split
    | dsimp -zeta only
    | lift_lets

theorem execSetNoticeRing_inv (e : Env) (base log2 : Nat) (s : State) {Q : Base} (hInv : Inv Q s) : OkNext Q (execSetNoticeRing e base log2 s) := by
  unfold execSetNoticeRing
  repeat' first
    | with_reducible assumption
    | (intro _)
    | with_reducible apply mailbox_inv
    | with_reducible apply setNoticeRing_inv
    | with_reducible apply okNext_next
    | with_reducible apply okNext_fault

theorem execGetOperation_inv (e : Env) (opid : Nat) (s : State) {Q : Base} (hInv : Inv Q s) : OkNext Q (execGetOperation e opid s) := by
  unfold execGetOperation
  repeat' first
    | with_reducible assumption
    | (intro _)
    | with_reducible apply mailbox_inv
    | with_reducible apply okNext_next
    | with_reducible apply okNext_fault
    | with_reducible apply optInv_map
    | with_reducible apply optInv_bind
    | with_reducible apply inv_getD
    | split
    | dsimp -zeta only

theorem setPortConfig_inv (port clkMode : Nat) (s : State) {Q : Base} (hInv : Inv Q s) : Inv Q (setPortConfig port clkMode s).1 := by
  unfold setPortConfig
  repeat' first
    | with_reducible assumption
    | exact fun _ => ⟨id, id⟩
    | with_reducible apply updPort_inv
    | (simp -zeta only [inv_mk]; show Inv Q _)
    | dsimp -zeta only

theorem execSetPortConfig_inv (e : Env) (port clkMode : Nat) (s : State) {Q : Base} (hInv : Inv Q s) : OkNext Q (execSetPortConfig e port clkMode s) := by
  unfold execSetPortConfig
  repeat' first
    | with_reducible assumption
    | (intro _)
    | with_reducible apply mailbox_inv
    | with_reducible apply setPortConfig_inv
    | with_reducible apply okNext_next
    | with_reducible apply okNext_fault

theorem mapSeat_inv (seat port ldId : Nat) (s : State) {Q : Base} (hInv : Inv Q s) : Inv Q (mapSeat seat port ldId s).1 := by
  unfold mapSeat
  lift_lets
  intro c n
  split
  · exact hInv
  · have hb : ∀ (m : Option (Nat × Nat)) (s : State), Inv Q s → Inv Q (match m with
        | some (p, l) => updLd p l (fun d => { d with cdatSeq := (d.cdatSeq + 1) % 2 ^ 32 }) s
        | none => s) := by
      intro m s h
      split
      · exact updLd_inv _ _ _ _ h
      · exact h
    exact hb _ _ (hb _ _ (updSeat_inv _ _ _ hInv))

theorem execMapSeat_inv (e : Env) (seat port ldId : Nat) (s : State) {Q : Base} (hInv : Inv Q s) : OkNext Q (execMapSeat e seat port ldId s) := by
  unfold execMapSeat
  repeat' first
    | with_reducible assumption
    | (intro _)
    | with_reducible apply mailbox_inv
    | with_reducible apply mapSeat_inv
    | with_reducible apply okNext_next
    | with_reducible apply okNext_fault
    | with_reducible apply optInv_map
    | with_reducible apply optInv_bind
    | with_reducible apply inv_getD

theorem execUnsupportedOpcode_inv (e : Env) (opcode : Nat) (s : State) {Q : Base} (hInv : Inv Q s) : OkNext Q (execUnsupportedOpcode e opcode s) := by
  unfold execUnsupportedOpcode
  repeat' first
    | with_reducible assumption
    | (intro x; refine inv_have (Q := Q) (s := x) ?_ ?_; rotate_left; clear_value x; rotate_left; unfold x)
    | (intro (x : Flt))
    | (intro (x : Flash))
    | (intro (x : Pwr))
    | (intro (x : Glb))
    | (intro x; clear_value x)
    | (intro _)
    | with_reducible apply doorWrite_inv
    | with_reducible apply takeCmd_inv
    | with_reducible apply placeBadLength_inv
    | with_reducible apply answer_inv
    | with_reducible apply okNext_next
    | with_reducible apply okNext_fault
    | (with_reducible refine inv_opt ‹_› ?_)
    | split
    | lift_lets

theorem createStepRing_inv (e : Env) (b : RingBody) (s : State) {Q : Base} (hInv : Inv Q s) : Inv Q (createStepRing e b s).1 := by
  unfold createStepRing
  repeat' first
    | with_reducible assumption
    | with_reducible apply updRing_inv
    | dsimp -zeta only

theorem execCreateStepRing_inv (e : Env) (b : RingBody) (s : State) {Q : Base} (hInv : Inv Q s) : OkNext Q (execCreateStepRing e b s) := by
  unfold execCreateStepRing
  repeat' first
    | with_reducible assumption
    | (intro _)
    | with_reducible apply mailbox_inv
    | with_reducible apply createStepRing_inv
    | with_reducible apply okNext_next
    | with_reducible apply okNext_fault

theorem freeRing_inv (seat ring : Nat) (s : State) {Q : Base} (hInv : Inv Q s) : Inv Q (freeRing seat ring s) := by
  unfold freeRing
  repeat' first
    | with_reducible assumption
    | with_reducible apply updRing_inv
    | (simp -zeta only [inv_mk]; show Inv Q _)
    | dsimp -zeta only

theorem destroyRing_inv (seat ring : Nat) (s : State) {Q : Base} (hInv : Inv Q s) : Inv Q (destroyRing seat ring s).1 := by
  unfold destroyRing
  repeat' first
    | with_reducible assumption
    | (intro x; refine inv_have (Q := Q) (s := x) ?_ ?_; rotate_left; clear_value x; rotate_left; unfold x)
    | (intro (x : Flt))
    | (intro (x : Flash))
    | (intro (x : Pwr))
    | (intro (x : Glb))
    | (intro x; clear_value x)
    | (intro _)
    | with_reducible apply freeRing_inv
    | with_reducible apply updRing_inv
    | (simp -zeta only [inv_mk]; show Inv Q _)
    | split
    | dsimp -zeta only
    | lift_lets

theorem execDestroyStepRing_inv (e : Env) (ring seat : Nat) (s : State) {Q : Base} (hInv : Inv Q s) : OkNext Q (execDestroyStepRing e ring seat s) := by
  unfold execDestroyStepRing
  repeat' first
    | with_reducible assumption
    | (intro _)
    | with_reducible apply mailbox_inv
    | with_reducible apply destroyRing_inv
    | with_reducible apply okNext_next
    | with_reducible apply okNext_fault
    | split
    | dsimp -zeta only

theorem ringFault_inv (seat ring seq action : Nat) (part handle : Nat) (s : State) {Q : Base} (hInv : Inv Q s) : Inv Q (ringFault seat ring seq action part handle s) := by
  unfold ringFault
  repeat' first
    | with_reducible assumption
    | with_reducible apply logFault_inv

theorem sableRecord_inv (port : Nat) (s : State) {Q : Base} (hInv : Inv Q s) : Inv Q (sableRecord port s) := by
  unfold sableRecord
  repeat' first
    | with_reducible assumption
    | exact fun _ => ⟨id, id⟩
    | (intro x; refine inv_have (Q := Q) (s := x) ?_ ?_; rotate_left; clear_value x; rotate_left; unfold x)
    | (intro (x : Flt))
    | (intro (x : Flash))
    | (intro (x : Pwr))
    | (intro (x : Glb))
    | (intro x; clear_value x)
    | (intro _)
    | with_reducible apply logFault_inv
    | with_reducible apply updPort_inv
    | (simp -zeta only [inv_mk]; show Inv Q _)
    | split
    | dsimp -zeta only
    | lift_lets

theorem closedWrite_inv (seat addr : Nat) (s : State) {Q : Base} (hInv : Inv Q s) : Inv Q (closedWrite seat addr s) := by
  unfold closedWrite
  repeat' first
    | with_reducible assumption
    | with_reducible apply sableRecord_inv
    | with_reducible apply logFault_inv
    | split

end Sys2Proof.Machine
end

