-- ==== Sys2Proof/Laws/Kept2.lean ====
section
/-! SUPPORT. Each operation and meaning keeps the queue, the layout of the device-wide registers and what is retired (part 2 of 6). -/

namespace Sys2Proof.Machine

set_option maxRecDepth 4000
set_option linter.unusedVariables false

theorem acceptRecord_inv (seat ring slot hpa : Nat) (data : List Byte) (s : State) {Q : Base} (hInv : Inv Q s) : Inv Q (acceptRecord seat ring slot hpa data s) := by
  unfold acceptRecord
  repeat' first
    | with_reducible assumption
    | exact fun _ => ⟨List.Subset.refl _, List.Subset.refl _⟩
    | exact fun _ => List.Subset.refl _
    | exact fun _ => ⟨id, id⟩
    | (intro x; refine inv_have (Q := Q) (s := x) ?_ ?_; rotate_left; clear_value x; rotate_left; unfold x)
    | (intro (x : Flt))
    | (intro (x : Flash))
    | (intro (x : Pwr))
    | (intro (x : Glb))
    | (intro x; clear_value x)
    | (intro _)
    | with_reducible apply emit_inv
    | with_reducible apply holdWrite_inv
    | with_reducible apply enterStore_inv
    | with_reducible apply putNow_inv
    | (simp -zeta only [inv_mk]; show Inv Q _)
    | with_reducible apply optInv_map
    | with_reducible apply optInv_bind
    | with_reducible apply inv_getD
    | (with_reducible refine inv_fst ‹_› ?_)
    | (with_reducible refine inv_snd ‹_› ?_)
    | (with_reducible refine inv_trd ‹_› ?_)
    | with_reducible apply inv_foldl
    | (with_reducible apply inv_ite)
    | split
    | dsimp -zeta only
    | lift_lets

theorem ringStore_inv (seat ring slot : Nat) (full : Bool) (data : List Byte) (s : State) {Q : Base} (hInv : Inv Q s) : Inv Q (ringStore seat ring slot full data s) := by
  unfold ringStore
  repeat' first
    | with_reducible assumption
    | (intro x; refine inv_have (Q := Q) (s := x) ?_ ?_; rotate_left; clear_value x; rotate_left; unfold x)
    | (intro (x : Flt))
    | (intro (x : Flash))
    | (intro (x : Pwr))
    | (intro (x : Glb))
    | (intro x; clear_value x)
    | (intro _)
    | with_reducible apply countTraffic_inv
    | with_reducible apply emit_inv
    | with_reducible apply closedWrite_inv
    | with_reducible apply ringFault_inv
    | with_reducible apply updRing_inv
    | with_reducible apply acceptRecord_inv
    | (simp -zeta only [inv_mk]; show Inv Q _)
    | split
    | dsimp -zeta only
    | lift_lets

theorem execRingStore_inv (seat ring slot : Nat) (full : Bool) (data : List Byte) (s : State) {Q : Base} (hInv : Inv Q s) : OkNext Q (execRingStore seat ring slot full data s) := by
  unfold execRingStore
  repeat' first
    | with_reducible assumption
    | (intro x; refine inv_have (Q := Q) (s := x) ?_ ?_; rotate_left; clear_value x; rotate_left; unfold x)
    | (intro (x : Flt))
    | (intro (x : Flash))
    | (intro (x : Pwr))
    | (intro (x : Glb))
    | (intro x; clear_value x)
    | (intro _)
    | with_reducible apply ringStore_inv
    | with_reducible apply okNext_next
    | with_reducible apply okNext_fault
    | split
    | lift_lets

theorem consume_inv (seat ring reserve : Nat) (s : State) {Q : Base} (hInv : Inv Q s) : Inv Q (consume seat ring reserve s) := by
  unfold consume
  repeat' first
    | with_reducible assumption
    | with_reducible apply updRing_inv
    | dsimp -zeta only

theorem openValue_inv (s : State) {Q : Base} (hInv : Inv Q s) : Inv Q (openValue s).2 := by
  unfold openValue
  repeat' first
    | with_reducible assumption
    | (simp -zeta only [inv_mk]; show Inv Q _)
    | dsimp -zeta only

theorem execNop_inv (seat ring : Nat) (s : State) {Q : Base} (hInv : Inv Q s) : OkNext Q (execNop seat ring s) := by
  unfold execNop
  repeat' first
    | with_reducible assumption
    | with_reducible apply consume_inv
    | with_reducible apply okNext_next
    | with_reducible apply okNext_fault
    | split

theorem execUndefinedKind_inv (seat ring : Nat) (s : State) {Q : Base} (hInv : Inv Q s) : OkNext Q (execUndefinedKind seat ring s) := by
  unfold execUndefinedKind
  repeat' first
    | with_reducible assumption
    | (intro x; refine inv_have (Q := Q) (s := x) ?_ ?_; rotate_left; clear_value x; rotate_left; unfold x)
    | (intro (x : Flt))
    | (intro (x : Flash))
    | (intro (x : Pwr))
    | (intro (x : Glb))
    | (intro x; clear_value x)
    | (intro _)
    | with_reducible apply updRing_inv
    | with_reducible apply consume_inv
    | with_reducible apply ringFault_inv
    | with_reducible apply openValue_inv
    | with_reducible apply complete_inv
    | with_reducible apply okNext_next
    | with_reducible apply okNext_fault
    | (simp -zeta only [inv_mk]; show Inv Q _)
    | (with_reducible refine inv_fst ‹_› ?_)
    | (with_reducible refine inv_snd ‹_› ?_)
    | split
    | dsimp -zeta only
    | lift_lets

theorem execSeatNoticeHeadWrite_inv (seat value : Nat) (s : State) {Q : Base} (hInv : Inv Q s) : OkNext Q (execSeatNoticeHeadWrite seat value s) := by
  unfold execSeatNoticeHeadWrite
  repeat' first
    | with_reducible assumption
    | (intro x; refine inv_have (Q := Q) (s := x) ?_ ?_; rotate_left; clear_value x; rotate_left; unfold x)
    | (intro (x : Flt))
    | (intro (x : Flash))
    | (intro (x : Pwr))
    | (intro (x : Glb))
    | (intro x; clear_value x)
    | (intro _)
    | with_reducible apply logFault_inv
    | with_reducible apply updSeat_inv
    | with_reducible apply flushNotices_inv
    | with_reducible apply okNext_next
    | with_reducible apply okNext_fault
    | (simp -zeta only [inv_mk]; show Inv Q _)
    | split
    | dsimp -zeta only
    | lift_lets

theorem execClaimLapse_inv (s : State) {Q : Base} (hInv : Inv Q s) : OkNext Q (execClaimLapse s) := by
  unfold execClaimLapse
  repeat' first
    | with_reducible assumption
    | with_reducible apply okNext_next
    | with_reducible apply okNext_fault
    | (simp -zeta only [inv_mk]; show Inv Q _)
    | dsimp -zeta only

theorem createTenant_inv (tenant mode rate cap : Nat) (s : State) {Q : Base} (hInv : Inv Q s) : Inv Q (createTenant tenant mode rate cap s).1 := by
  unfold createTenant
  repeat' first
    | with_reducible assumption
    | (simp -zeta only [inv_mk]; show Inv Q _)
    | split
    | dsimp -zeta only

theorem execCreateTenant_inv (e : Env) (tenant mode rate cap : Nat) (s : State) {Q : Base} (hInv : Inv Q s) : OkNext Q (execCreateTenant e tenant mode rate cap s) := by
  unfold execCreateTenant
  repeat' first
    | with_reducible assumption
    | (intro _)
    | with_reducible apply mailbox_inv
    | with_reducible apply createTenant_inv
    | with_reducible apply okNext_next
    | with_reducible apply okNext_fault
    | split
    | dsimp -zeta only

theorem execDeleteTenant_inv (e : Env) (tenant : Nat) (s : State) {Q : Base} (hInv : Inv Q s) : OkNext Q (execDeleteTenant e tenant s) := by
  unfold execDeleteTenant
  repeat' first
    | with_reducible assumption
    | (intro _)
    | with_reducible apply mailbox_inv
    | with_reducible apply okNext_next
    | with_reducible apply okNext_fault
    | (simp -zeta only [inv_mk]; show Inv Q _)
    | split
    | dsimp -zeta only

theorem setTenantBudget_inv (tenant mode rate cap : Nat) (s : State) {Q : Base} (hInv : Inv Q s) : Inv Q (setTenantBudget tenant mode rate cap s).1 := by
  unfold setTenantBudget
  repeat' first
    | with_reducible assumption
    | (intro x; refine inv_have (Q := Q) (s := x) ?_ ?_; rotate_left; clear_value x; rotate_left; unfold x)
    | (intro (x : Flt))
    | (intro (x : Flash))
    | (intro (x : Pwr))
    | (intro (x : Glb))
    | (intro x; clear_value x)
    | (intro _)
    | (simp -zeta only [inv_mk]; show Inv Q _)
    | split
    | dsimp -zeta only
    | lift_lets

theorem execSetTenantBudget_inv (e : Env) (tenant mode rate cap : Nat) (s : State) {Q : Base} (hInv : Inv Q s) : OkNext Q (execSetTenantBudget e tenant mode rate cap s) := by
  unfold execSetTenantBudget
  repeat' first
    | with_reducible assumption
    | (intro _)
    | with_reducible apply mailbox_inv
    | with_reducible apply setTenantBudget_inv
    | with_reducible apply okNext_next
    | with_reducible apply okNext_fault
    | split
    | dsimp -zeta only

theorem grantBudget_inv (tenant : Nat) (amount : Int) (s : State) {Q : Base} (hInv : Inv Q s) : Inv Q (grantBudget tenant amount s).1 := by
  unfold grantBudget
  repeat' first
    | with_reducible assumption
    | (intro x; refine inv_have (Q := Q) (s := x) ?_ ?_; rotate_left; clear_value x; rotate_left; unfold x)
    | (intro (x : Flt))
    | (intro (x : Flash))
    | (intro (x : Pwr))
    | (intro (x : Glb))
    | (intro x; clear_value x)
    | (intro _)
    | (simp -zeta only [inv_mk]; show Inv Q _)
    | split
    | dsimp -zeta only
    | lift_lets

theorem execGrantBudget_inv (e : Env) (tenant : Nat) (amount : Int) (s : State) {Q : Base} (hInv : Inv Q s) : OkNext Q (execGrantBudget e tenant amount s) := by
  unfold execGrantBudget
  repeat' first
    | with_reducible assumption
    | (intro _)
    | with_reducible apply mailbox_inv
    | with_reducible apply grantBudget_inv
    | with_reducible apply okNext_next
    | with_reducible apply okNext_fault
    | split
    | dsimp -zeta only

theorem execQueryTenant_inv (e : Env) (tenant : Nat) (s : State) {Q : Base} (hInv : Inv Q s) : OkNext Q (execQueryTenant e tenant s) := by
  unfold execQueryTenant
  repeat' first
    | with_reducible assumption
    | (intro _)
    | with_reducible apply mailbox_inv
    | with_reducible apply okNext_next
    | with_reducible apply okNext_fault
    | split
    | dsimp -zeta only

theorem execTenantRefill_inv (s : State) {Q : Base} (hInv : Inv Q s) : OkNext Q (execTenantRefill s) := by
  unfold execTenantRefill
  repeat' first
    | with_reducible assumption
    | with_reducible apply okNext_next
    | with_reducible apply okNext_fault
    | (simp -zeta only [inv_mk]; show Inv Q _)
    | with_reducible apply optInv_map
    | with_reducible apply optInv_bind
    | with_reducible apply inv_getD
    | split
    | dsimp -zeta only

theorem execSetSeatQuota_inv (e : Env) (seat maxEntries maxFrames : Nat) (s : State) {Q : Base} (hInv : Inv Q s) : OkNext Q (execSetSeatQuota e seat maxEntries maxFrames s) := by
  unfold execSetSeatQuota
  repeat' first
    | with_reducible assumption
    | (intro _)
    | with_reducible apply mailbox_inv
    | with_reducible apply updSeat_inv
    | with_reducible apply okNext_next
    | with_reducible apply okNext_fault
    | (simp -zeta only [inv_mk]; show Inv Q _)
    | split
    | dsimp -zeta only

theorem execSetPartitionCap_inv (e : Env) (part cap : Nat) (s : State) {Q : Base} (hInv : Inv Q s) : OkNext Q (execSetPartitionCap e part cap s) := by
  unfold execSetPartitionCap
  repeat' first
    | with_reducible assumption
    | (intro _)
    | with_reducible apply mailbox_inv
    | with_reducible apply updPart_inv
    | with_reducible apply okNext_next
    | with_reducible apply okNext_fault
    | (simp -zeta only [inv_mk]; show Inv Q _)
    | split
    | dsimp -zeta only

theorem execQueryCapacity_inv (e : Env) (s : State) {Q : Base} (hInv : Inv Q s) : OkNext Q (execQueryCapacity e s) := by
  unfold execQueryCapacity
  repeat' first
    | with_reducible assumption
    | (intro _)
    | with_reducible apply mailbox_inv
    | with_reducible apply okNext_next
    | with_reducible apply okNext_fault
    | dsimp -zeta only

theorem waitCow_inv (e : Env) (h : Nat) (body : RespBody) (s : State) {Q : Base} (hInv : Inv Q s) : Inv Q (waitCow e h body s).1 := by
  unfold waitCow
  repeat' first
    | with_reducible assumption
    | (intro x; refine inv_have (Q := Q) (s := x) ?_ ?_; rotate_left; clear_value x; rotate_left; unfold x)
    | (intro (x : Flt))
    | (intro (x : Flash))
    | (intro (x : Pwr))
    | (intro (x : Glb))
    | (intro x; clear_value x)
    | (intro _)
    | with_reducible apply startOp_inv
    | with_reducible apply acceptLong_inv
    | (simp -zeta only [inv_mk]; show Inv Q _)
    | (with_reducible refine inv_fst ‹_› ?_)
    | (with_reducible refine inv_snd ‹_› ?_)
    | split
    | dsimp -zeta only
    | lift_lets

theorem admitNow_inv (e : Env) (b : AdmitBody) (s : State) {Q : Base} (hInv : Inv Q s) : Inv Q (admitNow e b s).1 := by
  unfold admitNow
  repeat' first
    | with_reducible assumption
    | (intro x; refine inv_have (Q := Q) (s := x) ?_ ?_; rotate_left; clear_value x; rotate_left; unfold x)
    | (intro (x : Flt))
    | (intro (x : Flash))
    | (intro (x : Pwr))
    | (intro (x : Glb))
    | (intro x; clear_value x)
    | (intro _)
    | with_reducible apply chargeAcct_inv
    | with_reducible apply takeRt_inv
    | with_reducible apply takeRef_inv
    | with_reducible apply chargeTenant_inv
    | with_reducible apply endCow_inv
    | with_reducible apply waitCow_inv
    | (simp -zeta only [inv_mk]; show Inv Q _)
    | (with_reducible refine inv_opt ‹_› ?_)
    | with_reducible apply inv_foldl
    | split
    | dsimp -zeta only
    | lift_lets

theorem execAdmitRequest_inv (e : Env) (b : AdmitBody) (s : State) {Q : Base} (hInv : Inv Q s) : OkNext Q (execAdmitRequest e b s) := by
  unfold execAdmitRequest
  repeat' first
    | with_reducible assumption
    | (intro _)
    | with_reducible apply mailbox_inv
    | with_reducible apply admitNow_inv
    | with_reducible apply okNext_next
    | with_reducible apply okNext_fault
    | (simp -zeta only [inv_mk]; show Inv Q _)

theorem execCommitPrompt_inv (e : Env) (handle : Nat) (s : State) {Q : Base} (hInv : Inv Q s) : OkNext Q (execCommitPrompt e handle s) := by
  unfold execCommitPrompt
  repeat' first
    | with_reducible assumption
    | (intro _)
    | with_reducible apply mailbox_inv
    | with_reducible apply updRt_inv
    | with_reducible apply okNext_next
    | with_reducible apply okNext_fault
    | (simp -zeta only [inv_mk]; show Inv Q _)
    | (with_reducible refine inv_fst ‹_› ?_)
    | (with_reducible refine inv_snd ‹_› ?_)
    | split
    | dsimp -zeta only

theorem StagedReq.apply_inv (r : StagedReq) (s : State) {Q : Base} (hInv : Inv Q s) : Inv Q (StagedReq.apply r s) := by
  unfold StagedReq.apply
  repeat' first
    | with_reducible assumption
    | with_reducible apply updRt_inv
    | (simp -zeta only [inv_mk]; show Inv Q _)
    | split
    | dsimp -zeta only

theorem setRequest_inv (r : StagedReq) (s : State) {Q : Base} (hInv : Inv Q s) : Inv Q (setRequest r s).1 := by
  unfold setRequest
  lift_lets
  intro t
  split
  · exact updPart_inv _ _ _ hInv
  · exact StagedReq.apply_inv _ _ hInv

theorem execSetRequest_inv (e : Env) (handle prio dlToken dlItem : Nat) (s : State) {Q : Base} (hInv : Inv Q s) : OkNext Q (execSetRequest e handle prio dlToken dlItem s) := by
  unfold execSetRequest
  repeat' first
    | with_reducible assumption
    | (intro _)
    | with_reducible apply mailbox_inv
    | with_reducible apply setRequest_inv
    | with_reducible apply okNext_next
    | with_reducible apply okNext_fault
    | split
    | dsimp -zeta only

theorem cancelRequest_inv (handle : Nat) (s : State) {Q : Base} (hInv : Inv Q s) : Inv Q (cancelRequest handle s).1 := by
  unfold cancelRequest
  repeat' first
    | with_reducible assumption
    | (intro x; refine inv_have (Q := Q) (s := x) ?_ ?_; rotate_left; clear_value x; rotate_left; unfold x)
    | (intro (x : Flt))
    | (intro (x : Flash))
    | (intro (x : Pwr))
    | (intro (x : Glb))
    | (intro x; clear_value x)
    | (intro _)
    | with_reducible apply freeRequest_inv
    | with_reducible apply updRt_inv
    | (simp -zeta only [inv_mk]; show Inv Q _)
    | split
    | dsimp -zeta only
    | lift_lets

theorem execCancelRequest_inv (e : Env) (handle : Nat) (s : State) {Q : Base} (hInv : Inv Q s) : OkNext Q (execCancelRequest e handle s) := by
  unfold execCancelRequest
  repeat' first
    | with_reducible assumption
    | (intro _)
    | with_reducible apply mailbox_inv
    | with_reducible apply cancelRequest_inv
    | with_reducible apply okNext_next
    | with_reducible apply okNext_fault

theorem execQueryRequest_inv (e : Env) (handle : Nat) (s : State) {Q : Base} (hInv : Inv Q s) : OkNext Q (execQueryRequest e handle s) := by
  unfold execQueryRequest
  repeat' first
    | with_reducible assumption
    | (intro _)
    | with_reducible apply mailbox_inv
    | with_reducible apply okNext_next
    | with_reducible apply okNext_fault
    | dsimp -zeta only

theorem execListRequests_inv (e : Env) (start : Nat) (s : State) {Q : Base} (hInv : Inv Q s) : OkNext Q (execListRequests e start s) := by
  unfold execListRequests
  repeat' first
    | with_reducible assumption
    | (intro _)
    | with_reducible apply mailbox_inv
    | with_reducible apply okNext_next
    | with_reducible apply okNext_fault
    | dsimp -zeta only

theorem execCowCopyComplete_inv (handle : Nat) (s : State) {Q : Base} (hInv : Inv Q s) : OkNext Q (execCowCopyComplete handle s) := by
  unfold execCowCopyComplete
  split
  · exact inv_getD (endCow_inv _ _ hInv) hInv
  · exact hInv

theorem execShoalEncode_inv (e : Env) (src dst class0 class1 : Nat) (s : State) {Q : Base} (hInv : Inv Q s) : OkNext Q (execShoalEncode e src dst class0 class1 s) := by
  unfold execShoalEncode
  repeat' first
    | with_reducible assumption
    | (intro x; refine inv_have (Q := Q) (s := x) ?_ ?_; rotate_left; clear_value x; rotate_left; unfold x)
    | (intro (x : Flt))
    | (intro (x : Flash))
    | (intro (x : Pwr))
    | (intro (x : Glb))
    | (intro x; clear_value x)
    | (intro _)
    | with_reducible apply mailbox_inv
    | with_reducible apply hdmPut_inv
    | with_reducible apply okNext_next
    | with_reducible apply okNext_fault
    | split
    | dsimp -zeta only
    | lift_lets

theorem execShoalDecode_inv (e : Env) (src dst length : Nat) (s : State) {Q : Base} (hInv : Inv Q s) : OkNext Q (execShoalDecode e src dst length s) := by
  unfold execShoalDecode
  repeat' first
    | with_reducible assumption
    | (intro _)
    | with_reducible apply mailbox_inv
    | with_reducible apply hdmPut_inv
    | with_reducible apply okNext_next
    | with_reducible apply okNext_fault
    | with_reducible apply optInv_map
    | with_reducible apply optInv_bind
    | with_reducible apply inv_getD
    | (with_reducible refine inv_fst ‹_› ?_)
    | (with_reducible refine inv_snd ‹_› ?_)
    | split
    | dsimp -zeta only

theorem updLane_inv (l : Nat) (f : Lane → Lane) (s : State) {Q : Base} (hInv : Inv Q s) : Inv Q (updLane l f s) := by
  unfold updLane
  repeat' first
    | with_reducible assumption
    | (simp -zeta only [inv_mk]; show Inv Q _)

theorem updBlk_inv (l b : Nat) (f : Blk → Blk) (s : State) {Q : Base} (hInv : Inv Q s) : Inv Q (updBlk l b f s) := by
  unfold updBlk
  repeat' first
    | with_reducible assumption
    | with_reducible apply updLane_inv
    | (simp -zeta only [inv_mk]; show Inv Q _)
    | dsimp -zeta only

theorem checkWear_inv (l : Nat) (s : State) {Q : Base} (hInv : Inv Q s) : Inv Q (checkWear l s) := by
  unfold checkWear
  repeat' first
    | with_reducible assumption
    | (intro x; refine inv_have (Q := Q) (s := x) ?_ ?_; rotate_left; clear_value x; rotate_left; unfold x)
    | (intro (x : Flt))
    | (intro (x : Flash))
    | (intro (x : Pwr))
    | (intro (x : Glb))
    | (intro x; clear_value x)
    | (intro _)
    | with_reducible apply causeFault_inv
    | with_reducible apply optInv_map
    | with_reducible apply optInv_bind
    | with_reducible apply inv_getD
    | with_reducible apply inv_foldl
    | split
    | dsimp -zeta only
    | lift_lets

theorem eraseBlk_inv (l b : Nat) (s : State) {Q : Base} (hInv : Inv Q s) : Inv Q (eraseBlk l b s) := by
  unfold eraseBlk
  repeat' first
    | with_reducible assumption
    | with_reducible apply checkWear_inv
    | with_reducible apply updBlk_inv
    | (simp -zeta only [inv_mk]; show Inv Q _)
    | dsimp -zeta only

theorem openBlk_inv (l : Nat) (gc flush : Bool) (s : State) {Q : Base} (hInv : Inv Q s) : OptInv Q (openBlk l gc flush s) := by
  unfold openBlk
  split
  · trivial
  · refine optInv_mapAny fun b => ?_
    refine updLane_inv _ _ _ (updBlk_inv _ _ _ _ ?_)
    split
    · exact updBlk_inv _ _ _ _ hInv
    · exact hInv

theorem appendUnit_inv (l : Nat) (gc : Bool) (unit len : Nat) (s : State) {Q : Base} (hInv : Inv Q s) : Inv Q (appendUnit l gc unit len s).1 := by
  unfold appendUnit
  repeat' first
    | with_reducible assumption
    | (intro x; refine inv_have (Q := Q) (s := x) ?_ ?_; rotate_left; clear_value x; rotate_left; unfold x)
    | (intro (x : Flt))
    | (intro (x : Flash))
    | (intro (x : Pwr))
    | (intro (x : Glb))
    | (intro x; clear_value x)
    | (intro _)
    | with_reducible apply updBlk_inv
    | with_reducible apply updLane_inv
    | (simp -zeta only [inv_mk]; show Inv Q _)
    | split
    | dsimp -zeta only
    | lift_lets

theorem moveEntry_inv (unit pos : Nat) (s : State) {Q : Base} (hInv : Inv Q s) : Inv Q (moveEntry unit pos s) := by
  unfold moveEntry
  repeat' first
    | with_reducible assumption
    | with_reducible apply journal_inv
    | (simp -zeta only [inv_mk]; show Inv Q _)
    | with_reducible apply optInv_map
    | with_reducible apply optInv_bind
    | with_reducible apply inv_getD
    | dsimp -zeta only

theorem relocateWith_inv (place : Nat → Nat → State → Option (State × Nat)) (l b : Nat) (s : State) {Q : Base} (hf : ∀ u n t, Inv Q t → OptInvP Q (place u n t)) (hInv : Inv Q s) : OptInv Q (relocateWith place l b s) := by
  unfold relocateWith
  exact optInv_foldl (f := fun (r : Nat × Nat × Nat) s => (place r.1 r.2.2 s).map fun y => moveEntry r.1 y.2 y.1)
    (fun t a ht => optInvP_map (hf _ _ _ ht) fun x hx => moveEntry_inv _ _ _ hx) (o := some s) hInv

theorem placeUnit_inv (x0 : Nat) (x1 : Nat) (x2 x3 : Bool) (x4 x5 : Nat) (x6 : State) {Q : Base} (hInv : Inv Q x6) : OptInvP Q (placeUnit x0 x1 x2 x3 x4 x5 x6) := by
  induction x0 generalizing x1 x2 x3 x4 x5 x6 with
  | zero =>
    show OptInvP Q (if hasRoom x6 x1 x2 x5 then some (appendUnit x1 x2 x4 x5 x6) else none)
    split
    · exact appendUnit_inv _ _ _ _ _ hInv
    · trivial
  | succ n ih =>
    show OptInvP Q (if hasRoom x6 x1 x2 x5 then some (appendUnit x1 x2 x4 x5 x6)
      else (openBlk x1 x2 x3 x6).map fun s => appendUnit x1 x2 x4 x5 (if x3 || 32 ≤ freeCount s x1 then s
        else match victimOf s x1 with
          | none => s
          | some v => match relocateWith (placeUnit n x1 true false) x1 v (updBlk x1 v (fun x => { x with st := .moving }) s) with
            | some t => eraseBlk x1 v (programJournal t)
            | none => s))
    split
    · exact appendUnit_inv _ _ _ _ _ hInv
    · have ho := openBlk_inv x1 x2 x3 x6 hInv
      generalize openBlk x1 x2 x3 x6 = w at ho
      cases w with
      | none => trivial
      | some s =>
        refine appendUnit_inv x1 x2 x4 x5 _ ?_
        have hs : Inv Q s := ho
        split
        · exact hs
        · split
          · exact hs
          · split
            · rename_i e
              have hr := inv_opt e (relocateWith_inv _ _ _ _ (fun u m t ht => ih _ _ _ _ _ _ ht) (updBlk_inv _ _ _ _ hs))
              exact eraseBlk_inv _ _ _ (programJournal_inv _ hr)
            · exact hs

theorem place_inv (gc flush : Bool) (unit len : Nat) (s : State) {Q : Base} (hInv : Inv Q s) : OptInvP Q (place gc flush unit len s) := by
  unfold place
  split
  · trivial
  · exact placeUnit_inv _ _ _ _ _ _ _ hInv

theorem relocate_inv (l b : Nat) (s : State) {Q : Base} (hInv : Inv Q s) : Inv Q (relocate l b s) := by
  unfold relocate
  repeat' first
    | with_reducible assumption
    | (intro _)
    | with_reducible apply relocateWith_inv
    | with_reducible apply place_inv
    | with_reducible apply updBlk_inv
    | with_reducible apply eraseBlk_inv
    | with_reducible apply programJournal_inv
    | (simp -zeta only [inv_mk]; show Inv Q _)
    | (with_reducible refine inv_opt ‹_› ?_)
    | (with_reducible refine inv_optP ‹_› ?_)
    | with_reducible apply optInvP_map
    | split
    | dsimp -zeta only

theorem takeParity_inv (u : UnitKey) (s : State) {Q : Base} (hInv : Inv Q s) : Inv Q (takeParity u s) := by
  unfold takeParity
  repeat' first
    | with_reducible assumption
    | (simp -zeta only [inv_mk]; show Inv Q _)
    | (with_reducible refine inv_fst ‹_› ?_)
    | (with_reducible refine inv_snd ‹_› ?_)
    | split

theorem parityProgram_inv (flush : Bool) (u : UnitKey) (new : List Byte) (s : State) {Q : Base} (hInv : Inv Q s) : Inv Q (parityProgram flush u new s) := by
  unfold parityProgram
  repeat' first
    | with_reducible assumption
    | (intro x; refine inv_have (Q := Q) (s := x) ?_ ?_; rotate_left; clear_value x; rotate_left; unfold x)
    | (intro (x : Flt))
    | (intro (x : Flash))
    | (intro (x : Pwr))
    | (intro (x : Glb))
    | (intro x; clear_value x)
    | (intro _)
    | with_reducible apply takeParity_inv
    | with_reducible apply addStale_inv
    | with_reducible apply sendDelta_inv
    | split
    | lift_lets

theorem programDone_inv (q : Prog) (s : State) {Q : Base} (hInv : Inv Q s) : Inv Q (programDone q s) := by
  unfold programDone
  repeat' first
    | with_reducible assumption
    | (intro x; refine inv_have (Q := Q) (s := x) ?_ ?_; rotate_left; clear_value x; rotate_left; unfold x)
    | (intro (x : Flt))
    | (intro (x : Flash))
    | (intro (x : Pwr))
    | (intro (x : Glb))
    | (intro x; clear_value x)
    | (intro _)
    | with_reducible apply programJournal_inv
    | with_reducible apply journal_inv
    | (simp -zeta only [inv_mk]; show Inv Q _)
    | with_reducible apply optInv_map
    | with_reducible apply optInv_bind
    | with_reducible apply inv_getD
    | dsimp -zeta only
    | lift_lets

theorem programUnit_inv (flush : Bool) (u : UnitKey) (s : State) {Q : Base} (hInv : Inv Q s) : OptInv Q (programUnit flush u s) := by
  unfold programUnit
  exact optInvP_map (place_inv _ _ _ _ _ (parityProgram_inv _ _ _ _ (giveUnit_inv _ _ hInv))) fun x hx => programDone_inv _ _ hx

theorem programMeta_inv (u : UnitKey) (s : State) {Q : Base} (hInv : Inv Q s) : OptInv Q (programMeta u s) := by
  unfold programMeta
  exact optInvP_map (place_inv _ _ _ _ _ (giveUnit_inv _ _ hInv)) fun x hx => programDone_inv _ _ hx

theorem programMetas_inv (us : List UnitKey) (s : State) {Q : Base} (hInv : Inv Q s) : OptInv Q (programMetas us s) :=
  optInv_foldl (fun _ _ ht => programMeta_inv _ _ ht) hInv

theorem writeBackAll_inv (p : FrameKey → Bool) (s : State) {Q : Base} (hInv : Inv Q s) : OptInv Q (writeBackAll p s) := by
  unfold writeBackAll
  exact optInv_map (optInv_foldl (f := fun u => programUnit false u) (fun _ _ ht => programUnit_inv _ _ _ ht) hInv) fun t ht => ht

theorem countReads_inv (m : MapEnt) (s : State) {Q : Base} (hInv : Inv Q s) : Inv Q (countReads m s) := by
  unfold countReads
  repeat' first
    | with_reducible assumption
    | with_reducible apply updBlk_inv
    | (simp -zeta only [inv_mk]; show Inv Q _)
    | split
    | dsimp -zeta only

theorem readHome_inv (m : MapEnt) (u : UnitKey) (s : State) {Q : Base} (hInv : Inv Q s) : Inv Q (readHome m u s) := by
  unfold readHome
  repeat' first
    | with_reducible assumption
    | (intro x; refine inv_have (Q := Q) (s := x) ?_ ?_; rotate_left; clear_value x; rotate_left; unfold x)
    | (intro (x : Flt))
    | (intro (x : Flash))
    | (intro (x : Pwr))
    | (intro (x : Glb))
    | (intro x; clear_value x)
    | (intro _)
    | with_reducible apply countReads_inv
    | with_reducible apply updPart_inv
    | with_reducible apply updRegion_inv
    | (simp -zeta only [inv_mk]; show Inv Q _)
    | with_reducible apply inv_foldl
    | split
    | dsimp -zeta only
    | lift_lets

theorem readForWb_inv (fs : List FrameKey) (s : State) {Q : Base} (hInv : Inv Q s) : Inv Q (readForWb fs s) := by
  unfold readForWb
  repeat' first
    | with_reducible assumption
    | (intro x; refine inv_have (Q := Q) (s := x) ?_ ?_; rotate_left; clear_value x; rotate_left; unfold x)
    | (intro (x : Flt))
    | (intro (x : Flash))
    | (intro (x : Pwr))
    | (intro (x : Glb))
    | (intro x; clear_value x)
    | (intro _)
    | (simp -zeta only [inv_mk]; show Inv Q _)
    | with_reducible apply optInv_map
    | with_reducible apply optInv_bind
    | with_reducible apply inv_getD
    | split
    | dsimp -zeta only
    | lift_lets

theorem execWritebackUnit_inv (s : State) {Q : Base} (hInv : Inv Q s) : OkNext Q (execWritebackUnit s) := by
  unfold execWritebackUnit
  split
  · exact hInv
  · split
    · exact hInv
    · split
      · exact hInv
      · have hg := giveUnit_inv (Q := Q) ‹UnitKey› s hInv
        dsimp only
        split
        · exact hg
        · rename_i e
          have ht := inv_optP e (place_inv _ _ _ _ _ (parityProgram_inv _ _ _ _ hg))
          have hr := fun l => readForWb_inv l _ ht
          exact hr _

theorem gpfSettle_inv (s : State) {Q : Base} (hInv : Inv Q s) : Inv Q (gpfSettle s) := by
  unfold gpfSettle
  split
  · exact hInv
  · exact inv_foldl (fun _ _ h => emit_inv _ _ h) { programJournal_inv s hInv with regs := hInv.regs }

theorem execFlashProgramComplete_inv (idx : Nat) (s : State) {Q : Base} (hInv : Inv Q s) : OkNext Q (execFlashProgramComplete idx s) := by
  unfold execFlashProgramComplete
  repeat' first
    | with_reducible assumption
    | (intro x; refine inv_have (Q := Q) (s := x) ?_ ?_; rotate_left; clear_value x; rotate_left; unfold x)
    | (intro (x : Flt))
    | (intro (x : Flash))
    | (intro (x : Pwr))
    | (intro (x : Glb))
    | (intro x; clear_value x)
    | (intro _)
    | with_reducible apply programDone_inv
    | with_reducible apply gpfSettle_inv
    | with_reducible apply releaseWrites_inv
    | with_reducible apply okNext_next
    | with_reducible apply okNext_fault
    | (simp -zeta only [inv_mk]; show Inv Q _)
    | with_reducible apply optInv_map
    | with_reducible apply optInv_bind
    | with_reducible apply inv_getD
    | split
    | dsimp -zeta only
    | lift_lets

theorem startStripe_inv (u : UnitKey) (k : Nat) (s : State) {Q : Base} (hInv : Inv Q s) : Inv Q (startStripe u k s) := by
  unfold startStripe
  repeat' first
    | with_reducible assumption
    | (intro x; refine inv_have (Q := Q) (s := x) ?_ ?_; rotate_left; clear_value x; rotate_left; unfold x)
    | (intro (x : Flt))
    | (intro (x : Flash))
    | (intro (x : Pwr))
    | (intro (x : Glb))
    | (intro x; clear_value x)
    | (intro _)
    | with_reducible apply sendEntry_inv
    | (simp -zeta only [inv_mk]; show Inv Q _)
    | with_reducible apply inv_foldl
    | split
    | dsimp -zeta only
    | lift_lets

theorem loseUnits_inv (p : MapEnt → Bool) (s : State) {Q : Base} (hInv : Inv Q s) : Inv Q (loseUnits p s) := by
  unfold loseUnits
  repeat' first
    | with_reducible assumption
    | (intro x; refine inv_have (Q := Q) (s := x) ?_ ?_; rotate_left; clear_value x; rotate_left; unfold x)
    | (intro (x : Flt))
    | (intro (x : Flash))
    | (intro (x : Pwr))
    | (intro (x : Glb))
    | (intro x; clear_value x)
    | (intro _)
    | with_reducible apply startStripe_inv
    | with_reducible apply markDirty_inv
    | with_reducible apply journal_inv
    | (simp -zeta only [inv_mk]; show Inv Q _)
    | with_reducible apply optInv_map
    | with_reducible apply optInv_bind
    | with_reducible apply inv_getD
    | with_reducible apply inv_foldl
    | split
    | dsimp -zeta only
    | lift_lets

theorem dirtyAgain_inv (q : Prog) (s : State) {Q : Base} (hInv : Inv Q s) : Inv Q (dirtyAgain q s) := by
  unfold dirtyAgain
  repeat' first
    | with_reducible assumption
    | (intro x; refine inv_have (Q := Q) (s := x) ?_ ?_; rotate_left; clear_value x; rotate_left; unfold x)
    | (intro (x : Flt))
    | (intro (x : Flash))
    | (intro (x : Pwr))
    | (intro (x : Glb))
    | (intro x; clear_value x)
    | (intro _)
    | with_reducible apply sendDelta_inv
    | (simp -zeta only [inv_mk]; show Inv Q _)
    | split
    | dsimp -zeta only
    | lift_lets

theorem dropProgs_inv (p : Prog → Bool) (s : State) {Q : Base} (hInv : Inv Q s) : Inv Q (dropProgs p s) := by
  unfold dropProgs
  exact inv_foldl (fun t q ht => dirtyAgain_inv q t ht) hInv

theorem replaceProgs_inv (p : Prog → Bool) (s : State) {Q : Base} (hInv : Inv Q s) : Inv Q (replaceProgs p s) := by
  unfold replaceProgs
  refine inv_foldl (fun t q ht => ?_) hInv
  split
  · rename_i e
    have h := inv_optP e (place_inv _ _ _ _ _ ht)
    exact h
  · exact dirtyAgain_inv _ _ ht

theorem moveLane_inv (l c : Nat) (gone : Bool) (s : State) {Q : Base} (hInv : Inv Q s) : Inv Q (moveLane l c gone s) := by
  unfold moveLane
  repeat' first
    | with_reducible assumption
    | (intro x; refine inv_have (Q := Q) (s := x) ?_ ?_; rotate_left; clear_value x; rotate_left; unfold x)
    | (intro (x : Flt))
    | (intro (x : Flash))
    | (intro (x : Pwr))
    | (intro (x : Glb))
    | (intro x; clear_value x)
    | (intro _)
    | with_reducible apply updLane_inv
    | with_reducible apply loseUnits_inv
    | with_reducible apply replaceProgs_inv
    | with_reducible apply dropProgs_inv
    | (simp -zeta only [inv_mk]; show Inv Q _)
    | with_reducible apply optInv_map
    | with_reducible apply optInv_bind
    | with_reducible apply inv_getD
    | split
    | dsimp -zeta only
    | lift_lets

theorem killLane_inv (l : Nat) (s : State) {Q : Base} (hInv : Inv Q s) : Inv Q (killLane l s) := by
  unfold killLane
  repeat' first
    | with_reducible assumption
    | (intro x; refine inv_have (Q := Q) (s := x) ?_ ?_; rotate_left; clear_value x; rotate_left; unfold x)
    | (intro (x : Flt))
    | (intro (x : Flash))
    | (intro (x : Pwr))
    | (intro (x : Glb))
    | (intro x; clear_value x)
    | (intro _)
    | with_reducible apply updLane_inv
    | with_reducible apply loseUnits_inv
    | with_reducible apply replaceProgs_inv
    | with_reducible apply dropProgs_inv
    | (simp -zeta only [inv_mk]; show Inv Q _)
    | dsimp -zeta only
    | lift_lets

theorem checkLane_inv (l : Nat) (s : State) {Q : Base} (hInv : Inv Q s) : Inv Q (checkLane l s) := by
  unfold checkLane
  repeat' first
    | with_reducible assumption
    | (intro x; refine inv_have (Q := Q) (s := x) ?_ ?_; rotate_left; clear_value x; rotate_left; unfold x)
    | (intro (x : Flt))
    | (intro (x : Flash))
    | (intro (x : Pwr))
    | (intro (x : Glb))
    | (intro x; clear_value x)
    | (intro _)
    | with_reducible apply causeFault_inv
    | with_reducible apply moveLane_inv
    | (simp -zeta only [inv_mk]; show Inv Q _)
    | (with_reducible refine inv_fst ‹_› ?_)
    | (with_reducible refine inv_snd ‹_› ?_)
    | split
    | lift_lets

theorem rescueBlock_inv (l b : Nat) (s : State) {Q : Base} (hInv : Inv Q s) : Inv Q (rescueBlock l b s) := by
  unfold rescueBlock
  have hr := relocateWith_inv (place true false) l b s (fun _ _ _ ht => place_inv _ _ _ _ _ ht) hInv
  split
  · rename_i e
    rw [e] at hr
    exact programJournal_inv _ hr
  · refine inv_foldl (fun t u ht => ?_) hInv
    split
    · split
      · rename_i e
        exact programJournal_inv _ (moveEntry_inv _ _ _ (inv_optP e (place_inv _ _ _ _ _ ht)))
      · exact loseUnits_inv _ _ ht
    · exact ht

theorem retireBlock_inv (l b : Nat) (s : State) {Q : Base} (hInv : Inv Q s) : Inv Q (retireBlock l b s) := by
  unfold retireBlock
  repeat' first
    | with_reducible assumption
    | (intro x; refine inv_have (Q := Q) (s := x) ?_ ?_; rotate_left; clear_value x; rotate_left; unfold x)
    | (intro (x : Flt))
    | (intro (x : Flash))
    | (intro (x : Pwr))
    | (intro (x : Glb))
    | (intro x; clear_value x)
    | (intro _)
    | with_reducible apply updLane_inv
    | with_reducible apply replaceProgs_inv
    | with_reducible apply rescueBlock_inv
    | with_reducible apply updBlk_inv
    | with_reducible apply countFailure_inv
    | with_reducible apply place_inv
    | with_reducible apply logFault_inv
    | with_reducible apply moveLane_inv
    | with_reducible apply causeFault_inv
    | with_reducible apply checkLane_inv
    | (simp -zeta only [inv_mk]; show Inv Q _)
    | (with_reducible refine inv_optP ‹_› ?_)
    | with_reducible apply optInvP_map
    | with_reducible apply optInv_map
    | with_reducible apply optInv_bind
    | with_reducible apply inv_getD
    | (with_reducible refine inv_fst ‹_› ?_)
    | (with_reducible refine inv_snd ‹_› ?_)
    | split
    | dsimp -zeta only
    | lift_lets

theorem execFlashProgramFail_inv (idx : Nat) (s : State) {Q : Base} (hInv : Inv Q s) : OkNext Q (execFlashProgramFail idx s) := by
  unfold execFlashProgramFail
  repeat' first
    | with_reducible assumption
    | (intro x; refine inv_have (Q := Q) (s := x) ?_ ?_; rotate_left; clear_value x; rotate_left; unfold x)
    | (intro (x : Flt))
    | (intro (x : Flash))
    | (intro (x : Pwr))
    | (intro (x : Glb))
    | (intro x; clear_value x)
    | (intro _)
    | with_reducible apply dirtyAgain_inv
    | with_reducible apply sendDelta_inv
    | with_reducible apply retireBlock_inv
    | with_reducible apply okNext_next
    | with_reducible apply okNext_fault
    | (simp -zeta only [inv_mk]; show Inv Q _)
    | split
    | lift_lets

theorem execFlashEraseFail_inv (lane block : Nat) (s : State) {Q : Base} (hInv : Inv Q s) : OkNext Q (execFlashEraseFail lane block s) := by
  unfold execFlashEraseFail
  repeat' first
    | with_reducible assumption
    | with_reducible apply retireBlock_inv
    | with_reducible apply okNext_next
    | with_reducible apply okNext_fault
    | split

theorem execFlashReadUncorrectable_inv (idx : Nat) (s : State) {Q : Base} (hInv : Inv Q s) : OkNext Q (execFlashReadUncorrectable idx s) := by
  unfold execFlashReadUncorrectable
  repeat' first
    | with_reducible assumption
    | with_reducible apply loseUnits_inv
    | with_reducible apply logFault_inv
    | with_reducible apply okNext_next
    | with_reducible apply okNext_fault
    | with_reducible apply optInv_map
    | with_reducible apply optInv_bind
    | with_reducible apply inv_getD
    | split
    | dsimp -zeta only

theorem execBlockRefresh_inv (place : BlockAt) (readFound : Bool) (s : State) {Q : Base} (hInv : Inv Q s) : OkNext Q (execBlockRefresh place readFound s) := by
  unfold execBlockRefresh
  repeat' first
    | with_reducible assumption
    | (intro x; refine inv_have (Q := Q) (s := x) ?_ ?_; rotate_left; clear_value x; rotate_left; unfold x)
    | (intro (x : Flt))
    | (intro (x : Flash))
    | (intro (x : Pwr))
    | (intro (x : Glb))
    | (intro x; clear_value x)
    | (intro _)
    | with_reducible apply relocate_inv
    | with_reducible apply okNext_next
    | with_reducible apply okNext_fault
    | split
    | lift_lets

theorem nextFlashPass_inv (c : Nat) (s : State) {Q : Base} (hInv : Inv Q s) : Inv Q (nextFlashPass c s) := by
  unfold nextFlashPass
  repeat' first
    | with_reducible assumption
    | (simp -zeta only [inv_mk]; show Inv Q _)
    | dsimp -zeta only

theorem execFlashPatrolScrub_inv (channel : Nat) (readFound : Bool) (s : State) {Q : Base} (hInv : Inv Q s) : OkNext Q (execFlashPatrolScrub channel readFound s) := by
  unfold execFlashPatrolScrub
  repeat' first
    | with_reducible assumption
    | (intro x; refine inv_have (Q := Q) (s := x) ?_ ?_; rotate_left; clear_value x; rotate_left; unfold x)
    | (intro (x : Flt))
    | (intro (x : Flash))
    | (intro (x : Pwr))
    | (intro (x : Glb))
    | (intro x; clear_value x)
    | (intro _)
    | with_reducible apply nextFlashPass_inv
    | with_reducible apply updBlk_inv
    | with_reducible apply okNext_next
    | with_reducible apply okNext_fault
    | (simp -zeta only [inv_mk]; show Inv Q _)
    | with_reducible apply optInv_map
    | with_reducible apply optInv_bind
    | with_reducible apply inv_getD
    | split
    | dsimp -zeta only
    | lift_lets

theorem execStaticLevelling_inv (lane : Nat) (s : State) {Q : Base} (hInv : Inv Q s) : OkNext Q (execStaticLevelling lane s) := by
  unfold execStaticLevelling
  repeat' first
    | with_reducible assumption
    | (intro x; refine inv_have (Q := Q) (s := x) ?_ ?_; rotate_left; clear_value x; rotate_left; unfold x)
    | (intro (x : Flt))
    | (intro (x : Flash))
    | (intro (x : Pwr))
    | (intro (x : Glb))
    | (intro x; clear_value x)
    | (intro _)
    | with_reducible apply relocate_inv
    | with_reducible apply okNext_next
    | with_reducible apply okNext_fault
    | with_reducible apply optInv_map
    | with_reducible apply optInv_bind
    | with_reducible apply inv_getD
    | with_reducible apply inv_foldl
    | split
    | dsimp -zeta only
    | lift_lets

theorem execJournalPageFlush_inv (s : State) {Q : Base} (hInv : Inv Q s) : OkNext Q (execJournalPageFlush s) := by
  unfold execJournalPageFlush
  repeat' first
    | with_reducible assumption
    | with_reducible apply programJournal_inv
    | with_reducible apply okNext_next
    | with_reducible apply okNext_fault

theorem startCheckpoint_inv (s : State) {Q : Base} (hInv : Inv Q s) : Inv Q (startCheckpoint s) := by
  unfold startCheckpoint
  repeat' first
    | with_reducible assumption
    | (intro x; refine inv_have (Q := Q) (s := x) ?_ ?_; rotate_left; clear_value x; rotate_left; unfold x)
    | (intro (x : Flt))
    | (intro (x : Flash))
    | (intro (x : Pwr))
    | (intro (x : Glb))
    | (intro x; clear_value x)
    | (intro _)
    | with_reducible apply programJournal_inv
    | (simp -zeta only [inv_mk]; show Inv Q _)
    | with_reducible apply optInv_map
    | with_reducible apply optInv_bind
    | with_reducible apply inv_getD
    | lift_lets

theorem execMapCheckpoint_inv (s : State) {Q : Base} (hInv : Inv Q s) : OkNext Q (execMapCheckpoint s) := by
  unfold execMapCheckpoint
  repeat' first
    | with_reducible assumption
    | with_reducible apply startCheckpoint_inv
    | with_reducible apply okNext_next
    | with_reducible apply okNext_fault
    | split

theorem takeSysBlock_inv (l : Nat) (s : State) {Q : Base} (hInv : Inv Q s) : Inv Q (takeSysBlock l s) := by
  unfold takeSysBlock
  repeat' first
    | with_reducible assumption
    | (intro x; refine inv_have (Q := Q) (s := x) ?_ ?_; rotate_left; clear_value x; rotate_left; unfold x)
    | (intro (x : Flt))
    | (intro (x : Flash))
    | (intro (x : Pwr))
    | (intro (x : Glb))
    | (intro x; clear_value x)
    | (intro _)
    | with_reducible apply updLane_inv
    | with_reducible apply updBlk_inv
    | with_reducible apply eraseBlk_inv
    | (simp -zeta only [inv_mk]; show Inv Q _)
    | split
    | dsimp -zeta only
    | lift_lets

theorem execMapCheckpointComplete_inv (s : State) {Q : Base} (hInv : Inv Q s) : OkNext Q (execMapCheckpointComplete s) := by
  unfold execMapCheckpointComplete
  repeat' first
    | with_reducible assumption
    | (intro x; refine inv_have (Q := Q) (s := x) ?_ ?_; rotate_left; clear_value x; rotate_left; unfold x)
    | (intro (x : Flt))
    | (intro (x : Flash))
    | (intro (x : Pwr))
    | (intro (x : Glb))
    | (intro x; clear_value x)
    | (intro _)
    | with_reducible apply takeSysBlock_inv
    | with_reducible apply releaseWrites_inv
    | with_reducible apply okNext_next
    | with_reducible apply okNext_fault
    | (simp -zeta only [inv_mk]; show Inv Q _)
    | with_reducible apply inv_foldl
    | split
    | dsimp -zeta only
    | lift_lets

theorem rebuildAnchor_inv (l : Nat) (s : State) {Q : Base} (hInv : Inv Q s) : Inv Q (rebuildAnchor l s) := by
  unfold rebuildAnchor
  repeat' first
    | with_reducible assumption
    | (intro x; refine inv_have (Q := Q) (s := x) ?_ ?_; rotate_left; clear_value x; rotate_left; unfold x)
    | (intro (x : Flt))
    | (intro (x : Flash))
    | (intro (x : Pwr))
    | (intro (x : Glb))
    | (intro x; clear_value x)
    | (intro _)
    | (simp -zeta only [inv_mk]; show Inv Q _)
    | split
    | lift_lets

theorem evacuate_inv (c : Nat) (hard : Bool) (x0 : List Nat) (x1 : State) {Q : Base} (hInv : Inv Q x1) : Inv Q (evacuate c hard x0 x1) := by
  induction x0 generalizing x1 with
  | nil =>
    unfold evacuate
    repeat' first
      | with_reducible assumption
      | (intro x; refine inv_have (Q := Q) (s := x) ?_ ?_; rotate_left; clear_value x; rotate_left; unfold x)
      | (intro (x : Flt))
      | (intro (x : Flash))
      | (intro (x : Pwr))
      | (intro (x : Glb))
      | (intro x; clear_value x)
      | (intro _)
      | with_reducible apply moveLane_inv
      | with_reducible apply rebuildAnchor_inv
      | with_reducible apply causeFault_inv
      | with_reducible apply killLane_inv
      | split
      | lift_lets
  | cons a l ih =>
    unfold evacuate
    repeat' first
      | with_reducible assumption
      | (intro x; refine inv_have (Q := Q) (s := x) ?_ ?_; rotate_left; clear_value x; rotate_left; unfold x)
      | (intro (x : Flt))
      | (intro (x : Flash))
      | (intro (x : Pwr))
      | (intro (x : Glb))
      | (intro x; clear_value x)
      | (intro _)
      | with_reducible apply moveLane_inv
      | with_reducible apply rebuildAnchor_inv
      | with_reducible apply causeFault_inv
      | with_reducible apply killLane_inv
      | with_reducible apply ih
      | split
      | lift_lets

theorem failChannel_inv (c : Nat) (hard : Bool) (count : Nat) (s : State) {Q : Base} (hInv : Inv Q s) : Inv Q (failChannel c hard count s) := by
  have h1 : Inv Q { s with flash := { s.flash with failed := s.flash.failed ++ [c] } } :=
    { hInv with chans := List.Subset.trans hInv.chans (List.subset_append_left _ _) }
  exact evacuate_inv _ _ _ _ (causeFault_inv _ _ _ h1)

theorem channelFails_inv (channel : Nat) (hard : Bool) (s : State) {Q : Base} (hInv : Inv Q s) : Inv Q (channelFails channel hard s) := by
  unfold channelFails
  repeat' first
    | with_reducible assumption
    | (intro x; refine inv_have (Q := Q) (s := x) ?_ ?_; rotate_left; clear_value x; rotate_left; unfold x)
    | (intro (x : Flt))
    | (intro (x : Flash))
    | (intro (x : Pwr))
    | (intro (x : Glb))
    | (intro x; clear_value x)
    | (intro _)
    | with_reducible apply countFailure_inv
    | with_reducible apply place_inv
    | with_reducible apply failChannel_inv
    | with_reducible apply logFault_inv
    | (with_reducible refine inv_optP ‹_› ?_)
    | with_reducible apply optInvP_map
    | (with_reducible refine inv_fst ‹_› ?_)
    | (with_reducible refine inv_snd ‹_› ?_)
    | split
    | lift_lets

theorem dieFails_inv (lane : Nat) (s : State) {Q : Base} (hInv : Inv Q s) : Inv Q (dieFails lane s) := by
  unfold dieFails
  repeat' first
    | with_reducible assumption
    | (intro x; refine inv_have (Q := Q) (s := x) ?_ ?_; rotate_left; clear_value x; rotate_left; unfold x)
    | (intro (x : Flt))
    | (intro (x : Flash))
    | (intro (x : Pwr))
    | (intro (x : Glb))
    | (intro x; clear_value x)
    | (intro _)
    | with_reducible apply causeFault_inv
    | with_reducible apply evacuate_inv
    | lift_lets

theorem dieOff_inv (channel die : Nat) (s : State) {Q : Base} (hInv : Inv Q s) : Inv Q (dieOff channel die s) := by
  unfold dieOff
  repeat' first
    | with_reducible assumption
    | with_reducible apply dieFails_inv
    | (simp -zeta only [inv_mk]; show Inv Q _)
    | split

theorem execChannelFailure_inv (channel : Nat) (fail : FlashFail) (s : State) {Q : Base} (hInv : Inv Q s) :
    OkNext Q (execChannelFailure channel fail s) := by
  unfold execChannelFailure
  repeat' first
    | with_reducible assumption
    | with_reducible apply channelFails_inv
    | with_reducible apply dieOff_inv
    | with_reducible apply okNext_next
    | split

theorem execLaneEvacuationComplete_inv (lane : Nat) (s : State) {Q : Base} (hInv : Inv Q s) : OkNext Q (execLaneEvacuationComplete lane s) := by
  unfold execLaneEvacuationComplete
  split
  · exact hInv
  · split
    · exact hInv
    · extract_lets ms
      have hm : OptInv Q (ms.foldl (fun (x : Option State) m => x.bind fun s => (place true false m.unit m.len s).map fun y => moveEntry m.unit y.2 y.1) (some s)) :=
        optInv_foldl (f := fun (m : MapEnt) s => (place true false m.unit m.len s).map fun y => moveEntry m.unit y.2 y.1)
          (fun t a ht => optInvP_map (place_inv _ _ _ _ _ ht) fun x hx => moveEntry_inv _ _ _ hx) (o := some s) hInv
      split
      · exact hInv
      · rename_i e
        rw [e] at hm
        exact updLane_inv _ _ _ (programJournal_inv _ hm)

theorem execFlashCalDeadline_inv (channel : Nat) (s : State) {Q : Base} (hInv : Inv Q s) : OkNext Q (execFlashCalDeadline channel s) := by
  unfold execFlashCalDeadline
  repeat' first
    | with_reducible assumption
    | with_reducible apply okNext_next
    | with_reducible apply okNext_fault
    | (simp -zeta only [inv_mk]; show Inv Q _)
    | split

theorem execHbmRecalDeadline_inv (stack : Nat) (s : State) {Q : Base} (hInv : Inv Q s) : OkNext Q (execHbmRecalDeadline stack s) := by
  unfold execHbmRecalDeadline
  repeat' first
    | with_reducible assumption
    | with_reducible apply okNext_next
    | with_reducible apply okNext_fault
    | (simp -zeta only [inv_mk]; show Inv Q _)
    | split

theorem boundaryCal_inv (s : State) {Q : Base} (hInv : Inv Q s) : Inv Q (boundaryCal s) := by
  unfold boundaryCal
  have up : ∀ (x : State) (t : Tab Nat), Inv Q x → Inv Q { x with flash := { x.flash with recalDue := t } } := fun _ _ h => h
  have vp : ∀ (x : State) (t : Tab Nat), Inv Q x → Inv Q { x with flash := { x.flash with calLast := t } } := fun _ _ h => h
  refine vp _ _ ?_
  split
  · exact up _ _ hInv
  · exact hInv

theorem execHbmPatrolScrub_inv (stack : Nat) (s : State) {Q : Base} (hInv : Inv Q s) : OkNext Q (execHbmPatrolScrub stack s) := by
  unfold execHbmPatrolScrub
  repeat' first
    | with_reducible assumption
    | (intro x; refine inv_have (Q := Q) (s := x) ?_ ?_; rotate_left; clear_value x; rotate_left; unfold x)
    | (intro (x : Flt))
    | (intro (x : Flash))
    | (intro (x : Pwr))
    | (intro (x : Glb))
    | (intro x; clear_value x)
    | (intro _)
    | with_reducible apply okNext_next
    | with_reducible apply okNext_fault
    | (simp -zeta only [inv_mk]; show Inv Q _)
    | split
    | lift_lets

theorem setAnchors_inv (x : Anchor × Anchor) (s : State) {Q : Base} (hInv : Inv Q s) : Inv Q (setAnchors x s) := by
  unfold setAnchors
  repeat' first
    | with_reducible assumption
    | (simp -zeta only [inv_mk]; show Inv Q _)

theorem takeEpoch_inv (s : State) {Q : Base} (hInv : Inv Q s) : Inv Q (takeEpoch s).1 := by
  unfold takeEpoch
  exact setAnchors_inv _ _ hInv

theorem cutTake_inv (torn : Bool) (k : Nat) (s : State) {Q : Base} (hInv : Inv Q s) : Inv Q (cutTake torn k s) := by
  unfold cutTake
  repeat' first
    | with_reducible assumption
    | (intro x; refine inv_have (Q := Q) (s := x) ?_ ?_; rotate_left; clear_value x; rotate_left; unfold x)
    | (intro (x : Flt))
    | (intro (x : Flash))
    | (intro (x : Pwr))
    | (intro (x : Glb))
    | (intro x; clear_value x)
    | (intro _)
    | with_reducible apply setAnchors_inv
    | with_reducible apply inv_foldl
    | split
    | dsimp -zeta only
    | lift_lets

theorem scanAnchors_inv (s : State) {Q : Base} (hInv : Inv Q s) : Inv Q (scanAnchors s) := by
  unfold scanAnchors
  repeat' first
    | with_reducible assumption
    | (intro x; refine inv_have (Q := Q) (s := x) ?_ ?_; rotate_left; clear_value x; rotate_left; unfold x)
    | (intro (x : Flt))
    | (intro (x : Flash))
    | (intro (x : Pwr))
    | (intro (x : Glb))
    | (intro x; clear_value x)
    | (intro _)
    | with_reducible apply setAnchors_inv
    | (simp -zeta only [inv_mk]; show Inv Q _)
    | split
    | lift_lets

theorem execQueryFlash_inv (e : Env) (s : State) {Q : Base} (hInv : Inv Q s) : OkNext Q (execQueryFlash e s) := by
  unfold execQueryFlash
  repeat' first
    | with_reducible assumption
    | (intro x; refine inv_have (Q := Q) (s := x) ?_ ?_; rotate_left; clear_value x; rotate_left; unfold x)
    | (intro (x : Flt))
    | (intro (x : Flash))
    | (intro (x : Pwr))
    | (intro (x : Glb))
    | (intro x; clear_value x)
    | (intro _)
    | with_reducible apply mailbox_inv
    | with_reducible apply okNext_next
    | with_reducible apply okNext_fault
    | with_reducible apply optInv_map
    | with_reducible apply optInv_bind
    | with_reducible apply inv_getD
    | dsimp -zeta only
    | lift_lets

theorem warm_inv (i : Nat) (s : State) {Q : Base} (hInv : Inv Q s) : Inv Q (warm i s) := by
  unfold warm
  repeat' first
    | with_reducible assumption
    | with_reducible apply updPart_inv
    | (simp -zeta only [inv_mk]; show Inv Q _)
    | split
    | dsimp -zeta only

theorem pinNode_inv (i seat : Nat) (s : State) {Q : Base} (hInv : Inv Q s) : Inv Q (pinNode i seat s).1 := by
  unfold pinNode
  repeat' first
    | with_reducible assumption
    | with_reducible apply takeRef_inv
    | (simp -zeta only [inv_mk]; show Inv Q _)
    | split
    | dsimp -zeta only

theorem tryStoreSlot_inv {s : State} {part : Nat} {Q : Base} {k : Nat} {t : State} (e : tryStoreSlot s part = some (k, t)) (hInv : Inv Q s) : Inv Q t := by
  unfold tryStoreSlot at e
  dsimp only at e
  split at e
  · split at e
    · cases e; exact hInv
    · cases e
  · split at e
    · cases e
    · obtain ⟨x, _, hx⟩ := Option.map_eq_some_iff.1 e
      cases hx
      split
      · exact chargeAcct_inv _ _ hInv
      · exact updPart_inv _ _ _ (chargeAcct_inv _ _ hInv)

theorem takeWay_inv (digest : Nat) (s : State) {Q : Base} (hInv : Inv Q s) : Inv Q (takeWay digest s).1 := by
  unfold takeWay
  repeat' first
    | with_reducible assumption
    | (intro x; refine inv_have (Q := Q) (s := x) ?_ ?_; rotate_left; clear_value x; rotate_left; unfold x)
    | (intro (x : Flt))
    | (intro (x : Flash))
    | (intro (x : Pwr))
    | (intro (x : Glb))
    | (intro x; clear_value x)
    | (intro _)
    | with_reducible apply evict_inv
    | split
    | dsimp -zeta only
    | lift_lets

theorem addNode_inv (n : Node) (parent : Option Nat) (tail : Bool) (s : State) {Q : Base} (hInv : Inv Q s) : Inv Q (addNode n parent tail s) := by
  unfold addNode
  repeat' first
    | with_reducible assumption
    | (intro x; refine inv_have (Q := Q) (s := x) ?_ ?_; rotate_left; clear_value x; rotate_left; unfold x)
    | (intro (x : Flt))
    | (intro (x : Flash))
    | (intro (x : Pwr))
    | (intro (x : Glb))
    | (intro x; clear_value x)
    | (intro _)
    | with_reducible apply updPart_inv
    | with_reducible apply updNode_inv
    | with_reducible apply unlist_inv
    | (simp -zeta only [inv_mk]; show Inv Q _)
    | split
    | dsimp -zeta only
    | lift_lets

theorem setLive_inv (i : Nat) (s : State) {Q : Base} (hInv : Inv Q s) : Inv Q (setLive i s) := by
  unfold setLive
  repeat' first
    | with_reducible assumption
    | (intro x; refine inv_have (Q := Q) (s := x) ?_ ?_; rotate_left; clear_value x; rotate_left; unfold x)
    | (intro (x : Flt))
    | (intro (x : Flash))
    | (intro (x : Pwr))
    | (intro (x : Glb))
    | (intro x; clear_value x)
    | (intro _)
    | with_reducible apply updNode_inv
    | with_reducible apply updPart_inv
    | (simp -zeta only [inv_mk]; show Inv Q _)
    | split
    | dsimp -zeta only
    | lift_lets

theorem transferSlot_inv (h j slot idx : Nat) (s : State) {Q : Base} (hInv : Inv Q s) : Inv Q (transferSlot h j slot idx s).1 := by
  unfold transferSlot
  repeat' first
    | with_reducible assumption
    | (intro x; refine inv_have (Q := Q) (s := x) ?_ ?_; rotate_left; clear_value x; rotate_left; unfold x)
    | (intro (x : Flt))
    | (intro (x : Flash))
    | (intro (x : Pwr))
    | (intro (x : Glb))
    | (intro x; clear_value x)
    | (intro _)
    | with_reducible apply updRt_inv
    | (simp -zeta only [inv_mk]; show Inv Q _)
    | split
    | dsimp -zeta only
    | lift_lets

theorem setRun_inv (n : Nat) (r : DeltaRun) (s : State) {Q : Base} (hInv : Inv Q s) : Inv Q (setRun n r s) := by
  unfold setRun
  repeat' first
    | with_reducible assumption
    | (simp -zeta only [inv_mk]; show Inv Q _)
    | dsimp -zeta only

theorem movePin_inv (seat i : Nat) (r : DeltaRun) (s : State) {Q : Base} (hInv : Inv Q s) : Inv Q (movePin seat i r s).1 := by
  unfold movePin
  repeat' first
    | with_reducible assumption
    | (intro x; refine inv_have (Q := Q) (s := x) ?_ ?_; rotate_left; clear_value x; rotate_left; unfold x)
    | (intro (x : Flt))
    | (intro (x : Flash))
    | (intro (x : Pwr))
    | (intro (x : Glb))
    | (intro x; clear_value x)
    | (intro _)
    | with_reducible apply dropRef_inv
    | with_reducible apply pinNode_inv
    | (simp -zeta only [inv_mk]; show Inv Q _)
    | split
    | dsimp -zeta only
    | lift_lets

theorem passNode_inv (o : Op) (pin : Bool) (n : Node) (last : Bool) (s : State) {Q : Base} (hInv : Inv Q s) : Inv Q (passNode o pin n last s) := by
  unfold passNode
  repeat' first
    | with_reducible assumption
    | (intro x; refine inv_have (Q := Q) (s := x) ?_ ?_; rotate_left; clear_value x; rotate_left; unfold x)
    | (intro (x : Flt))
    | (intro (x : Flash))
    | (intro (x : Pwr))
    | (intro (x : Glb))
    | (intro x; clear_value x)
    | (intro _)
    | with_reducible apply warm_inv
    | with_reducible apply movePin_inv
    | with_reducible apply setRun_inv
    | (simp -zeta only [inv_mk]; show Inv Q _)
    | (with_reducible refine inv_fst ‹_› ?_)
    | (with_reducible refine inv_snd ‹_› ?_)
    | split
    | lift_lets

theorem endLookup_inv (o : Op) (pin : Bool) (s : State) {Q : Base} (hInv : Inv Q s) : Inv Q (endLookup o pin s) := by
  unfold endLookup
  repeat' first
    | with_reducible assumption
    | (intro x; refine inv_have (Q := Q) (s := x) ?_ ?_; rotate_left; clear_value x; rotate_left; unfold x)
    | (intro (x : Flt))
    | (intro (x : Flash))
    | (intro (x : Pwr))
    | (intro (x : Glb))
    | (intro x; clear_value x)
    | (intro _)
    | with_reducible apply updNode_inv
    | with_reducible apply setRun_inv
    | (simp -zeta only [inv_mk]; show Inv Q _)
    | split
    | dsimp -zeta only
    | lift_lets

theorem lookupReach_inv (o : Op) (part tenant : Nat) (pin : Bool) (tokens : List Nat) (s : State) {Q : Base} (hInv : Inv Q s) : Inv Q (lookupReach o part tenant pin tokens s) := by
  unfold lookupReach
  repeat' first
    | with_reducible assumption
    | (intro x; refine inv_have (Q := Q) (s := x) ?_ ?_; rotate_left; clear_value x; rotate_left; unfold x)
    | (intro (x : Flt))
    | (intro (x : Flash))
    | (intro (x : Pwr))
    | (intro (x : Glb))
    | (intro x; clear_value x)
    | (intro _)
    | with_reducible apply passNode_inv
    | with_reducible apply endLookup_inv
    | with_reducible apply optInv_map
    | with_reducible apply optInv_bind
    | with_reducible apply inv_getD
    | split
    | dsimp -zeta only
    | lift_lets

theorem haltRun_inv (o : Op) (reason : Nat) (st : Status) (s : State) {Q : Base} (hInv : Inv Q s) : Inv Q (haltRun o reason st s) := by
  unfold haltRun
  repeat' first
    | with_reducible assumption
    | with_reducible apply setRun_inv
    | (simp -zeta only [inv_mk]; show Inv Q _)

theorem endInsert_inv (o : Op) (pin : Bool) (s : State) {Q : Base} (hInv : Inv Q s) : Inv Q (endInsert o pin s) := by
  unfold endInsert
  repeat' first
    | with_reducible assumption
    | (intro x; refine inv_have (Q := Q) (s := x) ?_ ?_; rotate_left; clear_value x; rotate_left; unfold x)
    | (intro (x : Flt))
    | (intro (x : Flash))
    | (intro (x : Pwr))
    | (intro (x : Glb))
    | (intro x; clear_value x)
    | (intro _)
    | with_reducible apply pinNode_inv
    | with_reducible apply setRun_inv
    | (with_reducible refine inv_fst ‹_› ?_)
    | (with_reducible refine inv_snd ‹_› ?_)
    | split
    | lift_lets

theorem stopInsert_inv (o : Op) (pin : Bool) (reason : Nat) (st : Status) (s : State) {Q : Base} (hInv : Inv Q s) : Inv Q (stopInsert o pin reason st s) := by
  unfold stopInsert
  repeat' first
    | with_reducible assumption
    | with_reducible apply endInsert_inv
    | (simp -zeta only [inv_mk]; show Inv Q _)

theorem endCopy_inv (o : Op) (i src : Nat) (tail : Bool) (s : State) {Q : Base} (hInv : Inv Q s) : Inv Q (endCopy o i src tail s) := by
  unfold endCopy
  repeat' first
    | with_reducible assumption
    | (intro x; refine inv_have (Q := Q) (s := x) ?_ ?_; rotate_left; clear_value x; rotate_left; unfold x)
    | (intro (x : Flt))
    | (intro (x : Flash))
    | (intro (x : Pwr))
    | (intro (x : Glb))
    | (intro x; clear_value x)
    | (intro _)
    | with_reducible apply haltRun_inv
    | with_reducible apply copyRows_inv
    | with_reducible apply updPart_inv
    | with_reducible apply setRun_inv
    | with_reducible apply setLive_inv
    | (simp -zeta only [inv_mk]; show Inv Q _)
    | (with_reducible refine inv_opt ‹_› ?_)
    | with_reducible apply optInv_map
    | with_reducible apply optInv_bind
    | with_reducible apply inv_getD
    | split
    | dsimp -zeta only
    | lift_lets

theorem makeNode_inv (o : Op) (pin : Bool) (h part tenant j : Nat) (toks : List Nat) (id : Ident) (s : State) {Q : Base} (hInv : Inv Q s) : Inv Q (makeNode o pin h part tenant j toks id s) := by
  unfold makeNode
  extract_lets b tail r bucket
  split
  · split
    · exact evict_inv _ _ hInv
    · exact stopInsert_inv _ _ _ _ _ hInv
  · extract_lets idx node
    clear_value node
    split
    · exact stopInsert_inv _ _ _ _ _ hInv
    · split
      · exact setRun_inv _ _ _ (addNode_inv _ _ _ _ (transferSlot_inv _ _ _ _ _ hInv))
      · split
        · exact stopInsert_inv _ _ _ _ _ hInv
        · split
          · split
            · exact evict_inv _ _ hInv
            · exact stopInsert_inv _ _ _ _ _ hInv
          · rename_i e
            exact setRun_inv _ _ _ (addNode_inv _ _ _ _ (tryStoreSlot_inv e hInv))

theorem insertReach_inv (o : Op) (part h : Nat) (pin : Bool) (tokens : List Nat) (s : State) {Q : Base} (hInv : Inv Q s) : Inv Q (insertReach o part h pin tokens s) := by
  unfold insertReach
  repeat' first
    | with_reducible assumption
    | (intro x; refine inv_have (Q := Q) (s := x) ?_ ?_; rotate_left; clear_value x; rotate_left; unfold x)
    | (intro (x : Flt))
    | (intro (x : Flash))
    | (intro (x : Pwr))
    | (intro (x : Glb))
    | (intro x; clear_value x)
    | (intro _)
    | with_reducible apply endCopy_inv
    | with_reducible apply haltRun_inv
    | with_reducible apply endInsert_inv
    | with_reducible apply stopInsert_inv
    | with_reducible apply setRun_inv
    | with_reducible apply updNode_inv
    | with_reducible apply makeNode_inv
    | (simp -zeta only [inv_mk]; show Inv Q _)
    | with_reducible apply optInv_map
    | with_reducible apply optInv_bind
    | with_reducible apply inv_getD
    | split
    | dsimp -zeta only
    | lift_lets

theorem purgeOne_inv (o : Op) (part : Nat) (s : State) {Q : Base} (hInv : Inv Q s) : Inv Q (purgeOne o part s) := by
  unfold purgeOne
  repeat' first
    | with_reducible assumption
    | with_reducible apply setRun_inv
    | with_reducible apply evict_inv
    | (simp -zeta only [inv_mk]; show Inv Q _)
    | split

theorem deltaTurn_inv (n : Nat) (s : State) {Q : Base} (hInv : Inv Q s) : Inv Q (deltaTurn n s) := by
  unfold deltaTurn
  repeat' first
    | with_reducible assumption
    | with_reducible apply haltRun_inv
    | with_reducible apply lookupReach_inv
    | with_reducible apply insertReach_inv
    | with_reducible apply purgeOne_inv
    | with_reducible apply optInv_map
    | with_reducible apply optInv_bind
    | with_reducible apply inv_getD
    | split
    | dsimp -zeta only

theorem shrinkOne_inv (part : Nat) (s : State) {Q : Base} (hInv : Inv Q s) : Inv Q (shrinkOne part s) := by
  unfold shrinkOne
  repeat' first
    | with_reducible assumption
    | with_reducible apply updPart_inv
    | with_reducible apply evict_inv
    | (simp -zeta only [inv_mk]; show Inv Q _)
    | split
    | dsimp -zeta only

theorem deltaRound_inv (s : State) {Q : Base} (hInv : Inv Q s) : Inv Q (deltaRound s) := by
  unfold deltaRound
  repeat' first
    | with_reducible assumption
    | (intro _)
    | with_reducible apply shrinkOne_inv
    | with_reducible apply deltaTurn_inv
    | with_reducible apply inv_foldl
    | dsimp -zeta only

theorem deltaRounds_inv (x0 : Nat) (x1 : Nat) (x2 : State) {Q : Base} (hInv : Inv Q x2) : Inv Q (deltaRounds x0 x1 x2) := by
  induction x0 generalizing x1 x2 with
  | zero =>
    unfold deltaRounds
    repeat' first
      | with_reducible assumption
      | with_reducible apply deltaRound_inv
      | split
  | succ n ih =>
    unfold deltaRounds
    repeat' first
      | with_reducible assumption
      | with_reducible apply deltaRound_inv
      | with_reducible apply ih
      | split

theorem finishDelta_inv (n : Nat) (s : State) {Q : Base} (hInv : Inv Q s) : Inv Q (finishDelta n s) := by
  unfold finishDelta
  repeat' first
    | with_reducible assumption
    | (intro x; refine inv_have (Q := Q) (s := x) ?_ ?_; rotate_left; clear_value x; rotate_left; unfold x)
    | (intro (x : Flt))
    | (intro (x : Flash))
    | (intro (x : Pwr))
    | (intro (x : Glb))
    | (intro x; clear_value x)
    | (intro _)
    | with_reducible apply finishOpWith_inv
    | split
    | dsimp -zeta only
    | lift_lets

theorem startLong_inv (e : Env) (k : OpKind) (s : State) {Q : Base} (hInv : Inv Q s) : Inv Q (startLong e k s).1 := by
  unfold startLong
  repeat' first
    | with_reducible assumption
    | (intro x; refine inv_have (Q := Q) (s := x) ?_ ?_; rotate_left; clear_value x; rotate_left; unfold x)
    | (intro (x : Flt))
    | (intro (x : Flash))
    | (intro (x : Pwr))
    | (intro (x : Glb))
    | (intro x; clear_value x)
    | (intro _)
    | with_reducible apply startOp_inv
    | with_reducible apply acceptLong_inv
    | (with_reducible refine inv_fst ‹_› ?_)
    | (with_reducible refine inv_snd ‹_› ?_)
    | split
    | dsimp -zeta only
    | lift_lets

theorem execLookupPrefix_inv (e : Env) (part : Nat) (pin : Bool) (tenant count tokens : Nat) (s : State) {Q : Base} (hInv : Inv Q s) : OkNext Q (execLookupPrefix e part pin tenant count tokens s) := by
  unfold execLookupPrefix
  repeat' first
    | with_reducible assumption
    | (intro _)
    | with_reducible apply mailbox_inv
    | with_reducible apply startLong_inv
    | with_reducible apply okNext_next
    | with_reducible apply okNext_fault

theorem execInsertPrefix_inv (e : Env) (part : Nat) (pin : Bool) (count tokens handle : Nat) (s : State) {Q : Base} (hInv : Inv Q s) : OkNext Q (execInsertPrefix e part pin count tokens handle s) := by
  unfold execInsertPrefix
  repeat' first
    | with_reducible assumption
    | (intro _)
    | with_reducible apply mailbox_inv
    | with_reducible apply startLong_inv
    | with_reducible apply okNext_next
    | with_reducible apply okNext_fault
    | (simp -zeta only [inv_mk]; show Inv Q _)

theorem execPinPrefix_inv (e : Env) (part tenant pfx : Nat) (s : State) {Q : Base} (hInv : Inv Q s) : OkNext Q (execPinPrefix e part tenant pfx s) := by
  unfold execPinPrefix
  repeat' first
    | with_reducible assumption
    | (intro _)
    | with_reducible apply mailbox_inv
    | with_reducible apply pinNode_inv
    | with_reducible apply okNext_next
    | with_reducible apply okNext_fault
    | split
    | dsimp -zeta only

theorem execUnpinPrefix_inv (e : Env) (part tenant pfx : Nat) (s : State) {Q : Base} (hInv : Inv Q s) : OkNext Q (execUnpinPrefix e part tenant pfx s) := by
  unfold execUnpinPrefix
  repeat' first
    | with_reducible assumption
    | (intro _)
    | with_reducible apply mailbox_inv
    | with_reducible apply dropRef_inv
    | with_reducible apply okNext_next
    | with_reducible apply okNext_fault
    | (simp -zeta only [inv_mk]; show Inv Q _)
    | split
    | dsimp -zeta only

theorem execQueryPrefix_inv (e : Env) (part tenant pfx : Nat) (s : State) {Q : Base} (hInv : Inv Q s) : OkNext Q (execQueryPrefix e part tenant pfx s) := by
  unfold execQueryPrefix
  repeat' first
    | with_reducible assumption
    | (intro _)
    | with_reducible apply mailbox_inv
    | with_reducible apply okNext_next
    | with_reducible apply okNext_fault
    | split
    | dsimp -zeta only

theorem execSetPrefixPolicy_inv (e : Env) (part charge scope maxSlots insertMask : Nat) (s : State) {Q : Base} (hInv : Inv Q s) : OkNext Q (execSetPrefixPolicy e part charge scope maxSlots insertMask s) := by
  unfold execSetPrefixPolicy
  repeat' first
    | with_reducible assumption
    | (intro x; refine inv_have (Q := Q) (s := x) ?_ ?_; rotate_left; clear_value x; rotate_left; unfold x)
    | (intro (x : Flt))
    | (intro (x : Flash))
    | (intro (x : Pwr))
    | (intro (x : Glb))
    | (intro x; clear_value x)
    | (intro _)
    | with_reducible apply mailbox_inv
    | with_reducible apply updPart_inv
    | with_reducible apply okNext_next
    | with_reducible apply okNext_fault
    | (simp -zeta only [inv_mk]; show Inv Q _)
    | (with_reducible refine inv_fst ‹_› ?_)
    | (with_reducible refine inv_snd ‹_› ?_)
    | dsimp -zeta only
    | lift_lets

theorem execPurgePrefix_inv (e : Env) (part : Nat) (s : State) {Q : Base} (hInv : Inv Q s) : OkNext Q (execPurgePrefix e part s) := by
  unfold execPurgePrefix
  repeat' first
    | with_reducible assumption
    | (intro _)
    | with_reducible apply mailbox_inv
    | with_reducible apply startLong_inv
    | with_reducible apply okNext_next
    | with_reducible apply okNext_fault
    | split
    | dsimp -zeta only

theorem execQueryPrefixStore_inv (e : Env) (part : Nat) (s : State) {Q : Base} (hInv : Inv Q s) : OkNext Q (execQueryPrefixStore e part s) := by
  unfold execQueryPrefixStore
  repeat' first
    | with_reducible assumption
    | (intro _)
    | with_reducible apply mailbox_inv
    | with_reducible apply okNext_next
    | with_reducible apply okNext_fault
    | dsimp -zeta only

theorem execSetTierConfig_inv (e : Env) (imageGb parkGb : Nat) (s : State) {Q : Base} (hInv : Inv Q s) : OkNext Q (execSetTierConfig e imageGb parkGb s) := by
  unfold execSetTierConfig
  repeat' first
    | with_reducible assumption
    | (intro _)
    | with_reducible apply mailbox_inv
    | with_reducible apply okNext_next
    | with_reducible apply okNext_fault
    | (simp -zeta only [inv_mk]; show Inv Q _)
    | dsimp -zeta only

theorem execQueryTiers_inv (e : Env) (s : State) {Q : Base} (hInv : Inv Q s) : OkNext Q (execQueryTiers e s) := by
  unfold execQueryTiers
  repeat' first
    | with_reducible assumption
    | (intro _)
    | with_reducible apply mailbox_inv
    | with_reducible apply okNext_next
    | with_reducible apply okNext_fault
    | dsimp -zeta only

theorem renameHomes_inv (f : UnitKey → UnitKey) (s : State) {Q : Base} (hInv : Inv Q s) : Inv Q (renameHomes f s) := by
  unfold renameHomes
  repeat' first
    | with_reducible assumption
    | (simp -zeta only [inv_mk]; show Inv Q _)
    | with_reducible apply optInv_map
    | with_reducible apply optInv_bind
    | with_reducible apply inv_getD
    | dsimp -zeta only

theorem unnameHomes_inv (p : UnitKey → Bool) (s : State) {Q : Base} (hInv : Inv Q s) : Inv Q (unnameHomes p s) := by
  unfold unnameHomes
  repeat' first
    | with_reducible assumption
    | (simp -zeta only [inv_mk]; show Inv Q _)
    | with_reducible apply optInv_map
    | with_reducible apply optInv_bind
    | with_reducible apply inv_getD
    | dsimp -zeta only

theorem homesToPark_inv (part pid : Nat) (heads : List Nat) (s : State) {Q : Base} (hInv : Inv Q s) : Inv Q (homesToPark part pid heads s) := by
  unfold homesToPark
  repeat' first
    | with_reducible assumption
    | with_reducible apply renameHomes_inv
    | with_reducible apply unnameHomes_inv
    | split
    | dsimp -zeta only

theorem homesFromPark_inv (part pid : Nat) (heads : List Nat) (x0 : State) {Q : Base} (hInv : Inv Q x0) : Inv Q (homesFromPark part pid heads x0) := by
  unfold homesFromPark
  repeat' first
    | with_reducible assumption
    | with_reducible apply renameHomes_inv
    | with_reducible apply optInv_map
    | with_reducible apply optInv_bind
    | with_reducible apply inv_getD
    | split
    | dsimp -zeta only

theorem readHomes_inv (l : List (UnitKey × MapEnt)) (s : State) {Q : Base} (hInv : Inv Q s) : Inv Q (readHomes l s) := by
  unfold readHomes
  repeat' first
    | with_reducible assumption
    | (intro _)
    | with_reducible apply readHome_inv
    | with_reducible apply inv_foldl
    | dsimp -zeta only

theorem beginPark_inv (n h : Nat) (s : State) {Q : Base} (hInv : Inv Q s) : Inv Q (beginPark n h s) := by
  unfold beginPark
  repeat' first
    | with_reducible assumption
    | (intro x; refine inv_have (Q := Q) (s := x) ?_ ?_; rotate_left; clear_value x; rotate_left; unfold x)
    | (intro (x : Flt))
    | (intro (x : Flash))
    | (intro (x : Pwr))
    | (intro (x : Glb))
    | (intro x; clear_value x)
    | (intro _)
    | with_reducible apply updRt_inv
    | (simp -zeta only [inv_mk]; show Inv Q _)
    | dsimp -zeta only
    | lift_lets

theorem parkStart_inv (e : Env) (handle : Nat) (release : Bool) (ttl : Nat) (s : State) {Q : Base} (hInv : Inv Q s) : Inv Q (parkStart e handle release ttl s).1 := by
  unfold parkStart
  repeat' first
    | with_reducible assumption
    | (intro x; refine inv_have (Q := Q) (s := x) ?_ ?_; rotate_left; clear_value x; rotate_left; unfold x)
    | (intro (x : Flt))
    | (intro (x : Flash))
    | (intro (x : Pwr))
    | (intro (x : Glb))
    | (intro x; clear_value x)
    | (intro _)
    | with_reducible apply startLong_inv
    | with_reducible apply updPart_inv
    | with_reducible apply beginPark_inv
    | (simp -zeta only [inv_mk]; show Inv Q _)
    | (with_reducible refine inv_fst ‹_› ?_)
    | (with_reducible refine inv_snd ‹_› ?_)
    | split
    | dsimp -zeta only
    | lift_lets

theorem execParkConversation_inv (e : Env) (handle : Nat) (release : Bool) (ttl : Nat) (s : State) {Q : Base} (hInv : Inv Q s) : OkNext Q (execParkConversation e handle release ttl s) := by
  unfold execParkConversation
  repeat' first
    | with_reducible assumption
    | (intro _)
    | with_reducible apply mailbox_inv
    | with_reducible apply parkStart_inv
    | with_reducible apply okNext_next
    | with_reducible apply okNext_fault

theorem nextSerial_inv (s : State) {Q : Base} (hInv : Inv Q s) : Inv Q (nextSerial s) := by
  unfold nextSerial
  repeat' first
    | with_reducible assumption
    | (intro x; refine inv_have (Q := Q) (s := x) ?_ ?_; rotate_left; clear_value x; rotate_left; unfold x)
    | (intro (x : Flt))
    | (intro (x : Flash))
    | (intro (x : Pwr))
    | (intro (x : Glb))
    | (intro x; clear_value x)
    | (intro _)
    | with_reducible apply takeEpoch_inv
    | (simp -zeta only [inv_mk]; show Inv Q _)
    | (with_reducible refine inv_fst ‹_› ?_)
    | (with_reducible refine inv_snd ‹_› ?_)
    | split
    | lift_lets

theorem issueTicket_inv (s : State) {Q : Base} (hInv : Inv Q s) : Inv Q (issueTicket s).1 := by
  unfold issueTicket
  repeat' first
    | with_reducible assumption
    | (intro x; refine inv_have (Q := Q) (s := x) ?_ ?_; rotate_left; clear_value x; rotate_left; unfold x)
    | (intro (x : Flt))
    | (intro (x : Flash))
    | (intro (x : Pwr))
    | (intro (x : Glb))
    | (intro x; clear_value x)
    | (intro _)
    | with_reducible apply nextSerial_inv
    | split
    | dsimp -zeta only
    | lift_lets

theorem parkData_inv (h pid : Nat) (s : State) {Q : Base} (hInv : Inv Q s) : OptInv Q (parkData h pid s) := by
  unfold parkData
  refine optInv_map (optInv_bind (writeBackAll_inv _ _ hInv) fun t ht => programMetas_inv _ _ (homesToPark_inv _ _ _ _ ht)) fun t ht => ?_
  exact releaseSlots_inv _ _ (forgetFrames_inv _ _ ht)

theorem parkEnd_inv (o : Op) (h ttl : Nat) (release : Bool) (s : State) {Q : Base} (hInv : Inv Q s) : OptInv Q (parkEnd o h ttl release s) := by
  unfold parkEnd
  extract_lets e pid staged units
  refine optInv_map (parkData_inv _ _ _ hInv) fun t ht => ?_
  extract_lets k
  clear_value k
  split
  · exact finishOpWith_inv _ _ _ _ _ (updRt_inv _ _ _ ht)
  · have hi := issueTicket_inv t ht
    exact finishOpWith_inv _ _ _ _ _ (freeEntry_inv _ _ (releaseAcct_inv _ _ (updPart_inv _ _ _ hi)))

theorem zeroSlots_inv (part : Nat) (heads : List Nat) (s : State) {Q : Base} (hInv : Inv Q s) : Inv Q (zeroSlots part heads s) := by
  unfold zeroSlots
  repeat' first
    | with_reducible assumption
    | (intro x; refine inv_have (Q := Q) (s := x) ?_ ?_; rotate_left; clear_value x; rotate_left; unfold x)
    | (intro (x : Flt))
    | (intro (x : Flash))
    | (intro (x : Pwr))
    | (intro (x : Glb))
    | (intro x; clear_value x)
    | (intro _)
    | with_reducible apply updPart_inv
    | (simp -zeta only [inv_mk]; show Inv Q _)
    | dsimp -zeta only
    | lift_lets

theorem execParkComplete_inv (op : Nat) (s : State) {Q : Base} (hInv : Inv Q s) : OkNext Q (execParkComplete op s) := by
  unfold execParkComplete
  repeat' first
    | with_reducible assumption
    | with_reducible apply parkEnd_inv
    | with_reducible apply okNext_next
    | with_reducible apply okNext_fault
    | (with_reducible refine inv_opt ‹_› ?_)
    | with_reducible apply optInv_map
    | with_reducible apply optInv_bind
    | with_reducible apply inv_getD
    | split

theorem startParks_inv (part : Nat) (s : State) {Q : Base} (hInv : Inv Q s) : Inv Q (startParks part s) := by
  unfold startParks
  repeat' first
    | with_reducible assumption
    | (intro x; refine inv_have (Q := Q) (s := x) ?_ ?_; rotate_left; clear_value x; rotate_left; unfold x)
    | (intro (x : Flt))
    | (intro (x : Flash))
    | (intro (x : Pwr))
    | (intro (x : Glb))
    | (intro x; clear_value x)
    | (intro _)
    | with_reducible apply updPart_inv
    | with_reducible apply beginPark_inv
    | with_reducible apply finishOp_inv
    | (simp -zeta only [inv_mk]; show Inv Q _)
    | with_reducible apply inv_foldl
    | split
    | dsimp -zeta only
    | lift_lets

theorem freePark_inv (k : Park) (s : State) {Q : Base} (hInv : Inv Q s) : Inv Q (freePark k s) := by
  unfold freePark
  repeat' first
    | with_reducible assumption
    | (intro x; refine inv_have (Q := Q) (s := x) ?_ ?_; rotate_left; clear_value x; rotate_left; unfold x)
    | (intro (x : Flt))
    | (intro (x : Flash))
    | (intro (x : Pwr))
    | (intro (x : Glb))
    | (intro x; clear_value x)
    | (intro _)
    | with_reducible apply freeParks_inv
    | with_reducible apply dropReachRefs_inv
    | with_reducible apply releaseAcct_inv
    | with_reducible apply freeEntry_inv
    | (simp -zeta only [inv_mk]; show Inv Q _)
    | split
    | dsimp -zeta only
    | lift_lets

theorem execRenewPark_inv (e : Env) (handle ticket ttl : Nat) (s : State) {Q : Base} (hInv : Inv Q s) : OkNext Q (execRenewPark e handle ticket ttl s) := by
  unfold execRenewPark
  repeat' first
    | with_reducible assumption
    | (intro _)
    | with_reducible apply mailbox_inv
    | with_reducible apply okNext_next
    | with_reducible apply okNext_fault
    | (simp -zeta only [inv_mk]; show Inv Q _)
    | with_reducible apply optInv_map
    | with_reducible apply optInv_bind
    | with_reducible apply inv_getD
    | split
    | dsimp -zeta only

theorem execQueryTicket_inv (e : Env) (ticket : Nat) (s : State) {Q : Base} (hInv : Inv Q s) : OkNext Q (execQueryTicket e ticket s) := by
  unfold execQueryTicket
  repeat' first
    | with_reducible assumption
    | (intro _)
    | with_reducible apply mailbox_inv
    | with_reducible apply okNext_next
    | with_reducible apply okNext_fault
    | split
    | dsimp -zeta only

theorem execDiscardTicket_inv (e : Env) (ticket : Nat) (s : State) {Q : Base} (hInv : Inv Q s) : OkNext Q (execDiscardTicket e ticket s) := by
  unfold execDiscardTicket
  repeat' first
    | with_reducible assumption
    | (intro _)
    | with_reducible apply mailbox_inv
    | with_reducible apply freePark_inv
    | with_reducible apply okNext_next
    | with_reducible apply okNext_fault
    | split
    | dsimp -zeta only

theorem execParkClockSecond_inv (s : State) {Q : Base} (hInv : Inv Q s) : OkNext Q (execParkClockSecond s) := by
  unfold execParkClockSecond
  repeat' first
    | with_reducible assumption
    | (intro x; refine inv_have (Q := Q) (s := x) ?_ ?_; rotate_left; clear_value x; rotate_left; unfold x)
    | (intro (x : Flt))
    | (intro (x : Flash))
    | (intro (x : Pwr))
    | (intro (x : Glb))
    | (intro x; clear_value x)
    | (intro _)
    | with_reducible apply okNext_next
    | with_reducible apply okNext_fault
    | (simp -zeta only [inv_mk]; show Inv Q _)
    | split
    | lift_lets

theorem execParkExpiry_inv (s : State) {Q : Base} (hInv : Inv Q s) : OkNext Q (execParkExpiry s) := by
  unfold execParkExpiry
  repeat' first
    | with_reducible assumption
    | (intro _)
    | with_reducible apply postNotice_inv
    | with_reducible apply freePark_inv
    | with_reducible apply okNext_next
    | with_reducible apply okNext_fault
    | with_reducible apply inv_foldl
    | split
    | dsimp -zeta only

end Sys2Proof.Machine
end

