-- ==== Sys2Proof/Laws/Kept3.lean ====
section
/-! SUPPORT. Each operation and meaning keeps the queue, the layout of the device-wide registers and what is retired (part 3 of 6). -/

namespace Sys2Proof.Machine

set_option maxRecDepth 4000
set_option linter.unusedVariables false

theorem startUnpark_inv (e : Env) (h ticket : Nat) (k : Park) (s : State) {Q : Base} (hInv : Inv Q s) : Inv Q (startUnpark e h ticket k s).1 := by
  unfold startUnpark
  repeat' first
    | with_reducible assumption
    | (intro x; refine inv_have (Q := Q) (s := x) ?_ ?_; rotate_left; clear_value x; rotate_left; unfold x)
    | (intro (x : Flt))
    | (intro (x : Flash))
    | (intro (x : Pwr))
    | (intro (x : Glb))
    | (intro x; clear_value x)
    | (intro _)
    | with_reducible apply startLong_inv
    | (simp -zeta only [inv_mk]; show Inv Q _)
    | (with_reducible refine inv_fst ‹_› ?_)
    | (with_reducible refine inv_snd ‹_› ?_)
    | split
    | dsimp -zeta only
    | lift_lets

theorem unparkStart_inv (e : Env) (handle ticket : Nat) (s : State) {Q : Base} (hInv : Inv Q s) : Inv Q (unparkStart e handle ticket s).1 := by
  unfold unparkStart
  repeat' first
    | with_reducible assumption
    | exact fun _ => ⟨List.Subset.refl _, List.Subset.refl _⟩
    | exact fun _ => List.Subset.refl _
    | exact fun _ => ⟨id, id⟩
    | (intro x; refine inv_have (Q := Q) (s := x) ?_ ?_; rotate_left; clear_value x; rotate_left; unfold x)
    | (intro (x : Flt))
    | (intro (x : Flash))
    | (intro (x : Pwr))
    | (intro (x : Glb))
    | (intro x; clear_value x)
    | (intro _)
    | with_reducible apply chargeAcct_inv
    | with_reducible apply takeRt_inv
    | with_reducible apply startUnpark_inv
    | with_reducible apply updRt_inv
    | (simp -zeta only [inv_mk]; show Inv Q _)
    | with_reducible apply optInv_map
    | with_reducible apply optInv_bind
    | with_reducible apply inv_getD
    | (with_reducible refine inv_fst ‹_› ?_)
    | (with_reducible refine inv_snd ‹_› ?_)
    | (with_reducible refine inv_trd ‹_› ?_)
    | with_reducible apply inv_foldl
    | (with_reducible apply inv_ite)
    | split
    | dsimp -zeta only
    | lift_lets

theorem execUnparkConversation_inv (e : Env) (handle ticket : Nat) (s : State) {Q : Base} (hInv : Inv Q s) : OkNext Q (execUnparkConversation e handle ticket s) := by
  unfold execUnparkConversation
  repeat' first
    | with_reducible assumption
    | (intro _)
    | with_reducible apply mailbox_inv
    | with_reducible apply unparkStart_inv
    | with_reducible apply okNext_next
    | with_reducible apply okNext_fault
    | with_reducible apply optInv_map
    | with_reducible apply optInv_bind
    | with_reducible apply inv_getD
    | split
    | dsimp -zeta only

theorem unparkEnd_inv (o : Op) (h : Nat) (k : Park) (s : State) {Q : Base} (hInv : Inv Q s) : Inv Q (unparkEnd o h k s) := by
  unfold unparkEnd
  repeat' first
    | with_reducible assumption
    | (intro x; refine inv_have (Q := Q) (s := x) ?_ ?_; rotate_left; clear_value x; rotate_left; unfold x)
    | (intro (x : Flt))
    | (intro (x : Flash))
    | (intro (x : Pwr))
    | (intro (x : Glb))
    | (intro x; clear_value x)
    | (intro _)
    | with_reducible apply homesFromPark_inv
    | with_reducible apply readHomes_inv
    | with_reducible apply zeroSlots_inv
    | with_reducible apply freeParks_inv
    | with_reducible apply updRt_inv
    | with_reducible apply finishOpWith_inv
    | (simp -zeta only [inv_mk]; show Inv Q _)
    | split
    | dsimp -zeta only
    | lift_lets

theorem execUnparkComplete_inv (op : Nat) (s : State) {Q : Base} (hInv : Inv Q s) : OkNext Q (execUnparkComplete op s) := by
  unfold execUnparkComplete
  repeat' first
    | with_reducible assumption
    | with_reducible apply unparkEnd_inv
    | with_reducible apply okNext_next
    | with_reducible apply okNext_fault
    | split

theorem pullStart_inv (e : Env) (handle window offset first reaches layer0 layer1 : Nat) (s : State) {Q : Base} (hInv : Inv Q s) : Inv Q (pullStart e handle window offset first reaches layer0 layer1 s).1 := by
  unfold pullStart
  repeat' first
    | with_reducible assumption
    | (intro x; refine inv_have (Q := Q) (s := x) ?_ ?_; rotate_left; clear_value x; rotate_left; unfold x)
    | (intro (x : Flt))
    | (intro (x : Flash))
    | (intro (x : Pwr))
    | (intro (x : Glb))
    | (intro x; clear_value x)
    | (intro _)
    | with_reducible apply startLong_inv
    | with_reducible apply finishOp_inv
    | with_reducible apply logFault_inv
    | with_reducible apply peerReads_inv
    | (simp -zeta only [inv_mk]; show Inv Q _)
    | (with_reducible refine inv_fst ‹_› ?_)
    | (with_reducible refine inv_snd ‹_› ?_)
    | split
    | dsimp -zeta only
    | lift_lets

theorem execPullKv_inv (e : Env) (handle window offset first reaches layer0 layer1 : Nat) (s : State) {Q : Base} (hInv : Inv Q s) : OkNext Q (execPullKv e handle window offset first reaches layer0 layer1 s) := by
  unfold execPullKv
  repeat' first
    | with_reducible assumption
    | (intro _)
    | with_reducible apply mailbox_inv
    | with_reducible apply pullStart_inv
    | with_reducible apply okNext_next
    | with_reducible apply okNext_fault

theorem writePull_inv (p : Pull) (data : List Byte) (s : State) {Q : Base} (hInv : Inv Q s) : OptInv Q (writePull p data s) := by
  unfold writePull
  repeat' first
    | with_reducible assumption
    | (intro x; refine inv_have (Q := Q) (s := x) ?_ ?_; rotate_left; clear_value x; rotate_left; unfold x)
    | (intro (x : Flt))
    | (intro (x : Flash))
    | (intro (x : Pwr))
    | (intro (x : Glb))
    | (intro x; clear_value x)
    | (intro _)
    | with_reducible apply putAll_inv
    | with_reducible apply dropDigests_inv
    | with_reducible apply optInv_some
    | with_reducible apply optInv_none
    | (with_reducible refine inv_opt ‹_› ?_)
    | with_reducible apply optInv_map
    | with_reducible apply optInv_bind
    | with_reducible apply inv_getD
    | dsimp -zeta only
    | lift_lets

theorem execPullComplete_inv (op : Nat) (data : List Byte) (s : State) {Q : Base} (hInv : Inv Q s) : OkNext Q (execPullComplete op data s) := by
  unfold execPullComplete
  repeat' first
    | with_reducible assumption
    | with_reducible apply writePull_inv
    | with_reducible apply finishOp_inv
    | with_reducible apply okNext_next
    | with_reducible apply okNext_fault
    | (simp -zeta only [inv_mk]; show Inv Q _)
    | (with_reducible refine inv_opt ‹_› ?_)
    | split
    | dsimp -zeta only

theorem execParkRegion_inv (e : Env) (base : Nat) (s : State) {Q : Base} (hInv : Inv Q s) : OkNext Q (execParkRegion e base s) := by
  unfold execParkRegion
  repeat' first
    | with_reducible assumption
    | (intro _)
    | with_reducible apply mailbox_inv
    | with_reducible apply startLong_inv
    | with_reducible apply updRegion_inv
    | with_reducible apply okNext_next
    | with_reducible apply okNext_fault
    | (simp -zeta only [inv_mk]; show Inv Q _)
    | split
    | dsimp -zeta only

theorem regionParkEnd_inv (op : Nat) (r : Region) (s : State) {Q : Base} (hInv : Inv Q s) : OptInv Q (regionParkEnd op r s) := by
  unfold regionParkEnd
  exact optInv_map (writeBackAll_inv _ _ hInv) fun t ht => finishOp_inv _ _ _ (releaseWrites_inv _ (releaseAcct_inv _ _ (updRegion_inv _ _ _ (forgetFrames_inv _ _ ht))))

theorem execRegionParkComplete_inv (op : Nat) (s : State) {Q : Base} (hInv : Inv Q s) : OkNext Q (execRegionParkComplete op s) := by
  unfold execRegionParkComplete
  repeat' first
    | with_reducible assumption
    | with_reducible apply regionParkEnd_inv
    | with_reducible apply okNext_next
    | with_reducible apply okNext_fault
    | (with_reducible refine inv_opt ‹_› ?_)
    | with_reducible apply optInv_map
    | with_reducible apply optInv_bind
    | with_reducible apply inv_getD
    | split

theorem execUnparkRegion_inv (e : Env) (base : Nat) (s : State) {Q : Base} (hInv : Inv Q s) : OkNext Q (execUnparkRegion e base s) := by
  unfold execUnparkRegion
  repeat' first
    | with_reducible assumption
    | (intro _)
    | with_reducible apply mailbox_inv
    | with_reducible apply startLong_inv
    | with_reducible apply updRegion_inv
    | with_reducible apply chargeAcct_inv
    | with_reducible apply okNext_next
    | with_reducible apply okNext_fault
    | (simp -zeta only [inv_mk]; show Inv Q _)
    | split
    | dsimp -zeta only

theorem regionUnparkEnd_inv (op id : Nat) (s : State) {Q : Base} (hInv : Inv Q s) : Inv Q (regionUnparkEnd op id s) := by
  unfold regionUnparkEnd
  repeat' first
    | with_reducible assumption
    | (intro x; refine inv_have (Q := Q) (s := x) ?_ ?_; rotate_left; clear_value x; rotate_left; unfold x)
    | (intro (x : Flt))
    | (intro (x : Flash))
    | (intro (x : Pwr))
    | (intro (x : Glb))
    | (intro x; clear_value x)
    | (intro _)
    | with_reducible apply readHomes_inv
    | with_reducible apply updRegion_inv
    | with_reducible apply finishOp_inv
    | (simp -zeta only [inv_mk]; show Inv Q _)
    | split
    | dsimp -zeta only
    | lift_lets

theorem execRegionUnparkComplete_inv (op : Nat) (s : State) {Q : Base} (hInv : Inv Q s) : OkNext Q (execRegionUnparkComplete op s) := by
  unfold execRegionUnparkComplete
  repeat' first
    | with_reducible assumption
    | with_reducible apply regionUnparkEnd_inv
    | with_reducible apply okNext_next
    | with_reducible apply okNext_fault
    | split

theorem updHup_inv (f : Hup → Hup) (s : State) {Q : Base} (hInv : Inv Q s) : Inv Q (updHup f s) := by
  unfold updHup
  repeat' first
    | with_reducible assumption
    | (simp -zeta only [inv_mk]; show Inv Q _)

theorem setCeiling_inv (s : State) {Q : Base} (hInv : Inv Q s) : Inv Q (setCeiling s) := by
  unfold setCeiling
  repeat' first
    | with_reducible assumption
    | (intro x; refine inv_have (Q := Q) (s := x) ?_ ?_; rotate_left; clear_value x; rotate_left; unfold x)
    | (intro (x : Flt))
    | (intro (x : Flash))
    | (intro (x : Pwr))
    | (intro (x : Glb))
    | (intro x; clear_value x)
    | (intro _)
    | with_reducible apply releaseWrites_inv
    | with_reducible apply startCheckpoint_inv
    | (simp -zeta only [inv_mk]; show Inv Q _)
    | split
    | lift_lets

theorem endTestOp_inv (st : Status) (s : State) {Q : Base} (hInv : Inv Q s) : Inv Q (endTestOp st s) := by
  unfold endTestOp
  repeat' first
    | with_reducible assumption
    | with_reducible apply finishOp_inv
    | with_reducible apply updHup_inv
    | (simp -zeta only [inv_mk]; show Inv Q _)
    | split
    | dsimp -zeta only

theorem openStatus_inv (s : State) {Q : Base} (hInv : Inv Q s) : Inv Q (openStatus s).2 := by
  unfold openStatus
  repeat' first
    | with_reducible assumption
    | (intro x; refine inv_have (Q := Q) (s := x) ?_ ?_; rotate_left; clear_value x; rotate_left; unfold x)
    | (intro (x : Flt))
    | (intro (x : Flash))
    | (intro (x : Pwr))
    | (intro (x : Glb))
    | (intro x; clear_value x)
    | (intro _)
    | (simp -zeta only [inv_mk]; show Inv Q _)
    | with_reducible apply optInv_map
    | with_reducible apply optInv_bind
    | with_reducible apply inv_getD
    | dsimp -zeta only
    | lift_lets

theorem abandonTest_inv (s : State) {Q : Base} (hInv : Inv Q s) : Inv Q (abandonTest s) := by
  unfold abandonTest
  repeat' first
    | with_reducible assumption
    | (intro x; refine inv_have (Q := Q) (s := x) ?_ ?_; rotate_left; clear_value x; rotate_left; unfold x)
    | (intro (x : Flt))
    | (intro (x : Flash))
    | (intro (x : Pwr))
    | (intro (x : Glb))
    | (intro x; clear_value x)
    | (intro _)
    | with_reducible apply openStatus_inv
    | with_reducible apply endTestOp_inv
    | (with_reducible refine inv_fst ‹_› ?_)
    | (with_reducible refine inv_snd ‹_› ?_)
    | split
    | lift_lets

theorem startTest_inv (op : Option Nat) (s : State) {Q : Base} (hInv : Inv Q s) : Inv Q (startTest op s) := by
  unfold startTest
  repeat' first
    | with_reducible assumption
    | with_reducible apply updHup_inv
    | split
    | dsimp -zeta only

theorem execPackInsert_inv (s : State) {Q : Base} (hInv : Inv Q s) : OkNext Q (execPackInsert s) := by
  unfold execPackInsert
  repeat' first
    | with_reducible assumption
    | (intro x; refine inv_have (Q := Q) (s := x) ?_ ?_; rotate_left; clear_value x; rotate_left; unfold x)
    | (intro (x : Flt))
    | (intro (x : Flash))
    | (intro (x : Pwr))
    | (intro (x : Glb))
    | (intro x; clear_value x)
    | (intro _)
    | with_reducible apply updHup_inv
    | with_reducible apply clearCause_inv
    | with_reducible apply startTest_inv
    | with_reducible apply okNext_next
    | with_reducible apply okNext_fault
    | (simp -zeta only [inv_mk]; show Inv Q _)
    | split
    | dsimp -zeta only
    | lift_lets

theorem packGone_inv (s : State) {Q : Base} (hInv : Inv Q s) : Inv Q (packGone s) := by
  unfold packGone
  repeat' first
    | with_reducible assumption
    | (intro x; refine inv_have (Q := Q) (s := x) ?_ ?_; rotate_left; clear_value x; rotate_left; unfold x)
    | (intro (x : Flt))
    | (intro (x : Flash))
    | (intro (x : Pwr))
    | (intro (x : Glb))
    | (intro x; clear_value x)
    | (intro _)
    | with_reducible apply updHup_inv
    | with_reducible apply abandonTest_inv
    | with_reducible apply releaseWrites_inv
    | with_reducible apply startCheckpoint_inv
    | with_reducible apply clearCause_inv
    | with_reducible apply causeFault_inv
    | (simp -zeta only [inv_mk]; show Inv Q _)
    | dsimp -zeta only
    | lift_lets

theorem packFaulted_inv (s : State) {Q : Base} (hInv : Inv Q s) : Inv Q (packFaulted s) := by
  unfold packFaulted
  repeat' first
    | with_reducible assumption
    | (intro x; refine inv_have (Q := Q) (s := x) ?_ ?_; rotate_left; clear_value x; rotate_left; unfold x)
    | (intro (x : Flt))
    | (intro (x : Flash))
    | (intro (x : Pwr))
    | (intro (x : Glb))
    | (intro x; clear_value x)
    | (intro _)
    | with_reducible apply updHup_inv
    | with_reducible apply abandonTest_inv
    | with_reducible apply causeFault_inv
    | with_reducible apply setCeiling_inv
    | (simp -zeta only [inv_mk]; show Inv Q _)
    | dsimp -zeta only
    | lift_lets

theorem judgePack_inv (s : State) {Q : Base} (hInv : Inv Q s) : Inv Q (judgePack s) := by
  unfold judgePack
  repeat' first
    | with_reducible assumption
    | with_reducible apply packFaulted_inv
    | with_reducible apply clearCause_inv
    | with_reducible apply startTest_inv
    | with_reducible apply updHup_inv
    | with_reducible apply setCeiling_inv
    | (simp -zeta only [inv_mk]; show Inv Q _)
    | split
    | dsimp -zeta only

theorem execPackPoll_inv (reading : Option PackReading) (s : State) {Q : Base} (hInv : Inv Q s) : OkNext Q (execPackPoll reading s) := by
  unfold execPackPoll
  repeat' first
    | with_reducible assumption
    | with_reducible apply judgePack_inv
    | with_reducible apply updHup_inv
    | with_reducible apply okNext_next
    | with_reducible apply okNext_fault
    | (simp -zeta only [inv_mk]; show Inv Q _)
    | split
    | dsimp -zeta only

theorem execHoldupMeasurement_inv (eStored : Nat) (s : State) {Q : Base} (hInv : Inv Q s) : OkNext Q (execHoldupMeasurement eStored s) := by
  unfold execHoldupMeasurement
  repeat' first
    | with_reducible assumption
    | (intro x; refine inv_have (Q := Q) (s := x) ?_ ?_; rotate_left; clear_value x; rotate_left; unfold x)
    | (intro (x : Flt))
    | (intro (x : Flash))
    | (intro (x : Pwr))
    | (intro (x : Glb))
    | (intro x; clear_value x)
    | (intro _)
    | with_reducible apply updHup_inv
    | with_reducible apply setCeiling_inv
    | with_reducible apply okNext_next
    | with_reducible apply okNext_fault
    | (simp -zeta only [inv_mk]; show Inv Q _)
    | split
    | dsimp -zeta only
    | lift_lets

theorem execChargeComplete_inv (s : State) {Q : Base} (hInv : Inv Q s) : OkNext Q (execChargeComplete s) := by
  unfold execChargeComplete
  repeat' first
    | with_reducible assumption
    | with_reducible apply updHup_inv
    | with_reducible apply okNext_next
    | with_reducible apply okNext_fault
    | (simp -zeta only [inv_mk]; show Inv Q _)
    | split
    | dsimp -zeta only

theorem execTestDue_inv (s : State) {Q : Base} (hInv : Inv Q s) : OkNext Q (execTestDue s) := by
  unfold execTestDue
  repeat' first
    | with_reducible assumption
    | with_reducible apply startTest_inv
    | with_reducible apply okNext_next
    | with_reducible apply okNext_fault
    | split

theorem execTestRestEnd_inv (s : State) {Q : Base} (hInv : Inv Q s) : OkNext Q (execTestRestEnd s) := by
  unfold execTestRestEnd
  repeat' first
    | with_reducible assumption
    | with_reducible apply updHup_inv
    | with_reducible apply okNext_next
    | with_reducible apply okNext_fault
    | (simp -zeta only [inv_mk]; show Inv Q _)
    | split
    | dsimp -zeta only

theorem execTestDischargeEnd_inv (energy : Nat) (s : State) {Q : Base} (hInv : Inv Q s) : OkNext Q (execTestDischargeEnd energy s) := by
  unfold execTestDischargeEnd
  repeat' first
    | with_reducible assumption
    | (intro x; refine inv_have (Q := Q) (s := x) ?_ ?_; rotate_left; clear_value x; rotate_left; unfold x)
    | (intro (x : Flt))
    | (intro (x : Flash))
    | (intro (x : Pwr))
    | (intro (x : Glb))
    | (intro x; clear_value x)
    | (intro _)
    | with_reducible apply updHup_inv
    | with_reducible apply causeFault_inv
    | with_reducible apply clearCause_inv
    | with_reducible apply endTestOp_inv
    | with_reducible apply packFaulted_inv
    | with_reducible apply setCeiling_inv
    | with_reducible apply okNext_next
    | with_reducible apply okNext_fault
    | split
    | dsimp -zeta only
    | lift_lets

theorem execChargerCurrentLoss_inv (s : State) {Q : Base} (hInv : Inv Q s) : OkNext Q (execChargerCurrentLoss s) := by
  unfold execChargerCurrentLoss
  repeat' first
    | with_reducible assumption
    | with_reducible apply updHup_inv
    | with_reducible apply okNext_next
    | with_reducible apply okNext_fault
    | (simp -zeta only [inv_mk]; show Inv Q _)
    | split
    | dsimp -zeta only

theorem execQueryHoldup_inv (e : Env) (s : State) {Q : Base} (hInv : Inv Q s) : OkNext Q (execQueryHoldup e s) := by
  unfold execQueryHoldup
  repeat' first
    | with_reducible assumption
    | (intro _)
    | with_reducible apply mailbox_inv
    | with_reducible apply okNext_next
    | with_reducible apply okNext_fault
    | dsimp -zeta only

theorem execTestHoldup_inv (e : Env) (s : State) {Q : Base} (hInv : Inv Q s) : OkNext Q (execTestHoldup e s) := by
  unfold execTestHoldup
  repeat' first
    | with_reducible assumption
    | (intro x; refine inv_have (Q := Q) (s := x) ?_ ?_; rotate_left; clear_value x; rotate_left; unfold x)
    | (intro (x : Flt))
    | (intro (x : Flash))
    | (intro (x : Pwr))
    | (intro (x : Glb))
    | (intro x; clear_value x)
    | (intro _)
    | with_reducible apply mailbox_inv
    | with_reducible apply startLong_inv
    | with_reducible apply startTest_inv
    | with_reducible apply okNext_next
    | with_reducible apply okNext_fault
    | (with_reducible refine inv_fst ‹_› ?_)
    | (with_reducible refine inv_snd ‹_› ?_)
    | split
    | dsimp -zeta only
    | lift_lets

theorem execSetHoldupConfig_inv (e : Env) (periodDays : Nat) (s : State) {Q : Base} (hInv : Inv Q s) : OkNext Q (execSetHoldupConfig e periodDays s) := by
  unfold execSetHoldupConfig
  repeat' first
    | with_reducible assumption
    | (intro _)
    | with_reducible apply mailbox_inv
    | with_reducible apply updHup_inv
    | with_reducible apply okNext_next
    | with_reducible apply okNext_fault
    | (simp -zeta only [inv_mk]; show Inv Q _)
    | split
    | dsimp -zeta only

theorem fmServe_inv (port : Nat) (c : FmCmd) (s : State) {Q : Base} (hInv : Inv Q s) : Inv Q (fmServe port c s).2.2 := by
  unfold fmServe
  repeat' first
    | with_reducible assumption
    | exact fun _ => ⟨id, id⟩
    | (intro x; refine inv_have (Q := Q) (s := x) ?_ ?_; rotate_left; clear_value x; rotate_left; unfold x)
    | (intro (x : Flt))
    | (intro (x : Flash))
    | (intro (x : Pwr))
    | (intro (x : Glb))
    | (intro x; clear_value x)
    | (intro _)
    | with_reducible apply updLd_inv
    | with_reducible apply updPort_inv
    | (simp -zeta only [inv_mk]; show Inv Q _)
    | with_reducible apply optInv_map
    | with_reducible apply optInv_bind
    | with_reducible apply inv_getD
    | with_reducible apply inv_foldl
    | split
    | dsimp -zeta only
    | lift_lets

theorem fmCommand_inv (port : Nat) (c : FmCmd) (s : State) {Q : Base} (hInv : Inv Q s) : OkNext Q (fmCommand port c s) := by
  unfold fmCommand
  repeat' first
    | with_reducible assumption
    | exact fun _ => ⟨List.Subset.refl _, List.Subset.refl _⟩
    | exact fun _ => List.Subset.refl _
    | exact fun _ => ⟨id, id⟩
    | (intro x; refine inv_have (Q := Q) (s := x) ?_ ?_; rotate_left; clear_value x; rotate_left; unfold x)
    | (intro (x : Flt))
    | (intro (x : Flash))
    | (intro (x : Pwr))
    | (intro (x : Glb))
    | (intro x; clear_value x)
    | (intro _)
    | with_reducible apply emit_inv
    | with_reducible apply fmServe_inv
    | with_reducible apply okNext_next
    | with_reducible apply okNext_fault
    | (simp -zeta only [inv_mk]; show Inv Q _)
    | with_reducible apply optInv_map
    | with_reducible apply optInv_bind
    | with_reducible apply inv_getD
    | (with_reducible refine inv_fst ‹_› ?_)
    | (with_reducible refine inv_snd ‹_› ?_)
    | (with_reducible refine inv_trd ‹_› ?_)
    | with_reducible apply inv_foldl
    | (with_reducible apply inv_ite)
    | split
    | dsimp -zeta only
    | lift_lets

theorem execGetLdInfo_inv (port : Nat) (s : State) {Q : Base} (hInv : Inv Q s) : OkNext Q (execGetLdInfo port s) := by
  unfold execGetLdInfo
  repeat' first
    | with_reducible assumption
    | with_reducible apply fmCommand_inv
    | with_reducible apply okNext_next
    | with_reducible apply okNext_fault

theorem execGetLdAllocations_inv (port : Nat) (s : State) {Q : Base} (hInv : Inv Q s) : OkNext Q (execGetLdAllocations port s) := by
  unfold execGetLdAllocations
  repeat' first
    | with_reducible assumption
    | with_reducible apply fmCommand_inv
    | with_reducible apply okNext_next
    | with_reducible apply okNext_fault

theorem execSetLdAllocations_inv (port : Nat) (allocs : List (Nat × Nat)) (s : State) {Q : Base} (hInv : Inv Q s) : OkNext Q (execSetLdAllocations port allocs s) := by
  unfold execSetLdAllocations
  repeat' first
    | with_reducible assumption
    | with_reducible apply fmCommand_inv
    | with_reducible apply okNext_next
    | with_reducible apply okNext_fault

theorem execGetQosControl_inv (port : Nat) (s : State) {Q : Base} (hInv : Inv Q s) : OkNext Q (execGetQosControl port s) := by
  unfold execGetQosControl
  repeat' first
    | with_reducible assumption
    | with_reducible apply fmCommand_inv
    | with_reducible apply okNext_next
    | with_reducible apply okNext_fault

theorem execSetQosControl_inv (port bsi moderate severe cci : Nat) (s : State) {Q : Base} (hInv : Inv Q s) : OkNext Q (execSetQosControl port bsi moderate severe cci s) := by
  unfold execSetQosControl
  repeat' first
    | with_reducible assumption
    | with_reducible apply fmCommand_inv
    | with_reducible apply okNext_next
    | with_reducible apply okNext_fault

theorem execGetQosStatus_inv (port : Nat) (s : State) {Q : Base} (hInv : Inv Q s) : OkNext Q (execGetQosStatus port s) := by
  unfold execGetQosStatus
  repeat' first
    | with_reducible assumption
    | with_reducible apply fmCommand_inv
    | with_reducible apply okNext_next
    | with_reducible apply okNext_fault

theorem execGetQosAllocatedBw_inv (port : Nat) (s : State) {Q : Base} (hInv : Inv Q s) : OkNext Q (execGetQosAllocatedBw port s) := by
  unfold execGetQosAllocatedBw
  repeat' first
    | with_reducible assumption
    | with_reducible apply fmCommand_inv
    | with_reducible apply okNext_next
    | with_reducible apply okNext_fault

theorem execSetQosAllocatedBw_inv (port : Nat) (values : List (Nat × Nat)) (s : State) {Q : Base} (hInv : Inv Q s) : OkNext Q (execSetQosAllocatedBw port values s) := by
  unfold execSetQosAllocatedBw
  repeat' first
    | with_reducible assumption
    | with_reducible apply fmCommand_inv
    | with_reducible apply okNext_next
    | with_reducible apply okNext_fault

theorem execGetQosBwLimit_inv (port : Nat) (s : State) {Q : Base} (hInv : Inv Q s) : OkNext Q (execGetQosBwLimit port s) := by
  unfold execGetQosBwLimit
  repeat' first
    | with_reducible assumption
    | with_reducible apply fmCommand_inv
    | with_reducible apply okNext_next
    | with_reducible apply okNext_fault

theorem execSetQosBwLimit_inv (port : Nat) (values : List (Nat × Nat)) (s : State) {Q : Base} (hInv : Inv Q s) : OkNext Q (execSetQosBwLimit port values s) := by
  unfold execSetQosBwLimit
  repeat' first
    | with_reducible assumption
    | with_reducible apply fmCommand_inv
    | with_reducible apply okNext_next
    | with_reducible apply okNext_fault

theorem execFmIdentify_inv (port : Nat) (s : State) {Q : Base} (hInv : Inv Q s) : OkNext Q (execFmIdentify port s) := by
  unfold execFmIdentify
  repeat' first
    | with_reducible assumption
    | with_reducible apply fmCommand_inv
    | with_reducible apply okNext_next
    | with_reducible apply okNext_fault

theorem execTunnelManagementCommand_inv (port : Nat) (cmd : FmCmd) (s : State) {Q : Base} (hInv : Inv Q s) : OkNext Q (execTunnelManagementCommand port cmd s) := by
  unfold execTunnelManagementCommand
  repeat' first
    | with_reducible assumption
    | with_reducible apply fmCommand_inv
    | with_reducible apply okNext_next
    | with_reducible apply okNext_fault

theorem updDecoder_inv (port ld i : Nat) (f : HdmDecoder → HdmDecoder) (s : State) {Q : Base} (hInv : Inv Q s) : Inv Q (updDecoder port ld i f s) := by
  unfold updDecoder
  repeat' first
    | with_reducible assumption
    | with_reducible apply updLd_inv
    | (simp -zeta only [inv_mk]; show Inv Q _)
    | split
    | dsimp -zeta only

theorem cfgWrite_inv (port ld : Nat) (item : CfgItem) (value : Nat) (s : State) {Q : Base} (hInv : Inv Q s) : Inv Q (cfgWrite port ld item value s) := by
  unfold cfgWrite
  repeat' first
    | with_reducible assumption
    | with_reducible apply updLd_inv
    | with_reducible apply updDecoder_inv
    | (simp -zeta only [inv_mk]; show Inv Q _)
    | split
    | dsimp -zeta only

theorem execConfigurationRequest_inv (port ld : Nat) (write : Bool) (item : CfgItem) (value : Nat) (s : State) {Q : Base} (hInv : Inv Q s) : OkNext Q (execConfigurationRequest port ld write item value s) := by
  unfold execConfigurationRequest
  repeat' first
    | with_reducible assumption
    | with_reducible apply emit_inv
    | with_reducible apply cfgWrite_inv
    | with_reducible apply okNext_next
    | with_reducible apply okNext_fault
    | split

theorem onDoe_inv (port ld : Nat) (f : State → State) (s : State) {Q : Base} (hf : ∀ v, Inv Q v → Inv Q (f v)) (hInv : Inv Q s) : OkNext Q (onDoe port ld f s) := by
  unfold onDoe
  split
  · exact hInv
  · split
    · exact hInv
    · split
      · exact emit_inv _ _ hInv
      · split
        · exact emit_inv _ _ hInv
        · exact hf _ hInv

theorem doeDiscard_inv (port ld : Nat) (s : State) {Q : Base} (hInv : Inv Q s) : Inv Q (doeDiscard port ld s) := by
  unfold doeDiscard
  repeat' first
    | with_reducible assumption
    | with_reducible apply updLd_inv
    | (simp -zeta only [inv_mk]; show Inv Q _)
    | dsimp -zeta only

theorem execDoeObject_inv (port ld dataType length : Nat) (s : State) {Q : Base} (hInv : Inv Q s) : OkNext Q (execDoeObject port ld dataType length s) := by
  unfold execDoeObject
  repeat' first
    | with_reducible assumption
    | (intro _)
    | with_reducible apply onDoe_inv
    | with_reducible apply doeDiscard_inv
    | with_reducible apply updLd_inv
    | with_reducible apply okNext_next
    | with_reducible apply okNext_fault
    | (simp -zeta only [inv_mk]; show Inv Q _)
    | split
    | dsimp -zeta only

theorem finishDoe_inv (k : Nat) (s : State) {Q : Base} (hInv : Inv Q s) : Inv Q (finishDoe k s) := by
  unfold finishDoe
  repeat' first
    | with_reducible assumption
    | with_reducible apply emit_inv
    | (simp -zeta only [inv_mk]; show Inv Q _)
    | split
    | dsimp -zeta only

theorem execDoeDiscovery_inv (port ld index : Nat) (s : State) {Q : Base} (hInv : Inv Q s) : OkNext Q (execDoeDiscovery port ld index s) := by
  unfold execDoeDiscovery
  repeat' first
    | with_reducible assumption
    | (intro _)
    | with_reducible apply onDoe_inv
    | with_reducible apply emit_inv
    | with_reducible apply okNext_next
    | with_reducible apply okNext_fault
    | with_reducible apply optInv_map
    | with_reducible apply optInv_bind
    | with_reducible apply inv_getD
    | split

theorem execCdatTableAccess_inv (port ld entry : Nat) (s : State) {Q : Base} (hInv : Inv Q s) : OkNext Q (execCdatTableAccess port ld entry s) := by
  unfold execCdatTableAccess
  repeat' first
    | with_reducible assumption
    | (intro x; refine inv_have (Q := Q) (s := x) ?_ ?_; rotate_left; clear_value x; rotate_left; unfold x)
    | (intro (x : Flt))
    | (intro (x : Flash))
    | (intro (x : Pwr))
    | (intro (x : Glb))
    | (intro x; clear_value x)
    | (intro _)
    | with_reducible apply onDoe_inv
    | with_reducible apply emit_inv
    | with_reducible apply okNext_next
    | with_reducible apply okNext_fault
    | with_reducible apply optInv_map
    | with_reducible apply optInv_bind
    | with_reducible apply inv_getD
    | split
    | dsimp -zeta only
    | lift_lets

theorem ideKmServe_inv (port ld : Nat) (secured : Bool) (m : IdeKm) (keySet : Nat) (s : State) {Q : Base} (hInv : Inv Q s) : Inv Q (ideKmServe port ld secured m keySet s).2 := by
  unfold ideKmServe
  repeat' first
    | with_reducible assumption
    | exact fun _ => ⟨id, id⟩
    | (intro x; refine inv_have (Q := Q) (s := x) ?_ ?_; rotate_left; clear_value x; rotate_left; unfold x)
    | (intro (x : Flt))
    | (intro (x : Flash))
    | (intro (x : Pwr))
    | (intro (x : Glb))
    | (intro x; clear_value x)
    | (intro _)
    | with_reducible apply updPort_inv
    | (simp -zeta only [inv_mk]; show Inv Q _)
    | split
    | dsimp -zeta only
    | lift_lets

theorem spdmServe_inv (port ld : Nat) (r : SpdmReq) (s : State) {Q : Base} (hInv : Inv Q s) : Inv Q (spdmServe port ld r s).2 := by
  unfold spdmServe
  repeat' first
    | with_reducible assumption
    | (intro x; refine inv_have (Q := Q) (s := x) ?_ ?_; rotate_left; clear_value x; rotate_left; unfold x)
    | (intro (x : Flt))
    | (intro (x : Flash))
    | (intro (x : Pwr))
    | (intro (x : Glb))
    | (intro x; clear_value x)
    | (intro _)
    | with_reducible apply updLd_inv
    | with_reducible apply ideKmServe_inv
    | (simp -zeta only [inv_mk]; show Inv Q _)
    | with_reducible apply optInv_map
    | with_reducible apply optInv_bind
    | with_reducible apply inv_getD
    | (with_reducible refine inv_fst ‹_› ?_)
    | (with_reducible refine inv_snd ‹_› ?_)
    | split
    | dsimp -zeta only
    | lift_lets

theorem spdmAnswer_inv (port ld : Nat) (r : (Nat ⊕ List Nat) × State) {Q : Base} (hInv : Inv Q r.2) : Inv Q (spdmAnswer port ld r) := by
  unfold spdmAnswer
  split <;> exact emit_inv _ _ hInv

theorem execSpdmRequest_inv (port ld version : Nat) (req : SpdmReq) (s : State) {Q : Base} (hInv : Inv Q s) : OkNext Q (execSpdmRequest port ld version req s) := by
  unfold execSpdmRequest
  repeat' first
    | with_reducible assumption
    | (intro _)
    | with_reducible apply onDoe_inv
    | with_reducible apply emit_inv
    | with_reducible apply spdmAnswer_inv
    | with_reducible apply spdmServe_inv
    | with_reducible apply okNext_next
    | with_reducible apply okNext_fault
    | split
    | dsimp -zeta only

theorem execSetCertificate_inv (port ld slot : Nat) (secured : Bool) (chain : List Byte) (s : State) {Q : Base} (hInv : Inv Q s) : OkNext Q (execSetCertificate port ld slot secured chain s) := by
  unfold execSetCertificate
  repeat' first
    | with_reducible assumption
    | (intro _)
    | with_reducible apply onDoe_inv
    | with_reducible apply doeDiscard_inv
    | with_reducible apply emit_inv
    | with_reducible apply okNext_next
    | with_reducible apply okNext_fault
    | (simp -zeta only [inv_mk]; show Inv Q _)
    | with_reducible apply optInv_map
    | with_reducible apply optInv_bind
    | with_reducible apply inv_getD
    | split
    | dsimp -zeta only

theorem ideMessage_inv (port ld : Nat) (secured : Bool) (f : State → State) (s : State) {Q : Base} (hf : ∀ v0, Inv Q v0 → Inv Q (f v0)) (hInv : Inv Q s) : OkNext Q (ideMessage port ld secured f s) := by
  unfold ideMessage
  repeat' first
    | with_reducible assumption
    | exact fun _ => ⟨List.Subset.refl _, List.Subset.refl _⟩
    | exact fun _ => List.Subset.refl _
    | exact fun _ => ⟨id, id⟩
    | (intro x; refine inv_have (Q := Q) (s := x) ?_ ?_; rotate_left; clear_value x; rotate_left; unfold x)
    | (intro (x : Flt))
    | (intro (x : Flash))
    | (intro (x : Pwr))
    | (intro (x : Glb))
    | (intro x; clear_value x)
    | (intro _)
    | with_reducible apply onDoe_inv
    | with_reducible apply emit_inv
    | with_reducible apply okNext_next
    | with_reducible apply okNext_fault
    | with_reducible apply hf
    | (simp -zeta only [inv_mk]; show Inv Q _)
    | with_reducible apply optInv_map
    | with_reducible apply optInv_bind
    | with_reducible apply inv_getD
    | (with_reducible refine inv_fst ‹_› ?_)
    | (with_reducible refine inv_snd ‹_› ?_)
    | (with_reducible refine inv_trd ‹_› ?_)
    | with_reducible apply inv_foldl
    | (with_reducible apply inv_ite)
    | split
    | dsimp -zeta only
    | lift_lets

theorem execCxlKeyProg_inv (port ld : Nat) (secured : Bool) (keySet : Nat) (s : State) {Q : Base} (hInv : Inv Q s) : OkNext Q (execCxlKeyProg port ld secured keySet s) := by
  unfold execCxlKeyProg
  repeat' first
    | with_reducible assumption
    | exact fun _ => ⟨id, id⟩
    | (intro _)
    | with_reducible apply ideMessage_inv
    | with_reducible apply emit_inv
    | with_reducible apply updPort_inv
    | with_reducible apply okNext_next
    | with_reducible apply okNext_fault
    | (simp -zeta only [inv_mk]; show Inv Q _)
    | dsimp -zeta only

theorem execCxlKSetGo_inv (port ld : Nat) (secured : Bool) (keySet : Nat) (s : State) {Q : Base} (hInv : Inv Q s) : OkNext Q (execCxlKSetGo port ld secured keySet s) := by
  unfold execCxlKSetGo
  repeat' first
    | with_reducible assumption
    | exact fun _ => ⟨id, id⟩
    | (intro _)
    | with_reducible apply ideMessage_inv
    | with_reducible apply emit_inv
    | with_reducible apply updPort_inv
    | with_reducible apply okNext_next
    | with_reducible apply okNext_fault
    | (simp -zeta only [inv_mk]; show Inv Q _)
    | split
    | dsimp -zeta only

theorem execCxlKSetStop_inv (port ld : Nat) (secured : Bool) (keySet : Nat) (s : State) {Q : Base} (hInv : Inv Q s) : OkNext Q (execCxlKSetStop port ld secured keySet s) := by
  unfold execCxlKSetStop
  repeat' first
    | with_reducible assumption
    | exact fun _ => ⟨id, id⟩
    | (intro _)
    | with_reducible apply ideMessage_inv
    | with_reducible apply emit_inv
    | with_reducible apply updPort_inv
    | with_reducible apply okNext_next
    | with_reducible apply okNext_fault
    | (simp -zeta only [inv_mk]; show Inv Q _)
    | split
    | dsimp -zeta only

theorem execCxlQuery_inv (port ld : Nat) (secured : Bool) (keySet : Nat) (s : State) {Q : Base} (hInv : Inv Q s) : OkNext Q (execCxlQuery port ld secured keySet s) := by
  unfold execCxlQuery
  repeat' first
    | with_reducible assumption
    | (intro _)
    | with_reducible apply ideMessage_inv
    | with_reducible apply emit_inv
    | with_reducible apply okNext_next
    | with_reducible apply okNext_fault
    | dsimp -zeta only

theorem execCxlGetkey_inv (port ld : Nat) (secured : Bool) (keySet : Nat) (s : State) {Q : Base} (hInv : Inv Q s) : OkNext Q (execCxlGetkey port ld secured keySet s) := by
  unfold execCxlGetkey
  repeat' first
    | with_reducible assumption
    | (intro _)
    | with_reducible apply ideMessage_inv
    | with_reducible apply emit_inv
    | with_reducible apply okNext_next
    | with_reducible apply okNext_fault
    | (simp -zeta only [inv_mk]; show Inv Q _)
    | dsimp -zeta only

theorem execLinkTrainingComplete_inv (port : Nat) (offer : Offer) (s : State) {Q : Base} (hInv : Inv Q s) : OkNext Q (execLinkTrainingComplete port offer s) := by
  unfold execLinkTrainingComplete
  repeat' first
    | with_reducible assumption
    | exact fun _ => ⟨id, id⟩
    | (intro x; refine inv_have (Q := Q) (s := x) ?_ ?_; rotate_left; clear_value x; rotate_left; unfold x)
    | (intro (x : Flt))
    | (intro (x : Flash))
    | (intro (x : Pwr))
    | (intro (x : Glb))
    | (intro x; clear_value x)
    | (intro _)
    | with_reducible apply logFault_inv
    | with_reducible apply updPort_inv
    | with_reducible apply updLd_inv
    | with_reducible apply sendHeldSnoops_inv
    | with_reducible apply okNext_next
    | with_reducible apply okNext_fault
    | (simp -zeta only [inv_mk]; show Inv Q _)
    | with_reducible apply inv_foldl
    | split
    | dsimp -zeta only
    | lift_lets

theorem execRecoveryEntry_inv (port : Nat) (s : State) {Q : Base} (hInv : Inv Q s) : OkNext Q (execRecoveryEntry port s) := by
  unfold execRecoveryEntry
  repeat' first
    | with_reducible assumption
    | with_reducible apply logFault_inv
    | with_reducible apply okNext_next
    | with_reducible apply okNext_fault
    | split

theorem execPciPmStateChange_inv (port ld : Nat) (d3hot : Bool) (s : State) {Q : Base} (hInv : Inv Q s) : OkNext Q (execPciPmStateChange port ld d3hot s) := by
  unfold execPciPmStateChange
  repeat' first
    | with_reducible assumption
    | with_reducible apply updLd_inv
    | with_reducible apply okNext_next
    | with_reducible apply okNext_fault
    | (simp -zeta only [inv_mk]; show Inv Q _)
    | split
    | dsimp -zeta only

theorem execDevloadSample_inv (port occupancy : Nat) (s : State) {Q : Base} (hInv : Inv Q s) : OkNext Q (execDevloadSample port occupancy s) := by
  unfold execDevloadSample
  repeat' first
    | with_reducible assumption
    | exact fun _ => ⟨id, id⟩
    | with_reducible apply updPort_inv
    | with_reducible apply okNext_next
    | with_reducible apply okNext_fault
    | (simp -zeta only [inv_mk]; show Inv Q _)
    | split
    | dsimp -zeta only

theorem updRun_inv (part run : Nat) (f : Run → Run) (s : State) {Q : Base} (hInv : Inv Q s) : Inv Q (updRun part run f s) := by
  unfold updRun
  repeat' first
    | with_reducible assumption
    | with_reducible apply updPart_inv
    | (simp -zeta only [inv_mk]; show Inv Q _)
    | dsimp -zeta only

theorem updObj_inv (part run key : Nat) (f : StashObj → StashObj) (s : State) {Q : Base} (hInv : Inv Q s) : Inv Q (updObj part run key f s) := by
  unfold updObj
  repeat' first
    | with_reducible assumption
    | with_reducible apply updRun_inv
    | (simp -zeta only [inv_mk]; show Inv Q _)
    | dsimp -zeta only

theorem touchTable_inv (part run off : Nat) (s : State) {Q : Base} (hInv : Inv Q s) : Inv Q (touchTable part run off s) := by
  unfold touchTable
  repeat' first
    | with_reducible assumption
    | with_reducible apply putBytes_inv

theorem touchRecord_inv (part run : Nat) (o : StashObj) (s : State) {Q : Base} (hInv : Inv Q s) : Inv Q (touchRecord part run o s) := by
  unfold touchRecord
  repeat' first
    | with_reducible assumption
    | with_reducible apply touchTable_inv

theorem chargeHomes_inv (parity : Bool) (n : Nat) (s : State) {Q : Base} (hInv : Inv Q s) : Inv Q (chargeHomes parity n s) := by
  unfold chargeHomes
  repeat' first
    | with_reducible assumption
    | (simp -zeta only [inv_mk]; show Inv Q _)
    | split

theorem releaseHomes_inv (parity : Bool) (n : Nat) (s : State) {Q : Base} (hInv : Inv Q s) : Inv Q (releaseHomes parity n s) := by
  unfold releaseHomes
  repeat' first
    | with_reducible assumption
    | (simp -zeta only [inv_mk]; show Inv Q _)
    | split

theorem dropObj_inv (part run key : Nat) (s : State) {Q : Base} (hInv : Inv Q s) : Inv Q (dropObj part run key s) := by
  unfold dropObj
  repeat' first
    | with_reducible assumption
    | (intro x; refine inv_have (Q := Q) (s := x) ?_ ?_; rotate_left; clear_value x; rotate_left; unfold x)
    | (intro (x : Flt))
    | (intro (x : Flash))
    | (intro (x : Pwr))
    | (intro (x : Glb))
    | (intro x; clear_value x)
    | (intro _)
    | with_reducible apply dropFrames_inv
    | with_reducible apply freeHomes_inv
    | with_reducible apply releaseHomes_inv
    | with_reducible apply touchRecord_inv
    | with_reducible apply releaseWrites_inv
    | with_reducible apply updRun_inv
    | split
    | dsimp -zeta only
    | lift_lets

theorem closeRunNow_inv (part run : Nat) (s : State) {Q : Base} (hInv : Inv Q s) : Inv Q (closeRunNow part run s) := by
  unfold closeRunNow
  repeat' first
    | with_reducible assumption
    | (intro x; refine inv_have (Q := Q) (s := x) ?_ ?_; rotate_left; clear_value x; rotate_left; unfold x)
    | (intro (x : Flt))
    | (intro (x : Flash))
    | (intro (x : Pwr))
    | (intro (x : Glb))
    | (intro x; clear_value x)
    | (intro _)
    | with_reducible apply dropObj_inv
    | with_reducible apply dropFrames_inv
    | with_reducible apply freeHomes_inv
    | with_reducible apply releaseAcct_inv
    | with_reducible apply releaseWrites_inv
    | with_reducible apply updPart_inv
    | (simp -zeta only [inv_mk]; show Inv Q _)
    | with_reducible apply inv_foldl
    | split
    | dsimp -zeta only
    | lift_lets

theorem execLoadPartition_inv (e : Env) (b : LoadBody) (s : State) {Q : Base} (hInv : Inv Q s) : OkNext Q (execLoadPartition e b s) := by
  unfold execLoadPartition
  repeat' first
    | with_reducible assumption
    | (intro _)
    | with_reducible apply mailbox_inv
    | with_reducible apply updPart_inv
    | with_reducible apply okNext_next
    | with_reducible apply okNext_fault
    | dsimp -zeta only

theorem execQueryPartition_inv (e : Env) (part : Nat) (s : State) {Q : Base} (hInv : Inv Q s) : OkNext Q (execQueryPartition e part s) := by
  unfold execQueryPartition
  repeat' first
    | with_reducible assumption
    | (intro _)
    | with_reducible apply mailbox_inv
    | with_reducible apply okNext_next
    | with_reducible apply okNext_fault
    | split
    | dsimp -zeta only

theorem execBindKvWindow_inv (e : Env) (part offset : Nat) (s : State) {Q : Base} (hInv : Inv Q s) : OkNext Q (execBindKvWindow e part offset s) := by
  unfold execBindKvWindow
  repeat' first
    | with_reducible assumption
    | (intro _)
    | with_reducible apply mailbox_inv
    | with_reducible apply updSeat_inv
    | with_reducible apply okNext_next
    | with_reducible apply okNext_fault
    | (simp -zeta only [inv_mk]; show Inv Q _)
    | with_reducible apply optInv_map
    | with_reducible apply optInv_bind
    | with_reducible apply inv_getD
    | dsimp -zeta only

theorem execUnbindKvWindow_inv (e : Env) (part seat : Nat) (s : State) {Q : Base} (hInv : Inv Q s) : OkNext Q (execUnbindKvWindow e part seat s) := by
  unfold execUnbindKvWindow
  repeat' first
    | with_reducible assumption
    | (intro _)
    | with_reducible apply mailbox_inv
    | with_reducible apply updSeat_inv
    | with_reducible apply okNext_next
    | with_reducible apply okNext_fault
    | (simp -zeta only [inv_mk]; show Inv Q _)
    | split
    | dsimp -zeta only

theorem releasePartFrames_inv (part : Nat) (s : State) {Q : Base} (hInv : Inv Q s) : Inv Q (releasePartFrames part s) := by
  unfold releasePartFrames
  repeat' first
    | with_reducible assumption
    | (intro x; refine inv_have (Q := Q) (s := x) ?_ ?_; rotate_left; clear_value x; rotate_left; unfold x)
    | (intro (x : Flt))
    | (intro (x : Flash))
    | (intro (x : Pwr))
    | (intro (x : Glb))
    | (intro x; clear_value x)
    | (intro _)
    | with_reducible apply updPart_inv
    | (simp -zeta only [inv_mk]; show Inv Q _)
    | with_reducible apply inv_foldl
    | dsimp -zeta only
    | lift_lets

theorem takePartFrames_inv (part : Nat) (s : State) {Q : Base} (hInv : Inv Q s) : Inv Q (takePartFrames part s) := by
  unfold takePartFrames
  repeat' first
    | with_reducible assumption
    | (intro x; refine inv_have (Q := Q) (s := x) ?_ ?_; rotate_left; clear_value x; rotate_left; unfold x)
    | (intro (x : Flt))
    | (intro (x : Flash))
    | (intro (x : Pwr))
    | (intro (x : Glb))
    | (intro x; clear_value x)
    | (intro _)
    | with_reducible apply updPart_inv
    | (simp -zeta only [inv_mk]; show Inv Q _)
    | with_reducible apply inv_foldl
    | dsimp -zeta only
    | lift_lets

theorem freeImageMeta_inv (m : Nat) (s : State) {Q : Base} (hInv : Inv Q s) : Inv Q (freeImageMeta m s) := by
  unfold freeImageMeta
  repeat' first
    | with_reducible assumption
    | with_reducible apply freeHomes_inv
    | split
    | dsimp -zeta only

theorem writeImage_inv (part : Nat) (owner : Option Nat) (s : State) {Q : Base} (hInv : Inv Q s) : OptInv Q (writeImage part owner s) := by
  unfold writeImage
  exact optInv_map (programMetas_inv _ _ (freeImageMeta_inv _ _ hInv)) fun t ht => ht

theorem homesToImage_inv (part m : Nat) (x0 : State) {Q : Base} (hInv : Inv Q x0) : Inv Q (homesToImage part m x0) := by
  unfold homesToImage
  repeat' first
    | with_reducible assumption
    | with_reducible apply renameHomes_inv
    | split
    | dsimp -zeta only

theorem homesFromImage_inv (part m : Nat) (x0 : State) {Q : Base} (hInv : Inv Q x0) : Inv Q (homesFromImage part m x0) := by
  unfold homesFromImage
  repeat' first
    | with_reducible assumption
    | with_reducible apply renameHomes_inv
    | split
    | dsimp -zeta only

theorem execListImages_inv (e : Env) (start : Nat) (s : State) {Q : Base} (hInv : Inv Q s) : OkNext Q (execListImages e start s) := by
  unfold execListImages
  repeat' first
    | with_reducible assumption
    | (intro _)
    | with_reducible apply mailbox_inv
    | with_reducible apply okNext_next
    | with_reducible apply okNext_fault
    | with_reducible apply optInv_map
    | with_reducible apply optInv_bind
    | with_reducible apply inv_getD
    | dsimp -zeta only

theorem deleteImage_inv (m : Nat) (s : State) {Q : Base} (hInv : Inv Q s) : Inv Q (deleteImage m s) := by
  unfold deleteImage
  repeat' first
    | with_reducible assumption
    | (intro x; refine inv_have (Q := Q) (s := x) ?_ ?_; rotate_left; clear_value x; rotate_left; unfold x)
    | (intro (x : Flt))
    | (intro (x : Flash))
    | (intro (x : Pwr))
    | (intro (x : Glb))
    | (intro x; clear_value x)
    | (intro _)
    | with_reducible apply freeHomes_inv
    | (simp -zeta only [inv_mk]; show Inv Q _)
    | split
    | dsimp -zeta only
    | lift_lets

theorem execDeleteImage_inv (e : Env) (modelId : Nat) (s : State) {Q : Base} (hInv : Inv Q s) : OkNext Q (execDeleteImage e modelId s) := by
  unfold execDeleteImage
  repeat' first
    | with_reducible assumption
    | (intro _)
    | with_reducible apply mailbox_inv
    | with_reducible apply deleteImage_inv
    | with_reducible apply okNext_next
    | with_reducible apply okNext_fault
    | dsimp -zeta only

theorem tryStartSwapOut_inv (part : Nat) (s : State) {Q : Base} (hInv : Inv Q s) : Inv Q (tryStartSwapOut part s) := by
  unfold tryStartSwapOut
  repeat' first
    | with_reducible assumption
    | (intro x; refine inv_have (Q := Q) (s := x) ?_ ?_; rotate_left; clear_value x; rotate_left; unfold x)
    | (intro (x : Flt))
    | (intro (x : Flash))
    | (intro (x : Pwr))
    | (intro (x : Glb))
    | (intro x; clear_value x)
    | (intro _)
    | with_reducible apply updPart_inv
    | (simp -zeta only [inv_mk]; show Inv Q _)
    | with_reducible apply optInv_map
    | with_reducible apply optInv_bind
    | with_reducible apply inv_getD
    | split
    | dsimp -zeta only
    | lift_lets

theorem swapOutStart_inv (e : Env) (part : Nat) (release : Bool) (s : State) {Q : Base} (hInv : Inv Q s) : Inv Q (swapOutStart e part release s).1 := by
  unfold swapOutStart
  repeat' first
    | with_reducible assumption
    | (intro x; refine inv_have (Q := Q) (s := x) ?_ ?_; rotate_left; clear_value x; rotate_left; unfold x)
    | (intro (x : Flt))
    | (intro (x : Flash))
    | (intro (x : Pwr))
    | (intro (x : Glb))
    | (intro x; clear_value x)
    | (intro _)
    | with_reducible apply startLong_inv
    | with_reducible apply tryStartSwapOut_inv
    | with_reducible apply updPart_inv
    | (simp -zeta only [inv_mk]; show Inv Q _)
    | (with_reducible refine inv_fst ‹_› ?_)
    | (with_reducible refine inv_snd ‹_› ?_)
    | split
    | dsimp -zeta only
    | lift_lets

theorem execSwapOutPartition_inv (e : Env) (part : Nat) (release : Bool) (s : State) {Q : Base} (hInv : Inv Q s) : OkNext Q (execSwapOutPartition e part release s) := by
  unfold execSwapOutPartition
  repeat' first
    | with_reducible assumption
    | (intro _)
    | with_reducible apply mailbox_inv
    | with_reducible apply swapOutStart_inv
    | with_reducible apply okNext_next
    | with_reducible apply okNext_fault

theorem spillAll_inv (part : Nat) (s : State) {Q : Base} (hInv : Inv Q s) : Inv Q (spillAll part s) := by
  unfold spillAll
  repeat' first
    | with_reducible assumption
    | with_reducible apply updPart_inv
    | (simp -zeta only [inv_mk]; show Inv Q _)
    | with_reducible apply optInv_map
    | with_reducible apply optInv_bind
    | with_reducible apply inv_getD
    | dsimp -zeta only

theorem swapOutData_inv (w : Swap) (s : State) {Q : Base} (hInv : Inv Q s) : OptInv Q (swapOutData w s) := by
  unfold swapOutData
  exact optInv_map (optInv_bind (writeBackAll_inv _ _ hInv) fun t ht => writeImage_inv _ _ _ ht) fun t ht =>
    releasePartFrames_inv _ _ (forgetFrames_inv _ _ ht)

theorem swapOutEnd_inv (w : Swap) (s : State) {Q : Base} (hInv : Inv Q s) : OptInv Q (swapOutEnd w s) := by
  unfold swapOutEnd
  repeat' first
    | with_reducible assumption
    | (intro x; refine inv_have (Q := Q) (s := x) ?_ ?_; rotate_left; clear_value x; rotate_left; unfold x)
    | (intro (x : Flt))
    | (intro (x : Flash))
    | (intro (x : Pwr))
    | (intro (x : Glb))
    | (intro x; clear_value x)
    | (intro _)
    | with_reducible apply swapOutData_inv
    | with_reducible apply homesToImage_inv
    | with_reducible apply updPart_inv
    | with_reducible apply spillAll_inv
    | with_reducible apply releaseWrites_inv
    | with_reducible apply finishOp_inv
    | with_reducible apply optInv_some
    | with_reducible apply optInv_none
    | (simp -zeta only [inv_mk]; show Inv Q _)
    | (with_reducible refine inv_opt ‹_› ?_)
    | with_reducible apply optInv_map
    | with_reducible apply optInv_bind
    | with_reducible apply inv_getD
    | split
    | dsimp -zeta only
    | lift_lets

theorem execSwapOutComplete_inv (s : State) {Q : Base} (hInv : Inv Q s) : OkNext Q (execSwapOutComplete s) := by
  unfold execSwapOutComplete
  repeat' first
    | with_reducible assumption
    | with_reducible apply swapOutEnd_inv
    | with_reducible apply okNext_next
    | with_reducible apply okNext_fault
    | (with_reducible refine inv_opt ‹_› ?_)
    | with_reducible apply optInv_map
    | with_reducible apply optInv_bind
    | with_reducible apply inv_getD
    | split

theorem placeImage_inv (i : Image) (part : Nat) (s : State) {Q : Base} (hInv : Inv Q s) : Inv Q (placeImage i part s) := by
  unfold placeImage
  repeat' first
    | with_reducible assumption
    | with_reducible apply updPart_inv
    | (simp -zeta only [inv_mk]; show Inv Q _)
    | split
    | dsimp -zeta only

theorem swapInStart_inv (e : Env) (modelId part : Nat) (s : State) {Q : Base} (hInv : Inv Q s) : Inv Q (swapInStart e modelId part s).1 := by
  unfold swapInStart
  repeat' first
    | with_reducible assumption
    | (intro x; refine inv_have (Q := Q) (s := x) ?_ ?_; rotate_left; clear_value x; rotate_left; unfold x)
    | (intro (x : Flt))
    | (intro (x : Flash))
    | (intro (x : Pwr))
    | (intro (x : Glb))
    | (intro x; clear_value x)
    | (intro _)
    | with_reducible apply startLong_inv
    | with_reducible apply placeImage_inv
    | with_reducible apply takePartFrames_inv
    | with_reducible apply homesFromImage_inv
    | with_reducible apply updPart_inv
    | (simp -zeta only [inv_mk]; show Inv Q _)
    | (with_reducible refine inv_fst ‹_› ?_)
    | (with_reducible refine inv_snd ‹_› ?_)
    | split
    | dsimp -zeta only
    | lift_lets

theorem execSwapInPartition_inv (e : Env) (modelId part : Nat) (s : State) {Q : Base} (hInv : Inv Q s) : OkNext Q (execSwapInPartition e modelId part s) := by
  unfold execSwapInPartition
  repeat' first
    | with_reducible assumption
    | (intro _)
    | with_reducible apply mailbox_inv
    | with_reducible apply swapInStart_inv
    | with_reducible apply okNext_next
    | with_reducible apply okNext_fault

theorem dropNode_inv (n : Node) (s : State) {Q : Base} (hInv : Inv Q s) : Inv Q (dropNode n s) := by
  unfold dropNode
  repeat' first
    | with_reducible assumption
    | with_reducible apply releaseSlot_inv
    | (with_reducible refine inv_fst ‹_› ?_)
    | (with_reducible refine inv_snd ‹_› ?_)
    | split

theorem placeNode_inv (part : Nat) (x : State × List (Nat × Nat) × List Node) (n : Node) {Q : Base} (hInv : Inv Q x.1) : Inv Q (placeNode part x n).1 := by
  obtain ⟨s, m, gone⟩ := x
  have hw := takeWay_inv n.digest s hInv
  unfold placeNode
  dsimp only
  split
  · exact hInv
  · split
    · rename_i e
      rw [e] at hw
      exact hw
    · rename_i e
      rw [e] at hw
      dsimp only at hw ⊢
      split
      · exact updPart_inv _ _ _ hw
      · exact updNode_inv _ _ _ hw

theorem placeNodes_inv (i : Image) (part : Nat) (s : State) {Q : Base} (hInv : Inv Q s) : Inv Q (placeNodes i part s) := by
  have key : ∀ (l : List Node) (a : State × List (Nat × Nat) × List Node), Inv Q a.1 → Inv Q (l.foldl (placeNode part) a).1 := by
    intro l
    induction l with
    | nil => exact fun _ h => h
    | cons n l ih => exact fun a h => ih _ (placeNode_inv _ _ _ h)
  unfold placeNodes
  have h1 := key (i.nodes.foldl (fun l n => insertByLen n l) []) (s, [], []) hInv
  split
  rename_i e
  rw [e] at h1
  exact inv_foldl (fun _ _ h => dropNode_inv _ _ h) h1

theorem reviveNodes_inv (part : Nat) (s : State) {Q : Base} (hInv : Inv Q s) : Inv Q (reviveNodes part s) := by
  unfold reviveNodes
  repeat' first
    | with_reducible assumption
    | (intro x; refine inv_have (Q := Q) (s := x) ?_ ?_; rotate_left; clear_value x; rotate_left; unfold x)
    | (intro (x : Flt))
    | (intro (x : Flash))
    | (intro (x : Pwr))
    | (intro (x : Glb))
    | (intro x; clear_value x)
    | (intro _)
    | with_reducible apply updPart_inv
    | (simp -zeta only [inv_mk]; show Inv Q _)
    | with_reducible apply optInv_map
    | with_reducible apply optInv_bind
    | with_reducible apply inv_getD
    | split
    | dsimp -zeta only
    | lift_lets

theorem swapInEnd_inv (w : Swap) (s : State) {Q : Base} (hInv : Inv Q s) : Inv Q (swapInEnd w s) := by
  unfold swapInEnd
  repeat' first
    | with_reducible assumption
    | (intro x; refine inv_have (Q := Q) (s := x) ?_ ?_; rotate_left; clear_value x; rotate_left; unfold x)
    | (intro (x : Flt))
    | (intro (x : Flash))
    | (intro (x : Pwr))
    | (intro (x : Glb))
    | (intro x; clear_value x)
    | (intro _)
    | with_reducible apply readHomes_inv
    | with_reducible apply zeroSlots_inv
    | with_reducible apply placeNodes_inv
    | with_reducible apply reviveNodes_inv
    | with_reducible apply updPart_inv
    | with_reducible apply finishOp_inv
    | (simp -zeta only [inv_mk]; show Inv Q _)
    | split
    | dsimp -zeta only
    | lift_lets

theorem execSwapInComplete_inv (s : State) {Q : Base} (hInv : Inv Q s) : OkNext Q (execSwapInComplete s) := by
  unfold execSwapInComplete
  repeat' first
    | with_reducible assumption
    | with_reducible apply swapInEnd_inv
    | with_reducible apply okNext_next
    | with_reducible apply okNext_fault
    | split

theorem unloadNow_inv (part : Nat) (keep : List (Nat × Nat)) (s : State) {Q : Base} (hInv : Inv Q s) : Inv Q (unloadNow part keep s) := by
  unfold unloadNow
  repeat' first
    | with_reducible assumption
    | (intro x; refine inv_have (Q := Q) (s := x) ?_ ?_; rotate_left; clear_value x; rotate_left; unfold x)
    | (intro (x : Flt))
    | (intro (x : Flash))
    | (intro (x : Pwr))
    | (intro (x : Glb))
    | (intro x; clear_value x)
    | (intro _)
    | with_reducible apply freeRequest_inv
    | with_reducible apply freePark_inv
    | with_reducible apply freeRing_inv
    | with_reducible apply closeRunNow_inv
    | with_reducible apply releaseAcct_inv
    | with_reducible apply releasePartFrames_inv
    | with_reducible apply dropFrames_inv
    | with_reducible apply freeHomes_inv
    | with_reducible apply releaseWrites_inv
    | (simp -zeta only [inv_mk]; show Inv Q _)
    | with_reducible apply optInv_map
    | with_reducible apply optInv_bind
    | with_reducible apply inv_getD
    | with_reducible apply inv_foldl
    | split
    | dsimp -zeta only
    | lift_lets

theorem emptyPart_inv (part : Nat) (s : State) {Q : Base} (hInv : Inv Q s) : Inv Q (emptyPart part s) := by
  unfold emptyPart
  repeat' first
    | with_reducible assumption
    | with_reducible apply updPart_inv
    | dsimp -zeta only

theorem unloadStart_inv (e : Env) (part : Nat) (s : State) {Q : Base} (hInv : Inv Q s) : Inv Q (unloadStart e part s).1 := by
  unfold unloadStart
  repeat' first
    | with_reducible assumption
    | (intro x; refine inv_have (Q := Q) (s := x) ?_ ?_; rotate_left; clear_value x; rotate_left; unfold x)
    | (intro (x : Flt))
    | (intro (x : Flash))
    | (intro (x : Pwr))
    | (intro (x : Glb))
    | (intro x; clear_value x)
    | (intro _)
    | with_reducible apply startLong_inv
    | with_reducible apply updPart_inv
    | with_reducible apply finishOp_inv
    | with_reducible apply emptyPart_inv
    | with_reducible apply unloadNow_inv
    | (simp -zeta only [inv_mk]; show Inv Q _)
    | (with_reducible refine inv_fst ‹_› ?_)
    | (with_reducible refine inv_snd ‹_› ?_)
    | split
    | dsimp -zeta only
    | lift_lets

theorem execUnloadPartition_inv (e : Env) (part : Nat) (force : Bool) (s : State) {Q : Base} (hInv : Inv Q s) : OkNext Q (execUnloadPartition e part force s) := by
  unfold execUnloadPartition
  repeat' first
    | with_reducible assumption
    | (intro _)
    | with_reducible apply mailbox_inv
    | with_reducible apply unloadStart_inv
    | with_reducible apply okNext_next
    | with_reducible apply okNext_fault

theorem execPrefixOperationComplete_inv (op : Nat) (s : State) {Q : Base} (hInv : Inv Q s) : OkNext Q (execPrefixOperationComplete op s) := by
  unfold execPrefixOperationComplete
  repeat' first
    | with_reducible assumption
    | (intro x; refine inv_have (Q := Q) (s := x) ?_ ?_; rotate_left; clear_value x; rotate_left; unfold x)
    | (intro (x : Flt))
    | (intro (x : Flash))
    | (intro (x : Pwr))
    | (intro (x : Glb))
    | (intro x; clear_value x)
    | (intro _)
    | with_reducible apply finishDelta_inv
    | with_reducible apply deltaRounds_inv
    | with_reducible apply tryStartSwapOut_inv
    | with_reducible apply okNext_next
    | with_reducible apply okNext_fault
    | split
    | lift_lets

theorem updItem_inv (p i : Nat) (f : Item → Item) (s : State) {Q : Base} (hInv : Inv Q s) : Inv Q (updItem p i f s) := by
  unfold updItem
  repeat' first
    | with_reducible assumption
    | with_reducible apply updPart_inv
    | (simp -zeta only [inv_mk]; show Inv Q _)
    | split
    | dsimp -zeta only

theorem freeHalves_inv (p i : Nat) (s : State) {Q : Base} (hInv : Inv Q s) : Inv Q (freeHalves p i s) := by
  unfold freeHalves
  repeat' first
    | with_reducible assumption
    | (intro x; refine inv_have (Q := Q) (s := x) ?_ ?_; rotate_left; clear_value x; rotate_left; unfold x)
    | (intro (x : Flt))
    | (intro (x : Flash))
    | (intro (x : Pwr))
    | (intro (x : Glb))
    | (intro x; clear_value x)
    | (intro _)
    | (simp -zeta only [inv_mk]; show Inv Q _)
    | split
    | dsimp -zeta only
    | lift_lets

theorem leaveItem_inv (p i : Nat) (s : State) {Q : Base} (hInv : Inv Q s) : Inv Q (leaveItem p i s) := by
  unfold leaveItem
  repeat' first
    | with_reducible assumption
    | (intro x; refine inv_have (Q := Q) (s := x) ?_ ?_; rotate_left; clear_value x; rotate_left; unfold x)
    | (intro (x : Flt))
    | (intro (x : Flash))
    | (intro (x : Pwr))
    | (intro (x : Glb))
    | (intro x; clear_value x)
    | (intro _)
    | with_reducible apply freeHalves_inv
    | with_reducible apply updItem_inv
    | (simp -zeta only [inv_mk]; show Inv Q _)
    | split
    | dsimp -zeta only
    | lift_lets

theorem endItem_inv (p i : Nat) (st : Status) (s : State) {Q : Base} (hInv : Inv Q s) : Inv Q (endItem p i st s) := by
  unfold endItem
  repeat' first
    | with_reducible assumption
    | (intro x; refine inv_have (Q := Q) (s := x) ?_ ?_; rotate_left; clear_value x; rotate_left; unfold x)
    | (intro (x : Flt))
    | (intro (x : Flash))
    | (intro (x : Pwr))
    | (intro (x : Glb))
    | (intro x; clear_value x)
    | (intro _)
    | with_reducible apply askComp_inv
    | with_reducible apply updItem_inv
    | (simp -zeta only [inv_mk]; show Inv Q _)
    | dsimp -zeta only
    | lift_lets

theorem writeEnd_inv (p i : Nat) (it : Item) (st : Status) (s : State) {Q : Base} (hInv : Inv Q s) : Inv Q (writeEnd p i it st s) := by
  unfold writeEnd
  repeat' first
    | with_reducible assumption
    | (intro x; refine inv_have (Q := Q) (s := x) ?_ ?_; rotate_left; clear_value x; rotate_left; unfold x)
    | (intro (x : Flt))
    | (intro (x : Flash))
    | (intro (x : Pwr))
    | (intro (x : Glb))
    | (intro x; clear_value x)
    | (intro _)
    | with_reducible apply leaveItem_inv
    | with_reducible apply complete_inv
    | with_reducible apply optInv_map
    | with_reducible apply optInv_bind
    | with_reducible apply inv_getD
    | lift_lets

theorem expireItem_inv (p i : Nat) (s : State) {Q : Base} (hInv : Inv Q s) : Inv Q (expireItem p i s) := by
  unfold expireItem
  repeat' first
    | with_reducible assumption
    | (intro x; refine inv_have (Q := Q) (s := x) ?_ ?_; rotate_left; clear_value x; rotate_left; unfold x)
    | (intro (x : Flt))
    | (intro (x : Flash))
    | (intro (x : Pwr))
    | (intro (x : Glb))
    | (intro x; clear_value x)
    | (intro _)
    | with_reducible apply postComp_inv
    | with_reducible apply updItem_inv
    | with_reducible apply updPart_inv
    | with_reducible apply leaveItem_inv
    | (simp -zeta only [inv_mk]; show Inv Q _)
    | split
    | dsimp -zeta only
    | lift_lets

theorem readerFault_inv (s : State) (p h event : Nat) (st : Status) {Q : Base} (hInv : Inv Q s) : Inv Q (readerFault s p h event st) := by
  unfold readerFault
  repeat' first
    | with_reducible assumption
    | (intro x; refine inv_have (Q := Q) (s := x) ?_ ?_; rotate_left; clear_value x; rotate_left; unfold x)
    | (intro (x : Flt))
    | (intro (x : Flash))
    | (intro (x : Pwr))
    | (intro (x : Glb))
    | (intro x; clear_value x)
    | (intro _)
    | with_reducible apply logFault_inv
    | lift_lets

theorem enterItem_inv (p i : Nat) (s : State) {Q : Base} (hInv : Inv Q s) : Inv Q (enterItem p i s) := by
  unfold enterItem
  repeat' first
    | with_reducible assumption
    | (intro x; refine inv_have (Q := Q) (s := x) ?_ ?_; rotate_left; clear_value x; rotate_left; unfold x)
    | (intro (x : Flt))
    | (intro (x : Flash))
    | (intro (x : Pwr))
    | (intro (x : Glb))
    | (intro x; clear_value x)
    | (intro _)
    | with_reducible apply freeHalves_inv
    | with_reducible apply updItem_inv
    | (simp -zeta only [inv_mk]; show Inv Q _)
    | with_reducible apply optInv_map
    | with_reducible apply optInv_bind
    | with_reducible apply inv_getD
    | split
    | dsimp -zeta only
    | lift_lets

theorem readQuery_inv (p i : Nat) (s : State) {Q : Base} (hInv : Inv Q s) : Inv Q (readQuery p i s) := by
  unfold readQuery
  repeat' first
    | with_reducible assumption
    | (intro x; refine inv_have (Q := Q) (s := x) ?_ ?_; rotate_left; clear_value x; rotate_left; unfold x)
    | (intro (x : Flt))
    | (intro (x : Flash))
    | (intro (x : Pwr))
    | (intro (x : Glb))
    | (intro x; clear_value x)
    | (intro _)
    | with_reducible apply updItem_inv
    | (simp -zeta only [inv_mk]; show Inv Q _)
    | with_reducible apply optInv_map
    | with_reducible apply optInv_bind
    | with_reducible apply inv_getD
    | (with_reducible refine inv_fst ‹_› ?_)
    | (with_reducible refine inv_snd ‹_› ?_)
    | split
    | dsimp -zeta only
    | lift_lets

theorem settleItem_inv (p i : Nat) (s : State) {Q : Base} (hInv : Inv Q s) : OptInv Q (settleItem p i s) := by
  unfold settleItem
  repeat' first
    | with_reducible assumption
    | (intro x; refine inv_have (Q := Q) (s := x) ?_ ?_; rotate_left; clear_value x; rotate_left; unfold x)
    | (intro (x : Flt))
    | (intro (x : Flash))
    | (intro (x : Pwr))
    | (intro (x : Glb))
    | (intro x; clear_value x)
    | (intro _)
    | with_reducible apply writeEnd_inv
    | with_reducible apply expireItem_inv
    | with_reducible apply readerFault_inv
    | with_reducible apply endItem_inv
    | with_reducible apply updItem_inv
    | with_reducible apply readQuery_inv
    | with_reducible apply optInv_some
    | with_reducible apply optInv_none
    | (simp -zeta only [inv_mk]; show Inv Q _)
    | with_reducible apply optInv_map
    | with_reducible apply optInv_bind
    | with_reducible apply inv_getD
    | split
    | dsimp -zeta only
    | lift_lets

theorem beginStaging_inv (p i : Nat) (s : State) {Q : Base} (hInv : Inv Q s) : Inv Q (beginStaging p i s) := by
  unfold beginStaging
  repeat' first
    | with_reducible assumption
    | (intro x; refine inv_have (Q := Q) (s := x) ?_ ?_; rotate_left; clear_value x; rotate_left; unfold x)
    | (intro (x : Flt))
    | (intro (x : Flash))
    | (intro (x : Pwr))
    | (intro (x : Glb))
    | (intro x; clear_value x)
    | (intro _)
    | with_reducible apply readQuery_inv
    | with_reducible apply updItem_inv
    | (simp -zeta only [inv_mk]; show Inv Q _)
    | with_reducible apply optInv_map
    | with_reducible apply optInv_bind
    | with_reducible apply inv_getD
    | split
    | dsimp -zeta only
    | lift_lets

theorem stageNext_inv (s : State) {Q : Base} (hInv : Inv Q s) : OptInv Q (stageNext s) := by
  unfold stageNext
  repeat' first
    | with_reducible assumption
    | with_reducible apply beginStaging_inv
    | with_reducible apply optInv_some
    | with_reducible apply optInv_none
    | (simp -zeta only [inv_mk]; show Inv Q _)
    | (with_reducible refine inv_fst ‹_› ?_)
    | (with_reducible refine inv_snd ‹_› ?_)
    | split

theorem serveOnce_inv (s : State) {Q : Base} (hInv : Inv Q s) : OptInv Q (serveOnce s) := by
  unfold serveOnce
  split
  · cases (s.svc.nextUp.or (chooseItem s none)) with
    | none => trivial
    | some x => exact enterItem_inv _ _ _ hInv
  · rename_i p i _
    have h1 := settleItem_inv p i s hInv
    cases e : settleItem p i s with
    | none => exact stageNext_inv s hInv
    | some t => rw [e] at h1; exact h1

theorem abandonDraws_inv (p : Nat) (s : State) {Q : Base} (hInv : Inv Q s) : Inv Q (abandonDraws p s) := by
  unfold abandonDraws
  repeat' first
    | with_reducible assumption
    | (intro x; refine inv_have (Q := Q) (s := x) ?_ ?_; rotate_left; clear_value x; rotate_left; unfold x)
    | (intro (x : Flt))
    | (intro (x : Flash))
    | (intro (x : Pwr))
    | (intro (x : Glb))
    | (intro x; clear_value x)
    | (intro _)
    | with_reducible apply updKept_inv
    | with_reducible apply postComp_inv
    | (simp -zeta only [inv_mk]; show Inv Q _)
    | with_reducible apply inv_foldl
    | split
    | dsimp -zeta only
    | lift_lets

theorem serveAll_inv (x0 : Nat) (x1 : State) {Q : Base} (hInv : Inv Q x1) : Inv Q (serveAll x0 x1) := by
  induction x0 generalizing x1 with
  | zero => exact hInv
  | succ n ih =>
    unfold serveAll
    split
    · exact ih _ (inv_opt ‹_› (serveOnce_inv _ hInv))
    · exact hInv

theorem pump_inv (s : State) {Q : Base} (hInv : Inv Q s) : Inv Q (pump s) := by
  unfold pump
  repeat' first
    | with_reducible assumption
    | (intro x; refine inv_have (Q := Q) (s := x) ?_ ?_; rotate_left; clear_value x; rotate_left; unfold x)
    | (intro (x : Flt))
    | (intro (x : Flash))
    | (intro (x : Pwr))
    | (intro (x : Glb))
    | (intro x; clear_value x)
    | (intro _)
    | with_reducible apply serveAll_inv
    | with_reducible apply abandonDraws_inv
    | with_reducible apply inv_foldl
    | dsimp -zeta only
    | lift_lets

theorem execItemExpiry_inv (s : State) {Q : Base} (hInv : Inv Q s) : OkNext Q (execItemExpiry s) := by
  unfold execItemExpiry
  repeat' first
    | with_reducible assumption
    | (intro x; refine inv_have (Q := Q) (s := x) ?_ ?_; rotate_left; clear_value x; rotate_left; unfold x)
    | (intro (x : Flt))
    | (intro (x : Flash))
    | (intro (x : Pwr))
    | (intro (x : Glb))
    | (intro x; clear_value x)
    | (intro _)
    | with_reducible apply pump_inv
    | with_reducible apply expireItem_inv
    | with_reducible apply okNext_next
    | with_reducible apply okNext_fault
    | split
    | lift_lets

theorem execStagingComplete_inv (s : State) {Q : Base} (hInv : Inv Q s) : OkNext Q (execStagingComplete s) := by
  unfold execStagingComplete
  repeat' first
    | with_reducible assumption
    | (intro x; refine inv_have (Q := Q) (s := x) ?_ ?_; rotate_left; clear_value x; rotate_left; unfold x)
    | (intro (x : Flt))
    | (intro (x : Flash))
    | (intro (x : Pwr))
    | (intro (x : Glb))
    | (intro x; clear_value x)
    | (intro _)
    | with_reducible apply updItem_inv
    | with_reducible apply pump_inv
    | with_reducible apply okNext_next
    | with_reducible apply okNext_fault
    | (simp -zeta only [inv_mk]; show Inv Q _)
    | split
    | dsimp -zeta only
    | lift_lets

theorem sendRecord_inv (p i port addr : Nat) (data : List Byte) (s : State) {Q : Base} (hInv : Inv Q s) : Inv Q (sendRecord p i port addr data s) := by
  unfold sendRecord
  repeat' first
    | with_reducible assumption
    | (intro x; refine inv_have (Q := Q) (s := x) ?_ ?_; rotate_left; clear_value x; rotate_left; unfold x)
    | (intro (x : Flt))
    | (intro (x : Flash))
    | (intro (x : Pwr))
    | (intro (x : Glb))
    | (intro x; clear_value x)
    | (intro _)
    | with_reducible apply leaveItem_inv
    | with_reducible apply releaseSpace_inv
    | with_reducible apply emit_inv
    | lift_lets

theorem writeResult_inv (p i : Nat) (it : Item) (s : State) {Q : Base} (hInv : Inv Q s) : Inv Q (writeResult p i it s) := by
  unfold writeResult
  repeat' first
    | with_reducible assumption
    | (intro x; refine inv_have (Q := Q) (s := x) ?_ ?_; rotate_left; clear_value x; rotate_left; unfold x)
    | (intro (x : Flt))
    | (intro (x : Flash))
    | (intro (x : Pwr))
    | (intro (x : Glb))
    | (intro x; clear_value x)
    | (intro _)
    | with_reducible apply readerFault_inv
    | with_reducible apply endItem_inv
    | with_reducible apply peerWrites_inv
    | with_reducible apply sendRecord_inv
    | with_reducible apply updItem_inv
    | with_reducible apply flushReads_inv
    | (simp -zeta only [inv_mk]; show Inv Q _)
    | with_reducible apply optInv_map
    | with_reducible apply optInv_bind
    | with_reducible apply inv_getD
    | split
    | dsimp -zeta only
    | lift_lets

theorem endFlush_inv (s : State) {Q : Base} (hInv : Inv Q s) : Inv Q (endFlush s) := by
  unfold endFlush
  repeat' first
    | with_reducible assumption
    | (intro x; refine inv_have (Q := Q) (s := x) ?_ ?_; rotate_left; clear_value x; rotate_left; unfold x)
    | (intro (x : Flt))
    | (intro (x : Flash))
    | (intro (x : Pwr))
    | (intro (x : Glb))
    | (intro x; clear_value x)
    | (intro _)
    | with_reducible apply sendRecord_inv
    | with_reducible apply leaveItem_inv
    | with_reducible apply releaseSpace_inv
    | split
    | lift_lets

theorem freePass_inv (p i k : Nat) (s : State) {Q : Base} (hInv : Inv Q s) : Inv Q (freePass p i k s) := by
  unfold freePass
  repeat' first
    | with_reducible assumption
    | (intro x; refine inv_have (Q := Q) (s := x) ?_ ?_; rotate_left; clear_value x; rotate_left; unfold x)
    | (intro (x : Flt))
    | (intro (x : Flash))
    | (intro (x : Pwr))
    | (intro (x : Glb))
    | (intro x; clear_value x)
    | (intro _)
    | (simp -zeta only [inv_mk]; show Inv Q _)
    | split
    | dsimp -zeta only
    | lift_lets

theorem execItemComputeComplete_inv (s : State) {Q : Base} (hInv : Inv Q s) : OkNext Q (execItemComputeComplete s) := by
  unfold execItemComputeComplete
  repeat' first
    | with_reducible assumption
    | (intro x; refine inv_have (Q := Q) (s := x) ?_ ?_; rotate_left; clear_value x; rotate_left; unfold x)
    | (intro (x : Flt))
    | (intro (x : Flash))
    | (intro (x : Pwr))
    | (intro (x : Glb))
    | (intro x; clear_value x)
    | (intro _)
    | with_reducible apply updItem_inv
    | with_reducible apply freePass_inv
    | with_reducible apply pump_inv
    | with_reducible apply writeResult_inv
    | with_reducible apply okNext_next
    | with_reducible apply okNext_fault
    | (simp -zeta only [inv_mk]; show Inv Q _)
    | split
    | dsimp -zeta only
    | lift_lets

theorem pushSlices_inv (w : Window) (it : Item) (p : Nat) (s : State) {Q : Base} (hInv : Inv Q s) : Inv Q (pushSlices w it p s) := by
  unfold pushSlices
  repeat' first
    | with_reducible assumption
    | (intro x; refine inv_have (Q := Q) (s := x) ?_ ?_; rotate_left; clear_value x; rotate_left; unfold x)
    | (intro (x : Flt))
    | (intro (x : Flash))
    | (intro (x : Pwr))
    | (intro (x : Glb))
    | (intro x; clear_value x)
    | (intro _)
    | with_reducible apply flushReads_inv
    | with_reducible apply peerWritesOn_inv
    | with_reducible apply optInv_map
    | with_reducible apply optInv_bind
    | with_reducible apply inv_getD
    | split
    | dsimp -zeta only
    | lift_lets

theorem execDeliverPushComplete_inv (s : State) {Q : Base} (hInv : Inv Q s) : OkNext Q (execDeliverPushComplete s) := by
  unfold execDeliverPushComplete
  repeat' first
    | with_reducible assumption
    | (intro x; refine inv_have (Q := Q) (s := x) ?_ ?_; rotate_left; clear_value x; rotate_left; unfold x)
    | (intro (x : Flt))
    | (intro (x : Flash))
    | (intro (x : Pwr))
    | (intro (x : Glb))
    | (intro x; clear_value x)
    | (intro _)
    | with_reducible apply pump_inv
    | with_reducible apply readerFault_inv
    | with_reducible apply endItem_inv
    | with_reducible apply pushSlices_inv
    | with_reducible apply leaveItem_inv
    | with_reducible apply releaseSpace_inv
    | with_reducible apply okNext_next
    | with_reducible apply okNext_fault
    | split
    | dsimp -zeta only
    | lift_lets

theorem failFlush_inv (s : State) {Q : Base} (hInv : Inv Q s) : Inv Q (failFlush s) := by
  unfold failFlush
  split
  · exact hInv
  · split
    · exact hInv
    · extract_lets x fail
      have hf : ∀ t, Inv Q t → Inv Q (fail t) := fun t ht => pump_inv _ (readerFault_inv _ _ _ _ _ (endItem_inv _ _ _ _ ht))
      clear_value fail
      split
      · exact hf _ (updItem_inv _ _ _ _ hInv)
      · split
        · split
          · exact hf _ (pushSlices_inv _ _ _ _ hInv)
          · exact hInv
        · exact hInv

theorem commitGlobals_inv (s : State) {Q : Base} (hInv : Inv Q s) : Inv Q (commitGlobals s) := by
  exact { hInv with glb := fun k => (hInv.glb k).commit }

theorem malformed_inv (seat ring seq handle : Nat) (s : State) {Q : Base} (hInv : Inv Q s) : Inv Q (malformed seat ring seq handle s) := by
  unfold malformed
  repeat' first
    | with_reducible assumption
    | with_reducible apply ringFault_inv
    | with_reducible apply updRing_inv
    | (simp -zeta only [inv_mk]; show Inv Q _)
    | dsimp -zeta only

theorem noToken_inv (part h : Nat) (st : Status) (start : Nat) (s : State) {Q : Base} (hInv : Inv Q s) : Inv Q (noToken part h st start s) := by
  unfold noToken
  repeat' first
    | with_reducible assumption
    | (intro x; refine inv_have (Q := Q) (s := x) ?_ ?_; rotate_left; clear_value x; rotate_left; unfold x)
    | (intro (x : Flt))
    | (intro (x : Flash))
    | (intro (x : Pwr))
    | (intro (x : Glb))
    | (intro x; clear_value x)
    | (intro _)
    | with_reducible apply updKept_inv
    | with_reducible apply postComp_inv
    | (simp -zeta only [inv_mk]; show Inv Q _)
    | dsimp -zeta only
    | lift_lets

theorem dropComps_inv (seat ring tArrive : Nat) (x0 : List (Nat × Status)) (x1 : State) {Q : Base} (hInv : Inv Q x1) : Inv Q (dropComps seat ring tArrive x0 x1) := by
  induction x0 generalizing x1 with
  | nil =>
    unfold dropComps
    repeat' first
      | with_reducible assumption
      | (intro x; refine inv_have (Q := Q) (s := x) ?_ ?_; rotate_left; clear_value x; rotate_left; unfold x)
      | (intro (x : Flt))
      | (intro (x : Flash))
      | (intro (x : Pwr))
      | (intro (x : Glb))
      | (intro x; clear_value x)
      | (intro _)
      | with_reducible apply openValue_inv
      | with_reducible apply postComp_inv
      | (with_reducible refine inv_fst ‹_› ?_)
      | (with_reducible refine inv_snd ‹_› ?_)
      | split
      | lift_lets
  | cons a l ih =>
    unfold dropComps
    repeat' first
      | with_reducible assumption
      | (intro x; refine inv_have (Q := Q) (s := x) ?_ ?_; rotate_left; clear_value x; rotate_left; unfold x)
      | (intro (x : Flt))
      | (intro (x : Flash))
      | (intro (x : Pwr))
      | (intro (x : Glb))
      | (intro x; clear_value x)
      | (intro _)
      | with_reducible apply openValue_inv
      | with_reducible apply postComp_inv
      | (with_reducible refine inv_fst ‹_› ?_)
      | (with_reducible refine inv_snd ‹_› ?_)
      | with_reducible apply ih
      | split
      | lift_lets

theorem acceptDraws_inv (part : Nat) (s : State) {Q : Base} (hInv : Inv Q s) : Inv Q (acceptDraws part s) := by
  unfold acceptDraws
  repeat' first
    | with_reducible assumption
    | (intro x; refine inv_have (Q := Q) (s := x) ?_ ?_; rotate_left; clear_value x; rotate_left; unfold x)
    | (intro (x : Flt))
    | (intro (x : Flash))
    | (intro (x : Pwr))
    | (intro (x : Glb))
    | (intro x; clear_value x)
    | (intro _)
    | with_reducible apply noToken_inv
    | with_reducible apply queueDraw_inv
    | with_reducible apply optInv_map
    | with_reducible apply optInv_bind
    | with_reducible apply inv_getD
    | with_reducible apply inv_foldl
    | split
    | dsimp -zeta only
    | lift_lets

theorem openStep_inv (seat ring tArrive : Nat) (b : List Byte) (s : State) {Q : Base} (hInv : Inv Q s) : Inv Q (openStep seat ring tArrive b s) := by
  unfold openStep
  repeat' first
    | with_reducible assumption
    | (intro x; refine inv_have (Q := Q) (s := x) ?_ ?_; rotate_left; clear_value x; rotate_left; unfold x)
    | (intro (x : Flt))
    | (intro (x : Flash))
    | (intro (x : Pwr))
    | (intro (x : Glb))
    | (intro x; clear_value x)
    | (intro _)
    | with_reducible apply malformed_inv
    | with_reducible apply openValue_inv
    | with_reducible apply complete_inv
    | with_reducible apply updPart_inv
    | with_reducible apply dropComps_inv
    | with_reducible apply pump_inv
    | with_reducible apply acceptDraws_inv
    | (simp -zeta only [inv_mk]; show Inv Q _)
    | (with_reducible refine inv_fst ‹_› ?_)
    | (with_reducible refine inv_snd ‹_› ?_)
    | split
    | dsimp -zeta only
    | lift_lets

theorem releaseOpens_inv (x0 : List HeldOpen) (x1 : State) {Q : Base} (hInv : Inv Q x1) : Inv Q (releaseOpens x0 x1) := by
  induction x0 generalizing x1 with
  | nil =>
    unfold releaseOpens
    repeat' first
      | with_reducible assumption
      | with_reducible apply openStep_inv
      | (simp -zeta only [inv_mk]; show Inv Q _)
      | split
  | cons a l ih =>
    unfold releaseOpens
    repeat' first
      | with_reducible assumption
      | with_reducible apply openStep_inv
      | (simp -zeta only [inv_mk]; show Inv Q _)
      | with_reducible apply ih
      | split

theorem releaseHeldOpens_inv (s : State) {Q : Base} (hInv : Inv Q s) : Inv Q (releaseHeldOpens s) := by
  unfold releaseHeldOpens
  repeat' first
    | with_reducible assumption
    | with_reducible apply releaseOpens_inv
    | (simp -zeta only [inv_mk]; show Inv Q _)

theorem wakeTiles_inv (s : State) {Q : Base} (hInv : Inv Q s) : Inv Q (wakeTiles s) := by
  unfold wakeTiles
  repeat' first
    | with_reducible assumption
    | (simp -zeta only [inv_mk]; show Inv Q _)
    | split

theorem execStepOpen_inv (seat ring : Nat) (s : State) {Q : Base} (hInv : Inv Q s) : OkNext Q (execStepOpen seat ring s) := by
  unfold execStepOpen
  repeat' first
    | with_reducible assumption
    | (intro x; refine inv_have (Q := Q) (s := x) ?_ ?_; rotate_left; clear_value x; rotate_left; unfold x)
    | (intro (x : Flt))
    | (intro (x : Flash))
    | (intro (x : Pwr))
    | (intro (x : Glb))
    | (intro x; clear_value x)
    | (intro _)
    | with_reducible apply wakeTiles_inv
    | with_reducible apply consume_inv
    | with_reducible apply openStep_inv
    | with_reducible apply okNext_next
    | with_reducible apply okNext_fault
    | (simp -zeta only [inv_mk]; show Inv Q _)
    | split
    | lift_lets

theorem stepRecord_inv (kind seat ring : Nat) (effect : List Byte → State → State) (s : State) {Q : Base} (hf : ∀ v0 v1, Inv Q v1 → Inv Q (effect v0 v1)) (hInv : Inv Q s) : OkNext Q (stepRecord kind seat ring effect s) := by
  unfold stepRecord
  repeat' first
    | with_reducible assumption
    | exact fun _ => ⟨List.Subset.refl _, List.Subset.refl _⟩
    | exact fun _ => List.Subset.refl _
    | exact fun _ => ⟨id, id⟩
    | (intro x; refine inv_have (Q := Q) (s := x) ?_ ?_; rotate_left; clear_value x; rotate_left; unfold x)
    | (intro (x : Flt))
    | (intro (x : Flash))
    | (intro (x : Pwr))
    | (intro (x : Glb))
    | (intro x; clear_value x)
    | (intro _)
    | with_reducible apply consume_inv
    | with_reducible apply malformed_inv
    | with_reducible apply complete_inv
    | with_reducible apply okNext_next
    | with_reducible apply okNext_fault
    | with_reducible apply hf
    | (simp -zeta only [inv_mk]; show Inv Q _)
    | with_reducible apply optInv_map
    | with_reducible apply optInv_bind
    | with_reducible apply inv_getD
    | (with_reducible refine inv_fst ‹_› ?_)
    | (with_reducible refine inv_snd ‹_› ?_)
    | (with_reducible refine inv_trd ‹_› ?_)
    | with_reducible apply inv_foldl
    | (with_reducible apply inv_ite)
    | split
    | dsimp -zeta only
    | lift_lets

end Sys2Proof.Machine
end

