-- ==== Sys2Proof/Laws/Kept4.lean ====
section
/-! SUPPORT. Each operation and meaning keeps the queue, the layout of the device-wide registers and what is retired (part 4 of 6). -/

namespace Sys2Proof.Machine

set_option maxRecDepth 4000
set_option linter.unusedVariables false

theorem takeRecord_inv (seat ring off queryAt : Nat) (b : List Byte) (s : State) {Q : Base} (hInv : Inv Q s) : Inv Q (takeRecord seat ring off queryAt b s) := by
  unfold takeRecord
  repeat' first
    | with_reducible assumption
    | (intro x; refine inv_have (Q := Q) (s := x) ?_ ?_; rotate_left; clear_value x; rotate_left; unfold x)
    | (intro (x : Flt))
    | (intro (x : Flash))
    | (intro (x : Pwr))
    | (intro (x : Glb))
    | (intro x; clear_value x)
    | (intro _)
    | with_reducible apply pump_inv
    | with_reducible apply updItem_inv
    | split
    | dsimp -zeta only
    | lift_lets

theorem attendEffect_inv (seat ring : Nat) (b : List Byte) (s : State) {Q : Base} (hInv : Inv Q s) : Inv Q (attendEffect seat ring b s) := by
  unfold attendEffect
  repeat' first
    | with_reducible assumption
    | with_reducible apply takeRecord_inv

theorem execAttend_inv (seat ring : Nat) (s : State) {Q : Base} (hInv : Inv Q s) : OkNext Q (execAttend seat ring s) := by
  unfold execAttend
  repeat' first
    | with_reducible assumption
    | (intro _)
    | with_reducible apply stepRecord_inv
    | with_reducible apply attendEffect_inv
    | with_reducible apply okNext_next
    | with_reducible apply okNext_fault

theorem execDeliver_inv (seat ring : Nat) (s : State) {Q : Base} (hInv : Inv Q s) : OkNext Q (execDeliver seat ring s) := by
  unfold execDeliver
  repeat' first
    | with_reducible assumption
    | (intro _)
    | with_reducible apply stepRecord_inv
    | with_reducible apply takeRecord_inv
    | with_reducible apply okNext_next
    | with_reducible apply okNext_fault
    | dsimp -zeta only

theorem writeAppend_inv (part h layer : Nat) (data : List Byte) (s : State) {Q : Base} (hInv : Inv Q s) : Inv Q (writeAppend part h layer data s) := by
  unfold writeAppend
  repeat' first
    | with_reducible assumption
    | (intro x; refine inv_have (Q := Q) (s := x) ?_ ?_; rotate_left; clear_value x; rotate_left; unfold x)
    | (intro (x : Flt))
    | (intro (x : Flash))
    | (intro (x : Pwr))
    | (intro (x : Glb))
    | (intro x; clear_value x)
    | (intro _)
    | with_reducible apply appendWritten_inv
    | with_reducible apply putNow_inv
    | (simp -zeta only [inv_mk]; show Inv Q _)
    | with_reducible apply optInv_map
    | with_reducible apply optInv_bind
    | with_reducible apply inv_getD
    | (with_reducible refine inv_fst ‹_› ?_)
    | (with_reducible refine inv_snd ‹_› ?_)
    | with_reducible apply inv_foldl
    | split
    | dsimp -zeta only
    | lift_lets

theorem appendEffect_inv (seat ring : Nat) (b : List Byte) (s : State) {Q : Base} (hInv : Inv Q s) : Inv Q (appendEffect seat ring b s) := by
  unfold appendEffect
  repeat' first
    | with_reducible assumption
    | (intro x; refine inv_have (Q := Q) (s := x) ?_ ?_; rotate_left; clear_value x; rotate_left; unfold x)
    | (intro (x : Flt))
    | (intro (x : Flash))
    | (intro (x : Pwr))
    | (intro (x : Glb))
    | (intro x; clear_value x)
    | (intro _)
    | with_reducible apply readerFault_inv
    | with_reducible apply complete_inv
    | with_reducible apply updKept_inv
    | with_reducible apply releaseSpace_inv
    | with_reducible apply writeAppend_inv
    | (simp -zeta only [inv_mk]; show Inv Q _)
    | with_reducible apply optInv_map
    | with_reducible apply optInv_bind
    | with_reducible apply inv_getD
    | split
    | dsimp -zeta only
    | lift_lets

theorem execAppend_inv (seat ring : Nat) (s : State) {Q : Base} (hInv : Inv Q s) : OkNext Q (execAppend seat ring s) := by
  unfold execAppend
  repeat' first
    | with_reducible assumption
    | (intro _)
    | with_reducible apply stepRecord_inv
    | with_reducible apply appendEffect_inv
    | with_reducible apply okNext_next
    | with_reducible apply okNext_fault

theorem closeStep_inv (part : Nat) (byRecord : Bool) (s : State) {Q : Base} (hInv : Inv Q s) : Inv Q (closeStep part byRecord s) := by
  unfold closeStep
  repeat' first
    | with_reducible assumption
    | with_reducible apply pump_inv
    | with_reducible apply updPart_inv
    | (simp -zeta only [inv_mk]; show Inv Q _)
    | dsimp -zeta only

theorem execStepClose_inv (seat ring : Nat) (s : State) {Q : Base} (hInv : Inv Q s) : OkNext Q (execStepClose seat ring s) := by
  unfold execStepClose
  repeat' first
    | with_reducible assumption
    | (intro x; refine inv_have (Q := Q) (s := x) ?_ ?_; rotate_left; clear_value x; rotate_left; unfold x)
    | (intro (x : Flt))
    | (intro (x : Flash))
    | (intro (x : Pwr))
    | (intro (x : Glb))
    | (intro x; clear_value x)
    | (intro _)
    | with_reducible apply consume_inv
    | with_reducible apply malformed_inv
    | with_reducible apply openValue_inv
    | with_reducible apply complete_inv
    | with_reducible apply closeStep_inv
    | with_reducible apply okNext_next
    | with_reducible apply okNext_fault
    | (with_reducible refine inv_fst ‹_› ?_)
    | (with_reducible refine inv_snd ‹_› ?_)
    | split
    | lift_lets

theorem closeStepNow_inv (part : Nat) (s : State) {Q : Base} (hInv : Inv Q s) : Inv Q (closeStepNow part s).1 := by
  unfold closeStepNow
  repeat' first
    | with_reducible assumption
    | with_reducible apply closeStep_inv
    | split
    | dsimp -zeta only

theorem execCloseStep_inv (e : Env) (part : Nat) (s : State) {Q : Base} (hInv : Inv Q s) : OkNext Q (execCloseStep e part s) := by
  unfold execCloseStep
  repeat' first
    | with_reducible assumption
    | (intro _)
    | with_reducible apply mailbox_inv
    | with_reducible apply closeStep_inv
    | with_reducible apply closeStepNow_inv
    | with_reducible apply okNext_next
    | with_reducible apply okNext_fault

theorem execQueryStep_inv (e : Env) (part : Nat) (s : State) {Q : Base} (hInv : Inv Q s) : OkNext Q (execQueryStep e part s) := by
  unfold execQueryStep
  repeat' first
    | with_reducible assumption
    | (intro _)
    | with_reducible apply mailbox_inv
    | with_reducible apply okNext_next
    | with_reducible apply okNext_fault
    | split
    | dsimp -zeta only

theorem missingComps_inv (part : Nat) (s : State) {Q : Base} (hInv : Inv Q s) : Inv Q (missingComps part s) := by
  unfold missingComps
  repeat' first
    | with_reducible assumption
    | (intro x; refine inv_have (Q := Q) (s := x) ?_ ?_; rotate_left; clear_value x; rotate_left; unfold x)
    | (intro (x : Flt))
    | (intro (x : Flash))
    | (intro (x : Pwr))
    | (intro (x : Glb))
    | (intro x; clear_value x)
    | (intro _)
    | with_reducible apply postComp_inv
    | with_reducible apply inv_foldl
    | dsimp -zeta only
    | lift_lets

theorem settleLedger_inv (part : Nat) (s : State) {Q : Base} (hInv : Inv Q s) : Inv Q (settleLedger part s) := by
  unfold settleLedger
  repeat' first
    | with_reducible assumption
    | (intro x; refine inv_have (Q := Q) (s := x) ?_ ?_; rotate_left; clear_value x; rotate_left; unfold x)
    | (intro (x : Flt))
    | (intro (x : Flash))
    | (intro (x : Pwr))
    | (intro (x : Glb))
    | (intro x; clear_value x)
    | (intro _)
    | with_reducible apply chargeTenant_inv
    | with_reducible apply optInv_map
    | with_reducible apply optInv_bind
    | with_reducible apply inv_getD
    | with_reducible apply inv_foldl
    | dsimp -zeta only
    | lift_lets

theorem dropDoneDigests_inv (part : Nat) (s : State) {Q : Base} (hInv : Inv Q s) : Inv Q (dropDoneDigests part s) := by
  unfold dropDoneDigests
  repeat' first
    | with_reducible assumption
    | (intro x; refine inv_have (Q := Q) (s := x) ?_ ?_; rotate_left; clear_value x; rotate_left; unfold x)
    | (intro (x : Flt))
    | (intro (x : Flash))
    | (intro (x : Pwr))
    | (intro (x : Glb))
    | (intro x; clear_value x)
    | (intro _)
    | with_reducible apply dropDigests_inv
    | with_reducible apply inv_foldl
    | split
    | dsimp -zeta only
    | lift_lets

theorem applyDigests_inv (part : Nat) (on : Bool) (s : State) {Q : Base} (hInv : Inv Q s) : Inv Q (applyDigests part on s) := by
  unfold applyDigests
  repeat' first
    | with_reducible assumption
    | (intro x; refine inv_have (Q := Q) (s := x) ?_ ?_; rotate_left; clear_value x; rotate_left; unfold x)
    | (intro (x : Flt))
    | (intro (x : Flash))
    | (intro (x : Pwr))
    | (intro (x : Glb))
    | (intro x; clear_value x)
    | (intro _)
    | with_reducible apply updPart_inv
    | with_reducible apply chargeAcct_inv
    | with_reducible apply releaseAcct_inv
    | (simp -zeta only [inv_mk]; show Inv Q _)
    | split
    | dsimp -zeta only
    | lift_lets

theorem applySelect_inv (h sel sink recent : Nat) (s : State) {Q : Base} (hInv : Inv Q s) : Inv Q (applySelect h sel sink recent s) := by
  unfold applySelect
  repeat' first
    | with_reducible assumption
    | with_reducible apply updRt_inv
    | (simp -zeta only [inv_mk]; show Inv Q _)
    | split
    | dsimp -zeta only

theorem applyLogit_inv (h : Nat) (w : Option (Nat × Nat)) (s : State) {Q : Base} (hInv : Inv Q s) : Inv Q (applyLogit h w s) := by
  unfold applyLogit
  repeat' first
    | with_reducible assumption
    | with_reducible apply updRt_inv
    | (simp -zeta only [inv_mk]; show Inv Q _)
    | split
    | dsimp -zeta only

theorem commitStaged_inv (part : Nat) (s : State) {Q : Base} (hInv : Inv Q s) : Inv Q (commitStaged part s) := by
  unfold commitStaged
  repeat' first
    | with_reducible assumption
    | (intro x; refine inv_have (Q := Q) (s := x) ?_ ?_; rotate_left; clear_value x; rotate_left; unfold x)
    | (intro (x : Flt))
    | (intro (x : Flash))
    | (intro (x : Pwr))
    | (intro (x : Glb))
    | (intro x; clear_value x)
    | (intro _)
    | with_reducible apply applyLogit_inv
    | with_reducible apply applySelect_inv
    | with_reducible apply applyDigests_inv
    | with_reducible apply updPart_inv
    | with_reducible apply StagedReq.apply_inv
    | (simp -zeta only [inv_mk]; show Inv Q _)
    | with_reducible apply inv_foldl
    | split
    | dsimp -zeta only
    | lift_lets

theorem destroyStaged_inv (part : Nat) (owner : Nat × Nat) (s : State) {Q : Base} (hInv : Inv Q s) : Inv Q (destroyStaged part owner s) := by
  unfold destroyStaged
  repeat' first
    | with_reducible assumption
    | (intro _)
    | with_reducible apply freeRing_inv
    | with_reducible apply inv_foldl
    | dsimp -zeta only

theorem finishStep_inv (part advances : Nat) (unload : Bool) (s : State) {Q : Base} (hInv : Inv Q s) : Inv Q (finishStep part advances unload s) := by
  unfold finishStep
  repeat' first
    | with_reducible assumption
    | (intro x; refine inv_have (Q := Q) (s := x) ?_ ?_; rotate_left; clear_value x; rotate_left; unfold x)
    | (intro (x : Flt))
    | (intro (x : Flash))
    | (intro (x : Pwr))
    | (intro (x : Glb))
    | (intro x; clear_value x)
    | (intro _)
    | with_reducible apply updPart_inv
    | with_reducible apply produceComp_inv
    | with_reducible apply freeRing_inv
    | (simp -zeta only [inv_mk]; show Inv Q _)
    | (with_reducible refine inv_fst ‹_› ?_)
    | (with_reducible refine inv_snd ‹_› ?_)
    | split
    | dsimp -zeta only
    | lift_lets

theorem idleCommit_inv (s : State) {Q : Base} (hInv : Inv Q s) : Inv Q (idleCommit s) := by
  unfold idleCommit
  repeat' first
    | with_reducible assumption
    | with_reducible apply releaseHeldOpens_inv
    | with_reducible apply commitGlobals_inv
    | split

theorem boundary_inv (part : Nat) (s : State) {Q : Base} (hInv : Inv Q s) : Inv Q (boundary part s) := by
  unfold boundary
  repeat' first
    | with_reducible assumption
    | (intro x; refine inv_have (Q := Q) (s := x) ?_ ?_; rotate_left; clear_value x; rotate_left; unfold x)
    | (intro (x : Flt))
    | (intro (x : Flash))
    | (intro (x : Pwr))
    | (intro (x : Glb))
    | (intro x; clear_value x)
    | (intro _)
    | with_reducible apply missingComps_inv
    | with_reducible apply dropDoneDigests_inv
    | with_reducible apply settleLedger_inv
    | with_reducible apply freeRequest_inv
    | with_reducible apply startParks_inv
    | with_reducible apply commitStaged_inv
    | with_reducible apply destroyStaged_inv
    | with_reducible apply unloadNow_inv
    | with_reducible apply finishStep_inv
    | with_reducible apply finishOp_inv
    | with_reducible apply emptyPart_inv
    | with_reducible apply tryStartSwapOut_inv
    | with_reducible apply pump_inv
    | with_reducible apply idleCommit_inv
    | with_reducible apply boundaryCal_inv
    | (simp -zeta only [inv_mk]; show Inv Q _)
    | with_reducible apply inv_foldl
    | split
    | dsimp -zeta only
    | lift_lets

theorem execStepBoundary_inv (part : Nat) (s : State) {Q : Base} (hInv : Inv Q s) : OkNext Q (execStepBoundary part s) := by
  unfold execStepBoundary
  repeat' first
    | with_reducible assumption
    | (intro x; refine inv_have (Q := Q) (s := x) ?_ ?_; rotate_left; clear_value x; rotate_left; unfold x)
    | (intro (x : Flt))
    | (intro (x : Flash))
    | (intro (x : Pwr))
    | (intro (x : Glb))
    | (intro x; clear_value x)
    | (intro _)
    | with_reducible apply boundary_inv
    | with_reducible apply askComps_inv
    | with_reducible apply okNext_next
    | with_reducible apply okNext_fault
    | split
    | lift_lets

theorem execIdleCommit_inv (s : State) {Q : Base} (hInv : Inv Q s) : OkNext Q (execIdleCommit s) := by
  unfold execIdleCommit
  repeat' first
    | with_reducible assumption
    | with_reducible apply idleCommit_inv
    | with_reducible apply okNext_next
    | with_reducible apply okNext_fault
    | split

theorem execStpCqHeadWrite_inv (seat ring value : Nat) (s : State) {Q : Base} (hInv : Inv Q s) : OkNext Q (execStpCqHeadWrite seat ring value s) := by
  unfold execStpCqHeadWrite
  repeat' first
    | with_reducible assumption
    | (intro x; refine inv_have (Q := Q) (s := x) ?_ ?_; rotate_left; clear_value x; rotate_left; unfold x)
    | (intro (x : Flt))
    | (intro (x : Flash))
    | (intro (x : Pwr))
    | (intro (x : Glb))
    | (intro x; clear_value x)
    | (intro _)
    | with_reducible apply logFault_inv
    | with_reducible apply updRing_inv
    | with_reducible apply pump_inv
    | with_reducible apply drainBacklog_inv
    | with_reducible apply okNext_next
    | with_reducible apply okNext_fault
    | (simp -zeta only [inv_mk]; show Inv Q _)
    | split
    | dsimp -zeta only
    | lift_lets

theorem execRegisterWindow_inv (e : Env) (kind portMask base length : Nat) (s : State) {Q : Base} (hInv : Inv Q s) : OkNext Q (execRegisterWindow e kind portMask base length s) := by
  unfold execRegisterWindow
  repeat' first
    | with_reducible assumption
    | (intro x; refine inv_have (Q := Q) (s := x) ?_ ?_; rotate_left; clear_value x; rotate_left; unfold x)
    | (intro (x : Flt))
    | (intro (x : Flash))
    | (intro (x : Pwr))
    | (intro (x : Glb))
    | (intro x; clear_value x)
    | (intro _)
    | with_reducible apply mailbox_inv
    | with_reducible apply updSeat_inv
    | with_reducible apply okNext_next
    | with_reducible apply okNext_fault
    | split
    | dsimp -zeta only
    | lift_lets

theorem execReleaseWindow_inv (e : Env) (window : Nat) (s : State) {Q : Base} (hInv : Inv Q s) : OkNext Q (execReleaseWindow e window s) := by
  unfold execReleaseWindow
  repeat' first
    | with_reducible assumption
    | (intro x; refine inv_have (Q := Q) (s := x) ?_ ?_; rotate_left; clear_value x; rotate_left; unfold x)
    | (intro (x : Flt))
    | (intro (x : Flash))
    | (intro (x : Pwr))
    | (intro (x : Glb))
    | (intro x; clear_value x)
    | (intro _)
    | with_reducible apply mailbox_inv
    | with_reducible apply updSeat_inv
    | with_reducible apply okNext_next
    | with_reducible apply okNext_fault
    | (simp -zeta only [inv_mk]; show Inv Q _)
    | (with_reducible refine inv_fst ‹_› ?_)
    | (with_reducible refine inv_snd ‹_› ?_)
    | split
    | dsimp -zeta only
    | lift_lets

theorem setDigests_inv (part : Nat) (on : Bool) (s : State) {Q : Base} (hInv : Inv Q s) : Inv Q (setDigests part on s).1 := by
  unfold setDigests
  repeat' first
    | with_reducible assumption
    | (intro x; refine inv_have (Q := Q) (s := x) ?_ ?_; rotate_left; clear_value x; rotate_left; unfold x)
    | (intro (x : Flt))
    | (intro (x : Flash))
    | (intro (x : Pwr))
    | (intro (x : Glb))
    | (intro x; clear_value x)
    | (intro _)
    | with_reducible apply updPart_inv
    | with_reducible apply applyDigests_inv
    | (simp -zeta only [inv_mk]; show Inv Q _)
    | split
    | dsimp -zeta only
    | lift_lets

theorem execSetDigests_inv (e : Env) (part : Nat) (on : Bool) (s : State) {Q : Base} (hInv : Inv Q s) : OkNext Q (execSetDigests e part on s) := by
  unfold execSetDigests
  repeat' first
    | with_reducible assumption
    | (intro _)
    | with_reducible apply mailbox_inv
    | with_reducible apply setDigests_inv
    | with_reducible apply okNext_next
    | with_reducible apply okNext_fault

theorem setSelection_inv (handle sel sink recent : Nat) (s : State) {Q : Base} (hInv : Inv Q s) : Inv Q (setSelection handle sel sink recent s).1 := by
  unfold setSelection
  repeat' first
    | with_reducible assumption
    | (intro x; refine inv_have (Q := Q) (s := x) ?_ ?_; rotate_left; clear_value x; rotate_left; unfold x)
    | (intro (x : Flt))
    | (intro (x : Flash))
    | (intro (x : Pwr))
    | (intro (x : Glb))
    | (intro x; clear_value x)
    | (intro _)
    | with_reducible apply updPart_inv
    | with_reducible apply applySelect_inv
    | (simp -zeta only [inv_mk]; show Inv Q _)
    | split
    | dsimp -zeta only
    | lift_lets

theorem execSetSelection_inv (e : Env) (handle sel sink recent : Nat) (s : State) {Q : Base} (hInv : Inv Q s) : OkNext Q (execSetSelection e handle sel sink recent s) := by
  unfold execSetSelection
  repeat' first
    | with_reducible assumption
    | (intro _)
    | with_reducible apply mailbox_inv
    | with_reducible apply setSelection_inv
    | with_reducible apply okNext_next
    | with_reducible apply okNext_fault
    | (with_reducible refine inv_fst ‹_› ?_)
    | (with_reducible refine inv_snd ‹_› ?_)
    | split
    | dsimp -zeta only

theorem execDigestBuild_inv (part : Nat) (s : State) {Q : Base} (hInv : Inv Q s) : OkNext Q (execDigestBuild part s) := by
  unfold execDigestBuild
  repeat' first
    | with_reducible assumption
    | with_reducible apply updPart_inv
    | with_reducible apply okNext_next
    | with_reducible apply okNext_fault
    | (simp -zeta only [inv_mk]; show Inv Q _)
    | split
    | dsimp -zeta only

theorem execLoadCounts_inv (e : Env) (handle count list : Nat) (s : State) {Q : Base} (hInv : Inv Q s) : OkNext Q (execLoadCounts e handle count list s) := by
  unfold execLoadCounts
  repeat' first
    | with_reducible assumption
    | (intro _)
    | with_reducible apply mailbox_inv
    | with_reducible apply startLong_inv
    | with_reducible apply okNext_next
    | with_reducible apply okNext_fault
    | split
    | dsimp -zeta only

theorem putCounts_inv (h : Nat) (l : List (Nat × Nat)) (named : List Nat) (s : State) {Q : Base} (hInv : Inv Q s) : Inv Q (putCounts h l named s) := by
  unfold putCounts
  repeat' first
    | with_reducible assumption
    | (intro _)
    | with_reducible apply markDirty_inv
    | with_reducible apply updRt_inv
    | (simp -zeta only [inv_mk]; show Inv Q _)
    | with_reducible apply optInv_map
    | with_reducible apply optInv_bind
    | with_reducible apply inv_getD
    | with_reducible apply inv_foldl
    | dsimp -zeta only

theorem execLoadCountsComplete_inv (op : Nat) (s : State) {Q : Base} (hInv : Inv Q s) : OkNext Q (execLoadCountsComplete op s) := by
  unfold execLoadCountsComplete
  repeat' first
    | with_reducible assumption
    | (intro x; refine inv_have (Q := Q) (s := x) ?_ ?_; rotate_left; clear_value x; rotate_left; unfold x)
    | (intro (x : Flt))
    | (intro (x : Flash))
    | (intro (x : Pwr))
    | (intro (x : Glb))
    | (intro x; clear_value x)
    | (intro _)
    | with_reducible apply finishOp_inv
    | with_reducible apply logFault_inv
    | with_reducible apply finishOpWith_inv
    | with_reducible apply putCounts_inv
    | with_reducible apply okNext_next
    | with_reducible apply okNext_fault
    | with_reducible apply optInv_map
    | with_reducible apply optInv_bind
    | with_reducible apply inv_getD
    | (with_reducible refine inv_fst ‹_› ?_)
    | (with_reducible refine inv_snd ‹_› ?_)
    | split
    | dsimp -zeta only
    | lift_lets

theorem clearCounts_inv (h : Nat) (s : State) {Q : Base} (hInv : Inv Q s) : Inv Q (clearCounts h s) := by
  unfold clearCounts
  repeat' first
    | with_reducible assumption
    | (intro x; refine inv_have (Q := Q) (s := x) ?_ ?_; rotate_left; clear_value x; rotate_left; unfold x)
    | (intro (x : Flt))
    | (intro (x : Flash))
    | (intro (x : Pwr))
    | (intro (x : Glb))
    | (intro x; clear_value x)
    | (intro _)
    | with_reducible apply makeWrite_inv
    | (simp -zeta only [inv_mk]; show Inv Q _)
    | with_reducible apply optInv_map
    | with_reducible apply optInv_bind
    | with_reducible apply inv_getD
    | split
    | dsimp -zeta only
    | lift_lets

theorem execClearCounts_inv (e : Env) (handle : Nat) (s : State) {Q : Base} (hInv : Inv Q s) : OkNext Q (execClearCounts e handle s) := by
  unfold execClearCounts
  repeat' first
    | with_reducible assumption
    | (intro _)
    | with_reducible apply mailbox_inv
    | with_reducible apply clearCounts_inv
    | with_reducible apply okNext_next
    | with_reducible apply okNext_fault
    | split
    | dsimp -zeta only

theorem execQueryCounts_inv (e : Env) (handle first count : Nat) (s : State) {Q : Base} (hInv : Inv Q s) : OkNext Q (execQueryCounts e handle first count s) := by
  unfold execQueryCounts
  repeat' first
    | with_reducible assumption
    | (intro _)
    | with_reducible apply mailbox_inv
    | with_reducible apply okNext_next
    | with_reducible apply okNext_fault
    | with_reducible apply optInv_map
    | with_reducible apply optInv_bind
    | with_reducible apply inv_getD
    | split
    | dsimp -zeta only

theorem setLogit_inv (handle addr length : Nat) (s : State) {Q : Base} (hInv : Inv Q s) : Inv Q (setLogit handle addr length s).1 := by
  unfold setLogit
  repeat' first
    | with_reducible assumption
    | (intro x; refine inv_have (Q := Q) (s := x) ?_ ?_; rotate_left; clear_value x; rotate_left; unfold x)
    | (intro (x : Flt))
    | (intro (x : Flash))
    | (intro (x : Pwr))
    | (intro (x : Glb))
    | (intro x; clear_value x)
    | (intro _)
    | with_reducible apply updPart_inv
    | with_reducible apply applyLogit_inv
    | (simp -zeta only [inv_mk]; show Inv Q _)
    | split
    | dsimp -zeta only
    | lift_lets

theorem execSetLogitWindow_inv (e : Env) (handle addr length : Nat) (s : State) {Q : Base} (hInv : Inv Q s) : OkNext Q (execSetLogitWindow e handle addr length s) := by
  unfold execSetLogitWindow
  repeat' first
    | with_reducible assumption
    | (intro _)
    | with_reducible apply mailbox_inv
    | with_reducible apply setLogit_inv
    | with_reducible apply okNext_next
    | with_reducible apply okNext_fault

theorem acceptHeader_inv (seat addr h : Nat) (data : List Byte) (s : State) {Q : Base} (hInv : Inv Q s) : Inv Q (acceptHeader seat addr h data s) := by
  unfold acceptHeader
  repeat' first
    | with_reducible assumption
    | exact fun _ => ⟨List.Subset.refl _, List.Subset.refl _⟩
    | exact fun _ => List.Subset.refl _
    | exact fun _ => ⟨id, id⟩
    | (intro x; refine inv_have (Q := Q) (s := x) ?_ ?_; rotate_left; clear_value x; rotate_left; unfold x)
    | (intro (x : Flt))
    | (intro (x : Flash))
    | (intro (x : Pwr))
    | (intro (x : Glb))
    | (intro x; clear_value x)
    | (intro _)
    | with_reducible apply emit_inv
    | with_reducible apply holdWrite_inv
    | with_reducible apply putNow_inv
    | with_reducible apply queueDraw_inv
    | (simp -zeta only [inv_mk]; show Inv Q _)
    | with_reducible apply optInv_map
    | with_reducible apply optInv_bind
    | with_reducible apply inv_getD
    | (with_reducible refine inv_fst ‹_› ?_)
    | (with_reducible refine inv_snd ‹_› ?_)
    | (with_reducible refine inv_trd ‹_› ?_)
    | with_reducible apply inv_foldl
    | (with_reducible apply inv_ite)
    | split
    | dsimp -zeta only
    | lift_lets

theorem headerStore_inv (seat addr h : Nat) (full : Bool) (data : List Byte) (s : State) {Q : Base} (hInv : Inv Q s) : Inv Q (headerStore seat addr h full data s) := by
  unfold headerStore
  repeat' first
    | with_reducible assumption
    | (intro x; refine inv_have (Q := Q) (s := x) ?_ ?_; rotate_left; clear_value x; rotate_left; unfold x)
    | (intro (x : Flt))
    | (intro (x : Flash))
    | (intro (x : Pwr))
    | (intro (x : Glb))
    | (intro x; clear_value x)
    | (intro _)
    | with_reducible apply countTraffic_inv
    | with_reducible apply emit_inv
    | with_reducible apply closedWrite_inv
    | with_reducible apply logFault_inv
    | with_reducible apply acceptHeader_inv
    | split
    | lift_lets

theorem execLogitHeaderStore_inv (seat addr : Nat) (full : Bool) (data : List Byte) (s : State) {Q : Base} (hInv : Inv Q s) : OkNext Q (execLogitHeaderStore seat addr full data s) := by
  unfold execLogitHeaderStore
  repeat' first
    | with_reducible assumption
    | with_reducible apply headerStore_inv
    | with_reducible apply okNext_next
    | with_reducible apply okNext_fault
    | split

theorem endDraw_inv (d : Draw) (x : Drawn) (s : State) {Q : Base} (hInv : Inv Q s) : Inv Q (endDraw d x s) := by
  unfold endDraw
  repeat' first
    | with_reducible assumption
    | (intro x; refine inv_have (Q := Q) (s := x) ?_ ?_; rotate_left; clear_value x; rotate_left; unfold x)
    | (intro (x : Flt))
    | (intro (x : Flash))
    | (intro (x : Pwr))
    | (intro (x : Glb))
    | (intro x; clear_value x)
    | (intro _)
    | with_reducible apply putCounts_inv
    | with_reducible apply updKept_inv
    | with_reducible apply advanceLength_inv
    | with_reducible apply postComp_inv
    | (simp -zeta only [inv_mk]; show Inv Q _)
    | (with_reducible refine inv_fst ‹_› ?_)
    | (with_reducible refine inv_snd ‹_› ?_)
    | split
    | dsimp -zeta only
    | lift_lets

theorem execDraw_inv (s : State) {Q : Base} (hInv : Inv Q s) : OkNext Q (execDraw s) := by
  unfold execDraw
  repeat' first
    | with_reducible assumption
    | (intro x; refine inv_have (Q := Q) (s := x) ?_ ?_; rotate_left; clear_value x; rotate_left; unfold x)
    | (intro (x : Flt))
    | (intro (x : Flash))
    | (intro (x : Pwr))
    | (intro (x : Glb))
    | (intro x; clear_value x)
    | (intro _)
    | with_reducible apply endDraw_inv
    | with_reducible apply noToken_inv
    | with_reducible apply readerFault_inv
    | with_reducible apply okNext_next
    | with_reducible apply okNext_fault
    | (simp -zeta only [inv_mk]; show Inv Q _)
    | split
    | lift_lets

theorem takeRegionId_inv (s : State) {Q : Base} (hInv : Inv Q s) : Inv Q (takeRegionId s).1 := by
  unfold takeRegionId
  repeat' first
    | with_reducible assumption
    | (intro x; refine inv_have (Q := Q) (s := x) ?_ ?_; rotate_left; clear_value x; rotate_left; unfold x)
    | (intro (x : Flt))
    | (intro (x : Flash))
    | (intro (x : Pwr))
    | (intro (x : Glb))
    | (intro x; clear_value x)
    | (intro _)
    | with_reducible apply takeEpoch_inv
    | (simp -zeta only [inv_mk]; show Inv Q _)
    | (with_reducible refine inv_fst ‹_› ?_)
    | (with_reducible refine inv_snd ‹_› ?_)
    | split
    | dsimp -zeta only
    | lift_lets

theorem chargeRegion_inv (seat : Nat) (b : RegionBody) (s : State) {Q : Base} (hInv : Inv Q s) : Inv Q (chargeRegion seat b s) := by
  unfold chargeRegion
  repeat' first
    | with_reducible assumption
    | (intro x; refine inv_have (Q := Q) (s := x) ?_ ?_; rotate_left; clear_value x; rotate_left; unfold x)
    | (intro (x : Flt))
    | (intro (x : Flash))
    | (intro (x : Pwr))
    | (intro (x : Glb))
    | (intro x; clear_value x)
    | (intro _)
    | with_reducible apply chargeAcct_inv
    | with_reducible apply chargeHomes_inv
    | split
    | lift_lets

theorem reserveReplica_inv (r : Region) (s : State) {Q : Base} (hInv : Inv Q s) : Inv Q (reserveReplica r s) := by
  unfold reserveReplica
  repeat' first
    | with_reducible assumption
    | with_reducible apply sendEntry_inv
    | split

theorem allocateRegion_inv (e : Env) (b : RegionBody) (s : State) {Q : Base} (hInv : Inv Q s) : Inv Q (allocateRegion e b s).1 := by
  unfold allocateRegion
  repeat' first
    | with_reducible assumption
    | (intro x; refine inv_have (Q := Q) (s := x) ?_ ?_; rotate_left; clear_value x; rotate_left; unfold x)
    | (intro (x : Flt))
    | (intro (x : Flash))
    | (intro (x : Pwr))
    | (intro (x : Glb))
    | (intro x; clear_value x)
    | (intro _)
    | with_reducible apply takeRegionId_inv
    | with_reducible apply chargeRegion_inv
    | with_reducible apply startLong_inv
    | with_reducible apply reserveReplica_inv
    | (simp -zeta only [inv_mk]; show Inv Q _)
    | (with_reducible refine inv_fst ‹_› ?_)
    | (with_reducible refine inv_snd ‹_› ?_)
    | split
    | dsimp -zeta only
    | lift_lets

theorem execAllocateRegion_inv (e : Env) (b : RegionBody) (s : State) {Q : Base} (hInv : Inv Q s) : OkNext Q (execAllocateRegion e b s) := by
  unfold execAllocateRegion
  repeat' first
    | with_reducible assumption
    | (intro _)
    | with_reducible apply mailbox_inv
    | with_reducible apply allocateRegion_inv
    | with_reducible apply okNext_next
    | with_reducible apply okNext_fault

theorem execRegionZeroFillComplete_inv (op : Nat) (s : State) {Q : Base} (hInv : Inv Q s) : OkNext Q (execRegionZeroFillComplete op s) := by
  unfold execRegionZeroFillComplete
  repeat' first
    | with_reducible assumption
    | with_reducible apply finishOpBody_inv
    | with_reducible apply updRegion_inv
    | with_reducible apply okNext_next
    | with_reducible apply okNext_fault
    | (simp -zeta only [inv_mk]; show Inv Q _)
    | split
    | dsimp -zeta only

theorem releaseRegion_inv (r : Region) (s : State) {Q : Base} (hInv : Inv Q s) : Inv Q (releaseRegion r s) := by
  unfold releaseRegion
  repeat' first
    | with_reducible assumption
    | (intro x; refine inv_have (Q := Q) (s := x) ?_ ?_; rotate_left; clear_value x; rotate_left; unfold x)
    | (intro (x : Flt))
    | (intro (x : Flash))
    | (intro (x : Pwr))
    | (intro (x : Glb))
    | (intro x; clear_value x)
    | (intro _)
    | with_reducible apply releaseAcct_inv
    | with_reducible apply releaseHomes_inv
    | split
    | lift_lets

theorem freeReplica_inv (r : Region) (s : State) {Q : Base} (hInv : Inv Q s) : Inv Q (freeReplica r s) := by
  unfold freeReplica
  repeat' first
    | with_reducible assumption
    | with_reducible apply sendEntry_inv
    | split

theorem removeRegion_inv (r : Region) (s : State) {Q : Base} (hInv : Inv Q s) : Inv Q (removeRegion r s) := by
  unfold removeRegion
  repeat' first
    | with_reducible assumption
    | (intro x; refine inv_have (Q := Q) (s := x) ?_ ?_; rotate_left; clear_value x; rotate_left; unfold x)
    | (intro (x : Flt))
    | (intro (x : Flash))
    | (intro (x : Pwr))
    | (intro (x : Glb))
    | (intro x; clear_value x)
    | (intro _)
    | with_reducible apply freeHomes_inv
    | with_reducible apply dropFrames_inv
    | with_reducible apply freeReplica_inv
    | (simp -zeta only [inv_mk]; show Inv Q _)
    | dsimp -zeta only
    | lift_lets

theorem invalidateRegion_inv (id : Nat) (s : State) {Q : Base} (hInv : Inv Q s) : Inv Q (invalidateRegion id s) := by
  unfold invalidateRegion
  repeat' first
    | with_reducible assumption
    | (intro _)
    | with_reducible apply devInvalidate_inv
    | with_reducible apply inv_foldl
    | dsimp -zeta only

theorem endFree_inv (op : Nat) (r : Region) (s : State) {Q : Base} (hInv : Inv Q s) : Inv Q (endFree op r s) := by
  unfold endFree
  repeat' first
    | with_reducible assumption
    | with_reducible apply finishOp_inv
    | with_reducible apply releaseWrites_inv
    | with_reducible apply removeRegion_inv
    | with_reducible apply releaseRegion_inv

theorem setGrant_inv (id g mode : Nat) (s : State) {Q : Base} (hInv : Inv Q s) : Inv Q (setGrant id g mode s) := by
  unfold setGrant
  repeat' first
    | with_reducible assumption
    | with_reducible apply updRegion_inv
    | split
    | dsimp -zeta only

theorem revokeLines_inv (id g : Nat) (s : State) {Q : Base} (hInv : Inv Q s) : Inv Q (revokeLines id g s) := by
  unfold revokeLines
  repeat' first
    | with_reducible assumption
    | (intro _)
    | with_reducible apply cohAsk_inv
    | with_reducible apply inv_foldl
    | split
    | dsimp -zeta only

theorem stepRegionOp_inv (o : Op) (s : State) {Q : Base} (hInv : Inv Q s) : Inv Q (stepRegionOp o s) := by
  unfold stepRegionOp
  repeat' first
    | with_reducible assumption
    | with_reducible apply endFree_inv
    | with_reducible apply finishOp_inv
    | with_reducible apply setGrant_inv
    | with_reducible apply revokeLines_inv
    | (simp -zeta only [inv_mk]; show Inv Q _)
    | split
    | dsimp -zeta only

theorem stepRegionOps_inv (s : State) {Q : Base} (hInv : Inv Q s) : Inv Q (stepRegionOps s) := by
  unfold stepRegionOps
  repeat' first
    | with_reducible assumption
    | (intro _)
    | with_reducible apply stepRegionOp_inv
    | with_reducible apply inv_foldl
    | dsimp -zeta only

theorem cohSettle_inv (s : State) {Q : Base} (hInv : Inv Q s) : Inv Q (cohSettle s) := by
  unfold cohSettle
  repeat' first
    | with_reducible assumption
    | with_reducible apply releaseRings_inv
    | with_reducible apply stepRegionOps_inv
    | with_reducible apply cohGo_inv

theorem freeRegion_inv (e : Env) (id : Nat) (s : State) {Q : Base} (hInv : Inv Q s) : Inv Q (freeRegion e id s).1 := by
  unfold freeRegion
  repeat' first
    | with_reducible assumption
    | (intro x; refine inv_have (Q := Q) (s := x) ?_ ?_; rotate_left; clear_value x; rotate_left; unfold x)
    | (intro (x : Flt))
    | (intro (x : Flash))
    | (intro (x : Pwr))
    | (intro (x : Glb))
    | (intro x; clear_value x)
    | (intro _)
    | with_reducible apply startLong_inv
    | with_reducible apply cohSettle_inv
    | with_reducible apply invalidateRegion_inv
    | with_reducible apply updRegion_inv
    | with_reducible apply endFree_inv
    | (simp -zeta only [inv_mk]; show Inv Q _)
    | (with_reducible refine inv_fst ‹_› ?_)
    | (with_reducible refine inv_snd ‹_› ?_)
    | split
    | dsimp -zeta only
    | lift_lets

theorem execFreeRegion_inv (e : Env) (id : Nat) (s : State) {Q : Base} (hInv : Inv Q s) : OkNext Q (execFreeRegion e id s) := by
  unfold execFreeRegion
  repeat' first
    | with_reducible assumption
    | (intro _)
    | with_reducible apply mailbox_inv
    | with_reducible apply freeRegion_inv
    | with_reducible apply okNext_next
    | with_reducible apply okNext_fault

theorem execQueryRegion_inv (e : Env) (id : Nat) (s : State) {Q : Base} (hInv : Inv Q s) : OkNext Q (execQueryRegion e id s) := by
  unfold execQueryRegion
  repeat' first
    | with_reducible assumption
    | (intro _)
    | with_reducible apply mailbox_inv
    | with_reducible apply okNext_next
    | with_reducible apply okNext_fault
    | split
    | dsimp -zeta only

theorem grantRegion_inv (e : Env) (id g mode : Nat) (s : State) {Q : Base} (hInv : Inv Q s) : Inv Q (grantRegion e id g mode s).1 := by
  unfold grantRegion
  repeat' first
    | with_reducible assumption
    | (intro x; refine inv_have (Q := Q) (s := x) ?_ ?_; rotate_left; clear_value x; rotate_left; unfold x)
    | (intro (x : Flt))
    | (intro (x : Flash))
    | (intro (x : Pwr))
    | (intro (x : Glb))
    | (intro x; clear_value x)
    | (intro _)
    | with_reducible apply startLong_inv
    | with_reducible apply cohSettle_inv
    | with_reducible apply revokeLines_inv
    | with_reducible apply finishOp_inv
    | with_reducible apply setGrant_inv
    | with_reducible apply optInv_map
    | with_reducible apply optInv_bind
    | with_reducible apply inv_getD
    | (with_reducible refine inv_fst ‹_› ?_)
    | (with_reducible refine inv_snd ‹_› ?_)
    | split
    | dsimp -zeta only
    | lift_lets

theorem execGrantRegion_inv (e : Env) (id seat mode : Nat) (s : State) {Q : Base} (hInv : Inv Q s) : OkNext Q (execGrantRegion e id seat mode s) := by
  unfold execGrantRegion
  repeat' first
    | with_reducible assumption
    | (intro _)
    | with_reducible apply mailbox_inv
    | with_reducible apply grantRegion_inv
    | with_reducible apply okNext_next
    | with_reducible apply okNext_fault

theorem execAttachRegion_inv (e : Env) (id base : Nat) (s : State) {Q : Base} (hInv : Inv Q s) : OkNext Q (execAttachRegion e id base s) := by
  unfold execAttachRegion
  repeat' first
    | with_reducible assumption
    | (intro _)
    | with_reducible apply mailbox_inv
    | with_reducible apply updRegion_inv
    | with_reducible apply okNext_next
    | with_reducible apply okNext_fault
    | (simp -zeta only [inv_mk]; show Inv Q _)
    | dsimp -zeta only

theorem forgetHoldings_inv (id g : Nat) (s : State) {Q : Base} (hInv : Inv Q s) : Inv Q (forgetHoldings id g s) := by
  unfold forgetHoldings
  repeat' first
    | with_reducible assumption
    | (intro x; refine inv_have (Q := Q) (s := x) ?_ ?_; rotate_left; clear_value x; rotate_left; unfold x)
    | (intro (x : Flt))
    | (intro (x : Flash))
    | (intro (x : Pwr))
    | (intro (x : Glb))
    | (intro x; clear_value x)
    | (intro _)
    | with_reducible apply closeSnoop_inv
    | with_reducible apply updCoh_inv
    | (simp -zeta only [inv_mk]; show Inv Q _)
    | with_reducible apply optInv_map
    | with_reducible apply optInv_bind
    | with_reducible apply inv_getD
    | with_reducible apply inv_foldl
    | split
    | dsimp -zeta only
    | lift_lets

theorem execDetachRegion_inv (e : Env) (id : Nat) (s : State) {Q : Base} (hInv : Inv Q s) : OkNext Q (execDetachRegion e id s) := by
  unfold execDetachRegion
  repeat' first
    | with_reducible assumption
    | (intro _)
    | with_reducible apply mailbox_inv
    | with_reducible apply cohSettle_inv
    | with_reducible apply updRegion_inv
    | with_reducible apply forgetHoldings_inv
    | with_reducible apply okNext_next
    | with_reducible apply okNext_fault
    | (simp -zeta only [inv_mk]; show Inv Q _)
    | with_reducible apply optInv_map
    | with_reducible apply optInv_bind
    | with_reducible apply inv_getD
    | split
    | dsimp -zeta only

theorem setPoolLimits_inv (seat : Nat) (l : PoolLimits) (s : State) {Q : Base} (hInv : Inv Q s) : Inv Q (setPoolLimits seat l s).1 := by
  unfold setPoolLimits
  repeat' first
    | with_reducible assumption
    | (intro x; refine inv_have (Q := Q) (s := x) ?_ ?_; rotate_left; clear_value x; rotate_left; unfold x)
    | (intro (x : Flt))
    | (intro (x : Flash))
    | (intro (x : Pwr))
    | (intro (x : Glb))
    | (intro x; clear_value x)
    | (intro _)
    | with_reducible apply updSeat_inv
    | with_reducible apply updLd_inv
    | (simp -zeta only [inv_mk]; show Inv Q _)
    | with_reducible apply optInv_map
    | with_reducible apply optInv_bind
    | with_reducible apply inv_getD
    | split
    | dsimp -zeta only
    | lift_lets

theorem execSetPoolLimits_inv (e : Env) (seat cls maxRate maxOps keySlots regions dbSize : Nat) (s : State) {Q : Base} (hInv : Inv Q s) : OkNext Q (execSetPoolLimits e seat cls maxRate maxOps keySlots regions dbSize s) := by
  unfold execSetPoolLimits
  repeat' first
    | with_reducible assumption
    | (intro _)
    | with_reducible apply mailbox_inv
    | with_reducible apply setPoolLimits_inv
    | with_reducible apply okNext_next
    | with_reducible apply okNext_fault

theorem execQueryPoolLimits_inv (e : Env) (seat : Nat) (s : State) {Q : Base} (hInv : Inv Q s) : OkNext Q (execQueryPoolLimits e seat s) := by
  unfold execQueryPoolLimits
  repeat' first
    | with_reducible assumption
    | (intro x; refine inv_have (Q := Q) (s := x) ?_ ?_; rotate_left; clear_value x; rotate_left; unfold x)
    | (intro (x : Flt))
    | (intro (x : Flash))
    | (intro (x : Pwr))
    | (intro (x : Glb))
    | (intro x; clear_value x)
    | (intro _)
    | with_reducible apply mailbox_inv
    | with_reducible apply okNext_next
    | with_reducible apply okNext_fault
    | split
    | dsimp -zeta only
    | lift_lets

theorem execQueryKeySlots_inv (e : Env) (s : State) {Q : Base} (hInv : Inv Q s) : OkNext Q (execQueryKeySlots e s) := by
  unfold execQueryKeySlots
  repeat' first
    | with_reducible assumption
    | (intro _)
    | with_reducible apply mailbox_inv
    | with_reducible apply okNext_next
    | with_reducible apply okNext_fault
    | dsimp -zeta only

theorem keyMessage_inv (port ld : Nat) (secured : Bool) (f : Nat → State → State × List Nat) (s : State) {Q : Base} (hf : ∀ v0 v1, Inv Q v1 → Inv Q (f v0 v1).1) (hInv : Inv Q s) : OkNext Q (keyMessage port ld secured f s) := by
  unfold keyMessage
  repeat' first
    | with_reducible assumption
    | with_reducible apply onDoe_inv
    | exact fun _ => ⟨List.Subset.refl _, List.Subset.refl _⟩
    | exact fun _ => List.Subset.refl _
    | exact fun _ => ⟨id, id⟩
    | (intro x; refine inv_have (Q := Q) (s := x) ?_ ?_; rotate_left; clear_value x; rotate_left; unfold x)
    | (intro (x : Flt))
    | (intro (x : Flash))
    | (intro (x : Pwr))
    | (intro (x : Glb))
    | (intro x; clear_value x)
    | (intro _)
    | with_reducible apply emit_inv
    | with_reducible apply okNext_next
    | with_reducible apply okNext_fault
    | with_reducible apply hf
    | (simp -zeta only [inv_mk]; show Inv Q _)
    | with_reducible apply optInv_map
    | with_reducible apply optInv_bind
    | with_reducible apply inv_getD
    | (with_reducible refine inv_fst ‹_› ?_)
    | (with_reducible refine inv_snd ‹_› ?_)
    | (with_reducible refine inv_trd ‹_› ?_)
    | with_reducible apply inv_foldl
    | (with_reducible apply inv_ite)
    | split
    | dsimp -zeta only
    | lift_lets

theorem keyInstall_inv (slot key1 key2 seat : Nat) (s : State) {Q : Base} (hInv : Inv Q s) : Inv Q (keyInstall slot key1 key2 seat s).1 := by
  unfold keyInstall
  repeat' first
    | with_reducible assumption
    | (intro x; refine inv_have (Q := Q) (s := x) ?_ ?_; rotate_left; clear_value x; rotate_left; unfold x)
    | (intro (x : Flt))
    | (intro (x : Flash))
    | (intro (x : Pwr))
    | (intro (x : Glb))
    | (intro x; clear_value x)
    | (intro _)
    | (simp -zeta only [inv_mk]; show Inv Q _)
    | split
    | dsimp -zeta only
    | lift_lets

theorem execKeyInstall_inv (port ld : Nat) (secured : Bool) (slot key1 key2 : Nat) (s : State) {Q : Base} (hInv : Inv Q s) : OkNext Q (execKeyInstall port ld secured slot key1 key2 s) := by
  unfold execKeyInstall
  repeat' first
    | with_reducible assumption
    | (intro _)
    | with_reducible apply keyMessage_inv
    | with_reducible apply keyInstall_inv
    | with_reducible apply okNext_next
    | with_reducible apply okNext_fault

theorem keyErase_inv (slot seat : Nat) (s : State) {Q : Base} (hInv : Inv Q s) : Inv Q (keyErase slot seat s).1 := by
  unfold keyErase
  repeat' first
    | with_reducible assumption
    | (simp -zeta only [inv_mk]; show Inv Q _)
    | split
    | dsimp -zeta only

theorem execKeyErase_inv (port ld : Nat) (secured : Bool) (slot : Nat) (s : State) {Q : Base} (hInv : Inv Q s) : OkNext Q (execKeyErase port ld secured slot s) := by
  unfold execKeyErase
  repeat' first
    | with_reducible assumption
    | (intro _)
    | with_reducible apply keyMessage_inv
    | with_reducible apply keyErase_inv
    | with_reducible apply okNext_next
    | with_reducible apply okNext_fault

theorem keyQuery_inv (slot seat : Nat) (s : State) {Q : Base} (hInv : Inv Q s) : Inv Q (keyQuery slot seat s).1 := by
  unfold keyQuery
  repeat' first
    | with_reducible assumption
    | split
    | dsimp -zeta only

theorem execKeyQuery_inv (port ld : Nat) (secured : Bool) (slot : Nat) (s : State) {Q : Base} (hInv : Inv Q s) : OkNext Q (execKeyQuery port ld secured slot s) := by
  unfold execKeyQuery
  repeat' first
    | with_reducible assumption
    | (intro _)
    | with_reducible apply keyMessage_inv
    | with_reducible apply keyQuery_inv
    | with_reducible apply okNext_next
    | with_reducible apply okNext_fault

theorem poison_inv (seat addr : Nat) (s : State) {Q : Base} (hInv : Inv Q s) : Inv Q (poison seat addr s) := by
  unfold poison
  repeat' first
    | with_reducible assumption
    | with_reducible apply emit_inv

theorem windowRead_inv (seat addr part off : Nat) (s : State) {Q : Base} (hInv : Inv Q s) : Inv Q (windowRead seat addr part off s) := by
  unfold windowRead
  repeat' first
    | with_reducible assumption
    | exact fun _ => ⟨List.Subset.refl _, List.Subset.refl _⟩
    | exact fun _ => List.Subset.refl _
    | exact fun _ => ⟨id, id⟩
    | (intro x; refine inv_have (Q := Q) (s := x) ?_ ?_; rotate_left; clear_value x; rotate_left; unfold x)
    | (intro (x : Flt))
    | (intro (x : Flash))
    | (intro (x : Pwr))
    | (intro (x : Glb))
    | (intro x; clear_value x)
    | (intro _)
    | with_reducible apply emit_inv
    | with_reducible apply poison_inv
    | with_reducible apply logFault_inv
    | (simp -zeta only [inv_mk]; show Inv Q _)
    | with_reducible apply optInv_map
    | with_reducible apply optInv_bind
    | with_reducible apply inv_getD
    | (with_reducible refine inv_fst ‹_› ?_)
    | (with_reducible refine inv_snd ‹_› ?_)
    | (with_reducible refine inv_trd ‹_› ?_)
    | with_reducible apply inv_foldl
    | (with_reducible apply inv_ite)
    | split
    | dsimp -zeta only
    | lift_lets

theorem windowWrite_inv (seat addr part off mask : Nat) (data : List Byte) (s : State) {Q : Base} (hInv : Inv Q s) : Inv Q (windowWrite seat addr part off mask data s) := by
  unfold windowWrite
  repeat' first
    | with_reducible assumption
    | with_reducible apply dropWrite_inv
    | with_reducible apply holdWrite_inv
    | with_reducible apply windowNow_inv
    | split

theorem memRead_inv (seat addr : Nat) (op : CohOp) (s : State) {Q : Base} (hInv : Inv Q s) : Inv Q (memRead seat addr op s) := by
  unfold memRead
  repeat' first
    | with_reducible assumption
    | (intro x; refine inv_have (Q := Q) (s := x) ?_ ?_; rotate_left; clear_value x; rotate_left; unfold x)
    | (intro (x : Flt))
    | (intro (x : Flash))
    | (intro (x : Pwr))
    | (intro (x : Glb))
    | (intro x; clear_value x)
    | (intro _)
    | with_reducible apply countTraffic_inv
    | with_reducible apply poison_inv
    | with_reducible apply sableRecord_inv
    | with_reducible apply windowRead_inv
    | with_reducible apply cohSettle_inv
    | with_reducible apply cohHost_inv
    | with_reducible apply answerLine_inv
    | with_reducible apply logFault_inv
    | split
    | lift_lets

theorem placeWrite_inv (seat addr : Nat) (m : MetaVal) (mask : Nat) (data : List Byte) (s : State) {Q : Base} (hInv : Inv Q s) : Inv Q (placeWrite seat addr m mask data s) := by
  unfold placeWrite
  repeat' first
    | with_reducible assumption
    | (intro x; refine inv_have (Q := Q) (s := x) ?_ ?_; rotate_left; clear_value x; rotate_left; unfold x)
    | (intro (x : Flt))
    | (intro (x : Flash))
    | (intro (x : Pwr))
    | (intro (x : Glb))
    | (intro x; clear_value x)
    | (intro _)
    | with_reducible apply countTraffic_inv
    | with_reducible apply closedWrite_inv
    | with_reducible apply emit_inv
    | with_reducible apply windowWrite_inv
    | with_reducible apply dropWrite_inv
    | with_reducible apply cohSettle_inv
    | with_reducible apply cohHost_inv
    | with_reducible apply writeLine_inv
    | split
    | lift_lets

theorem memWrite_inv (seat addr : Nat) (m : MetaVal) (mask : Nat) (data : List Byte) (s : State) {Q : Base} (hInv : Inv Q s) : Inv Q (memWrite seat addr m mask data s) := by
  unfold memWrite
  repeat' first
    | with_reducible assumption
    | with_reducible apply ringStore_inv
    | with_reducible apply headerStore_inv
    | with_reducible apply placeWrite_inv
    | split

theorem memNoData_inv (seat addr : Nat) (op : CohOp) (s : State) {Q : Base} (hInv : Inv Q s) : Inv Q (memNoData seat addr op s) := by
  unfold memNoData
  repeat' first
    | with_reducible assumption
    | (intro x; refine inv_have (Q := Q) (s := x) ?_ ?_; rotate_left; clear_value x; rotate_left; unfold x)
    | (intro (x : Flt))
    | (intro (x : Flash))
    | (intro (x : Pwr))
    | (intro (x : Glb))
    | (intro x; clear_value x)
    | (intro _)
    | with_reducible apply emit_inv
    | with_reducible apply cohSettle_inv
    | with_reducible apply cohHost_inv
    | split
    | lift_lets

theorem serveReq_inv (n : Nat) (r : MemReq) (s : State) {Q : Base} (hInv : Inv Q s) : Inv Q (serveReq n r s) := by
  unfold serveReq
  repeat' first
    | with_reducible assumption
    | with_reducible apply memRead_inv
    | with_reducible apply memWrite_inv
    | with_reducible apply memNoData_inv
    | split

theorem admitReq_inv (port ld n : Nat) (r : MemReq) (s : State) {Q : Base} (hInv : Inv Q s) : Inv Q (admitReq port ld n r s) := by
  unfold admitReq
  repeat' first
    | with_reducible assumption
    | with_reducible apply updLd_inv
    | with_reducible apply serveReq_inv
    | (simp -zeta only [inv_mk]; show Inv Q _)
    | split
    | dsimp -zeta only

theorem pumpIngress_inv (port ld n : Nat) (x0 : List MemReq) (x1 : State) {Q : Base} (hInv : Inv Q x1) : Inv Q (pumpIngress port ld n x0 x1) := by
  induction x0 generalizing x1 with
  | nil =>
    unfold pumpIngress
    repeat' first
      | with_reducible assumption
      | with_reducible apply updLd_inv
      | with_reducible apply serveReq_inv
      | (simp -zeta only [inv_mk]; show Inv Q _)
      | split
      | dsimp -zeta only
  | cons a l ih =>
    unfold pumpIngress
    repeat' first
      | with_reducible assumption
      | with_reducible apply updLd_inv
      | with_reducible apply serveReq_inv
      | (simp -zeta only [inv_mk]; show Inv Q _)
      | with_reducible apply ih
      | split
      | dsimp -zeta only

theorem drainIngress_inv (port ld : Nat) (s : State) {Q : Base} (hInv : Inv Q s) : Inv Q (drainIngress port ld s) := by
  unfold drainIngress
  repeat' first
    | with_reducible assumption
    | with_reducible apply updLd_inv
    | with_reducible apply pumpIngress_inv
    | (simp -zeta only [inv_mk]; show Inv Q _)
    | split
    | dsimp -zeta only

theorem drainAll_inv (s : State) {Q : Base} (hInv : Inv Q s) : Inv Q (drainAll s) := by
  unfold drainAll
  repeat' first
    | with_reducible assumption
    | (intro _)
    | with_reducible apply drainIngress_inv
    | with_reducible apply optInv_map
    | with_reducible apply optInv_bind
    | with_reducible apply inv_getD
    | with_reducible apply inv_foldl
    | dsimp -zeta only

theorem endInterval_inv (port ld : Nat) (s : State) {Q : Base} (hInv : Inv Q s) : Inv Q (endInterval port ld s) := by
  unfold endInterval
  repeat' first
    | with_reducible assumption
    | with_reducible apply drainIngress_inv
    | with_reducible apply updLd_inv
    | (simp -zeta only [inv_mk]; show Inv Q _)
    | dsimp -zeta only

theorem execCollectionIntervalEnd_inv (port : Nat) (s : State) {Q : Base} (hInv : Inv Q s) : OkNext Q (execCollectionIntervalEnd port s) := by
  unfold execCollectionIntervalEnd
  repeat' first
    | with_reducible assumption
    | (intro _)
    | with_reducible apply endInterval_inv
    | with_reducible apply okNext_next
    | with_reducible apply okNext_fault
    | with_reducible apply inv_foldl
    | split
    | dsimp -zeta only

theorem onLd_inv (port ld : Nat) (f : Nat → State → State) (s : State) {Q : Base} (hf : ∀ v0 v1, Inv Q v1 → Inv Q (f v0 v1)) (hInv : Inv Q s) : OkNext Q (onLd port ld f s) := by
  unfold onLd
  repeat' first
    | with_reducible assumption
    | exact fun _ => ⟨List.Subset.refl _, List.Subset.refl _⟩
    | exact fun _ => List.Subset.refl _
    | exact fun _ => ⟨id, id⟩
    | (intro x; refine inv_have (Q := Q) (s := x) ?_ ?_; rotate_left; clear_value x; rotate_left; unfold x)
    | (intro (x : Flt))
    | (intro (x : Flash))
    | (intro (x : Pwr))
    | (intro (x : Glb))
    | (intro x; clear_value x)
    | (intro _)
    | with_reducible apply emit_inv
    | with_reducible apply sableRecord_inv
    | with_reducible apply logFault_inv
    | with_reducible apply okNext_next
    | with_reducible apply okNext_fault
    | with_reducible apply hf
    | (simp -zeta only [inv_mk]; show Inv Q _)
    | with_reducible apply optInv_map
    | with_reducible apply optInv_bind
    | with_reducible apply inv_getD
    | (with_reducible refine inv_fst ‹_› ?_)
    | (with_reducible refine inv_snd ‹_› ?_)
    | (with_reducible refine inv_trd ‹_› ?_)
    | with_reducible apply inv_foldl
    | (with_reducible apply inv_ite)
    | split
    | dsimp -zeta only
    | lift_lets

theorem execCxlMemRead_inv (port ld addr : Nat) (mv : MetaVal) (s : State) {Q : Base} (hInv : Inv Q s) : OkNext Q (execCxlMemRead port ld addr mv s) := by
  unfold execCxlMemRead
  repeat' first
    | with_reducible assumption
    | (intro _)
    | with_reducible apply onLd_inv
    | with_reducible apply admitReq_inv
    | with_reducible apply okNext_next
    | with_reducible apply okNext_fault
    | dsimp -zeta only

theorem execCxlMemWrite_inv (port ld addr : Nat) (mv : MetaVal) (mask : Nat) (data : List Byte) (s : State) {Q : Base} (hInv : Inv Q s) : OkNext Q (execCxlMemWrite port ld addr mv mask data s) := by
  unfold execCxlMemWrite
  repeat' first
    | with_reducible assumption
    | (intro _)
    | with_reducible apply onLd_inv
    | with_reducible apply admitReq_inv
    | with_reducible apply okNext_next
    | with_reducible apply okNext_fault
    | dsimp -zeta only

theorem execMemInv_inv (port ld addr : Nat) (mv : MetaVal) (s : State) {Q : Base} (hInv : Inv Q s) : OkNext Q (execMemInv port ld addr mv s) := by
  unfold execMemInv
  repeat' first
    | with_reducible assumption
    | (intro _)
    | with_reducible apply onLd_inv
    | with_reducible apply admitReq_inv
    | with_reducible apply okNext_next
    | with_reducible apply okNext_fault
    | dsimp -zeta only

theorem execMemRdData_inv (port ld addr : Nat) (s : State) {Q : Base} (hInv : Inv Q s) : OkNext Q (execMemRdData port ld addr s) := by
  unfold execMemRdData
  repeat' first
    | with_reducible assumption
    | (intro _)
    | with_reducible apply onLd_inv
    | with_reducible apply admitReq_inv
    | with_reducible apply okNext_next
    | with_reducible apply okNext_fault
    | dsimp -zeta only

theorem execMemClnEvct_inv (port ld addr : Nat) (s : State) {Q : Base} (hInv : Inv Q s) : OkNext Q (execMemClnEvct port ld addr s) := by
  unfold execMemClnEvct
  repeat' first
    | with_reducible assumption
    | (intro _)
    | with_reducible apply onLd_inv
    | with_reducible apply admitReq_inv
    | with_reducible apply evict_inv
    | with_reducible apply okNext_next
    | with_reducible apply okNext_fault
    | dsimp -zeta only

theorem execMemSpecRd_inv (port ld _addr : Nat) (s : State) {Q : Base} (hInv : Inv Q s) : OkNext Q (execMemSpecRd port ld _addr s) := by
  unfold execMemSpecRd
  repeat' first
    | with_reducible assumption
    | with_reducible apply okNext_next
    | with_reducible apply okNext_fault
    | split

theorem cohRecord_inv (seat addr : Nat) (s : State) {Q : Base} (hInv : Inv Q s) : Inv Q (cohRecord seat addr s) := by
  unfold cohRecord
  repeat' first
    | with_reducible assumption
    | with_reducible apply logFault_inv

theorem biRsp_inv (seat addr : Nat) (rsp : BiRsp) (block : Bool) (s : State) {Q : Base} (hInv : Inv Q s) : Inv Q (biRsp seat addr rsp block s) := by
  unfold biRsp
  repeat' first
    | with_reducible assumption
    | (intro x; refine inv_have (Q := Q) (s := x) ?_ ?_; rotate_left; clear_value x; rotate_left; unfold x)
    | (intro (x : Flt))
    | (intro (x : Flash))
    | (intro (x : Pwr))
    | (intro (x : Glb))
    | (intro x; clear_value x)
    | (intro _)
    | with_reducible apply cohRecord_inv
    | with_reducible apply cohSettle_inv
    | with_reducible apply closeSnoop_inv
    | split
    | lift_lets

theorem execBirsp_inv (port ld addr : Nat) (rsp : BiRsp) (block : Bool) (s : State) {Q : Base} (hInv : Inv Q s) : OkNext Q (execBirsp port ld addr rsp block s) := by
  unfold execBirsp
  repeat' first
    | with_reducible assumption
    | (intro _)
    | with_reducible apply onLd_inv
    | with_reducible apply biRsp_inv
    | with_reducible apply okNext_next
    | with_reducible apply okNext_fault
    | dsimp -zeta only

theorem ackConflicts_inv (s : State) {Q : Base} (hInv : Inv Q s) : Inv Q (ackConflicts s) := by
  unfold ackConflicts
  exact inv_foldl (fun _ _ h => emit_inv _ _ h) (updCoh_inv _ _ hInv)

theorem biConflict_inv (n addr : Nat) (s : State) {Q : Base} (hInv : Inv Q s) : Inv Q (biConflict n addr s) := by
  unfold biConflict
  split
  · exact updCoh_inv _ _ hInv
  · exact emit_inv _ _ hInv

theorem execBiconflict_inv (port ld addr : Nat) (s : State) {Q : Base} (hInv : Inv Q s) : OkNext Q (execBiconflict port ld addr s) := by
  unfold execBiconflict
  exact onLd_inv _ _ _ s (fun _ _ h => biConflict_inv _ _ _ h) hInv

theorem closeSnoopsOf_inv (f : Nat) (s : State) {Q : Base} (hInv : Inv Q s) : Inv Q (closeSnoopsOf f s) := by
  unfold closeSnoopsOf
  repeat' first
    | with_reducible assumption
    | (intro _)
    | with_reducible apply closeSnoop_inv
    | with_reducible apply inv_foldl
    | dsimp -zeta only

theorem fenceSeat_inv (f : Nat) (s : State) {Q : Base} (hInv : Inv Q s) : Inv Q (fenceSeat f s) := by
  unfold fenceSeat
  repeat' first
    | with_reducible assumption
    | (intro x; refine inv_have (Q := Q) (s := x) ?_ ?_; rotate_left; clear_value x; rotate_left; unfold x)
    | (intro (x : Flt))
    | (intro (x : Flash))
    | (intro (x : Pwr))
    | (intro (x : Glb))
    | (intro x; clear_value x)
    | (intro _)
    | with_reducible apply updCoh_inv
    | with_reducible apply logFault_inv
    | with_reducible apply cohGo_inv
    | with_reducible apply closeSnoopsOf_inv
    | with_reducible apply postNotice_inv
    | with_reducible apply releaseRings_inv
    | split
    | dsimp -zeta only
    | lift_lets

theorem liftFence_inv (f : Nat) (s : State) {Q : Base} (hInv : Inv Q s) : Inv Q (liftFence f s) := by
  unfold liftFence
  repeat' first
    | with_reducible assumption
    | with_reducible apply updCoh_inv
    | (simp -zeta only [inv_mk]; show Inv Q _)
    | dsimp -zeta only

theorem fenceByReset_inv (f : Nat) (s : State) {Q : Base} (hInv : Inv Q s) : Inv Q (fenceByReset f s) := by
  unfold fenceByReset
  repeat' first
    | with_reducible assumption
    | (intro x; refine inv_have (Q := Q) (s := x) ?_ ?_; rotate_left; clear_value x; rotate_left; unfold x)
    | (intro (x : Flt))
    | (intro (x : Flash))
    | (intro (x : Pwr))
    | (intro (x : Glb))
    | (intro x; clear_value x)
    | (intro _)
    | with_reducible apply fenceSeat_inv
    | with_reducible apply updCoh_inv
    | with_reducible apply liftFence_inv
    | (simp -zeta only [inv_mk]; show Inv Q _)
    | split
    | dsimp -zeta only
    | lift_lets

theorem execSnoopTimeout_inv (seat : Nat) (s : State) {Q : Base} (hInv : Inv Q s) : OkNext Q (execSnoopTimeout seat s) := by
  unfold execSnoopTimeout
  repeat' first
    | with_reducible assumption
    | with_reducible apply fenceSeat_inv
    | with_reducible apply okNext_next
    | with_reducible apply okNext_fault
    | split
    | dsimp -zeta only

theorem endSweep_inv (f : Nat) (s : State) {Q : Base} (hInv : Inv Q s) : Inv Q (endSweep f s) := by
  unfold endSweep
  repeat' first
    | with_reducible assumption
    | (intro x; refine inv_have (Q := Q) (s := x) ?_ ?_; rotate_left; clear_value x; rotate_left; unfold x)
    | (intro (x : Flt))
    | (intro (x : Flash))
    | (intro (x : Pwr))
    | (intro (x : Glb))
    | (intro x; clear_value x)
    | (intro _)
    | with_reducible apply updCoh_inv
    | with_reducible apply cohSettle_inv
    | with_reducible apply liftFence_inv
    | (simp -zeta only [inv_mk]; show Inv Q _)
    | with_reducible apply optInv_map
    | with_reducible apply optInv_bind
    | with_reducible apply inv_getD
    | split
    | dsimp -zeta only
    | lift_lets

theorem execFenceSweepEnd_inv (seat : Nat) (s : State) {Q : Base} (hInv : Inv Q s) : OkNext Q (execFenceSweepEnd seat s) := by
  unfold execFenceSweepEnd
  repeat' first
    | with_reducible assumption
    | with_reducible apply endSweep_inv
    | with_reducible apply okNext_next
    | with_reducible apply okNext_fault
    | split

theorem execQueryLine_inv (e : Env) (addr : Nat) (s : State) {Q : Base} (hInv : Inv Q s) : OkNext Q (execQueryLine e addr s) := by
  unfold execQueryLine
  repeat' first
    | with_reducible assumption
    | (intro _)
    | with_reducible apply mailbox_inv
    | with_reducible apply okNext_next
    | with_reducible apply okNext_fault
    | split
    | dsimp -zeta only

theorem execFenceSeat_inv (e : Env) (seat : Nat) (s : State) {Q : Base} (hInv : Inv Q s) : OkNext Q (execFenceSeat e seat s) := by
  unfold execFenceSeat
  repeat' first
    | with_reducible assumption
    | (intro _)
    | with_reducible apply mailbox_inv
    | with_reducible apply fenceSeat_inv
    | with_reducible apply okNext_next
    | with_reducible apply okNext_fault
    | split
    | dsimp -zeta only

theorem execUnfenceSeat_inv (e : Env) (seat : Nat) (s : State) {Q : Base} (hInv : Inv Q s) : OkNext Q (execUnfenceSeat e seat s) := by
  unfold execUnfenceSeat
  repeat' first
    | with_reducible assumption
    | (intro _)
    | with_reducible apply mailbox_inv
    | with_reducible apply liftFence_inv
    | with_reducible apply okNext_next
    | with_reducible apply okNext_fault
    | dsimp -zeta only

theorem execQueryCoherence_inv (e : Env) (s : State) {Q : Base} (hInv : Inv Q s) : OkNext Q (execQueryCoherence e s) := by
  unfold execQueryCoherence
  repeat' first
    | with_reducible assumption
    | (intro _)
    | with_reducible apply mailbox_inv
    | with_reducible apply okNext_next
    | with_reducible apply okNext_fault
    | with_reducible apply optInv_map
    | with_reducible apply optInv_bind
    | with_reducible apply inv_getD
    | dsimp -zeta only

theorem writeHdm_inv (op seat addr : Nat) (data : List Byte) (s : State) {Q : Base} (hInv : Inv Q s) : Inv Q (writeHdm op seat addr data s) := by
  unfold writeHdm
  repeat' first
    | with_reducible assumption
    | (intro x; refine inv_have (Q := Q) (s := x) ?_ ?_; rotate_left; clear_value x; rotate_left; unfold x)
    | (intro (x : Flt))
    | (intro (x : Flash))
    | (intro (x : Pwr))
    | (intro (x : Glb))
    | (intro x; clear_value x)
    | (intro _)
    | with_reducible apply holdWrite_inv
    | with_reducible apply putNow_inv
    | (with_reducible refine inv_fst ‹_› ?_)
    | (with_reducible refine inv_snd ‹_› ?_)
    | with_reducible apply inv_foldl
    | split
    | dsimp -zeta only
    | lift_lets

theorem askLines_inv (op : Nat) (reads writes : List (Nat × Nat)) (s : State) {Q : Base} (hInv : Inv Q s) : Inv Q (askLines op reads writes s) := by
  unfold askLines
  repeat' first
    | with_reducible assumption
    | (intro x; refine inv_have (Q := Q) (s := x) ?_ ?_; rotate_left; clear_value x; rotate_left; unfold x)
    | (intro (x : Flt))
    | (intro (x : Flash))
    | (intro (x : Pwr))
    | (intro (x : Glb))
    | (intro x; clear_value x)
    | (intro _)
    | with_reducible apply devInvalidate_inv
    | with_reducible apply cohSettle_inv
    | with_reducible apply cohAsk_inv
    | with_reducible apply inv_foldl
    | split
    | dsimp -zeta only
    | lift_lets

theorem putResult_inv (op seat result : Nat) (st : Status) (value : Nat) (s : State) {Q : Base} (hInv : Inv Q s) : Inv Q (putResult op seat result st value s) := by
  unfold putResult
  repeat' first
    | with_reducible assumption
    | with_reducible apply writeHdm_inv
    | split
    | dsimp -zeta only

theorem updXfer_inv (op : Nat) (f : Xfer → Xfer) (s : State) {Q : Base} (hInv : Inv Q s) : Inv Q (updXfer op f s) := by
  unfold updXfer
  repeat' first
    | with_reducible assumption
    | (simp -zeta only [inv_mk]; show Inv Q _)
    | dsimp -zeta only

theorem forgetReads_inv (op : Nat) (s : State) {Q : Base} (hInv : Inv Q s) : Inv Q (forgetReads op s) := by
  unfold forgetReads
  repeat' first
    | with_reducible assumption
    | with_reducible apply updCoh_inv
    | (simp -zeta only [inv_mk]; show Inv Q _)
    | dsimp -zeta only

theorem dropXfer_inv (op : Nat) (s : State) {Q : Base} (hInv : Inv Q s) : Inv Q (dropXfer op s) := by
  unfold dropXfer
  repeat' first
    | with_reducible assumption
    | with_reducible apply forgetReads_inv
    | (simp -zeta only [inv_mk]; show Inv Q _)

theorem endXfer_inv (op : Nat) (st : Status) (s : State) {Q : Base} (hInv : Inv Q s) : Inv Q (endXfer op st s) :=
  finishOp_inv _ _ _ (dropXfer_inv _ _ hInv)

theorem startPoolDesc_inv (seat : Nat) (d : PoolDesc) (s : State) {Q : Base} (hInv : Inv Q s) : Inv Q (startPoolDesc seat d s) := by
  unfold startPoolDesc
  repeat' first
    | with_reducible assumption
    | with_reducible apply peerReads_inv
    | split

theorem startNext_inv (x : Xfer) (s : State) {Q : Base} (hInv : Inv Q s) : Inv Q (startNext x s) := by
  unfold startNext
  repeat' first
    | with_reducible assumption
    | with_reducible apply startPoolDesc_inv
    | split

theorem poolOp_inv (e : Env) (descs : List PoolDesc) (s : State) {Q : Base} (hInv : Inv Q s) : Inv Q (poolOp e descs s).1 := by
  unfold poolOp
  repeat' first
    | with_reducible assumption
    | (intro x; refine inv_have (Q := Q) (s := x) ?_ ?_; rotate_left; clear_value x; rotate_left; unfold x)
    | (intro (x : Flt))
    | (intro (x : Flash))
    | (intro (x : Pwr))
    | (intro (x : Glb))
    | (intro x; clear_value x)
    | (intro _)
    | with_reducible apply startLong_inv
    | with_reducible apply startNext_inv
    | (simp -zeta only [inv_mk]; show Inv Q _)
    | (with_reducible refine inv_fst ‹_› ?_)
    | (with_reducible refine inv_snd ‹_› ?_)
    | split
    | dsimp -zeta only
    | lift_lets

theorem execPoolOperation_inv (e : Env) (descs : List PoolDesc) (s : State) {Q : Base} (hInv : Inv Q s) : OkNext Q (execPoolOperation e descs s) := by
  unfold execPoolOperation
  repeat' first
    | with_reducible assumption
    | (intro _)
    | with_reducible apply mailbox_inv
    | with_reducible apply poolOp_inv
    | with_reducible apply okNext_next
    | with_reducible apply okNext_fault

theorem failPool_inv (x : Xfer) (d : PoolDesc) (st : Status) (s : State) {Q : Base} (hInv : Inv Q s) : Inv Q (failPool x d st s) := by
  unfold failPool
  repeat' first
    | with_reducible assumption
    | with_reducible apply endXfer_inv
    | with_reducible apply putResult_inv

theorem finishPool_inv (x : Xfer) (d : PoolDesc) (value : Nat) (s : State) {Q : Base} (hInv : Inv Q s) : Inv Q (finishPool x d value s) := by
  unfold finishPool
  repeat' first
    | with_reducible assumption
    | (intro x; refine inv_have (Q := Q) (s := x) ?_ ?_; rotate_left; clear_value x; rotate_left; unfold x)
    | (intro (x : Flt))
    | (intro (x : Flash))
    | (intro (x : Pwr))
    | (intro (x : Glb))
    | (intro x; clear_value x)
    | (intro _)
    | with_reducible apply forgetReads_inv
    | with_reducible apply putResult_inv
    | with_reducible apply endXfer_inv
    | with_reducible apply startNext_inv
    | with_reducible apply updXfer_inv
    | (simp -zeta only [inv_mk]; show Inv Q _)
    | split
    | dsimp -zeta only
    | lift_lets

theorem issuePool_inv (x : Xfer) (d : PoolDesc) (bytes : List Byte) (value : Nat) (s : State) {Q : Base} (hInv : Inv Q s) : Inv Q (issuePool x d bytes value s) := by
  unfold issuePool
  repeat' first
    | with_reducible assumption
    | (intro x; refine inv_have (Q := Q) (s := x) ?_ ?_; rotate_left; clear_value x; rotate_left; unfold x)
    | (intro (x : Flt))
    | (intro (x : Flash))
    | (intro (x : Pwr))
    | (intro (x : Glb))
    | (intro x; clear_value x)
    | (intro _)
    | with_reducible apply flushReads_inv
    | with_reducible apply peerWrites_inv
    | with_reducible apply writeHdm_inv
    | with_reducible apply updXfer_inv
    | (simp -zeta only [inv_mk]; show Inv Q _)
    | split
    | dsimp -zeta only
    | lift_lets

theorem opFault_inv (x : Xfer) (st : Status) (s : State) {Q : Base} (hInv : Inv Q s) : Inv Q (opFault x st s) := by
  unfold opFault
  repeat' first
    | with_reducible assumption
    | with_reducible apply logFault_inv

theorem portFault_inv (x : Xfer) (s : State) {Q : Base} (hInv : Inv Q s) : Inv Q (portFault x s) := by
  unfold portFault
  repeat' first
    | with_reducible assumption
    | with_reducible apply logFault_inv

theorem runPool_inv (x : Xfer) (d : PoolDesc) (data : List Byte) (s : State) {Q : Base} (hInv : Inv Q s) : Inv Q (runPool x d data s) := by
  unfold runPool
  repeat' first
    | with_reducible assumption
    | (intro x; refine inv_have (Q := Q) (s := x) ?_ ?_; rotate_left; clear_value x; rotate_left; unfold x)
    | (intro (x : Flt))
    | (intro (x : Flash))
    | (intro (x : Pwr))
    | (intro (x : Glb))
    | (intro x; clear_value x)
    | (intro _)
    | with_reducible apply finishPool_inv
    | with_reducible apply askLines_inv
    | with_reducible apply failPool_inv
    | with_reducible apply portFault_inv
    | with_reducible apply opFault_inv
    | with_reducible apply issuePool_inv
    | (with_reducible refine inv_fst ‹_› ?_)
    | (with_reducible refine inv_snd ‹_› ?_)
    | split
    | dsimp -zeta only
    | lift_lets

theorem execPoolDescriptorEnd_inv (op : Nat) (data : List Byte) (s : State) {Q : Base} (hInv : Inv Q s) : OkNext Q (execPoolDescriptorEnd op data s) := by
  unfold execPoolDescriptorEnd
  repeat' first
    | with_reducible assumption
    | with_reducible apply runPool_inv
    | with_reducible apply okNext_next
    | with_reducible apply okNext_fault
    | split

theorem updSet_inv (f : PoolSet → PoolSet) (s : State) {Q : Base} (hInv : Inv Q s) : Inv Q (updSet f s) := by
  unfold updSet
  repeat' first
    | with_reducible assumption
    | (simp -zeta only [inv_mk]; show Inv Q _)

theorem joinSet_inv (e : Env) (b : JoinBody) (s : State) {Q : Base} (hInv : Inv Q s) : Inv Q (joinSet e b s).1 := by
  unfold joinSet
  repeat' first
    | with_reducible assumption
    | (intro x; refine inv_have (Q := Q) (s := x) ?_ ?_; rotate_left; clear_value x; rotate_left; unfold x)
    | (intro (x : Flt))
    | (intro (x : Flash))
    | (intro (x : Pwr))
    | (intro (x : Glb))
    | (intro x; clear_value x)
    | (intro _)
    | with_reducible apply startLong_inv
    | (simp -zeta only [inv_mk]; show Inv Q _)
    | with_reducible apply optInv_map
    | with_reducible apply optInv_bind
    | with_reducible apply inv_getD
    | split
    | dsimp -zeta only
    | lift_lets

theorem execJoinPoolSet_inv (e : Env) (b : JoinBody) (s : State) {Q : Base} (hInv : Inv Q s) : OkNext Q (execJoinPoolSet e b s) := by
  unfold execJoinPoolSet
  repeat' first
    | with_reducible assumption
    | (intro _)
    | with_reducible apply mailbox_inv
    | with_reducible apply joinSet_inv
    | with_reducible apply okNext_next
    | with_reducible apply okNext_fault

theorem endJoin_inv (st : Status) (s : State) {Q : Base} (hInv : Inv Q s) : Inv Q (endJoin st s) := by
  unfold endJoin
  repeat' first
    | with_reducible assumption
    | with_reducible apply finishOp_inv
    | with_reducible apply updSet_inv
    | (simp -zeta only [inv_mk]; show Inv Q _)
    | split
    | dsimp -zeta only

theorem execPoolSetFormed_inv (s : State) {Q : Base} (hInv : Inv Q s) : OkNext Q (execPoolSetFormed s) := by
  unfold execPoolSetFormed
  repeat' first
    | with_reducible assumption
    | with_reducible apply endJoin_inv
    | with_reducible apply updSet_inv
    | with_reducible apply okNext_next
    | with_reducible apply okNext_fault
    | (simp -zeta only [inv_mk]; show Inv Q _)
    | split
    | dsimp -zeta only

theorem execJoinTimeout_inv (s : State) {Q : Base} (hInv : Inv Q s) : OkNext Q (execJoinTimeout s) := by
  unfold execJoinTimeout
  repeat' first
    | with_reducible assumption
    | (intro x; refine inv_have (Q := Q) (s := x) ?_ ?_; rotate_left; clear_value x; rotate_left; unfold x)
    | (intro (x : Flt))
    | (intro (x : Flash))
    | (intro (x : Pwr))
    | (intro (x : Glb))
    | (intro x; clear_value x)
    | (intro _)
    | with_reducible apply endJoin_inv
    | with_reducible apply okNext_next
    | with_reducible apply okNext_fault
    | (simp -zeta only [inv_mk]; show Inv Q _)
    | split
    | lift_lets

theorem leaveSet_inv (e : Env) (s : State) {Q : Base} (hInv : Inv Q s) : Inv Q (leaveSet e s).1 := by
  unfold leaveSet
  repeat' first
    | with_reducible assumption
    | with_reducible apply freeHomes_inv
    | (intro x; refine inv_have (Q := Q) (s := x) ?_ ?_; rotate_left; clear_value x; rotate_left; unfold x)
    | (intro (x : Flt))
    | (intro (x : Flash))
    | (intro (x : Pwr))
    | (intro (x : Glb))
    | (intro x; clear_value x)
    | (intro _)
    | with_reducible apply startLong_inv
    | with_reducible apply endJoin_inv
    | with_reducible apply finishOp_inv
    | with_reducible apply releaseWrites_inv
    | (simp -zeta only [inv_mk]; show Inv Q _)
    | (with_reducible refine inv_fst ‹_› ?_)
    | (with_reducible refine inv_snd ‹_› ?_)
    | split
    | dsimp -zeta only
    | lift_lets

theorem execLeavePoolSet_inv (e : Env) (s : State) {Q : Base} (hInv : Inv Q s) : OkNext Q (execLeavePoolSet e s) := by
  unfold execLeavePoolSet
  repeat' first
    | with_reducible assumption
    | (intro _)
    | with_reducible apply mailbox_inv
    | with_reducible apply leaveSet_inv
    | with_reducible apply okNext_next
    | with_reducible apply okNext_fault

theorem execQueryPoolSet_inv (e : Env) (s : State) {Q : Base} (hInv : Inv Q s) : OkNext Q (execQueryPoolSet e s) := by
  unfold execQueryPoolSet
  repeat' first
    | with_reducible assumption
    | (intro _)
    | with_reducible apply mailbox_inv
    | with_reducible apply okNext_next
    | with_reducible apply okNext_fault
    | dsimp -zeta only

theorem serveReserve_inv (id size : Nat) (s : State) {Q : Base} (hInv : Inv Q s) : Inv Q (serveReserve id size s).2 := by
  unfold serveReserve
  repeat' first
    | with_reducible assumption
    | (intro x; refine inv_have (Q := Q) (s := x) ?_ ?_; rotate_left; clear_value x; rotate_left; unfold x)
    | (intro (x : Flt))
    | (intro (x : Flash))
    | (intro (x : Pwr))
    | (intro (x : Glb))
    | (intro x; clear_value x)
    | (intro _)
    | with_reducible apply releaseWrites_inv
    | (simp -zeta only [inv_mk]; show Inv Q _)
    | with_reducible apply optInv_map
    | with_reducible apply optInv_bind
    | with_reducible apply inv_getD
    | split
    | dsimp -zeta only
    | lift_lets

theorem serveMirror_inv (id off : Nat) (data : List Byte) (s : State) {Q : Base} (hInv : Inv Q s) : Inv Q (serveMirror id off data s) := by
  unfold serveMirror
  repeat' first
    | with_reducible assumption
    | (intro x; refine inv_have (Q := Q) (s := x) ?_ ?_; rotate_left; clear_value x; rotate_left; unfold x)
    | (intro (x : Flt))
    | (intro (x : Flash))
    | (intro (x : Pwr))
    | (intro (x : Glb))
    | (intro x; clear_value x)
    | (intro _)
    | with_reducible apply updSet_inv
    | (simp -zeta only [inv_mk]; show Inv Q _)
    | dsimp -zeta only
    | lift_lets

theorem programParity_inv (k : Nat) (m : List Host.Cell) (s : State) {Q : Base} (hInv : Inv Q s) : OptInv Q (programParity k m s) := by
  unfold programParity
  exact optInvP_map (place_inv _ _ _ _ _ (giveUnit_inv _ _ hInv)) fun x hx => programDone_inv _ _ (updSet_inv _ _ hx)

theorem serveDelta_inv (k off : Nat) (data : List Byte) (s : State) {Q : Base} (hInv : Inv Q s) : OptInv Q (serveDelta k off data s) := by
  unfold serveDelta
  dsimp only
  split
  · exact hInv
  · split
    · exact programParity_inv _ _ _ hInv
    · exact updSet_inv _ _ hInv

theorem answerEntry_inv (m seq : Nat) (kind : EntryKind) (st : Status) (target off : Nat) (data : List Byte) (cls : Nat) (s : State) {Q : Base} (hInv : Inv Q s) : Inv Q (answerEntry m seq kind st target off data cls s) := by
  unfold answerEntry
  repeat' first
    | with_reducible assumption
    | with_reducible apply sendEntry_inv

theorem takeWaiting_inv {m seq : Nat} {s : State} {Q : Base} {x : Entry × State} (e : takeWaiting m seq s = some x) (hInv : Inv Q s) : Inv Q x.2 := by
  unfold takeWaiting at e
  obtain ⟨y, _, rfl⟩ := Option.map_eq_some_iff.1 e
  exact updMember_inv _ _ _ hInv

theorem loseStripe_inv (key : UnitKey) (unit k : Nat) (s : State) {Q : Base} (hInv : Inv Q s) : Inv Q (loseStripe key unit k s) := by
  unfold loseStripe
  refine loseUnits_inv _ _ ?_
  split
  · exact hInv
  · exact addStale_inv _ _ hInv

theorem endStripe_inv (x : Stripe) (s : State) {Q : Base} (hInv : Inv Q s) : Inv Q (endStripe x s) := by
  unfold endStripe
  extract_lets t
  have ht : Inv Q t := updSet_inv _ _ hInv
  clear_value t
  split
  · exact ht
  · split
    · rename_i e
      exact programDone_inv _ _ (updSet_inv _ _ (inv_optP e (optInvP_or (place_inv _ _ _ _ _ ht) (place_inv _ _ _ _ _ ht))))
    · exact loseStripe_inv _ _ _ _ ht

theorem stripeData_inv (key : UnitKey) (off : Nat) (data : List Byte) (s : State) {Q : Base} (hInv : Inv Q s) : Inv Q (stripeData key off data s) := by
  unfold stripeData
  repeat' first
    | with_reducible assumption
    | (intro x; refine inv_have (Q := Q) (s := x) ?_ ?_; rotate_left; clear_value x; rotate_left; unfold x)
    | (intro (x : Flt))
    | (intro (x : Flash))
    | (intro (x : Pwr))
    | (intro (x : Glb))
    | (intro x; clear_value x)
    | (intro _)
    | with_reducible apply endStripe_inv
    | with_reducible apply updSet_inv
    | (simp -zeta only [inv_mk]; show Inv Q _)
    | split
    | dsimp -zeta only
    | lift_lets

theorem failStripe_inv (key : UnitKey) (s : State) {Q : Base} (hInv : Inv Q s) : Inv Q (failStripe key s) := by
  unfold failStripe
  repeat' first
    | with_reducible assumption
    | with_reducible apply loseStripe_inv
    | (intro x; refine inv_have (Q := Q) (s := x) ?_ ?_; rotate_left; clear_value x; rotate_left; unfold x)
    | (intro (x : Flt))
    | (intro (x : Flash))
    | (intro (x : Pwr))
    | (intro (x : Glb))
    | (intro x; clear_value x)
    | (intro _)
    | with_reducible apply loseUnits_inv
    | with_reducible apply addStale_inv
    | with_reducible apply updSet_inv
    | (simp -zeta only [inv_mk]; show Inv Q _)
    | with_reducible apply optInv_map
    | with_reducible apply optInv_bind
    | with_reducible apply inv_getD
    | split
    | dsimp -zeta only
    | lift_lets

theorem repairLine_inv (seat hpa region off code : Nat) (data : List Byte) (s : State) {Q : Base} (hInv : Inv Q s) : Inv Q (repairLine seat hpa region off code data s) := by
  unfold repairLine
  repeat' first
    | with_reducible assumption
    | (intro x; refine inv_have (Q := Q) (s := x) ?_ ?_; rotate_left; clear_value x; rotate_left; unfold x)
    | (intro (x : Flt))
    | (intro (x : Flash))
    | (intro (x : Pwr))
    | (intro (x : Glb))
    | (intro x; clear_value x)
    | (intro _)
    | with_reducible apply emit_inv
    | with_reducible apply updRegion_inv
    | (simp -zeta only [inv_mk]; show Inv Q _)
    | split
    | dsimp -zeta only
    | lift_lets

end Sys2Proof.Machine
end

