-- ==== Sys2Proof/Laws/Kept5.lean ====
section
/-! SUPPORT. Each operation and meaning keeps the queue, the layout of the device-wide registers and what is retired (part 5 of 6). -/

namespace Sys2Proof.Machine

set_option maxRecDepth 4000
set_option linter.unusedVariables false

theorem settleAnswer_inv (st : Nat) (data : List Byte) (l : List EntryUse) (s : State) {Q : Base} (hInv : Inv Q s) : Inv Q (settleAnswer st data l s) := by
  unfold settleAnswer
  repeat' first
    | with_reducible assumption
    | (intro x; refine inv_have (Q := Q) (s := x) ?_ ?_; rotate_left; clear_value x; rotate_left; unfold x)
    | (intro (x : Flt))
    | (intro (x : Flash))
    | (intro (x : Pwr))
    | (intro (x : Glb))
    | (intro x; clear_value x)
    | (intro _)
    | with_reducible apply emit_inv
    | with_reducible apply repairLine_inv
    | with_reducible apply stripeData_inv
    | with_reducible apply failStripe_inv
    | with_reducible apply removeRegion_inv
    | with_reducible apply releaseRegion_inv
    | with_reducible apply finishShort_inv
    | with_reducible apply releaseWrites_inv
    | with_reducible apply updRegion_inv
    | (simp -zeta only [inv_mk]; show Inv Q _)
    | with_reducible apply inv_foldl
    | split
    | dsimp -zeta only
    | lift_lets

theorem serveAnswer_inv (m : Nat) (e : StreamEntry) (s : State) {Q : Base} (hInv : Inv Q s) : Inv Q (serveAnswer m e s) := by
  unfold serveAnswer
  split
  · rename_i h
    exact settleAnswer_inv _ _ _ _ (takeWaiting_inv h hInv)
  · exact hInv

theorem serveEntry_inv (m seq : Nat) (e : StreamEntry) (s : State) {Q : Base} (hInv : Inv Q s) : Inv Q (serveEntry m seq e s) := by
  unfold serveEntry
  repeat' first
    | with_reducible assumption
    | (intro x; refine inv_have (Q := Q) (s := x) ?_ ?_; rotate_left; clear_value x; rotate_left; unfold x)
    | (intro (x : Flt))
    | (intro (x : Flash))
    | (intro (x : Pwr))
    | (intro (x : Glb))
    | (intro x; clear_value x)
    | (intro _)
    | with_reducible apply serveMirror_inv
    | with_reducible apply serveReserve_inv
    | with_reducible apply answerEntry_inv
    | with_reducible apply inv_getD
    | with_reducible apply serveDelta_inv
    | with_reducible apply serveAnswer_inv
    | (with_reducible refine inv_fst ‹_› ?_)
    | (with_reducible refine inv_snd ‹_› ?_)
    | split
    | lift_lets

theorem writeCredit_inv (m : Member) (s : State) {Q : Base} (hInv : Inv Q s) : Inv Q (writeCredit m s) := by
  unfold writeCredit
  repeat' first
    | with_reducible assumption
    | with_reducible apply peerRecord_inv
    | split

theorem execPoolsetEntry_inv (member seq : Nat) (entry : StreamEntry) (s : State) {Q : Base} (hInv : Inv Q s) : OkNext Q (execPoolsetEntry member seq entry s) := by
  unfold execPoolsetEntry
  repeat' first
    | with_reducible assumption
    | (intro x; refine inv_have (Q := Q) (s := x) ?_ ?_; rotate_left; clear_value x; rotate_left; unfold x)
    | (intro (x : Flt))
    | (intro (x : Flash))
    | (intro (x : Pwr))
    | (intro (x : Glb))
    | (intro x; clear_value x)
    | (intro _)
    | with_reducible apply updMember_inv
    | with_reducible apply serveEntry_inv
    | with_reducible apply cohSettle_inv
    | with_reducible apply writeCredit_inv
    | with_reducible apply okNext_next
    | with_reducible apply okNext_fault
    | (simp -zeta only [inv_mk]; show Inv Q _)
    | split
    | dsimp -zeta only
    | lift_lets

theorem takeCredit_inv (m : Member) (value : Nat) (s : State) {Q : Base} (hInv : Inv Q s) : Inv Q (takeCredit m value s) := by
  unfold takeCredit
  repeat' first
    | with_reducible assumption
    | (intro x; refine inv_have (Q := Q) (s := x) ?_ ?_; rotate_left; clear_value x; rotate_left; unfold x)
    | (intro (x : Flt))
    | (intro (x : Flash))
    | (intro (x : Pwr))
    | (intro (x : Glb))
    | (intro x; clear_value x)
    | (intro _)
    | with_reducible apply updMember_inv
    | with_reducible apply settleUses_inv
    | with_reducible apply cohSettle_inv
    | with_reducible apply pumpStream_inv
    | with_reducible apply inv_foldl
    | dsimp -zeta only
    | lift_lets

theorem execPoolsetCredit_inv (member value : Nat) (s : State) {Q : Base} (hInv : Inv Q s) : OkNext Q (execPoolsetCredit member value s) := by
  unfold execPoolsetCredit
  repeat' first
    | with_reducible assumption
    | with_reducible apply takeCredit_inv
    | with_reducible apply okNext_next
    | with_reducible apply okNext_fault
    | split

theorem settleAbsent_inv (e : Entry) (s : State) {Q : Base} (hInv : Inv Q s) : Inv Q (settleAbsent e s) := by
  unfold settleAbsent
  repeat' first
    | with_reducible assumption
    | (intro x; refine inv_have (Q := Q) (s := x) ?_ ?_; rotate_left; clear_value x; rotate_left; unfold x)
    | (intro (x : Flt))
    | (intro (x : Flash))
    | (intro (x : Pwr))
    | (intro (x : Glb))
    | (intro x; clear_value x)
    | (intro _)
    | with_reducible apply addStale_inv
    | with_reducible apply emit_inv
    | with_reducible apply failStripe_inv
    | with_reducible apply inv_foldl
    | split
    | dsimp -zeta only
    | lift_lets

theorem memberAbsent_inv (m : Member) (s : State) {Q : Base} (hInv : Inv Q s) : Inv Q (memberAbsent m s) := by
  unfold memberAbsent
  repeat' first
    | with_reducible assumption
    | (intro x; refine inv_have (Q := Q) (s := x) ?_ ?_; rotate_left; clear_value x; rotate_left; unfold x)
    | (intro (x : Flt))
    | (intro (x : Flash))
    | (intro (x : Pwr))
    | (intro (x : Glb))
    | (intro x; clear_value x)
    | (intro _)
    | with_reducible apply updMember_inv
    | with_reducible apply settleAbsent_inv
    | with_reducible apply logFault_inv
    | with_reducible apply cohSettle_inv
    | with_reducible apply pldmEvent_inv
    | with_reducible apply postNotice_inv
    | (simp -zeta only [inv_mk]; show Inv Q _)
    | with_reducible apply optInv_map
    | with_reducible apply optInv_bind
    | with_reducible apply inv_getD
    | with_reducible apply inv_foldl
    | split
    | dsimp -zeta only
    | lift_lets

theorem execMemberAbsent_inv (member : Nat) (s : State) {Q : Base} (hInv : Inv Q s) : OkNext Q (execMemberAbsent member s) := by
  unfold execMemberAbsent
  repeat' first
    | with_reducible assumption
    | with_reducible apply memberAbsent_inv
    | with_reducible apply okNext_next
    | with_reducible apply okNext_fault
    | split
    | dsimp -zeta only

theorem rejoin_inv (m : Member) (s : State) {Q : Base} (hInv : Inv Q s) : Inv Q (rejoin m s) := by
  unfold rejoin
  repeat' first
    | with_reducible assumption
    | (intro x; refine inv_have (Q := Q) (s := x) ?_ ?_; rotate_left; clear_value x; rotate_left; unfold x)
    | (intro (x : Flt))
    | (intro (x : Flash))
    | (intro (x : Pwr))
    | (intro (x : Glb))
    | (intro x; clear_value x)
    | (intro _)
    | with_reducible apply updMember_inv
    | with_reducible apply journal_inv
    | with_reducible apply updSet_inv
    | with_reducible apply reserveReplica_inv
    | with_reducible apply updRegion_inv
    | (simp -zeta only [inv_mk]; show Inv Q _)
    | with_reducible apply inv_foldl
    | split
    | dsimp -zeta only
    | lift_lets

theorem execMemberRejoin_inv (member : Nat) (s : State) {Q : Base} (hInv : Inv Q s) : OkNext Q (execMemberRejoin member s) := by
  unfold execMemberRejoin
  repeat' first
    | with_reducible assumption
    | (intro x; refine inv_have (Q := Q) (s := x) ?_ ?_; rotate_left; clear_value x; rotate_left; unfold x)
    | (intro (x : Flt))
    | (intro (x : Flash))
    | (intro (x : Pwr))
    | (intro (x : Glb))
    | (intro x; clear_value x)
    | (intro _)
    | with_reducible apply cohSettle_inv
    | with_reducible apply rejoin_inv
    | with_reducible apply settleAbsent_inv
    | with_reducible apply okNext_next
    | with_reducible apply okNext_fault
    | with_reducible apply optInv_map
    | with_reducible apply optInv_bind
    | with_reducible apply inv_getD
    | with_reducible apply inv_foldl
    | split
    | dsimp -zeta only
    | lift_lets

theorem copyReplica_inv (r : Region) (s : State) {Q : Base} (hInv : Inv Q s) : Inv Q (copyReplica r s) := by
  unfold copyReplica
  repeat' first
    | with_reducible assumption
    | (intro _)
    | with_reducible apply sendEntry_inv
    | with_reducible apply inv_foldl
    | dsimp -zeta only

theorem execMirrorResyncComplete_inv (region : Nat) (s : State) {Q : Base} (hInv : Inv Q s) : OkNext Q (execMirrorResyncComplete region s) := by
  unfold execMirrorResyncComplete
  repeat' first
    | with_reducible assumption
    | (intro x; refine inv_have (Q := Q) (s := x) ?_ ?_; rotate_left; clear_value x; rotate_left; unfold x)
    | (intro (x : Flt))
    | (intro (x : Flash))
    | (intro (x : Pwr))
    | (intro (x : Glb))
    | (intro x; clear_value x)
    | (intro _)
    | with_reducible apply updRegion_inv
    | with_reducible apply copyReplica_inv
    | with_reducible apply okNext_next
    | with_reducible apply okNext_fault
    | (simp -zeta only [inv_mk]; show Inv Q _)
    | split
    | dsimp -zeta only
    | lift_lets

theorem execRebuildMember_inv (e : Env) (s : State) {Q : Base} (hInv : Inv Q s) : OkNext Q (execRebuildMember e s) := by
  unfold execRebuildMember
  repeat' first
    | with_reducible assumption
    | (intro _)
    | with_reducible apply mailbox_inv
    | with_reducible apply startLong_inv
    | with_reducible apply updSet_inv
    | with_reducible apply okNext_next
    | with_reducible apply okNext_fault
    | (simp -zeta only [inv_mk]; show Inv Q _)
    | split
    | dsimp -zeta only

theorem restoreHome_inv (r : Region) (lost : Bool) (j : Nat) (s : State) {Q : Base} (hInv : Inv Q s) : Inv Q (restoreHome r lost j s) := by
  unfold restoreHome
  extract_lets key t unit q
  have ht : Inv Q t := giveUnit_inv _ _ (takeParity_inv _ _ hInv)
  clear_value t q
  split
  · exact programDone_inv _ _ ht
  · split
    · rename_i e
      exact programDone_inv _ _ (inv_optP e (place_inv _ _ _ _ _ ht))
    · exact inv_foldl (fun t k h => markDirty_inv _ _ h) ht

theorem restoreHomes_inv (r : Region) (lost : Bool) (s : State) {Q : Base} (hInv : Inv Q s) : Inv Q (restoreHomes r lost s) := by
  unfold restoreHomes
  repeat' first
    | with_reducible assumption
    | (intro _)
    | with_reducible apply restoreHome_inv
    | with_reducible apply inv_foldl
    | dsimp -zeta only

theorem emptySlot_inv (x : RebuiltRegion) (s : State) {Q : Base} (hInv : Inv Q s) : Inv Q (emptySlot x s) := by
  unfold emptySlot
  repeat' first
    | with_reducible assumption
    | (simp -zeta only [inv_mk]; show Inv Q _)
    | split

theorem restoreRegion_inv (x : RebuiltRegion) (s : State) {Q : Base} (hInv : Inv Q s) : Inv Q (restoreRegion x s) := by
  unfold restoreRegion
  repeat' first
    | with_reducible assumption
    | (intro x; refine inv_have (Q := Q) (s := x) ?_ ?_; rotate_left; clear_value x; rotate_left; unfold x)
    | (intro (x : Flt))
    | (intro (x : Flash))
    | (intro (x : Pwr))
    | (intro (x : Glb))
    | (intro x; clear_value x)
    | (intro _)
    | with_reducible apply chargeRegion_inv
    | with_reducible apply emptySlot_inv
    | with_reducible apply restoreHomes_inv
    | (simp -zeta only [inv_mk]; show Inv Q _)
    | with_reducible apply optInv_map
    | with_reducible apply optInv_bind
    | with_reducible apply inv_getD
    | split
    | dsimp -zeta only
    | lift_lets

theorem restoreParity_inv (k : Nat) (data : List Byte) (s : State) {Q : Base} (hInv : Inv Q s) : Inv Q (restoreParity k data s) := by
  unfold restoreParity
  split
  · exact hInv
  · exact inv_getD (programParity_inv _ _ _ hInv) (updSet_inv _ _ hInv)

theorem restoreAll_inv (x : Rebuilt) (s : State) {Q : Base} (hInv : Inv Q s) : Inv Q (restoreAll x s) := by
  unfold restoreAll
  exact inv_foldl (fun t p ht => restoreParity_inv _ _ _ ht) (inv_foldl (fun t r ht => restoreRegion_inv _ _ ht) hInv)

theorem execRebuildComplete_inv (op : Nat) (found : Rebuilt) (s : State) {Q : Base} (hInv : Inv Q s) : OkNext Q (execRebuildComplete op found s) := by
  unfold execRebuildComplete
  repeat' first
    | with_reducible assumption
    | (intro _)
    | with_reducible apply finishOp_inv
    | with_reducible apply updSet_inv
    | with_reducible apply restoreAll_inv
    | with_reducible apply okNext_next
    | with_reducible apply okNext_fault
    | (simp -zeta only [inv_mk]; show Inv Q _)
    | with_reducible apply inv_foldl
    | split
    | dsimp -zeta only

theorem execOpenRun_inv (e : Env) (part run frames maxObjects : Nat) (s : State) {Q : Base} (hInv : Inv Q s) : OkNext Q (execOpenRun e part run frames maxObjects s) := by
  unfold execOpenRun
  repeat' first
    | with_reducible assumption
    | (intro x; refine inv_have (Q := Q) (s := x) ?_ ?_; rotate_left; clear_value x; rotate_left; unfold x)
    | (intro (x : Flt))
    | (intro (x : Flash))
    | (intro (x : Pwr))
    | (intro (x : Glb))
    | (intro x; clear_value x)
    | (intro _)
    | with_reducible apply mailbox_inv
    | with_reducible apply updPart_inv
    | with_reducible apply chargeAcct_inv
    | with_reducible apply okNext_next
    | with_reducible apply okNext_fault
    | (simp -zeta only [inv_mk]; show Inv Q _)
    | dsimp -zeta only
    | lift_lets

theorem execCloseRun_inv (e : Env) (part run : Nat) (s : State) {Q : Base} (hInv : Inv Q s) : OkNext Q (execCloseRun e part run s) := by
  unfold execCloseRun
  repeat' first
    | with_reducible assumption
    | (intro x; refine inv_have (Q := Q) (s := x) ?_ ?_; rotate_left; clear_value x; rotate_left; unfold x)
    | (intro (x : Flt))
    | (intro (x : Flash))
    | (intro (x : Pwr))
    | (intro (x : Glb))
    | (intro x; clear_value x)
    | (intro _)
    | with_reducible apply mailbox_inv
    | with_reducible apply startLong_inv
    | with_reducible apply finishOp_inv
    | with_reducible apply closeRunNow_inv
    | with_reducible apply okNext_next
    | with_reducible apply okNext_fault
    | (with_reducible refine inv_fst ‹_› ?_)
    | (with_reducible refine inv_snd ‹_› ?_)
    | split
    | dsimp -zeta only
    | lift_lets

theorem execQueryStash_inv (e : Env) (part run start : Nat) (s : State) {Q : Base} (hInv : Inv Q s) : OkNext Q (execQueryStash e part run start s) := by
  unfold execQueryStash
  repeat' first
    | with_reducible assumption
    | (intro _)
    | with_reducible apply mailbox_inv
    | with_reducible apply okNext_next
    | with_reducible apply okNext_fault
    | split
    | dsimp -zeta only

theorem consumeKey_inv (part run key : Nat) (s : State) {Q : Base} (hInv : Inv Q s) : Inv Q (consumeKey part run key s) := by
  unfold consumeKey
  repeat' first
    | with_reducible assumption
    | with_reducible apply updRun_inv
    | (simp -zeta only [inv_mk]; show Inv Q _)
    | split
    | dsimp -zeta only

theorem readObj_inv (part run key n : Nat) (s : State) {Q : Base} (hInv : Inv Q s) : Inv Q (readObj part run key n s) := by
  unfold readObj
  repeat' first
    | with_reducible assumption
    | with_reducible apply readHomes_inv

theorem endUnspill_inv (part run n : Nat) (s : State) {Q : Base} (hInv : Inv Q s) : Inv Q (endUnspill part run n s) := by
  unfold endUnspill
  repeat' first
    | with_reducible assumption
    | (intro x; refine inv_have (Q := Q) (s := x) ?_ ?_; rotate_left; clear_value x; rotate_left; unfold x)
    | (intro (x : Flt))
    | (intro (x : Flash))
    | (intro (x : Pwr))
    | (intro (x : Glb))
    | (intro x; clear_value x)
    | (intro _)
    | with_reducible apply readObj_inv
    | with_reducible apply updObj_inv
    | with_reducible apply updRun_inv
    | with_reducible apply touchRecord_inv
    | (simp -zeta only [inv_mk]; show Inv Q _)
    | with_reducible apply optInv_map
    | with_reducible apply optInv_bind
    | with_reducible apply inv_getD
    | split
    | dsimp -zeta only
    | lift_lets

theorem touchSchedule_inv (part : Nat) (r : Run) (count : Nat) (s : State) {Q : Base} (hInv : Inv Q s) : Inv Q (touchSchedule part r count s) := by
  unfold touchSchedule
  repeat' first
    | with_reducible assumption
    | (intro _)
    | with_reducible apply touchTable_inv
    | with_reducible apply inv_foldl
    | split
    | dsimp -zeta only

theorem setSchedule_inv (e : Env) (part run count list : Nat) (s : State) {Q : Base} (hInv : Inv Q s) : Inv Q (setSchedule e part run count list s).1 := by
  unfold setSchedule
  repeat' first
    | with_reducible assumption
    | (intro x; refine inv_have (Q := Q) (s := x) ?_ ?_; rotate_left; clear_value x; rotate_left; unfold x)
    | (intro (x : Flt))
    | (intro (x : Flash))
    | (intro (x : Pwr))
    | (intro (x : Glb))
    | (intro x; clear_value x)
    | (intro _)
    | with_reducible apply startLong_inv
    | with_reducible apply endUnspill_inv
    | with_reducible apply updRun_inv
    | with_reducible apply touchSchedule_inv
    | with_reducible apply finishOp_inv
    | (simp -zeta only [inv_mk]; show Inv Q _)
    | (with_reducible refine inv_fst ‹_› ?_)
    | (with_reducible refine inv_snd ‹_› ?_)
    | split
    | dsimp -zeta only
    | lift_lets

theorem execSetSchedule_inv (e : Env) (part run count list : Nat) (s : State) {Q : Base} (hInv : Inv Q s) : OkNext Q (execSetSchedule e part run count list s) := by
  unfold execSetSchedule
  repeat' first
    | with_reducible assumption
    | (intro _)
    | with_reducible apply mailbox_inv
    | with_reducible apply setSchedule_inv
    | with_reducible apply okNext_next
    | with_reducible apply okNext_fault

theorem spillObj_inv (part run : Nat) (o : StashObj) (s : State) {Q : Base} (hInv : Inv Q s) : OptInv Q (spillObj part run o s) := by
  unfold spillObj
  exact optInv_map (writeBackAll_inv _ _ hInv) fun t ht => touchRecord_inv _ _ _ _ (updObj_inv _ _ _ _ _ (forgetFrames_inv _ _ ht))

theorem makeRoom_inv (part run n : Nat) (above : Option Nat) (x0 : Nat) (x1 : State) {Q : Base} (hInv : Inv Q x1) : Inv Q (makeRoom part run n above x0 x1) := by
  induction x0 generalizing x1 with
  | zero =>
    unfold makeRoom
    repeat' first
      | with_reducible assumption
      | with_reducible apply spillObj_inv
      | (with_reducible refine inv_opt ‹_› ?_)
      | split
  | succ n ih =>
    unfold makeRoom
    repeat' first
      | with_reducible assumption
      | with_reducible apply spillObj_inv
      | (with_reducible refine inv_opt ‹_› ?_)
      | with_reducible apply ih
      | split

theorem beginUnspill_inv (part run : Nat) (o : StashObj) (s : State) {Q : Base} (hInv : Inv Q s) : Inv Q (beginUnspill part run o s) := by
  unfold beginUnspill
  repeat' first
    | with_reducible assumption
    | with_reducible apply updObj_inv
    | with_reducible apply updRun_inv
    | (simp -zeta only [inv_mk]; show Inv Q _)
    | dsimp -zeta only

theorem execUnspill_inv (part run : Nat) (s : State) {Q : Base} (hInv : Inv Q s) : OkNext Q (execUnspill part run s) := by
  unfold execUnspill
  repeat' first
    | with_reducible assumption
    | (intro x; refine inv_have (Q := Q) (s := x) ?_ ?_; rotate_left; clear_value x; rotate_left; unfold x)
    | (intro (x : Flt))
    | (intro (x : Flash))
    | (intro (x : Pwr))
    | (intro (x : Glb))
    | (intro x; clear_value x)
    | (intro _)
    | with_reducible apply makeRoom_inv
    | with_reducible apply beginUnspill_inv
    | with_reducible apply okNext_next
    | with_reducible apply okNext_fault
    | with_reducible apply optInv_map
    | with_reducible apply optInv_bind
    | with_reducible apply inv_getD
    | (with_reducible refine inv_fst ‹_› ?_)
    | (with_reducible refine inv_snd ‹_› ?_)
    | split
    | lift_lets

theorem execUnspillComplete_inv (part run : Nat) (s : State) {Q : Base} (hInv : Inv Q s) : OkNext Q (execUnspillComplete part run s) := by
  unfold execUnspillComplete
  repeat' first
    | with_reducible assumption
    | with_reducible apply endUnspill_inv
    | with_reducible apply okNext_next
    | with_reducible apply okNext_fault
    | with_reducible apply optInv_map
    | with_reducible apply optInv_bind
    | with_reducible apply inv_getD
    | split
    | dsimp -zeta only

theorem takeObject_inv (seat : Nat) (d : StashDesc) (r : Run) (first : Nat) (s : State) {Q : Base} (hInv : Inv Q s) : Inv Q (takeObject seat d r first s) := by
  unfold takeObject
  repeat' first
    | with_reducible assumption
    | (intro x; refine inv_have (Q := Q) (s := x) ?_ ?_; rotate_left; clear_value x; rotate_left; unfold x)
    | (intro (x : Flt))
    | (intro (x : Flash))
    | (intro (x : Pwr))
    | (intro (x : Glb))
    | (intro x; clear_value x)
    | (intro _)
    | with_reducible apply touchRecord_inv
    | with_reducible apply chargeHomes_inv
    | with_reducible apply updRun_inv
    | (simp -zeta only [inv_mk]; show Inv Q _)
    | with_reducible apply optInv_map
    | with_reducible apply optInv_bind
    | with_reducible apply inv_getD
    | dsimp -zeta only
    | lift_lets

theorem beginPut_inv (x : Xfer) (d : StashDesc) (s : State) {Q : Base} (hInv : Inv Q s) : Inv Q (beginPut x d s) := by
  unfold beginPut
  repeat' first
    | with_reducible assumption
    | (intro x; refine inv_have (Q := Q) (s := x) ?_ ?_; rotate_left; clear_value x; rotate_left; unfold x)
    | (intro (x : Flt))
    | (intro (x : Flash))
    | (intro (x : Pwr))
    | (intro (x : Glb))
    | (intro x; clear_value x)
    | (intro _)
    | with_reducible apply makeRoom_inv
    | with_reducible apply takeObject_inv
    | with_reducible apply peerReads_inv
    | with_reducible apply updXfer_inv
    | (simp -zeta only [inv_mk]; show Inv Q _)
    | split
    | dsimp -zeta only
    | lift_lets

theorem beginStash_inv (x : Xfer) (s : State) {Q : Base} (hInv : Inv Q s) : Inv Q (beginStash x s) := by
  unfold beginStash
  repeat' first
    | with_reducible assumption
    | with_reducible apply beginPut_inv
    | with_reducible apply updXfer_inv
    | with_reducible apply consumeKey_inv
    | (simp -zeta only [inv_mk]; show Inv Q _)
    | split
    | dsimp -zeta only

theorem stashTransfer_inv (e : Env) (descs : List StashDesc) (s : State) {Q : Base} (hInv : Inv Q s) : Inv Q (stashTransfer e descs s).1 := by
  unfold stashTransfer
  repeat' first
    | with_reducible assumption
    | (intro x; refine inv_have (Q := Q) (s := x) ?_ ?_; rotate_left; clear_value x; rotate_left; unfold x)
    | (intro (x : Flt))
    | (intro (x : Flash))
    | (intro (x : Pwr))
    | (intro (x : Glb))
    | (intro x; clear_value x)
    | (intro _)
    | with_reducible apply startLong_inv
    | with_reducible apply beginStash_inv
    | (simp -zeta only [inv_mk]; show Inv Q _)
    | with_reducible apply optInv_map
    | with_reducible apply optInv_bind
    | with_reducible apply inv_getD
    | (with_reducible refine inv_fst ‹_› ?_)
    | (with_reducible refine inv_snd ‹_› ?_)
    | split
    | dsimp -zeta only
    | lift_lets

theorem execStashTransfer_inv (e : Env) (descs : List StashDesc) (s : State) {Q : Base} (hInv : Inv Q s) : OkNext Q (execStashTransfer e descs s) := by
  unfold execStashTransfer
  repeat' first
    | with_reducible assumption
    | (intro _)
    | with_reducible apply mailbox_inv
    | with_reducible apply stashTransfer_inv
    | with_reducible apply okNext_next
    | with_reducible apply okNext_fault
    | with_reducible apply optInv_map
    | with_reducible apply optInv_bind
    | with_reducible apply inv_getD
    | dsimp -zeta only

theorem writeObj_inv (op part addr : Nat) (data : List Byte) (s : State) {Q : Base} (hInv : Inv Q s) : Inv Q (writeObj op part addr data s) := by
  unfold writeObj
  repeat' first
    | with_reducible assumption
    | (intro x; refine inv_have (Q := Q) (s := x) ?_ ?_; rotate_left; clear_value x; rotate_left; unfold x)
    | (intro (x : Flt))
    | (intro (x : Flash))
    | (intro (x : Pwr))
    | (intro (x : Glb))
    | (intro x; clear_value x)
    | (intro _)
    | with_reducible apply holdWrite_inv
    | with_reducible apply putNow_inv
    | with_reducible apply inv_foldl
    | split
    | dsimp -zeta only
    | lift_lets

theorem dropReleased_inv (part run key : Nat) (s : State) {Q : Base} (hInv : Inv Q s) : Inv Q (dropReleased part run key s) := by
  unfold dropReleased
  repeat' first
    | with_reducible assumption
    | with_reducible apply dropObj_inv
    | split

theorem endFailed_inv (x : Xfer) (d : StashDesc) (st : Status) (s : State) {Q : Base} (hInv : Inv Q s) : Inv Q (endFailed x d st s) := by
  unfold endFailed
  split
  · exact finishShort_inv _ _ _ (dropXfer_inv _ _ hInv)
  · exact finishOpWith_inv _ _ _ _ _ (dropXfer_inv _ _ hInv)
  · exact endXfer_inv _ _ _ hInv

theorem failStash_inv (x : Xfer) (d : StashDesc) (st : Status) (s : State) {Q : Base} (hInv : Inv Q s) : Inv Q (failStash x d st s) := by
  unfold failStash
  repeat' first
    | with_reducible assumption
    | (intro x; refine inv_have (Q := Q) (s := x) ?_ ?_; rotate_left; clear_value x; rotate_left; unfold x)
    | (intro (x : Flt))
    | (intro (x : Flash))
    | (intro (x : Pwr))
    | (intro (x : Glb))
    | (intro x; clear_value x)
    | (intro _)
    | with_reducible apply dropObj_inv
    | with_reducible apply endFailed_inv
    | with_reducible apply putResult_inv
    | with_reducible apply dropReleased_inv
    | split
    | lift_lets

theorem settleObject_inv (d : StashDesc) (s : State) {Q : Base} (hInv : Inv Q s) : Inv Q (settleObject d s) := by
  unfold settleObject
  repeat' first
    | with_reducible assumption
    | (intro x; refine inv_have (Q := Q) (s := x) ?_ ?_; rotate_left; clear_value x; rotate_left; unfold x)
    | (intro (x : Flt))
    | (intro (x : Flash))
    | (intro (x : Pwr))
    | (intro (x : Glb))
    | (intro x; clear_value x)
    | (intro _)
    | with_reducible apply updObj_inv
    | with_reducible apply updRun_inv
    | with_reducible apply touchRecord_inv
    | with_reducible apply dropObj_inv
    | (simp -zeta only [inv_mk]; show Inv Q _)
    | with_reducible apply optInv_map
    | with_reducible apply optInv_bind
    | with_reducible apply inv_getD
    | split
    | dsimp -zeta only
    | lift_lets

theorem finishStash_inv (x : Xfer) (d : StashDesc) (s : State) {Q : Base} (hInv : Inv Q s) : Inv Q (finishStash x d s) := by
  unfold finishStash
  repeat' first
    | with_reducible assumption
    | (intro x; refine inv_have (Q := Q) (s := x) ?_ ?_; rotate_left; clear_value x; rotate_left; unfold x)
    | (intro (x : Flt))
    | (intro (x : Flash))
    | (intro (x : Pwr))
    | (intro (x : Glb))
    | (intro x; clear_value x)
    | (intro _)
    | with_reducible apply settleObject_inv
    | with_reducible apply forgetReads_inv
    | with_reducible apply putResult_inv
    | with_reducible apply updXfer_inv
    | with_reducible apply dropReleased_inv
    | with_reducible apply endXfer_inv
    | with_reducible apply beginStash_inv
    | (simp -zeta only [inv_mk]; show Inv Q _)
    | split
    | dsimp -zeta only
    | lift_lets

theorem countHomes_inv (d : StashDesc) (o : StashObj) (s : State) {Q : Base} (hInv : Inv Q s) : Inv Q (countHomes d o s) := by
  unfold countHomes
  repeat' first
    | with_reducible assumption
    | (intro _)
    | with_reducible apply countReads_inv
    | with_reducible apply inv_foldl
    | dsimp -zeta only

theorem moveStash_inv (x : Xfer) (d : StashDesc) (data : List Byte) (s : State) {Q : Base} (hInv : Inv Q s) : Inv Q (moveStash x d data s) := by
  unfold moveStash
  repeat' first
    | with_reducible assumption
    | (intro x; refine inv_have (Q := Q) (s := x) ?_ ?_; rotate_left; clear_value x; rotate_left; unfold x)
    | (intro (x : Flt))
    | (intro (x : Flash))
    | (intro (x : Pwr))
    | (intro (x : Glb))
    | (intro x; clear_value x)
    | (intro _)
    | with_reducible apply writeObj_inv
    | with_reducible apply countHomes_inv
    | with_reducible apply flushReads_inv
    | with_reducible apply peerWrites_inv
    | with_reducible apply writeHdm_inv
    | split
    | lift_lets

theorem runStash_inv (x : Xfer) (d : StashDesc) (data : List Byte) (s : State) {Q : Base} (hInv : Inv Q s) : Inv Q (runStash x d data s) := by
  unfold runStash
  repeat' first
    | with_reducible assumption
    | (intro x; refine inv_have (Q := Q) (s := x) ?_ ?_; rotate_left; clear_value x; rotate_left; unfold x)
    | (intro (x : Flt))
    | (intro (x : Flash))
    | (intro (x : Pwr))
    | (intro (x : Glb))
    | (intro x; clear_value x)
    | (intro _)
    | with_reducible apply finishStash_inv
    | with_reducible apply askLines_inv
    | with_reducible apply failStash_inv
    | with_reducible apply portFault_inv
    | with_reducible apply opFault_inv
    | with_reducible apply updXfer_inv
    | with_reducible apply moveStash_inv
    | (simp -zeta only [inv_mk]; show Inv Q _)
    | split
    | dsimp -zeta only
    | lift_lets

theorem execStashDescriptorEnd_inv (op : Nat) (data : List Byte) (s : State) {Q : Base} (hInv : Inv Q s) : OkNext Q (execStashDescriptorEnd op data s) := by
  unfold execStashDescriptorEnd
  repeat' first
    | with_reducible assumption
    | with_reducible apply runStash_inv
    | with_reducible apply failStash_inv
    | with_reducible apply beginStash_inv
    | with_reducible apply okNext_next
    | with_reducible apply okNext_fault
    | split

theorem execPeerReadFailure_inv (src : ReadSource) (s : State) {Q : Base} (hInv : Inv Q s) : OkNext Q (execPeerReadFailure src s) := by
  unfold execPeerReadFailure
  repeat' first
    | with_reducible assumption
    | (intro x; refine inv_have (Q := Q) (s := x) ?_ ?_; rotate_left; clear_value x; rotate_left; unfold x)
    | (intro (x : Flt))
    | (intro (x : Flash))
    | (intro (x : Pwr))
    | (intro (x : Glb))
    | (intro x; clear_value x)
    | (intro _)
    | with_reducible apply failFlush_inv
    | with_reducible apply logFault_inv
    | with_reducible apply finishOp_inv
    | with_reducible apply failPool_inv
    | with_reducible apply failStash_inv
    | with_reducible apply okNext_next
    | with_reducible apply okNext_fault
    | (simp -zeta only [inv_mk]; show Inv Q _)
    | split
    | dsimp -zeta only
    | lift_lets

theorem portDown_inv (port : Nat) (s : State) {Q : Base} (hInv : Inv Q s) : Inv Q (portDown port s) := by
  unfold portDown
  repeat' first
    | with_reducible assumption
    | exact fun _ => ⟨id, id⟩
    | (intro _)
    | with_reducible apply updLd_inv
    | with_reducible apply updPort_inv
    | (simp -zeta only [inv_mk]; show Inv Q _)
    | with_reducible apply inv_foldl
    | dsimp -zeta only

theorem dropRequests_inv (l : List Nat) (s : State) {Q : Base} (hInv : Inv Q s) : Inv Q (dropRequests l s) := by
  unfold dropRequests
  repeat' first
    | with_reducible assumption
    | (intro x; refine inv_have (Q := Q) (s := x) ?_ ?_; rotate_left; clear_value x; rotate_left; unfold x)
    | (intro (x : Flt))
    | (intro (x : Flash))
    | (intro (x : Pwr))
    | (intro (x : Glb))
    | (intro x; clear_value x)
    | (intro _)
    | (simp -zeta only [inv_mk]; show Inv Q _)
    | with_reducible apply optInv_map
    | with_reducible apply optInv_bind
    | with_reducible apply inv_getD
    | dsimp -zeta only
    | lift_lets

theorem poisonReads_inv (port ld n : Nat) (s : State) {Q : Base} (hInv : Inv Q s) : Inv Q (poisonReads port ld n s) := by
  unfold poisonReads
  repeat' first
    | with_reducible assumption
    | (intro x; refine inv_have (Q := Q) (s := x) ?_ ?_; rotate_left; clear_value x; rotate_left; unfold x)
    | (intro (x : Flt))
    | (intro (x : Flash))
    | (intro (x : Pwr))
    | (intro (x : Glb))
    | (intro x; clear_value x)
    | (intro _)
    | with_reducible apply updLd_inv
    | with_reducible apply poison_inv
    | (simp -zeta only [inv_mk]; show Inv Q _)
    | with_reducible apply optInv_map
    | with_reducible apply optInv_bind
    | with_reducible apply inv_getD
    | with_reducible apply inv_foldl
    | split
    | dsimp -zeta only
    | lift_lets

theorem stopForIde_inv (port : Nat) (s : State) {Q : Base} (hInv : Inv Q s) : Inv Q (stopForIde port s) := by
  unfold stopForIde
  repeat' first
    | with_reducible assumption
    | exact fun _ => ⟨id, id⟩
    | (intro x; refine inv_have (Q := Q) (s := x) ?_ ?_; rotate_left; clear_value x; rotate_left; unfold x)
    | (intro (x : Flt))
    | (intro (x : Flash))
    | (intro (x : Pwr))
    | (intro (x : Glb))
    | (intro x; clear_value x)
    | (intro _)
    | with_reducible apply poisonReads_inv
    | with_reducible apply updPort_inv
    | with_reducible apply cohSettle_inv
    | (simp -zeta only [inv_mk]; show Inv Q _)
    | with_reducible apply inv_foldl
    | split
    | dsimp -zeta only
    | lift_lets

theorem execIdeIntegrityFailure_inv (port : Nat) (s : State) {Q : Base} (hInv : Inv Q s) : OkNext Q (execIdeIntegrityFailure port s) := by
  unfold execIdeIntegrityFailure
  repeat' first
    | with_reducible assumption
    | (intro x; refine inv_have (Q := Q) (s := x) ?_ ?_; rotate_left; clear_value x; rotate_left; unfold x)
    | (intro (x : Flt))
    | (intro (x : Flash))
    | (intro (x : Pwr))
    | (intro (x : Glb))
    | (intro x; clear_value x)
    | (intro _)
    | with_reducible apply emit_inv
    | with_reducible apply logFault_inv
    | with_reducible apply stopForIde_inv
    | with_reducible apply okNext_next
    | with_reducible apply okNext_fault
    | split
    | lift_lets

theorem resetPort_inv (port : Nat) (s : State) {Q : Base} (hInv : Inv Q s) : Inv Q (resetPort port s) := by
  unfold resetPort
  repeat' first
    | with_reducible assumption
    | (intro x; refine inv_have (Q := Q) (s := x) ?_ ?_; rotate_left; clear_value x; rotate_left; unfold x)
    | (intro (x : Flt))
    | (intro (x : Flash))
    | (intro (x : Pwr))
    | (intro (x : Glb))
    | (intro x; clear_value x)
    | (intro _)
    | with_reducible apply cohSettle_inv
    | with_reducible apply fenceByReset_inv
    | with_reducible apply dropRequests_inv
    | with_reducible apply portDown_inv
    | with_reducible apply inv_foldl
    | dsimp -zeta only
    | lift_lets

theorem execHotReset_inv (port : Nat) (s : State) {Q : Base} (hInv : Inv Q s) : OkNext Q (execHotReset port s) := by
  unfold execHotReset
  repeat' first
    | with_reducible assumption
    | with_reducible apply resetPort_inv
    | with_reducible apply okNext_next
    | with_reducible apply okNext_fault
    | split

theorem execLinkDisable_inv (port : Nat) (s : State) {Q : Base} (hInv : Inv Q s) : OkNext Q (execLinkDisable port s) := by
  unfold execLinkDisable
  repeat' first
    | with_reducible assumption
    | exact fun _ => ⟨id, id⟩
    | with_reducible apply updPort_inv
    | with_reducible apply resetPort_inv
    | with_reducible apply okNext_next
    | with_reducible apply okNext_fault
    | (simp -zeta only [inv_mk]; show Inv Q _)
    | split
    | dsimp -zeta only

theorem execSurpriseLinkDown_inv (port : Nat) (s : State) {Q : Base} (hInv : Inv Q s) : OkNext Q (execSurpriseLinkDown port s) := by
  unfold execSurpriseLinkDown
  repeat' first
    | with_reducible assumption
    | with_reducible apply resetPort_inv
    | with_reducible apply okNext_next
    | with_reducible apply okNext_fault
    | split

theorem retireGroup_inv (port : Nat) (high : Bool) (count : Nat) (s : State) {Q : Base} (hInv : Inv Q s) : Inv Q (retireGroup port high count s) := by
  unfold retireGroup
  extract_lets s1 f
  have h1 : Inv Q s1 := updPort_inv _ _ _ hInv fun x => by
    cases high
    · exact ⟨fun _ => rfl, id⟩
    · exact ⟨id, fun _ => rfl⟩
  exact resetPort_inv _ _ (causeFault_inv _ _ _ h1)

theorem execLaneGroupFailure_inv (port : Nat) (high hard : Bool) (s : State) {Q : Base} (hInv : Inv Q s) : OkNext Q (execLaneGroupFailure port high hard s) := by
  unfold execLaneGroupFailure
  repeat' first
    | with_reducible assumption
    | (intro x; refine inv_have (Q := Q) (s := x) ?_ ?_; rotate_left; clear_value x; rotate_left; unfold x)
    | (intro (x : Flt))
    | (intro (x : Flash))
    | (intro (x : Pwr))
    | (intro (x : Glb))
    | (intro x; clear_value x)
    | (intro _)
    | with_reducible apply countFailure_inv
    | with_reducible apply place_inv
    | with_reducible apply retireGroup_inv
    | with_reducible apply logFault_inv
    | with_reducible apply okNext_next
    | with_reducible apply okNext_fault
    | (with_reducible refine inv_optP ‹_› ?_)
    | with_reducible apply optInvP_map
    | (with_reducible refine inv_fst ‹_› ?_)
    | (with_reducible refine inv_snd ‹_› ?_)
    | split
    | lift_lets

theorem discardResponse_inv (seat : Nat) (s : State) {Q : Base} (hInv : Inv Q s) : Inv Q (discardResponse seat s) := by
  unfold discardResponse
  repeat' first
    | with_reducible assumption
    | (intro x; refine inv_have (Q := Q) (s := x) ?_ ?_; rotate_left; clear_value x; rotate_left; unfold x)
    | (intro (x : Flt))
    | (intro (x : Flash))
    | (intro (x : Pwr))
    | (intro (x : Glb))
    | (intro x; clear_value x)
    | (intro _)
    | with_reducible apply updMbx_inv
    | with_reducible apply optInv_map
    | with_reducible apply optInv_bind
    | with_reducible apply inv_getD
    | dsimp -zeta only
    | lift_lets

theorem seatReset_inv (seat : Nat) (s : State) {Q : Base} (hInv : Inv Q s) : Inv Q (seatReset seat s) := by
  unfold seatReset
  repeat' first
    | with_reducible assumption
    | (intro x; refine inv_have (Q := Q) (s := x) ?_ ?_; rotate_left; clear_value x; rotate_left; unfold x)
    | (intro (x : Flt))
    | (intro (x : Flash))
    | (intro (x : Pwr))
    | (intro (x : Glb))
    | (intro x; clear_value x)
    | (intro _)
    | with_reducible apply discardResponse_inv
    | with_reducible apply cohSettle_inv
    | with_reducible apply fenceByReset_inv
    | with_reducible apply closeStep_inv
    | with_reducible apply destroyRing_inv
    | with_reducible apply updSeat_inv
    | with_reducible apply inv_foldl
    | split
    | dsimp -zeta only
    | lift_lets

theorem ldReset_inv (port ld : Nat) (s : State) {Q : Base} (hInv : Inv Q s) : OkNext Q (ldReset port ld s) := by
  unfold ldReset
  repeat' first
    | with_reducible assumption
    | with_reducible apply seatReset_inv
    | with_reducible apply okNext_next
    | with_reducible apply okNext_fault
    | split

theorem execFunctionLevelReset_inv (port ld : Nat) (s : State) {Q : Base} (hInv : Inv Q s) : OkNext Q (execFunctionLevelReset port ld s) := by
  unfold execFunctionLevelReset
  repeat' first
    | with_reducible assumption
    | with_reducible apply ldReset_inv
    | with_reducible apply okNext_next
    | with_reducible apply okNext_fault

theorem execCxlReset_inv (port ld : Nat) (s : State) {Q : Base} (hInv : Inv Q s) : OkNext Q (execCxlReset port ld s) := by
  unfold execCxlReset
  repeat' first
    | with_reducible assumption
    | with_reducible apply ldReset_inv
    | with_reducible apply okNext_next
    | with_reducible apply okNext_fault

theorem endProgram_inv (q : Prog) (s : State) {Q : Base} (hInv : Inv Q s) : Inv Q (endProgram q s) := by
  unfold endProgram
  repeat' first
    | with_reducible assumption
    | (intro x; refine inv_have (Q := Q) (s := x) ?_ ?_; rotate_left; clear_value x; rotate_left; unfold x)
    | (intro (x : Flt))
    | (intro (x : Flash))
    | (intro (x : Pwr))
    | (intro (x : Glb))
    | (intro x; clear_value x)
    | (intro _)
    | with_reducible apply addStale_inv
    | with_reducible apply programDone_inv
    | (simp -zeta only [inv_mk]; show Inv Q _)
    | with_reducible apply optInv_map
    | with_reducible apply optInv_bind
    | with_reducible apply inv_getD
    | split
    | dsimp -zeta only
    | lift_lets

theorem endPrograms_inv (s : State) {Q : Base} (hInv : Inv Q s) : Inv Q (endPrograms s) := by
  unfold endPrograms
  repeat' first
    | with_reducible assumption
    | (intro x; refine inv_have (Q := Q) (s := x) ?_ ?_; rotate_left; clear_value x; rotate_left; unfold x)
    | (intro (x : Flt))
    | (intro (x : Flash))
    | (intro (x : Pwr))
    | (intro (x : Glb))
    | (intro x; clear_value x)
    | (intro _)
    | with_reducible apply endProgram_inv
    | (simp -zeta only [inv_mk]; show Inv Q _)
    | with_reducible apply inv_foldl
    | dsimp -zeta only
    | lift_lets

theorem stopWork_inv (s : State) {Q : Base} (hInv : Inv Q s) : Inv Q (stopWork s) := by
  have h0 : Inv Q ((s.ops.filter fun o => o.done.isNone).foldl (fun s o => dropBuilding o s) (endPrograms s)) :=
    inv_foldl (fun _ _ h => dropBuilding_inv _ _ h) (endPrograms_inv _ hInv)
  have h : Inv Q ((List.range 8).foldl (fun s p => portDown p s) ((s.ops.filter fun o => o.done.isNone).foldl (fun s o => dropBuilding o s) (endPrograms s))) :=
    inv_foldl (fun _ _ h => portDown_inv _ _ h) h0
  exact { h with glb := fun k => { h.glb k with
    dither_pend := nofun
    salt_pend := nofun
    power_pend := nofun
    parser := fun hr => by
      have hx : ∀ a b : Bool, b = true → (a && !b) = false := by decide
      exact hx _ _ hr } }

theorem loseVolatile_inv (s : State) {Q : Base} (hInv : Inv Q s) : Inv Q (loseVolatile s) := by
  unfold loseVolatile
  simp -zeta only [inv_mk]
  exact { hInv with glb := fun k => (hInv.glb k).fresh }

theorem loseCold_inv (s : State) {Q : Base} (hInv : Inv Q s) : Inv Q (loseCold s) := by
  unfold loseCold
  repeat' first
    | with_reducible assumption
    | (simp -zeta only [inv_mk]; show Inv Q _)
    | with_reducible apply optInv_map
    | with_reducible apply optInv_bind
    | with_reducible apply inv_getD
    | dsimp -zeta only

theorem abortJoin_inv (s : State) {Q : Base} (hInv : Inv Q s) : Inv Q (abortJoin s) := by
  unfold abortJoin
  repeat' first
    | with_reducible assumption
    | (simp -zeta only [inv_mk]; show Inv Q _)
    | split

theorem settlePart_inv (part : Nat) (s : State) {Q : Base} (hInv : Inv Q s) : Inv Q (settlePart part s) := by
  unfold settlePart
  repeat' first
    | with_reducible assumption
    | (intro x; refine inv_have (Q := Q) (s := x) ?_ ?_; rotate_left; clear_value x; rotate_left; unfold x)
    | (intro (x : Flt))
    | (intro (x : Flash))
    | (intro (x : Pwr))
    | (intro (x : Glb))
    | (intro x; clear_value x)
    | (intro _)
    | with_reducible apply freeRequest_inv
    | with_reducible apply commitStaged_inv
    | with_reducible apply emptyPart_inv
    | with_reducible apply unloadNow_inv
    | with_reducible apply inv_foldl
    | split
    | dsimp -zeta only
    | lift_lets

theorem undoUnpark_inv (i : Nat) (s : State) {Q : Base} (hInv : Inv Q s) : Inv Q (undoUnpark i s) := by
  unfold undoUnpark
  repeat' first
    | with_reducible assumption
    | (intro x; refine inv_have (Q := Q) (s := x) ?_ ?_; rotate_left; clear_value x; rotate_left; unfold x)
    | (intro (x : Flt))
    | (intro (x : Flash))
    | (intro (x : Pwr))
    | (intro (x : Glb))
    | (intro x; clear_value x)
    | (intro _)
    | with_reducible apply dropDigests_inv
    | with_reducible apply releaseAcct_inv
    | with_reducible apply freeEntry_inv
    | (simp -zeta only [inv_mk]; show Inv Q _)
    | split
    | dsimp -zeta only
    | lift_lets

theorem settleRequests_inv (s : State) {Q : Base} (hInv : Inv Q s) : Inv Q (settleRequests s) := by
  unfold settleRequests
  repeat' first
    | with_reducible assumption
    | (intro _)
    | with_reducible apply undoUnpark_inv
    | (simp -zeta only [inv_mk]; show Inv Q _)
    | with_reducible apply inv_foldl
    | split
    | dsimp -zeta only

theorem settleRegion_inv (s : State) (r : Region) {Q : Base} (hInv : Inv Q s) : Inv Q (settleRegion s r) := by
  unfold settleRegion
  repeat' first
    | with_reducible assumption
    | with_reducible apply updRegion_inv
    | with_reducible apply releaseAcct_inv
    | (simp -zeta only [inv_mk]; show Inv Q _)
    | split
    | dsimp -zeta only

theorem settleSwapOut_inv (s : State) {Q : Base} (hInv : Inv Q s) : Inv Q (settleSwapOut s) := by
  unfold settleSwapOut
  repeat' first
    | with_reducible assumption
    | (simp -zeta only [inv_mk]; show Inv Q _)
    | with_reducible apply optInv_map
    | with_reducible apply optInv_bind
    | with_reducible apply inv_getD
    | split
    | dsimp -zeta only

theorem dropUnended_inv (part : Nat) (s : State) {Q : Base} (hInv : Inv Q s) : Inv Q (dropUnended part s) := by
  unfold dropUnended
  repeat' first
    | with_reducible assumption
    | (intro _)
    | with_reducible apply dropObj_inv
    | with_reducible apply inv_foldl
    | dsimp -zeta only

theorem settleStash_inv (part : Nat) (s : State) {Q : Base} (hInv : Inv Q s) : Inv Q (settleStash part s) := by
  unfold settleStash
  repeat' first
    | with_reducible assumption
    | with_reducible apply updPart_inv
    | with_reducible apply dropUnended_inv
    | (simp -zeta only [inv_mk]; show Inv Q _)
    | with_reducible apply optInv_map
    | with_reducible apply optInv_bind
    | with_reducible apply inv_getD
    | dsimp -zeta only

theorem settle_inv (s : State) {Q : Base} (hInv : Inv Q s) : Inv Q (settle s) := by
  unfold settle
  repeat' first
    | with_reducible assumption
    | (intro x; refine inv_have (Q := Q) (s := x) ?_ ?_; rotate_left; clear_value x; rotate_left; unfold x)
    | (intro (x : Flt))
    | (intro (x : Flash))
    | (intro (x : Pwr))
    | (intro (x : Glb))
    | (intro x; clear_value x)
    | (intro _)
    | with_reducible apply settleStash_inv
    | with_reducible apply settlePart_inv
    | with_reducible apply settleSwapOut_inv
    | with_reducible apply abortJoin_inv
    | with_reducible apply settleRegion_inv
    | with_reducible apply settleRequests_inv
    | with_reducible apply inv_foldl
    | dsimp -zeta only
    | lift_lets

theorem loseHome_inv (u : UnitKey) (s : State) {Q : Base} (hInv : Inv Q s) : Inv Q (loseHome u s) := by
  unfold loseHome
  repeat' first
    | with_reducible assumption
    | with_reducible apply journal_inv
    | (intro x; refine inv_have (Q := Q) (s := x) ?_ ?_; rotate_left; clear_value x; rotate_left; unfold x)
    | (intro (x : Flt))
    | (intro (x : Flash))
    | (intro (x : Pwr))
    | (intro (x : Glb))
    | (intro x; clear_value x)
    | (intro _)
    | with_reducible apply giveUnit_inv
    | (simp -zeta only [inv_mk]; show Inv Q _)
    | with_reducible apply optInv_map
    | with_reducible apply optInv_bind
    | with_reducible apply inv_getD
    | split
    | dsimp -zeta only
    | lift_lets

theorem loseUnsaved_inv (s : State) {Q : Base} (hInv : Inv Q s) : Inv Q (loseUnsaved s) := by
  unfold loseUnsaved
  repeat' first
    | with_reducible assumption
    | (intro _)
    | with_reducible apply loseHome_inv
    | with_reducible apply inv_foldl
    | split
    | dsimp -zeta only

theorem emptyHbm_inv (s : State) {Q : Base} (hInv : Inv Q s) : Inv Q (emptyHbm s) := by
  unfold emptyHbm
  repeat' first
    | with_reducible assumption
    | (simp -zeta only [inv_mk]; show Inv Q _)
    | with_reducible apply optInv_map
    | with_reducible apply optInv_bind
    | with_reducible apply inv_getD
    | dsimp -zeta only

theorem restoreSwap_inv (part : Nat) (s : State) {Q : Base} (hInv : Inv Q s) : Inv Q (restoreSwap part s) := by
  unfold restoreSwap
  repeat' first
    | with_reducible assumption
    | (simp -zeta only [inv_mk]; show Inv Q _)

theorem beginRestore_inv (parts : List Nat) (s : State) {Q : Base} (hInv : Inv Q s) : Inv Q (beginRestore parts s) := by
  unfold beginRestore
  repeat' first
    | with_reducible assumption
    | (intro x; refine inv_have (Q := Q) (s := x) ?_ ?_; rotate_left; clear_value x; rotate_left; unfold x)
    | (intro (x : Flt))
    | (intro (x : Flash))
    | (intro (x : Pwr))
    | (intro (x : Glb))
    | (intro x; clear_value x)
    | (intro _)
    | with_reducible apply restoreSwap_inv
    | (simp -zeta only [inv_mk]; show Inv Q _)
    | with_reducible apply optInv_map
    | with_reducible apply optInv_bind
    | with_reducible apply inv_getD
    | split
    | dsimp -zeta only
    | lift_lets

theorem recoverFlush_inv (s : State) {Q : Base} (hInv : Inv Q s) : Inv Q (recoverFlush s) := by
  unfold recoverFlush
  repeat' first
    | with_reducible assumption
    | (intro x; refine inv_have (Q := Q) (s := x) ?_ ?_; rotate_left; clear_value x; rotate_left; unfold x)
    | (intro (x : Flt))
    | (intro (x : Flash))
    | (intro (x : Pwr))
    | (intro (x : Glb))
    | (intro x; clear_value x)
    | (intro _)
    | with_reducible apply emptyHbm_inv
    | with_reducible apply loseUnsaved_inv
    | with_reducible apply settle_inv
    | with_reducible apply beginRestore_inv
    | (simp -zeta only [inv_mk]; show Inv Q _)
    | with_reducible apply optInv_map
    | with_reducible apply optInv_bind
    | with_reducible apply inv_getD
    | split
    | dsimp -zeta only
    | lift_lets

theorem partRestored_inv (part : Nat) (s : State) {Q : Base} (hInv : Inv Q s) : Inv Q (partRestored part s) := by
  unfold partRestored
  repeat' first
    | with_reducible assumption
    | (intro x; refine inv_have (Q := Q) (s := x) ?_ ?_; rotate_left; clear_value x; rotate_left; unfold x)
    | (intro (x : Flt))
    | (intro (x : Flash))
    | (intro (x : Pwr))
    | (intro (x : Glb))
    | (intro x; clear_value x)
    | (intro _)
    | with_reducible apply forgetFrames_inv
    | with_reducible apply readHomes_inv
    | with_reducible apply swapInEnd_inv
    | (simp -zeta only [inv_mk]; show Inv Q _)
    | split
    | lift_lets

theorem nextRestore_inv (s : State) {Q : Base} (hInv : Inv Q s) : Inv Q (nextRestore s) := by
  unfold nextRestore
  repeat' first
    | with_reducible assumption
    | with_reducible apply restoreSwap_inv
    | (simp -zeta only [inv_mk]; show Inv Q _)
    | split

theorem execRestoreComplete_inv (s : State) {Q : Base} (hInv : Inv Q s) : OkNext Q (execRestoreComplete s) := by
  unfold execRestoreComplete
  repeat' first
    | with_reducible assumption
    | (intro x; refine inv_have (Q := Q) (s := x) ?_ ?_; rotate_left; clear_value x; rotate_left; unfold x)
    | (intro (x : Flt))
    | (intro (x : Flash))
    | (intro (x : Pwr))
    | (intro (x : Glb))
    | (intro x; clear_value x)
    | (intro _)
    | with_reducible apply updRegion_inv
    | with_reducible apply readHomes_inv
    | with_reducible apply releaseWrites_inv
    | with_reducible apply nextRestore_inv
    | with_reducible apply partRestored_inv
    | with_reducible apply okNext_next
    | with_reducible apply okNext_fault
    | (simp -zeta only [inv_mk]; show Inv Q _)
    | with_reducible apply optInv_map
    | with_reducible apply optInv_bind
    | with_reducible apply inv_getD
    | split
    | dsimp -zeta only
    | lift_lets

theorem undoSwapIn_inv (part : Nat) (s : State) {Q : Base} (hInv : Inv Q s) : Inv Q (undoSwapIn part s) := by
  unfold undoSwapIn
  repeat' first
    | with_reducible assumption
    | with_reducible apply updPart_inv
    | with_reducible apply releasePartFrames_inv
    | (simp -zeta only [inv_mk]; show Inv Q _)
    | split
    | dsimp -zeta only

theorem forgetNode_inv (n : Node) (s : State) {Q : Base} (hInv : Inv Q s) : Inv Q (forgetNode n s) := by
  unfold forgetNode
  repeat' first
    | with_reducible assumption
    | with_reducible apply evict_inv
    | (simp -zeta only [inv_mk]; show Inv Q _)
    | split
    | dsimp -zeta only

theorem replayPart_inv (part : Nat) (s : State) {Q : Base} (hInv : Inv Q s) : Inv Q (replayPart part s) := by
  unfold replayPart
  repeat' first
    | with_reducible assumption
    | (intro x; refine inv_have (Q := Q) (s := x) ?_ ?_; rotate_left; clear_value x; rotate_left; unfold x)
    | (intro (x : Flt))
    | (intro (x : Flash))
    | (intro (x : Pwr))
    | (intro (x : Glb))
    | (intro x; clear_value x)
    | (intro _)
    | with_reducible apply freePark_inv
    | with_reducible apply freeRequest_inv
    | with_reducible apply closeRunNow_inv
    | with_reducible apply forgetNode_inv
    | with_reducible apply updPart_inv
    | (simp -zeta only [inv_mk]; show Inv Q _)
    | with_reducible apply optInv_map
    | with_reducible apply optInv_bind
    | with_reducible apply inv_getD
    | with_reducible apply inv_foldl
    | split
    | dsimp -zeta only
    | lift_lets

theorem replayRead_inv (part : Nat) (s : State) {Q : Base} (hInv : Inv Q s) : Inv Q (replayRead part s) := by
  unfold replayRead
  repeat' first
    | with_reducible assumption
    | with_reducible apply reviveNodes_inv
    | with_reducible apply readHomes_inv
    | split

theorem replayTable_inv (s : State) {Q : Base} (hInv : Inv Q s) : Inv Q (replayTable s) := by
  unfold replayTable
  repeat' first
    | with_reducible assumption
    | (intro x; refine inv_have (Q := Q) (s := x) ?_ ?_; rotate_left; clear_value x; rotate_left; unfold x)
    | (intro (x : Flt))
    | (intro (x : Flash))
    | (intro (x : Pwr))
    | (intro (x : Glb))
    | (intro x; clear_value x)
    | (intro _)
    | (simp -zeta only [inv_mk]; show Inv Q _)
    | split
    | dsimp -zeta only
    | lift_lets

theorem replayLanes_inv (s : State) {Q : Base} (hInv : Inv Q s) : Inv Q (replayLanes s) := by
  unfold replayLanes
  repeat' first
    | with_reducible assumption
    | (simp -zeta only [inv_mk]; show Inv Q _)
    | with_reducible apply optInv_map
    | with_reducible apply optInv_bind
    | with_reducible apply inv_getD
    | split
    | dsimp -zeta only

theorem replayLedger_inv (s : State) {Q : Base} (hInv : Inv Q s) : Inv Q (replayLedger s) := by
  unfold replayLedger
  repeat' first
    | with_reducible assumption
    | (simp -zeta only [inv_mk]; show Inv Q _)
    | with_reducible apply optInv_map
    | with_reducible apply optInv_bind
    | with_reducible apply inv_getD
    | dsimp -zeta only

theorem replayLogs_inv (s : State) {Q : Base} (hInv : Inv Q s) : Inv Q (replayLogs s) := by
  unfold replayLogs
  repeat' first
    | with_reducible assumption
    | (simp -zeta only [inv_mk]; show Inv Q _)
    | with_reducible apply optInv_map
    | with_reducible apply optInv_bind
    | with_reducible apply inv_getD
    | dsimp -zeta only

theorem replay_inv (s : State) {Q : Base} (hInv : Inv Q s) : Inv Q (replay s) := by
  unfold replay
  repeat' first
    | with_reducible assumption
    | (intro x; refine inv_have (Q := Q) (s := x) ?_ ?_; rotate_left; clear_value x; rotate_left; unfold x)
    | (intro (x : Flt))
    | (intro (x : Flash))
    | (intro (x : Pwr))
    | (intro (x : Glb))
    | (intro x; clear_value x)
    | (intro _)
    | with_reducible apply settleRegion_inv
    | with_reducible apply settleRequests_inv
    | with_reducible apply replayPart_inv
    | with_reducible apply undoSwapIn_inv
    | with_reducible apply abortJoin_inv
    | with_reducible apply replayRead_inv
    | with_reducible apply emptyHbm_inv
    | with_reducible apply replayLogs_inv
    | with_reducible apply replayLedger_inv
    | with_reducible apply replayLanes_inv
    | with_reducible apply replayTable_inv
    | with_reducible apply beginRestore_inv
    | with_reducible apply inv_foldl
    | dsimp -zeta only
    | lift_lets

theorem makeHeld_inv (s : State) {Q : Base} (hInv : Inv Q s) : Inv Q (makeHeld s) := by
  have h : Inv Q (s.tier.heldWrites.foldl (fun s w => makeWrite w s) { s with tier := { s.tier with heldWrites := [] } }) :=
    inv_foldl (fun t w ht => makeWrite_inv _ _ ht) hInv
  exact h

theorem restartSwapIn_inv (s : State) {Q : Base} (hInv : Inv Q s) : Inv Q (restartSwapIn s) := by
  unfold restartSwapIn
  split
  · split
    · exact hInv
    · unfold restartSwapIn.beginAgain
      exact restoreSwap_inv _ _ hInv
  · split
    · unfold restartSwapIn.beginAgain
      exact restoreSwap_inv _ _ hInv
    · exact hInv

theorem warmRestore_inv (s : State) {Q : Base} (hInv : Inv Q s) : Inv Q (warmRestore s) := by
  unfold warmRestore
  repeat' first
    | with_reducible assumption
    | with_reducible apply restartSwapIn_inv
    | with_reducible apply settle_inv

theorem updPwr_inv (f : Pwr → Pwr) (s : State) {Q : Base} (hInv : Inv Q s) (hf : ∀ x : Pwr, x.failed ⊆ (f x).failed) :
    Inv Q (updPwr f s) :=
  { hInv with regs := List.Subset.trans hInv.regs (hf _) }

theorem updDev_inv (f : Dev → Dev) (s : State) {Q : Base} (hInv : Inv Q s) : Inv Q (updDev f s) := by
  unfold updDev
  repeat' first
    | with_reducible assumption
    | (simp -zeta only [inv_mk]; show Inv Q _)

theorem updFlt_inv (f : Flt → Flt) (s : State) {Q : Base} (hInv : Inv Q s)
    (hf : ∀ x : Flt, x.retiredPcs ⊆ (f x).retiredPcs ∧ x.retiredTiles ⊆ (f x).retiredTiles) : Inv Q (updFlt f s) :=
  { hInv with pcs := List.Subset.trans hInv.pcs (hf _).1, tiles := List.Subset.trans hInv.tiles (hf _).2 }

theorem takeDump_inv (minimal : Bool) (cause : FaultRec) (s : State) {Q : Base} (hInv : Inv Q s) : Inv Q (takeDump minimal cause s) := by
  unfold takeDump
  repeat' first
    | with_reducible assumption
    | exact fun _ => ⟨List.Subset.refl _, List.Subset.refl _⟩
    | exact fun _ => List.Subset.refl _
    | exact fun _ => ⟨id, id⟩
    | (intro x; refine inv_have (Q := Q) (s := x) ?_ ?_; rotate_left; clear_value x; rotate_left; unfold x)
    | (intro (x : Flt))
    | (intro (x : Flash))
    | (intro (x : Pwr))
    | (intro (x : Glb))
    | (intro x; clear_value x)
    | (intro _)
    | with_reducible apply complete_inv
    | with_reducible apply updFlt_inv
    | (simp -zeta only [inv_mk]; show Inv Q _)
    | with_reducible apply optInv_map
    | with_reducible apply optInv_bind
    | with_reducible apply inv_getD
    | (with_reducible refine inv_fst ‹_› ?_)
    | (with_reducible refine inv_snd ‹_› ?_)
    | (with_reducible refine inv_trd ‹_› ?_)
    | with_reducible apply inv_foldl
    | (with_reducible apply inv_ite)
    | split
    | dsimp -zeta only
    | lift_lets

theorem cutTakes_inv (torn : Bool) (s : State) {Q : Base} (hInv : Inv Q s) : Inv Q (cutTakes torn s) := by
  unfold cutTakes
  repeat' first
    | with_reducible assumption
    | with_reducible apply cutTake_inv
    | (simp -zeta only [inv_mk]; show Inv Q _)
    | split

theorem stopCharger_inv (s : State) {Q : Base} (hInv : Inv Q s) : Inv Q (stopCharger s) := by
  unfold stopCharger
  repeat' first
    | with_reducible assumption
    | with_reducible apply updHup_inv
    | (simp -zeta only [inv_mk]; show Inv Q _)
    | dsimp -zeta only

theorem beginFlush_inv (c : FlushCause) (full energyStop : Bool) (s : State) {Q : Base} (hInv : Inv Q s) : Inv Q (beginFlush c full energyStop s) := by
  unfold beginFlush
  repeat' first
    | with_reducible assumption
    | exact fun _ => List.Subset.refl _
    | (intro x; refine inv_have (Q := Q) (s := x) ?_ ?_; rotate_left; clear_value x; rotate_left; unfold x)
    | (intro (x : Flt))
    | (intro (x : Flash))
    | (intro (x : Pwr))
    | (intro (x : Glb))
    | (intro x; clear_value x)
    | (intro _)
    | with_reducible apply updPwr_inv
    | with_reducible apply stopCharger_inv
    | with_reducible apply stopWork_inv
    | with_reducible apply cutTakes_inv
    | (simp -zeta only [inv_mk]; show Inv Q _)
    | dsimp -zeta only
    | lift_lets

theorem railsOff_inv (s : State) {Q : Base} (hInv : Inv Q s) : Inv Q (railsOff s) := by
  unfold railsOff
  repeat' first
    | with_reducible assumption
    | exact fun _ => List.Subset.refl _
    | with_reducible apply updPwr_inv
    | (simp -zeta only [inv_mk]; show Inv Q _)
    | split
    | dsimp -zeta only

theorem inputTrigger_inv (s : State) {Q : Base} (hInv : Inv Q s) : Inv Q (inputTrigger s) := by
  unfold inputTrigger
  repeat' first
    | with_reducible assumption
    | with_reducible apply beginFlush_inv

theorem flushFrames_inv (l : List FrameInfo) (s : State) {Q : Base} (hInv : Inv Q s) : Inv Q (flushFrames l s) := by
  unfold flushFrames
  extract_lets us x
  have h : ∀ (us : List UnitKey) (y : State × List UnitKey), Inv Q y.1 → Inv Q (us.foldl (fun (x : State × List UnitKey) u => match programUnit true u x.1 with
      | some s => (s, u :: x.2)
      | none => x) y).1 := by
    intro us
    induction us with
    | nil => exact fun _ h => h
    | cons u us ih =>
      intro y hy
      refine ih _ ?_
      dsimp only
      split
      · rename_i e
        exact inv_opt e (programUnit_inv _ _ _ hy)
      · exact hy
  exact h us (s, []) hInv

theorem endData_inv (x : FlushSt) (frames : Nat) (s : State) {Q : Base} (hInv : Inv Q s) : Inv Q (endData x frames s) := by
  unfold endData
  repeat' first
    | with_reducible assumption
    | exact fun _ => List.Subset.refl _
    | with_reducible apply updPwr_inv
    | with_reducible apply flushFrames_inv
    | (simp -zeta only [inv_mk]; show Inv Q _)
    | split
    | dsimp -zeta only

theorem execFlushDataPhaseEnd_inv (frames : Nat) (s : State) {Q : Base} (hInv : Inv Q s) : OkNext Q (execFlushDataPhaseEnd frames s) := by
  unfold execFlushDataPhaseEnd
  repeat' first
    | with_reducible assumption
    | with_reducible apply endData_inv
    | with_reducible apply okNext_next
    | with_reducible apply okNext_fault
    | split

theorem exactLedger_inv (s : State) {Q : Base} (hInv : Inv Q s) : Inv Q (exactLedger s) := by
  unfold exactLedger
  simp -zeta only [inv_mk]
  exact hInv

theorem bootRecord_inv (s : State) {Q : Base} (hInv : Inv Q s) : Inv Q (bootRecord s) := by
  unfold bootRecord
  repeat' first
    | with_reducible assumption
    | (intro x; refine inv_have (Q := Q) (s := x) ?_ ?_; rotate_left; clear_value x; rotate_left; unfold x)
    | (intro (x : Flt))
    | (intro (x : Flash))
    | (intro (x : Pwr))
    | (intro (x : Glb))
    | (intro x; clear_value x)
    | (intro _)
    | with_reducible apply exactLedger_inv
    | with_reducible apply programJournal_inv
    | with_reducible apply updDev_inv
    | (simp -zeta only [inv_mk]; show Inv Q _)
    | dsimp -zeta only
    | lift_lets

theorem lateDump_inv (x : FlushSt) (s : State) {Q : Base} (hInv : Inv Q s) : Inv Q (lateDump x s) := by
  unfold lateDump
  repeat' first
    | with_reducible assumption
    | with_reducible apply takeDump_inv
    | split

theorem coldPath_inv (s : State) {Q : Base} (hInv : Inv Q s) : Inv Q (coldPath s) := by
  unfold coldPath
  repeat' first
    | with_reducible assumption
    | with_reducible apply updDev_inv
    | with_reducible apply recoverFlush_inv
    | with_reducible apply replay_inv
    | (simp -zeta only [inv_mk]; show Inv Q _)
    | split
    | dsimp -zeta only

theorem endRetiring_inv (s : State) {Q : Base} (hInv : Inv Q s) : Inv Q (endRetiring s) := by
  unfold endRetiring
  repeat' first
    | with_reducible assumption
    | exact fun _ => ⟨List.Subset.refl _, List.Subset.refl _⟩
    | exact fun _ => ⟨List.subset_append_left _ _, List.Subset.refl _⟩
    | with_reducible apply updFlt_inv
    | (simp -zeta only [inv_mk]; show Inv Q _)
    | dsimp -zeta only

theorem coldStart_inv (s : State) {Q : Base} (hInv : Inv Q s) : Inv Q (coldStart s) := by
  unfold coldStart
  repeat' first
    | with_reducible assumption
    | exact fun _ => ⟨List.Subset.refl _, List.Subset.refl _⟩
    | (intro x; refine inv_have (Q := Q) (s := x) ?_ ?_; rotate_left; clear_value x; rotate_left; unfold x)
    | (intro (x : Flt))
    | (intro (x : Flash))
    | (intro (x : Pwr))
    | (intro (x : Glb))
    | (intro x; clear_value x)
    | (intro _)
    | with_reducible apply endRetiring_inv
    | with_reducible apply loseCold_inv
    | with_reducible apply loseVolatile_inv
    | with_reducible apply updFlt_inv
    | with_reducible apply updDev_inv
    | with_reducible apply coldPath_inv
    | (simp -zeta only [inv_mk]; show Inv Q _)
    | split
    | dsimp -zeta only
    | lift_lets

theorem warmStart_inv (s : State) {Q : Base} (hInv : Inv Q s) : Inv Q (warmStart s) := by
  unfold warmStart
  repeat' first
    | with_reducible assumption
    | with_reducible apply updDev_inv
    | with_reducible apply warmRestore_inv
    | with_reducible apply loseVolatile_inv
    | with_reducible apply makeHeld_inv
    | (simp -zeta only [inv_mk]; show Inv Q _)
    | with_reducible apply optInv_map
    | with_reducible apply optInv_bind
    | with_reducible apply inv_getD
    | dsimp -zeta only

theorem startUp_inv (s : State) {Q : Base} (hInv : Inv Q s) : Inv Q (startUp s) := by
  unfold startUp
  repeat' first
    | with_reducible assumption
    | exact fun _ => List.Subset.refl _
    | exact fun _ => ⟨id, id⟩
    | (intro x; refine inv_have (Q := Q) (s := x) ?_ ?_; rotate_left; clear_value x; rotate_left; unfold x)
    | (intro (x : Flt))
    | (intro (x : Flash))
    | (intro (x : Pwr))
    | (intro (x : Glb))
    | (intro x; clear_value x)
    | (intro _)
    | with_reducible apply coldStart_inv
    | with_reducible apply warmStart_inv
    | with_reducible apply scanAnchors_inv
    | with_reducible apply updDev_inv
    | with_reducible apply updPwr_inv
    | with_reducible apply updHup_inv
    | with_reducible apply updPort_inv
    | (simp -zeta only [inv_mk]; show Inv Q _)
    | with_reducible apply inv_foldl
    | split
    | dsimp -zeta only
    | lift_lets

theorem tryStart_inv (s : State) {Q : Base} (hInv : Inv Q s) : Inv Q (tryStart s) := by
  unfold tryStart
  repeat' first
    | with_reducible assumption
    | with_reducible apply startUp_inv
    | split

theorem coldWait_inv (cause : Nat) (s : State) {Q : Base} (hInv : Inv Q s) : Inv Q (coldWait cause s) := by
  unfold coldWait
  repeat' first
    | with_reducible assumption
    | exact fun _ => List.Subset.refl _
    | with_reducible apply tryStart_inv
    | with_reducible apply updDev_inv
    | with_reducible apply updPwr_inv
    | (simp -zeta only [inv_mk]; show Inv Q _)
    | dsimp -zeta only

theorem afterFlush_inv (x : FlushSt) (s : State) {Q : Base} (hInv : Inv Q s) : Inv Q (afterFlush x s) := by
  unfold afterFlush
  repeat' first
    | with_reducible assumption
    | exact fun _ => List.Subset.refl _
    | (intro x; refine inv_have (Q := Q) (s := x) ?_ ?_; rotate_left; clear_value x; rotate_left; unfold x)
    | (intro (x : Flt))
    | (intro (x : Flash))
    | (intro (x : Pwr))
    | (intro (x : Glb))
    | (intro x; clear_value x)
    | (intro _)
    | with_reducible apply lateDump_inv
    | with_reducible apply railsOff_inv
    | with_reducible apply updPwr_inv
    | with_reducible apply updDev_inv
    | with_reducible apply coldWait_inv
    | (simp -zeta only [inv_mk]; show Inv Q _)
    | split
    | dsimp -zeta only
    | lift_lets

theorem flushFails_inv (x : FlushSt) (s : State) {Q : Base} (hInv : Inv Q s) : Inv Q (flushFails x s) := by
  unfold flushFails
  repeat' first
    | with_reducible assumption
    | with_reducible apply afterFlush_inv
    | with_reducible apply updDev_inv
    | with_reducible apply programJournal_inv
    | (simp -zeta only [inv_mk]; show Inv Q _)
    | dsimp -zeta only

theorem execFlushComplete_inv (s : State) {Q : Base} (hInv : Inv Q s) : OkNext Q (execFlushComplete s) := by
  unfold execFlushComplete
  repeat' first
    | with_reducible assumption
    | with_reducible apply afterFlush_inv
    | with_reducible apply bootRecord_inv
    | with_reducible apply updDev_inv
    | with_reducible apply programJournal_inv
    | with_reducible apply okNext_next
    | with_reducible apply okNext_fault
    | (simp -zeta only [inv_mk]; show Inv Q _)
    | split
    | dsimp -zeta only

theorem flushLosesInput_inv (x : FlushSt) (s : State) {Q : Base} (hInv : Inv Q s) : Inv Q (flushLosesInput x s) := by
  unfold flushLosesInput
  repeat' first
    | with_reducible assumption
    | exact fun _ => List.Subset.refl _
    | with_reducible apply updPwr_inv
    | with_reducible apply flushFails_inv
    | (simp -zeta only [inv_mk]; show Inv Q _)
    | split
    | dsimp -zeta only

theorem inputLost_inv (s : State) {Q : Base} (hInv : Inv Q s) : Inv Q (inputLost s) := by
  unfold inputLost
  repeat' first
    | with_reducible assumption
    | with_reducible apply flushLosesInput_inv
    | with_reducible apply inputTrigger_inv
    | with_reducible apply railsOff_inv
    | split

theorem execInputLossTrigger_inv (high : Bool) (s : State) {Q : Base} (hInv : Inv Q s) : OkNext Q (execInputLossTrigger high s) := by
  unfold execInputLossTrigger
  repeat' first
    | with_reducible assumption
    | exact fun _ => List.Subset.refl _
    | with_reducible apply inputLost_inv
    | with_reducible apply updPwr_inv
    | with_reducible apply okNext_next
    | with_reducible apply okNext_fault
    | (simp -zeta only [inv_mk]; show Inv Q _)
    | split
    | dsimp -zeta only

theorem busLoss_inv (s : State) {Q : Base} (hInv : Inv Q s) : Inv Q (busLoss s) := by
  unfold busLoss
  repeat' first
    | with_reducible assumption
    | (intro x; refine inv_have (Q := Q) (s := x) ?_ ?_; rotate_left; clear_value x; rotate_left; unfold x)
    | (intro (x : Flt))
    | (intro (x : Flash))
    | (intro (x : Pwr))
    | (intro (x : Glb))
    | (intro x; clear_value x)
    | (intro _)
    | with_reducible apply updDev_inv
    | with_reducible apply cutTakes_inv
    | (simp -zeta only [inv_mk]; show Inv Q _)
    | with_reducible apply optInv_map
    | with_reducible apply optInv_bind
    | with_reducible apply inv_getD
    | split
    | dsimp -zeta only
    | lift_lets

theorem execBusUndervoltage_inv (s : State) {Q : Base} (hInv : Inv Q s) : OkNext Q (execBusUndervoltage s) := by
  unfold execBusUndervoltage
  repeat' first
    | with_reducible assumption
    | with_reducible apply inputTrigger_inv
    | with_reducible apply busLoss_inv
    | with_reducible apply okNext_next
    | with_reducible apply okNext_fault
    | (simp -zeta only [inv_mk]; show Inv Q _)
    | split

theorem execPwrEnDeassert_inv (s : State) {Q : Base} (hInv : Inv Q s) : OkNext Q (execPwrEnDeassert s) := by
  unfold execPwrEnDeassert
  repeat' first
    | with_reducible assumption
    | exact fun _ => List.Subset.refl _
    | (intro x; refine inv_have (Q := Q) (s := x) ?_ ?_; rotate_left; clear_value x; rotate_left; unfold x)
    | (intro (x : Flt))
    | (intro (x : Flash))
    | (intro (x : Pwr))
    | (intro (x : Glb))
    | (intro x; clear_value x)
    | (intro _)
    | with_reducible apply updPwr_inv
    | with_reducible apply beginFlush_inv
    | with_reducible apply railsOff_inv
    | with_reducible apply okNext_next
    | with_reducible apply okNext_fault
    | (simp -zeta only [inv_mk]; show Inv Q _)
    | split
    | dsimp -zeta only
    | lift_lets

theorem execFlushRefclkLoss_inv (s : State) {Q : Base} (hInv : Inv Q s) : OkNext Q (execFlushRefclkLoss s) := by
  unfold execFlushRefclkLoss
  repeat' first
    | with_reducible assumption
    | with_reducible apply updDev_inv
    | with_reducible apply okNext_next
    | with_reducible apply okNext_fault
    | (simp -zeta only [inv_mk]; show Inv Q _)
    | split
    | dsimp -zeta only

theorem execPackRemove_inv (written : Nat) (s : State) {Q : Base} (hInv : Inv Q s) : OkNext Q (execPackRemove written s) := by
  unfold execPackRemove
  repeat' first
    | with_reducible assumption
    | (intro x; refine inv_have (Q := Q) (s := x) ?_ ?_; rotate_left; clear_value x; rotate_left; unfold x)
    | (intro (x : Flt))
    | (intro (x : Flash))
    | (intro (x : Pwr))
    | (intro (x : Glb))
    | (intro x; clear_value x)
    | (intro _)
    | with_reducible apply flushFrames_inv
    | with_reducible apply flushFails_inv
    | with_reducible apply packGone_inv
    | with_reducible apply okNext_next
    | with_reducible apply okNext_fault
    | split
    | lift_lets

theorem countFatal_inv (terminal : Bool) (s : State) {Q : Base} (hInv : Inv Q s) : Inv Q (countFatal terminal s) := by
  unfold countFatal
  repeat' first
    | with_reducible assumption
    | exact fun _ => ⟨List.Subset.refl _, List.Subset.refl _⟩
    | (intro x; refine inv_have (Q := Q) (s := x) ?_ ?_; rotate_left; clear_value x; rotate_left; unfold x)
    | (intro (x : Flt))
    | (intro (x : Flash))
    | (intro (x : Pwr))
    | (intro (x : Glb))
    | (intro x; clear_value x)
    | (intro _)
    | with_reducible apply updFlt_inv
    | (simp -zeta only [inv_mk]; show Inv Q _)
    | dsimp -zeta only
    | lift_lets

theorem fatalPath_inv (full : Bool) (r : FaultRec) (s : State) {Q : Base} (hInv : Inv Q s) : Inv Q (fatalPath full r s) := by
  unfold fatalPath
  repeat' first
    | with_reducible assumption
    | exact fun _ => ⟨List.Subset.refl _, List.Subset.refl _⟩
    | (intro x; refine inv_have (Q := Q) (s := x) ?_ ?_; rotate_left; clear_value x; rotate_left; unfold x)
    | (intro (x : Flt))
    | (intro (x : Flash))
    | (intro (x : Pwr))
    | (intro (x : Glb))
    | (intro x; clear_value x)
    | (intro _)
    | with_reducible apply stopWork_inv
    | with_reducible apply updFlt_inv
    | with_reducible apply takeDump_inv
    | with_reducible apply beginFlush_inv
    | with_reducible apply pldmEvent_inv
    | (simp -zeta only [inv_mk]; show Inv Q _)
    | dsimp -zeta only
    | lift_lets

theorem fatalLate_inv (full : Bool) (r : FaultRec) (x : FlushSt) (s : State) {Q : Base} (hInv : Inv Q s) : Inv Q (fatalLate full r x s) := by
  unfold fatalLate
  repeat' first
    | with_reducible assumption
    | exact fun _ => List.Subset.refl _
    | with_reducible apply updPwr_inv
    | (simp -zeta only [inv_mk]; show Inv Q _)
    | split
    | dsimp -zeta only

theorem fatal_inv (full terminal : Bool) (f : FaultEv) (s : State) {Q : Base} (hInv : Inv Q s) : Inv Q (fatal full terminal f s) := by
  unfold fatal
  repeat' first
    | with_reducible assumption
    | (intro x; refine inv_have (Q := Q) (s := x) ?_ ?_; rotate_left; clear_value x; rotate_left; unfold x)
    | (intro (x : Flt))
    | (intro (x : Flash))
    | (intro (x : Pwr))
    | (intro (x : Glb))
    | (intro x; clear_value x)
    | (intro _)
    | with_reducible apply countFatal_inv
    | with_reducible apply logFault_inv
    | with_reducible apply fatalLate_inv
    | with_reducible apply fatalPath_inv
    | (simp -zeta only [inv_mk]; show Inv Q _)
    | split
    | lift_lets

theorem execOverTemperature_inv (location : Nat) (s : State) {Q : Base} (hInv : Inv Q s) : OkNext Q (execOverTemperature location s) := by
  unfold execOverTemperature
  repeat' first
    | with_reducible assumption
    | (intro x; refine inv_have (Q := Q) (s := x) ?_ ?_; rotate_left; clear_value x; rotate_left; unfold x)
    | (intro (x : Flt))
    | (intro (x : Flash))
    | (intro (x : Pwr))
    | (intro (x : Glb))
    | (intro x; clear_value x)
    | (intro _)
    | with_reducible apply openValue_inv
    | with_reducible apply fatal_inv
    | with_reducible apply okNext_next
    | with_reducible apply okNext_fault
    | (with_reducible refine inv_fst ‹_› ?_)
    | (with_reducible refine inv_snd ‹_› ?_)
    | split
    | lift_lets

theorem execConverterLoss_inv (bc : Nat) (s : State) {Q : Base} (hInv : Inv Q s) : OkNext Q (execConverterLoss bc s) := by
  unfold execConverterLoss
  repeat' first
    | with_reducible assumption
    | exact fun _ => List.Subset.refl _
    | with_reducible apply fatal_inv
    | with_reducible apply updPwr_inv
    | with_reducible apply okNext_next
    | with_reducible apply okNext_fault
    | (simp -zeta only [inv_mk]; show Inv Q _)
    | split
    | dsimp -zeta only

theorem execRailOutOfWindow_inv (rail : Nat) (overCurrent : Bool) (s : State) {Q : Base} (hInv : Inv Q s) : OkNext Q (execRailOutOfWindow rail overCurrent s) := by
  unfold execRailOutOfWindow
  repeat' first
    | with_reducible assumption
    | (intro x; refine inv_have (Q := Q) (s := x) ?_ ?_; rotate_left; clear_value x; rotate_left; unfold x)
    | (intro (x : Flt))
    | (intro (x : Flash))
    | (intro (x : Pwr))
    | (intro (x : Glb))
    | (intro x; clear_value x)
    | (intro _)
    | with_reducible apply openValue_inv
    | with_reducible apply fatal_inv
    | with_reducible apply okNext_next
    | with_reducible apply okNext_fault
    | (with_reducible refine inv_fst ‹_› ?_)
    | (with_reducible refine inv_snd ‹_› ?_)
    | split
    | lift_lets

theorem execFatalEvent_inv (kind index location : Nat) (s : State) {Q : Base} (hInv : Inv Q s) : OkNext Q (execFatalEvent kind index location s) := by
  unfold execFatalEvent
  repeat' first
    | with_reducible assumption
    | exact fun _ => ⟨List.Subset.refl _, List.Subset.refl _⟩
    | (intro x; refine inv_have (Q := Q) (s := x) ?_ ?_; rotate_left; clear_value x; rotate_left; unfold x)
    | (intro (x : Flt))
    | (intro (x : Flash))
    | (intro (x : Pwr))
    | (intro (x : Glb))
    | (intro x; clear_value x)
    | (intro _)
    | with_reducible apply updFlt_inv
    | with_reducible apply fatal_inv
    | with_reducible apply okNext_next
    | with_reducible apply okNext_fault
    | (simp -zeta only [inv_mk]; show Inv Q _)
    | split
    | dsimp -zeta only
    | lift_lets

theorem tryRamp_inv (s : State) {Q : Base} (hInv : Inv Q s) : Inv Q (tryRamp s) := by
  unfold tryRamp
  repeat' first
    | with_reducible assumption
    | exact fun _ => List.Subset.refl _
    | with_reducible apply updPwr_inv
    | (simp -zeta only [inv_mk]; show Inv Q _)
    | split
    | dsimp -zeta only

theorem inputBack_inv (s : State) {Q : Base} (hInv : Inv Q s) : Inv Q (inputBack s) := by
  unfold inputBack
  repeat' first
    | with_reducible assumption
    | exact fun _ => List.Subset.refl _
    | (intro x; refine inv_have (Q := Q) (s := x) ?_ ?_; rotate_left; clear_value x; rotate_left; unfold x)
    | (intro (x : Flt))
    | (intro (x : Flash))
    | (intro (x : Pwr))
    | (intro (x : Glb))
    | (intro x; clear_value x)
    | (intro _)
    | with_reducible apply updPwr_inv
    | with_reducible apply tryRamp_inv
    | (simp -zeta only [inv_mk]; show Inv Q _)
    | split
    | dsimp -zeta only
    | lift_lets

theorem execStandbyStart_inv (s : State) {Q : Base} (hInv : Inv Q s) : OkNext Q (execStandbyStart s) := by
  unfold execStandbyStart
  repeat' first
    | with_reducible assumption
    | with_reducible apply inputBack_inv
    | with_reducible apply okNext_next
    | with_reducible apply okNext_fault
    | split

theorem execInputProtectionClose_inv (s : State) {Q : Base} (hInv : Inv Q s) : OkNext Q (execInputProtectionClose s) := by
  unfold execInputProtectionClose
  repeat' first
    | with_reducible assumption
    | with_reducible apply inputBack_inv
    | with_reducible apply okNext_next
    | with_reducible apply okNext_fault
    | split

theorem execPwrEnAssert_inv (s : State) {Q : Base} (hInv : Inv Q s) : OkNext Q (execPwrEnAssert s) := by
  unfold execPwrEnAssert
  repeat' first
    | with_reducible assumption
    | exact fun _ => List.Subset.refl _
    | with_reducible apply tryRamp_inv
    | with_reducible apply updPwr_inv
    | with_reducible apply okNext_next
    | with_reducible apply okNext_fault
    | (simp -zeta only [inv_mk]; show Inv Q _)
    | split
    | dsimp -zeta only

theorem execRailGood_inv (s : State) {Q : Base} (hInv : Inv Q s) : OkNext Q (execRailGood s) := by
  unfold execRailGood
  repeat' first
    | with_reducible assumption
    | exact fun _ => List.Subset.refl _
    | with_reducible apply updPwr_inv
    | with_reducible apply coldWait_inv
    | with_reducible apply okNext_next
    | with_reducible apply okNext_fault
    | (simp -zeta only [inv_mk]; show Inv Q _)
    | split
    | dsimp -zeta only

theorem execRailStartTimeout_inv (s : State) {Q : Base} (hInv : Inv Q s) : OkNext Q (execRailStartTimeout s) := by
  unfold execRailStartTimeout
  repeat' first
    | with_reducible assumption
    | exact fun _ => List.Subset.refl _
    | (intro x; refine inv_have (Q := Q) (s := x) ?_ ?_; rotate_left; clear_value x; rotate_left; unfold x)
    | (intro (x : Flt))
    | (intro (x : Flash))
    | (intro (x : Pwr))
    | (intro (x : Glb))
    | (intro x; clear_value x)
    | (intro _)
    | with_reducible apply railsOff_inv
    | with_reducible apply updPwr_inv
    | with_reducible apply logFault_inv
    | with_reducible apply okNext_next
    | with_reducible apply okNext_fault
    | (simp -zeta only [inv_mk]; show Inv Q _)
    | split
    | dsimp -zeta only
    | lift_lets

theorem execColdReset_inv (s : State) {Q : Base} (hInv : Inv Q s) : OkNext Q (execColdReset s) := by
  unfold execColdReset
  repeat' first
    | with_reducible assumption
    | with_reducible apply tryStart_inv
    | with_reducible apply okNext_next
    | with_reducible apply okNext_fault
    | split

theorem beginWarm_inv (cause : Nat) (s : State) {Q : Base} (hInv : Inv Q s) : Inv Q (beginWarm cause s) := by
  unfold beginWarm
  repeat' first
    | with_reducible assumption
    | exact fun _ => List.Subset.refl _
    | with_reducible apply updDev_inv
    | with_reducible apply updPwr_inv
    | with_reducible apply programJournal_inv
    | with_reducible apply stopWork_inv
    | with_reducible apply cutTakes_inv
    | (simp -zeta only [inv_mk]; show Inv Q _)
    | dsimp -zeta only

theorem execPerstAssert_inv (s : State) {Q : Base} (hInv : Inv Q s) : OkNext Q (execPerstAssert s) := by
  unfold execPerstAssert
  repeat' first
    | with_reducible assumption
    | exact fun _ => List.Subset.refl _
    | (intro x; refine inv_have (Q := Q) (s := x) ?_ ?_; rotate_left; clear_value x; rotate_left; unfold x)
    | (intro (x : Flt))
    | (intro (x : Flash))
    | (intro (x : Pwr))
    | (intro (x : Glb))
    | (intro x; clear_value x)
    | (intro _)
    | with_reducible apply updPwr_inv
    | with_reducible apply beginWarm_inv
    | with_reducible apply okNext_next
    | with_reducible apply okNext_fault
    | (simp -zeta only [inv_mk]; show Inv Q _)
    | split
    | dsimp -zeta only
    | lift_lets

theorem endSave_inv (s : State) {Q : Base} (hInv : Inv Q s) : Inv Q (endSave s) := by
  unfold endSave
  repeat' first
    | with_reducible assumption
    | exact fun _ => List.Subset.refl _
    | with_reducible apply tryStart_inv
    | with_reducible apply updPwr_inv
    | (simp -zeta only [inv_mk]; show Inv Q _)
    | dsimp -zeta only

theorem execWarmResetSaveComplete_inv (s : State) {Q : Base} (hInv : Inv Q s) : OkNext Q (execWarmResetSaveComplete s) := by
  unfold execWarmResetSaveComplete
  repeat' first
    | with_reducible assumption
    | with_reducible apply endSave_inv
    | with_reducible apply beginWarm_inv
    | with_reducible apply okNext_next
    | with_reducible apply okNext_fault
    | split

end Sys2Proof.Machine
end

