-- ==== Sys2Proof/Laws/Kept6.lean ====
section
/-! SUPPORT. Each operation and meaning keeps the queue, the layout of the device-wide registers and what is retired (part 6 of 6). -/

namespace Sys2Proof.Machine

set_option maxRecDepth 4000
set_option linter.unusedVariables false

theorem execPerstDeassert_inv (s : State) {Q : Base} (hInv : Inv Q s) : OkNext Q (execPerstDeassert s) := by
  unfold execPerstDeassert
  repeat' first
    | with_reducible assumption
    | exact fun _ => List.Subset.refl _
    | with_reducible apply tryStart_inv
    | with_reducible apply updPwr_inv
    | with_reducible apply okNext_next
    | with_reducible apply okNext_fault
    | (simp -zeta only [inv_mk]; show Inv Q _)
    | dsimp -zeta only

theorem execRootPllLock_inv (s : State) {Q : Base} (hInv : Inv Q s) : OkNext Q (execRootPllLock s) := by
  unfold execRootPllLock
  repeat' first
    | with_reducible assumption
    | with_reducible apply updDev_inv
    | with_reducible apply okNext_next
    | with_reducible apply okNext_fault
    | (simp -zeta only [inv_mk]; show Inv Q _)
    | split
    | dsimp -zeta only

theorem execPortPllLock_inv (s : State) {Q : Base} (hInv : Inv Q s) : OkNext Q (execPortPllLock s) := by
  unfold execPortPllLock
  repeat' first
    | with_reducible assumption
    | with_reducible apply updDev_inv
    | with_reducible apply okNext_next
    | with_reducible apply okNext_fault
    | (simp -zeta only [inv_mk]; show Inv Q _)
    | split
    | dsimp -zeta only

theorem refclkLost_inv (s : State) {Q : Base} (hInv : Inv Q s) : Inv Q (refclkLost s) := by
  unfold refclkLost
  repeat' first
    | with_reducible assumption
    | (intro x; refine inv_have (Q := Q) (s := x) ?_ ?_; rotate_left; clear_value x; rotate_left; unfold x)
    | (intro (x : Flt))
    | (intro (x : Flash))
    | (intro (x : Pwr))
    | (intro (x : Glb))
    | (intro x; clear_value x)
    | (intro _)
    | with_reducible apply updDev_inv
    | with_reducible apply logFault_inv
    | with_reducible apply resetPort_inv
    | with_reducible apply pldmEvent_inv
    | (simp -zeta only [inv_mk]; show Inv Q _)
    | with_reducible apply inv_foldl
    | dsimp -zeta only
    | lift_lets

theorem execRefclkLoss_inv (s : State) {Q : Base} (hInv : Inv Q s) : OkNext Q (execRefclkLoss s) := by
  unfold execRefclkLoss
  repeat' first
    | with_reducible assumption
    | (intro x; refine inv_have (Q := Q) (s := x) ?_ ?_; rotate_left; clear_value x; rotate_left; unfold x)
    | (intro (x : Flt))
    | (intro (x : Flash))
    | (intro (x : Pwr))
    | (intro (x : Glb))
    | (intro x; clear_value x)
    | (intro _)
    | with_reducible apply updDev_inv
    | with_reducible apply refclkLost_inv
    | with_reducible apply okNext_next
    | with_reducible apply okNext_fault
    | (simp -zeta only [inv_mk]; show Inv Q _)
    | split
    | dsimp -zeta only
    | lift_lets

theorem execRefclkReturn_inv (s : State) {Q : Base} (hInv : Inv Q s) : OkNext Q (execRefclkReturn s) := by
  unfold execRefclkReturn
  repeat' first
    | with_reducible assumption
    | with_reducible apply tryStart_inv
    | with_reducible apply updDev_inv
    | with_reducible apply okNext_next
    | with_reducible apply okNext_fault
    | (simp -zeta only [inv_mk]; show Inv Q _)
    | dsimp -zeta only

theorem retireHard_inv (s : State) {Q : Base} (hInv : Inv Q s) : Inv Q (retireHard s) := by
  unfold retireHard
  repeat' first
    | with_reducible assumption
    | exact fun _ => ⟨List.Subset.refl _, List.Subset.refl _⟩
    | exact fun _ => ⟨List.subset_append_left _ _, List.Subset.refl _⟩
    | (intro x; refine inv_have (Q := Q) (s := x) ?_ ?_; rotate_left; clear_value x; rotate_left; unfold x)
    | (intro (x : Flt))
    | (intro (x : Flash))
    | (intro (x : Pwr))
    | (intro (x : Glb))
    | (intro x; clear_value x)
    | (intro _)
    | with_reducible apply updFlt_inv
    | with_reducible apply causeFault_inv
    | (simp -zeta only [inv_mk]; show Inv Q _)
    | split
    | dsimp -zeta only
    | lift_lets

theorem execMemoryActive_inv (s : State) {Q : Base} (hInv : Inv Q s) : OkNext Q (execMemoryActive s) := by
  unfold execMemoryActive
  repeat' first
    | with_reducible assumption
    | with_reducible apply retireHard_inv
    | with_reducible apply updDev_inv
    | with_reducible apply okNext_next
    | with_reducible apply okNext_fault
    | (simp -zeta only [inv_mk]; show Inv Q _)
    | split
    | dsimp -zeta only

theorem execMapReady_inv (s : State) {Q : Base} (hInv : Inv Q s) : OkNext Q (execMapReady s) := by
  unfold execMapReady
  repeat' first
    | with_reducible assumption
    | with_reducible apply updDev_inv
    | with_reducible apply okNext_next
    | with_reducible apply okNext_fault
    | (simp -zeta only [inv_mk]; show Inv Q _)
    | with_reducible apply optInv_map
    | with_reducible apply optInv_bind
    | with_reducible apply inv_getD
    | split
    | dsimp -zeta only

theorem execAdmitOpen_inv (s : State) {Q : Base} (hInv : Inv Q s) : OkNext Q (execAdmitOpen s) := by
  unfold execAdmitOpen
  repeat' first
    | with_reducible assumption
    | with_reducible apply noticeAll_inv
    | with_reducible apply updDev_inv
    | with_reducible apply okNext_next
    | with_reducible apply okNext_fault
    | (simp -zeta only [inv_mk]; show Inv Q _)
    | with_reducible apply optInv_map
    | with_reducible apply optInv_bind
    | with_reducible apply inv_getD
    | split
    | dsimp -zeta only

theorem execGpfPhase1_inv (port : Nat) (s : State) {Q : Base} (hInv : Inv Q s) : OkNext Q (execGpfPhase1 port s) := by
  unfold execGpfPhase1
  repeat' first
    | with_reducible assumption
    | with_reducible apply emit_inv
    | with_reducible apply okNext_next
    | with_reducible apply okNext_fault
    | split

theorem execGpfPhase2_inv (port : Nat) (s : State) {Q : Base} (hInv : Inv Q s) : OkNext Q (execGpfPhase2 port s) := by
  unfold execGpfPhase2
  repeat' first
    | with_reducible assumption
    | exact fun _ => List.Subset.refl _
    | with_reducible apply gpfSettle_inv
    | with_reducible apply updPwr_inv
    | with_reducible apply okNext_next
    | with_reducible apply okNext_fault
    | (simp -zeta only [inv_mk]; show Inv Q _)
    | split
    | dsimp -zeta only

theorem execGpfPhase2Deadline_inv (s : State) {Q : Base} (hInv : Inv Q s) : OkNext Q (execGpfPhase2Deadline s) := by
  unfold execGpfPhase2Deadline
  repeat' first
    | with_reducible assumption
    | exact fun _ => List.Subset.refl _
    | with_reducible apply emit_inv
    | with_reducible apply updPwr_inv
    | with_reducible apply programJournal_inv
    | with_reducible apply okNext_next
    | with_reducible apply okNext_fault
    | (simp -zeta only [inv_mk]; show Inv Q _)
    | split
    | dsimp -zeta only

theorem stagePwrCtrl_inv (v : Nat) (s : State) {Q : Base} (hInv : Inv Q s) : Inv Q (stagePwrCtrl v s) := by
  exact idleCommit_inv _ { hInv with glb := fun k => { hInv.glb k with power_pend := by rintro _ ⟨⟩; exact pwrCtrlMask_idem v } }

theorem execPhaseFault_inv (phase : Nat) (s : State) {Q : Base} (hInv : Inv Q s) : OkNext Q (execPhaseFault phase s) := by
  unfold execPhaseFault
  repeat' first
    | with_reducible assumption
    | exact fun _ => List.Subset.refl _
    | (intro x; refine inv_have (Q := Q) (s := x) ?_ ?_; rotate_left; clear_value x; rotate_left; unfold x)
    | (intro (x : Flt))
    | (intro (x : Flash))
    | (intro (x : Pwr))
    | (intro (x : Glb))
    | (intro x; clear_value x)
    | (intro _)
    | with_reducible apply updPwr_inv
    | with_reducible apply causeFault_inv
    | with_reducible apply fatal_inv
    | with_reducible apply okNext_next
    | with_reducible apply okNext_fault
    | (simp -zeta only [inv_mk]; show Inv Q _)
    | split
    | dsimp -zeta only
    | lift_lets

theorem execThrottleEngage_inv (region : Nat) (s : State) {Q : Base} (hInv : Inv Q s) : OkNext Q (execThrottleEngage region s) := by
  unfold execThrottleEngage
  repeat' first
    | with_reducible assumption
    | exact fun _ => List.Subset.refl _
    | (intro x; refine inv_have (Q := Q) (s := x) ?_ ?_; rotate_left; clear_value x; rotate_left; unfold x)
    | (intro (x : Flt))
    | (intro (x : Flash))
    | (intro (x : Pwr))
    | (intro (x : Glb))
    | (intro x; clear_value x)
    | (intro _)
    | with_reducible apply openValue_inv
    | with_reducible apply logFault_inv
    | with_reducible apply updPwr_inv
    | with_reducible apply okNext_next
    | with_reducible apply okNext_fault
    | (simp -zeta only [inv_mk]; show Inv Q _)
    | (with_reducible refine inv_fst ‹_› ?_)
    | (with_reducible refine inv_snd ‹_› ?_)
    | split
    | dsimp -zeta only
    | lift_lets

theorem execThrottleRelease_inv (region : Nat) (s : State) {Q : Base} (hInv : Inv Q s) : OkNext Q (execThrottleRelease region s) := by
  unfold execThrottleRelease
  repeat' first
    | with_reducible assumption
    | exact fun _ => List.Subset.refl _
    | with_reducible apply updPwr_inv
    | with_reducible apply okNext_next
    | with_reducible apply okNext_fault
    | (simp -zeta only [inv_mk]; show Inv Q _)
    | split
    | dsimp -zeta only

theorem failRegion_inv (r : Nat) (count : Nat) (s : State) {Q : Base} (hInv : Inv Q s) : Inv Q (failRegion r count s) := by
  unfold failRegion
  repeat' first
    | with_reducible assumption
    | exact fun _ => ⟨List.Subset.refl _, List.Subset.refl _⟩
    | exact fun _ => ⟨List.Subset.refl _, List.subset_append_left _ _⟩
    | exact fun _ => List.subset_append_left _ _
    | exact fun _ => ⟨fun _ => rfl, fun _ => rfl⟩
    | (intro x; refine inv_have (Q := Q) (s := x) ?_ ?_; rotate_left; clear_value x; rotate_left; unfold x)
    | (intro (x : Flt))
    | (intro (x : Flash))
    | (intro (x : Pwr))
    | (intro (x : Glb))
    | (intro x; clear_value x)
    | (intro _)
    | with_reducible apply openValue_inv
    | with_reducible apply updPwr_inv
    | with_reducible apply causeFault_inv
    | with_reducible apply updFlt_inv
    | with_reducible apply updPort_inv
    | with_reducible apply resetPort_inv
    | with_reducible apply fatal_inv
    | (simp -zeta only [inv_mk]; show Inv Q _)
    | (with_reducible refine inv_fst ‹_› ?_)
    | (with_reducible refine inv_snd ‹_› ?_)
    | split
    | dsimp -zeta only
    | lift_lets

theorem tripRegion_inv (r : Nat) (count : Nat) (s : State) {Q : Base} (hInv : Inv Q s) : Inv Q (tripRegion r count s) := by
  unfold tripRegion
  repeat' first
    | with_reducible assumption
    | exact fun _ => List.Subset.refl _
    | (intro x; refine inv_have (Q := Q) (s := x) ?_ ?_; rotate_left; clear_value x; rotate_left; unfold x)
    | (intro (x : Flt))
    | (intro (x : Flash))
    | (intro (x : Pwr))
    | (intro (x : Glb))
    | (intro x; clear_value x)
    | (intro _)
    | with_reducible apply openValue_inv
    | with_reducible apply updPwr_inv
    | with_reducible apply logFault_inv
    | with_reducible apply resetPort_inv
    | with_reducible apply fatal_inv
    | (simp -zeta only [inv_mk]; show Inv Q _)
    | (with_reducible refine inv_fst ‹_› ?_)
    | (with_reducible refine inv_snd ‹_› ?_)
    | split
    | dsimp -zeta only
    | lift_lets

theorem execOverCurrentTrip_inv (region : Nat) (s : State) {Q : Base} (hInv : Inv Q s) : OkNext Q (execOverCurrentTrip region s) := by
  unfold execOverCurrentTrip
  repeat' first
    | with_reducible assumption
    | exact fun _ => List.Subset.refl _
    | (intro x; refine inv_have (Q := Q) (s := x) ?_ ?_; rotate_left; clear_value x; rotate_left; unfold x)
    | (intro (x : Flt))
    | (intro (x : Flash))
    | (intro (x : Pwr))
    | (intro (x : Glb))
    | (intro x; clear_value x)
    | (intro _)
    | with_reducible apply countFailure_inv
    | with_reducible apply failRegion_inv
    | with_reducible apply updPwr_inv
    | with_reducible apply tripRegion_inv
    | with_reducible apply okNext_next
    | with_reducible apply okNext_fault
    | (simp -zeta only [inv_mk]; show Inv Q _)
    | (with_reducible refine inv_fst ‹_› ?_)
    | (with_reducible refine inv_snd ‹_› ?_)
    | split
    | dsimp -zeta only
    | lift_lets

theorem execTripHoldEnd_inv (region : Nat) (s : State) {Q : Base} (hInv : Inv Q s) : OkNext Q (execTripHoldEnd region s) := by
  unfold execTripHoldEnd
  repeat' first
    | with_reducible assumption
    | exact fun _ => List.Subset.refl _
    | with_reducible apply updPwr_inv
    | with_reducible apply okNext_next
    | with_reducible apply okNext_fault
    | (simp -zeta only [inv_mk]; show Inv Q _)
    | split
    | dsimp -zeta only

theorem execIdleGateTimeout_inv (s : State) {Q : Base} (hInv : Inv Q s) : OkNext Q (execIdleGateTimeout s) := by
  unfold execIdleGateTimeout
  repeat' first
    | with_reducible assumption
    | with_reducible apply okNext_next
    | with_reducible apply okNext_fault
    | (simp -zeta only [inv_mk]; show Inv Q _)
    | split

theorem execTileWakeComplete_inv (s : State) {Q : Base} (hInv : Inv Q s) : OkNext Q (execTileWakeComplete s) := by
  unfold execTileWakeComplete
  repeat' first
    | with_reducible assumption
    | exact fun _ => List.Subset.refl _
    | with_reducible apply pump_inv
    | with_reducible apply updPwr_inv
    | with_reducible apply okNext_next
    | with_reducible apply okNext_fault
    | (simp -zeta only [inv_mk]; show Inv Q _)
    | split
    | dsimp -zeta only

theorem telRingWrite_inv (n : Nat) (b : List Byte) (s : State) {Q : Base} (hInv : Inv Q s) : Inv Q (telRingWrite n b s) := by
  unfold telRingWrite
  repeat' first
    | with_reducible assumption
    | (intro x; refine inv_have (Q := Q) (s := x) ?_ ?_; rotate_left; clear_value x; rotate_left; unfold x)
    | (intro (x : Flt))
    | (intro (x : Flash))
    | (intro (x : Pwr))
    | (intro (x : Glb))
    | (intro x; clear_value x)
    | (intro _)
    | with_reducible apply putNow_inv
    | (simp -zeta only [inv_mk]; show Inv Q _)
    | split
    | lift_lets

theorem execTelemetryWindowEnd_inv (currents : List Nat) (s : State) {Q : Base} (hInv : Inv Q s) : OkNext Q (execTelemetryWindowEnd currents s) := by
  unfold execTelemetryWindowEnd
  repeat' first
    | with_reducible assumption
    | exact fun _ => List.Subset.refl _
    | (intro x; refine inv_have (Q := Q) (s := x) ?_ ?_; rotate_left; clear_value x; rotate_left; unfold x)
    | (intro (x : Flt))
    | (intro (x : Flash))
    | (intro (x : Pwr))
    | (intro (x : Glb))
    | (intro x; clear_value x)
    | (intro _)
    | with_reducible apply updPwr_inv
    | with_reducible apply telRingWrite_inv
    | with_reducible apply okNext_next
    | with_reducible apply okNext_fault
    | (simp -zeta only [inv_mk]; show Inv Q _)
    | with_reducible apply optInv_map
    | with_reducible apply optInv_bind
    | with_reducible apply inv_getD
    | split
    | dsimp -zeta only
    | lift_lets

theorem execSetTelemetryRing_inv (e : Env) (base log2 : Nat) (s : State) {Q : Base} (hInv : Inv Q s) : OkNext Q (execSetTelemetryRing e base log2 s) := by
  unfold execSetTelemetryRing
  repeat' first
    | with_reducible assumption
    | (intro _)
    | with_reducible apply mailbox_inv
    | with_reducible apply okNext_next
    | with_reducible apply okNext_fault
    | (simp -zeta only [inv_mk]; show Inv Q _)
    | split
    | dsimp -zeta only

theorem execQueryPower_inv (e : Env) (s : State) {Q : Base} (hInv : Inv Q s) : OkNext Q (execQueryPower e s) := by
  unfold execQueryPower
  repeat' first
    | with_reducible assumption
    | (intro _)
    | with_reducible apply mailbox_inv
    | with_reducible apply okNext_next
    | with_reducible apply okNext_fault
    | dsimp -zeta only

theorem execQueryOcRegions_inv (e : Env) (s : State) {Q : Base} (hInv : Inv Q s) : OkNext Q (execQueryOcRegions e s) := by
  unfold execQueryOcRegions
  repeat' first
    | with_reducible assumption
    | (intro _)
    | with_reducible apply mailbox_inv
    | with_reducible apply okNext_next
    | with_reducible apply okNext_fault
    | with_reducible apply optInv_map
    | with_reducible apply optInv_bind
    | with_reducible apply inv_getD
    | dsimp -zeta only

theorem execSetPowerConfig_inv (e : Env) (idleGate idleUs : Nat) (s : State) {Q : Base} (hInv : Inv Q s) : OkNext Q (execSetPowerConfig e idleGate idleUs s) := by
  unfold execSetPowerConfig
  repeat' first
    | with_reducible assumption
    | (intro _)
    | with_reducible apply mailbox_inv
    | with_reducible apply stagePwrCtrl_inv
    | with_reducible apply okNext_next
    | with_reducible apply okNext_fault
    | split
    | dsimp -zeta only

theorem damageUnit_inv (k : FrameKey) (unit : Nat) (s : State) {Q : Base} (hInv : Inv Q s) : OptInv Q (damageUnit k unit s) := by
  unfold damageUnit
  repeat' first
    | with_reducible assumption
    | exact fun _ => ⟨List.Subset.refl _, List.Subset.refl _⟩
    | (intro x; refine inv_have (Q := Q) (s := x) ?_ ?_; rotate_left; clear_value x; rotate_left; unfold x)
    | (intro (x : Flt))
    | (intro (x : Flash))
    | (intro (x : Pwr))
    | (intro (x : Glb))
    | (intro x; clear_value x)
    | (intro _)
    | with_reducible apply updFlt_inv
    | with_reducible apply optInv_some
    | with_reducible apply optInv_none
    | (simp -zeta only [inv_mk]; show Inv Q _)
    | with_reducible apply optInv_map
    | with_reducible apply optInv_bind
    | with_reducible apply inv_getD
    | split
    | dsimp -zeta only
    | lift_lets

theorem damageAt_inv (injected : Bool) (pc location : Nat) (place : HbmPlace) (s : State) {Q : Base} (hInv : Inv Q s) : Inv Q (damageAt injected pc location place s) := by
  unfold damageAt
  repeat' first
    | with_reducible assumption
    | with_reducible apply place_inv
    | with_reducible apply fatal_inv
    | with_reducible apply damageUnit_inv
    | (with_reducible refine inv_opt ‹_› ?_)
    | (with_reducible refine inv_optP ‹_› ?_)
    | with_reducible apply optInvP_map
    | split

theorem countRow_inv (pc row : Nat) (s : State) {Q : Base} (hInv : Inv Q s) : Inv Q (countRow pc row s).1 := by
  unfold countRow
  repeat' first
    | with_reducible assumption
    | exact fun _ => ⟨List.Subset.refl _, List.Subset.refl _⟩
    | (intro x; refine inv_have (Q := Q) (s := x) ?_ ?_; rotate_left; clear_value x; rotate_left; unfold x)
    | (intro (x : Flt))
    | (intro (x : Flash))
    | (intro (x : Pwr))
    | (intro (x : Glb))
    | (intro x; clear_value x)
    | (intro _)
    | with_reducible apply updFlt_inv
    | (simp -zeta only [inv_mk]; show Inv Q _)
    | dsimp -zeta only
    | lift_lets

theorem retirePc_inv (pc : Nat) (f : FaultEv) (s : State) {Q : Base} (hInv : Inv Q s) : Inv Q (retirePc pc f s) := by
  unfold retirePc
  repeat' first
    | with_reducible assumption
    | exact fun _ => ⟨List.Subset.refl _, List.Subset.refl _⟩
    | with_reducible apply logFault_inv
    | with_reducible apply causeFault_inv
    | with_reducible apply updFlt_inv
    | (simp -zeta only [inv_mk]; show Inv Q _)
    | split
    | dsimp -zeta only

theorem hardSignature_inv (pc location : Nat) (s : State) {Q : Base} (hInv : Inv Q s) : Inv Q (hardSignature pc location s) := by
  unfold hardSignature
  repeat' first
    | with_reducible assumption
    | exact fun _ => ⟨List.Subset.refl _, List.Subset.refl _⟩
    | with_reducible apply fatal_inv
    | with_reducible apply updFlt_inv
    | (simp -zeta only [inv_mk]; show Inv Q _)
    | dsimp -zeta only

theorem judgeHbm_inv (injected : Bool) (pc bank row n : Nat) (correctable : Bool) (s : State) {Q : Base} (hInv : Inv Q s) : Inv Q (judgeHbm injected pc bank row n correctable s) := by
  unfold judgeHbm
  repeat' first
    | with_reducible assumption
    | (intro x; refine inv_have (Q := Q) (s := x) ?_ ?_; rotate_left; clear_value x; rotate_left; unfold x)
    | (intro (x : Flt))
    | (intro (x : Flash))
    | (intro (x : Pwr))
    | (intro (x : Glb))
    | (intro x; clear_value x)
    | (intro _)
    | with_reducible apply openValue_inv
    | with_reducible apply countRow_inv
    | with_reducible apply hardSignature_inv
    | with_reducible apply logFault_inv
    | with_reducible apply retirePc_inv
    | (with_reducible refine inv_fst ‹_› ?_)
    | (with_reducible refine inv_snd ‹_› ?_)
    | split
    | lift_lets

theorem hbmError_inv (injected : Bool) (pc bank row : Nat) (place : HbmPlace) (correctable : Bool) (s : State) {Q : Base} (hInv : Inv Q s) : Inv Q (hbmError injected pc bank row place correctable s) := by
  unfold hbmError
  repeat' first
    | with_reducible assumption
    | (intro x; refine inv_have (Q := Q) (s := x) ?_ ?_; rotate_left; clear_value x; rotate_left; unfold x)
    | (intro (x : Flt))
    | (intro (x : Flash))
    | (intro (x : Pwr))
    | (intro (x : Glb))
    | (intro x; clear_value x)
    | (intro _)
    | with_reducible apply countFailure_inv
    | with_reducible apply place_inv
    | with_reducible apply judgeHbm_inv
    | with_reducible apply damageAt_inv
    | (with_reducible refine inv_optP ‹_› ?_)
    | with_reducible apply optInvP_map
    | (with_reducible refine inv_fst ‹_› ?_)
    | (with_reducible refine inv_snd ‹_› ?_)
    | split
    | lift_lets

theorem execHbmError_inv (stack pc bank row : Nat) (place : HbmPlace) (correctable : Bool) (s : State) {Q : Base} (hInv : Inv Q s) : OkNext Q (execHbmError stack pc bank row place correctable s) := by
  unfold execHbmError
  repeat' first
    | with_reducible assumption
    | with_reducible apply hbmError_inv
    | with_reducible apply place_inv
    | with_reducible apply okNext_next
    | with_reducible apply okNext_fault
    | (with_reducible refine inv_optP ‹_› ?_)
    | with_reducible apply optInvP_map
    | split

theorem repairFrame_inv (m : MapEnt) (x : FrameKey × Nat) (s : State) {Q : Base} (hInv : Inv Q s) : Inv Q (repairFrame m x s) := by
  unfold repairFrame
  repeat' first
    | with_reducible assumption
    | exact fun _ => ⟨List.Subset.refl _, List.Subset.refl _⟩
    | (intro x; refine inv_have (Q := Q) (s := x) ?_ ?_; rotate_left; clear_value x; rotate_left; unfold x)
    | (intro (x : Flt))
    | (intro (x : Flash))
    | (intro (x : Pwr))
    | (intro (x : Glb))
    | (intro x; clear_value x)
    | (intro _)
    | with_reducible apply updPart_inv
    | with_reducible apply updRegion_inv
    | with_reducible apply updFlt_inv
    | (simp -zeta only [inv_mk]; show Inv Q _)
    | split
    | dsimp -zeta only
    | lift_lets

theorem execFrameRepair_inv (place : HbmPlace) (s : State) {Q : Base} (hInv : Inv Q s) : OkNext Q (execFrameRepair place s) := by
  unfold execFrameRepair
  repeat' first
    | with_reducible assumption
    | (intro x; refine inv_have (Q := Q) (s := x) ?_ ?_; rotate_left; clear_value x; rotate_left; unfold x)
    | (intro (x : Flt))
    | (intro (x : Flash))
    | (intro (x : Pwr))
    | (intro (x : Glb))
    | (intro x; clear_value x)
    | (intro _)
    | with_reducible apply place_inv
    | with_reducible apply repairFrame_inv
    | with_reducible apply okNext_next
    | with_reducible apply okNext_fault
    | (with_reducible refine inv_optP ‹_› ?_)
    | with_reducible apply optInvP_map
    | with_reducible apply optInv_map
    | with_reducible apply optInv_bind
    | with_reducible apply inv_getD
    | with_reducible apply inv_foldl
    | split
    | dsimp -zeta only
    | lift_lets

theorem execPcRetirementCopyEnd_inv (pc : Nat) (s : State) {Q : Base} (hInv : Inv Q s) : OkNext Q (execPcRetirementCopyEnd pc s) := by
  unfold execPcRetirementCopyEnd
  repeat' first
    | with_reducible assumption
    | exact fun _ => ⟨List.Subset.refl _, List.Subset.refl _⟩
    | exact fun _ => ⟨List.subset_append_left _ _, List.Subset.refl _⟩
    | with_reducible apply updFlt_inv
    | with_reducible apply okNext_next
    | with_reducible apply okNext_fault
    | (simp -zeta only [inv_mk]; show Inv Q _)
    | split
    | dsimp -zeta only

theorem restagePass_inv (p i k : Nat) (s : State) {Q : Base} (hInv : Inv Q s) : Inv Q (restagePass p i k s) := by
  unfold restagePass
  repeat' first
    | with_reducible assumption
    | (intro x; refine inv_have (Q := Q) (s := x) ?_ ?_; rotate_left; clear_value x; rotate_left; unfold x)
    | (intro (x : Flt))
    | (intro (x : Flash))
    | (intro (x : Pwr))
    | (intro (x : Glb))
    | (intro x; clear_value x)
    | (intro _)
    | (simp -zeta only [inv_mk]; show Inv Q _)
    | split
    | dsimp -zeta only
    | lift_lets

theorem tileErrorItem_inv (tile : Nat) (s : State) {Q : Base} (hInv : Inv Q s) : Inv Q (tileErrorItem tile s) := by
  unfold tileErrorItem
  repeat' first
    | with_reducible assumption
    | with_reducible apply restagePass_inv
    | with_reducible apply updItem_inv
    | with_reducible apply pump_inv
    | (simp -zeta only [inv_mk]; show Inv Q _)
    | split
    | dsimp -zeta only

theorem retireTile_inv (tile : Nat) (f : FaultEv) (s : State) {Q : Base} (hInv : Inv Q s) : Inv Q (retireTile tile f s) := by
  unfold retireTile
  repeat' first
    | with_reducible assumption
    | exact fun _ => ⟨List.Subset.refl _, List.Subset.refl _⟩
    | exact fun _ => ⟨List.Subset.refl _, List.subset_append_left _ _⟩
    | with_reducible apply logFault_inv
    | with_reducible apply causeFault_inv
    | with_reducible apply updFlt_inv
    | (simp -zeta only [inv_mk]; show Inv Q _)
    | split
    | dsimp -zeta only

theorem tileError_inv (injected : Bool) (tile row : Nat) (correctable : Bool) (s : State) {Q : Base} (hInv : Inv Q s) : Inv Q (tileError injected tile row correctable s) := by
  unfold tileError
  repeat' first
    | with_reducible assumption
    | (intro x; refine inv_have (Q := Q) (s := x) ?_ ?_; rotate_left; clear_value x; rotate_left; unfold x)
    | (intro (x : Flt))
    | (intro (x : Flash))
    | (intro (x : Pwr))
    | (intro (x : Glb))
    | (intro x; clear_value x)
    | (intro _)
    | with_reducible apply countFailure_inv
    | with_reducible apply place_inv
    | with_reducible apply openValue_inv
    | with_reducible apply retireTile_inv
    | with_reducible apply logFault_inv
    | with_reducible apply tileErrorItem_inv
    | (with_reducible refine inv_optP ‹_› ?_)
    | with_reducible apply optInvP_map
    | (with_reducible refine inv_fst ‹_› ?_)
    | (with_reducible refine inv_snd ‹_› ?_)
    | split
    | lift_lets

theorem tileSelfTest_inv (tile : Nat) (s : State) {Q : Base} (hInv : Inv Q s) : Inv Q (tileSelfTest tile s) := by
  unfold tileSelfTest
  repeat' first
    | with_reducible assumption
    | with_reducible apply retireTile_inv
    | split

theorem execTileArrayError_inv (tile row : Nat) (fail : TileFail) (s : State) {Q : Base} (hInv : Inv Q s) : OkNext Q (execTileArrayError tile row fail s) := by
  unfold execTileArrayError
  repeat' first
    | with_reducible assumption
    | with_reducible apply tileSelfTest_inv
    | with_reducible apply tileError_inv
    | with_reducible apply okNext_next
    | with_reducible apply okNext_fault
    | split

theorem execFailureExpiry_inv (s : State) {Q : Base} (hInv : Inv Q s) : OkNext Q (execFailureExpiry s) := by
  unfold execFailureExpiry
  repeat' first
    | with_reducible assumption
    | exact fun _ => ⟨List.Subset.refl _, List.Subset.refl _⟩
    | with_reducible apply updFlt_inv
    | with_reducible apply okNext_next
    | with_reducible apply okNext_fault
    | with_reducible apply optInv_map
    | with_reducible apply optInv_bind
    | with_reducible apply inv_getD
    | dsimp -zeta only

theorem injectFlash_inv (unit : Nat) (correctable : Bool) (s : State) {Q : Base} (hInv : Inv Q s) : Inv Q (injectFlash unit correctable s) := by
  unfold injectFlash
  repeat' first
    | with_reducible assumption
    | (intro x; refine inv_have (Q := Q) (s := x) ?_ ?_; rotate_left; clear_value x; rotate_left; unfold x)
    | (intro (x : Flt))
    | (intro (x : Flash))
    | (intro (x : Pwr))
    | (intro (x : Glb))
    | (intro x; clear_value x)
    | (intro _)
    | with_reducible apply logFault_inv
    | with_reducible apply loseUnits_inv
    | with_reducible apply optInv_map
    | with_reducible apply optInv_bind
    | with_reducible apply inv_getD
    | split
    | dsimp -zeta only
    | lift_lets

theorem injectFault_inv (target : InjectTarget) (correctable : Bool) (s : State) {Q : Base} (hInv : Inv Q s) : Inv Q (injectFault target correctable s).1 := by
  unfold injectFault
  repeat' first
    | with_reducible assumption
    | with_reducible apply place_inv
    | with_reducible apply hbmError_inv
    | with_reducible apply tileError_inv
    | with_reducible apply injectFlash_inv
    | (with_reducible refine inv_optP ‹_› ?_)
    | with_reducible apply optInvP_map
    | split
    | dsimp -zeta only

theorem execInjectFault_inv (e : Env) (target : InjectTarget) (correctable : Bool) (s : State) {Q : Base} (hInv : Inv Q s) : OkNext Q (execInjectFault e target correctable s) := by
  unfold execInjectFault
  repeat' first
    | with_reducible assumption
    | (intro _)
    | with_reducible apply mailbox_inv
    | with_reducible apply injectFault_inv
    | with_reducible apply okNext_next
    | with_reducible apply okNext_fault

theorem execReadFaultRecords_inv (e : Env) (firstSeq : Nat) (s : State) {Q : Base} (hInv : Inv Q s) : OkNext Q (execReadFaultRecords e firstSeq s) := by
  unfold execReadFaultRecords
  repeat' first
    | with_reducible assumption
    | (intro _)
    | with_reducible apply mailbox_inv
    | with_reducible apply okNext_next
    | with_reducible apply okNext_fault
    | dsimp -zeta only

theorem clearRecords_inv (seq : Nat) (s : State) {Q : Base} (hInv : Inv Q s) : Inv Q (clearRecords seq s) := by
  unfold clearRecords
  repeat' first
    | with_reducible assumption
    | exact fun _ => ⟨List.Subset.refl _, List.Subset.refl _⟩
    | with_reducible apply updFlt_inv
    | (simp -zeta only [inv_mk]; show Inv Q _)
    | dsimp -zeta only

theorem execClearFaultRecords_inv (e : Env) (seq : Nat) (s : State) {Q : Base} (hInv : Inv Q s) : OkNext Q (execClearFaultRecords e seq s) := by
  unfold execClearFaultRecords
  repeat' first
    | with_reducible assumption
    | (intro _)
    | with_reducible apply mailbox_inv
    | with_reducible apply clearRecords_inv
    | with_reducible apply okNext_next
    | with_reducible apply okNext_fault
    | dsimp -zeta only

theorem execQueryFaultState_inv (e : Env) (s : State) {Q : Base} (hInv : Inv Q s) : OkNext Q (execQueryFaultState e s) := by
  unfold execQueryFaultState
  repeat' first
    | with_reducible assumption
    | (intro _)
    | with_reducible apply mailbox_inv
    | with_reducible apply okNext_next
    | with_reducible apply okNext_fault
    | dsimp -zeta only

theorem execQueryDump_inv (e : Env) (s : State) {Q : Base} (hInv : Inv Q s) : OkNext Q (execQueryDump e s) := by
  unfold execQueryDump
  repeat' first
    | with_reducible assumption
    | (intro _)
    | with_reducible apply mailbox_inv
    | with_reducible apply okNext_next
    | with_reducible apply okNext_fault
    | dsimp -zeta only

theorem readDump_inv (e : Env) (slot id off len dst : Nat) (s : State) {Q : Base} (hInv : Inv Q s) : Inv Q (readDump e slot id off len dst s).1 := by
  unfold readDump
  repeat' first
    | with_reducible assumption
    | (intro x; refine inv_have (Q := Q) (s := x) ?_ ?_; rotate_left; clear_value x; rotate_left; unfold x)
    | (intro (x : Flt))
    | (intro (x : Flash))
    | (intro (x : Pwr))
    | (intro (x : Glb))
    | (intro x; clear_value x)
    | (intro _)
    | with_reducible apply startLong_inv
    | (simp -zeta only [inv_mk]; show Inv Q _)
    | split
    | dsimp -zeta only
    | lift_lets

theorem execReadDump_inv (e : Env) (slot section_ offset length dst : Nat) (s : State) {Q : Base} (hInv : Inv Q s) : OkNext Q (execReadDump e slot section_ offset length dst s) := by
  unfold execReadDump
  repeat' first
    | with_reducible assumption
    | (intro _)
    | with_reducible apply mailbox_inv
    | with_reducible apply readDump_inv
    | with_reducible apply okNext_next
    | with_reducible apply okNext_fault
    | (simp -zeta only [inv_mk]; show Inv Q _)

theorem execDumpCopyComplete_inv (op : Nat) (s : State) {Q : Base} (hInv : Inv Q s) : OkNext Q (execDumpCopyComplete op s) := by
  unfold execDumpCopyComplete
  repeat' first
    | with_reducible assumption
    | (intro x; refine inv_have (Q := Q) (s := x) ?_ ?_; rotate_left; clear_value x; rotate_left; unfold x)
    | (intro (x : Flt))
    | (intro (x : Flash))
    | (intro (x : Pwr))
    | (intro (x : Glb))
    | (intro x; clear_value x)
    | (intro _)
    | with_reducible apply endXfer_inv
    | with_reducible apply askLines_inv
    | with_reducible apply updXfer_inv
    | with_reducible apply writeHdm_inv
    | with_reducible apply okNext_next
    | with_reducible apply okNext_fault
    | (simp -zeta only [inv_mk]; show Inv Q _)
    | (with_reducible refine inv_fst ‹_› ?_)
    | (with_reducible refine inv_snd ‹_› ?_)
    | split
    | dsimp -zeta only
    | lift_lets

theorem clearDump_inv (slot : Nat) (s : State) {Q : Base} (hInv : Inv Q s) : Inv Q (clearDump slot s) := by
  unfold clearDump
  repeat' first
    | with_reducible assumption
    | exact fun _ => ⟨List.Subset.refl _, List.Subset.refl _⟩
    | with_reducible apply updFlt_inv
    | (simp -zeta only [inv_mk]; show Inv Q _)
    | split
    | dsimp -zeta only

theorem execClearDump_inv (e : Env) (slot : Nat) (s : State) {Q : Base} (hInv : Inv Q s) : OkNext Q (execClearDump e slot s) := by
  unfold execClearDump
  repeat' first
    | with_reducible assumption
    | (intro _)
    | with_reducible apply mailbox_inv
    | with_reducible apply clearDump_inv
    | with_reducible apply okNext_next
    | with_reducible apply okNext_fault
    | dsimp -zeta only

theorem beginRestart_inv (cause : Nat) (s : State) {Q : Base} (hInv : Inv Q s) : Inv Q (beginRestart cause s) := by
  unfold beginRestart
  repeat' first
    | with_reducible assumption
    | exact fun _ => ⟨List.Subset.refl _, List.Subset.refl _⟩
    | with_reducible apply updDev_inv
    | with_reducible apply updFlt_inv
    | (simp -zeta only [inv_mk]; show Inv Q _)
    | split
    | dsimp -zeta only

theorem updInactive_inv (f : FwSlot → FwSlot) (s : State) {Q : Base} (hInv : Inv Q s) : Inv Q (updInactive f s) := by
  refine updFlt_inv _ _ hInv fun x => ?_
  split <;> exact ⟨List.Subset.refl _, List.Subset.refl _⟩

theorem reload_inv (s : State) {Q : Base} (hInv : Inv Q s) : Inv Q (reload s) := by
  unfold reload
  repeat' first
    | with_reducible assumption
    | exact fun _ => ⟨List.Subset.refl _, List.Subset.refl _⟩
    | (intro x; refine inv_have (Q := Q) (s := x) ?_ ?_; rotate_left; clear_value x; rotate_left; unfold x)
    | (intro (x : Flt))
    | (intro (x : Flash))
    | (intro (x : Pwr))
    | (intro (x : Glb))
    | (intro x; clear_value x)
    | (intro _)
    | with_reducible apply updDev_inv
    | with_reducible apply updFlt_inv
    | (simp -zeta only [inv_mk]; show Inv Q _)
    | with_reducible apply optInv_map
    | with_reducible apply optInv_bind
    | with_reducible apply inv_getD
    | split
    | dsimp -zeta only
    | lift_lets

theorem endSwap_inv (s : State) {Q : Base} (hInv : Inv Q s) : Inv Q (endSwap s) := by
  unfold endSwap
  repeat' first
    | with_reducible assumption
    | with_reducible apply restartSwapIn_inv
    | (simp -zeta only [inv_mk]; show Inv Q _)
    | split

theorem endOps_inv (s : State) {Q : Base} (hInv : Inv Q s) : Inv Q (endOps s) := by
  unfold endOps
  repeat' first
    | with_reducible assumption
    | (intro x; refine inv_have (Q := Q) (s := x) ?_ ?_; rotate_left; clear_value x; rotate_left; unfold x)
    | (intro (x : Flt))
    | (intro (x : Flash))
    | (intro (x : Pwr))
    | (intro (x : Glb))
    | (intro x; clear_value x)
    | (intro _)
    | with_reducible apply updPart_inv
    | with_reducible apply dropUnended_inv
    | with_reducible apply settleSwapOut_inv
    | with_reducible apply endSwap_inv
    | with_reducible apply abortJoin_inv
    | with_reducible apply settleRegion_inv
    | with_reducible apply settleRequests_inv
    | (simp -zeta only [inv_mk]; show Inv Q _)
    | with_reducible apply inv_foldl
    | dsimp -zeta only
    | lift_lets

theorem execFirmwareRestartTimeout_inv (s : State) {Q : Base} (hInv : Inv Q s) : OkNext Q (execFirmwareRestartTimeout s) := by
  unfold execFirmwareRestartTimeout
  repeat' first
    | with_reducible assumption
    | with_reducible apply reload_inv
    | with_reducible apply endOps_inv
    | with_reducible apply okNext_next
    | with_reducible apply okNext_fault
    | split

theorem takeEpochs_inv (s : State) {Q : Base} (hInv : Inv Q s) : Inv Q (takeEpochs s) := by
  unfold takeEpochs
  have hl : ∀ (t : State) (a b c : Nat), Inv Q t → Inv Q { t with
      glb := { t.glb with salt := saltOf a }
      flash := { t.flash with regionE := b, regionN := 0, ticketS := c } } := by
    intro t a b c h
    generalize saltOf a = z
    exact { h with glb := fun k => { h.glb k with } }
  exact updDev_inv _ _ (hl _ _ _ _ (takeEpoch_inv _ (takeEpoch_inv _ (takeEpoch_inv s hInv))))

theorem endQuiet_inv (o : Op) (st : Status) (s : State) {Q : Base} (hInv : Inv Q s) : Inv Q (endQuiet o st s) := by
  unfold endQuiet
  repeat' first
    | with_reducible assumption
    | exact fun _ => ⟨List.Subset.refl _, List.Subset.refl _⟩
    | exact fun _ => List.Subset.refl _
    | exact fun _ => ⟨id, id⟩
    | (intro x; refine inv_have (Q := Q) (s := x) ?_ ?_; rotate_left; clear_value x; rotate_left; unfold x)
    | (intro (x : Flt))
    | (intro (x : Flash))
    | (intro (x : Pwr))
    | (intro (x : Glb))
    | (intro x; clear_value x)
    | (intro _)
    | with_reducible apply placeResp_inv
    | (simp -zeta only [inv_mk]; show Inv Q _)
    | with_reducible apply optInv_map
    | with_reducible apply optInv_bind
    | with_reducible apply inv_getD
    | (with_reducible refine inv_fst ‹_› ?_)
    | (with_reducible refine inv_snd ‹_› ?_)
    | (with_reducible refine inv_trd ‹_› ?_)
    | with_reducible apply inv_foldl
    | (with_reducible apply inv_ite)
    | split
    | dsimp -zeta only
    | lift_lets

theorem endRestart_inv (s : State) {Q : Base} (hInv : Inv Q s) : Inv Q (endRestart s) := by
  unfold endRestart
  repeat' first
    | with_reducible assumption
    | exact fun _ => ⟨List.Subset.refl _, List.Subset.refl _⟩
    | (intro x; refine inv_have (Q := Q) (s := x) ?_ ?_; rotate_left; clear_value x; rotate_left; unfold x)
    | (intro (x : Flt))
    | (intro (x : Flash))
    | (intro (x : Pwr))
    | (intro (x : Glb))
    | (intro x; clear_value x)
    | (intro _)
    | with_reducible apply endQuiet_inv
    | with_reducible apply updFlt_inv
    | with_reducible apply inv_foldl
    | split
    | dsimp -zeta only
    | lift_lets

theorem serveFirmware_inv (s : State) {Q : Base} (hInv : Inv Q s) : Inv Q (serveFirmware s) := by
  unfold serveFirmware
  repeat' first
    | with_reducible assumption
    | (intro x; refine inv_have (Q := Q) (s := x) ?_ ?_; rotate_left; clear_value x; rotate_left; unfold x)
    | (intro (x : Flt))
    | (intro (x : Flash))
    | (intro (x : Pwr))
    | (intro (x : Glb))
    | (intro x; clear_value x)
    | (intro _)
    | with_reducible apply takeEpochs_inv
    | with_reducible apply endRestart_inv
    | with_reducible apply updDev_inv
    | (simp -zeta only [inv_mk]; show Inv Q _)
    | split
    | dsimp -zeta only
    | lift_lets

theorem execFwReady_inv (s : State) {Q : Base} (hInv : Inv Q s) : OkNext Q (execFwReady s) := by
  unfold execFwReady
  repeat' first
    | with_reducible assumption
    | with_reducible apply serveFirmware_inv
    | with_reducible apply reload_inv
    | with_reducible apply okNext_next
    | with_reducible apply okNext_fault
    | (with_reducible refine inv_fst ‹_› ?_)
    | (with_reducible refine inv_snd ‹_› ?_)
    | split

theorem execRestartFirmware_inv (e : Env) (s : State) {Q : Base} (hInv : Inv Q s) : OkNext Q (execRestartFirmware e s) := by
  unfold execRestartFirmware
  repeat' first
    | with_reducible assumption
    | (intro _)
    | with_reducible apply mailbox_inv
    | with_reducible apply startLong_inv
    | with_reducible apply beginRestart_inv
    | with_reducible apply okNext_next
    | with_reducible apply okNext_fault
    | dsimp -zeta only

theorem execResetWarm_inv (e : Env) (s : State) {Q : Base} (hInv : Inv Q s) : OkNext Q (execResetWarm e s) := by
  unfold execResetWarm
  repeat' first
    | with_reducible assumption
    | exact fun _ => ⟨List.Subset.refl _, List.Subset.refl _⟩
    | (intro _)
    | with_reducible apply mailbox_inv
    | with_reducible apply updFlt_inv
    | with_reducible apply okNext_next
    | with_reducible apply okNext_fault
    | (simp -zeta only [inv_mk]; show Inv Q _)
    | dsimp -zeta only

theorem coreFails_inv (core : Nat) (s : State) {Q : Base} (hInv : Inv Q s) : Inv Q (coreFails core s) := by
  unfold coreFails
  repeat' first
    | with_reducible assumption
    | (intro x; refine inv_have (Q := Q) (s := x) ?_ ?_; rotate_left; clear_value x; rotate_left; unfold x)
    | (intro (x : Flt))
    | (intro (x : Flash))
    | (intro (x : Pwr))
    | (intro (x : Glb))
    | (intro x; clear_value x)
    | (intro _)
    | with_reducible apply countFailure_inv
    | with_reducible apply place_inv
    | with_reducible apply fatal_inv
    | with_reducible apply beginRestart_inv
    | with_reducible apply logFault_inv
    | (with_reducible refine inv_optP ‹_› ?_)
    | with_reducible apply optInvP_map
    | (with_reducible refine inv_fst ‹_› ?_)
    | (with_reducible refine inv_snd ‹_› ?_)
    | split
    | lift_lets

theorem parserFails_inv (s : State) {Q : Base} (hInv : Inv Q s) : Inv Q (parserFails s) := by
  unfold parserFails
  have h1 := countFailure_inv { unit := 0, index := 0, place := 1 } false s hInv
  generalize countFailure { unit := 0, index := 0, place := 1 } false s = p at h1
  obtain ⟨t, n⟩ := p
  dsimp only at h1 ⊢
  split
  · have h2 := causeFault_inv 11 { cls := 1, unit := 0, event := 3, count := n, action := 3 } t h1
    exact idleCommit_inv _ { h2 with
      glb := fun k => { h2.glb k with parser := fun _ => rfl }
      parser := fun _ => rfl }
  · exact logFault_inv _ _ h1

theorem sramCopyFails_inv (structure_ entry : Nat) (s : State) {Q : Base} (hInv : Inv Q s) : Inv Q (sramCopyFails structure_ entry s) := by
  unfold sramCopyFails
  repeat' first
    | with_reducible assumption
    | exact fun _ => ⟨List.Subset.refl _, List.Subset.refl _⟩
    | (intro x; refine inv_have (Q := Q) (s := x) ?_ ?_; rotate_left; clear_value x; rotate_left; unfold x)
    | (intro (x : Flt))
    | (intro (x : Flash))
    | (intro (x : Pwr))
    | (intro (x : Glb))
    | (intro x; clear_value x)
    | (intro _)
    | with_reducible apply fatal_inv
    | with_reducible apply countFailure_inv
    | with_reducible apply place_inv
    | with_reducible apply causeFault_inv
    | with_reducible apply updFlt_inv
    | with_reducible apply logFault_inv
    | (simp -zeta only [inv_mk]; show Inv Q _)
    | (with_reducible refine inv_optP ‹_› ?_)
    | with_reducible apply optInvP_map
    | (with_reducible refine inv_fst ‹_› ?_)
    | (with_reducible refine inv_snd ‹_› ?_)
    | split
    | dsimp -zeta only
    | lift_lets

theorem failUser_inv (u : ReadSource) (s : State) {Q : Base} (hInv : Inv Q s) : Inv Q (failUser u s) := by
  have hreg : ∀ (o : Option Region) , Inv Q ((o.map fun r => settleRegion s r).getD s) := by
    intro o
    cases o with
    | none => exact hInv
    | some r => exact settleRegion_inv _ _ hInv
  unfold failUser
  split
  · split
    · exact pump_inv _ (updItem_inv _ _ _ _ hInv)
    · exact hInv
  · split
    · exact hInv
    · split
      · exact finishOp_inv _ _ _ hInv
      · exact finishOp_inv _ _ _ (inv_ite (updRt_inv _ _ _ hInv) hInv)
      · exact finishOp_inv _ _ _ (inv_ite (undoUnpark_inv _ _ hInv) hInv)
      · exact finishOp_inv _ _ _ (hreg _)
      · exact finishOp_inv _ _ _ (hreg _)
      · split
        · exact hInv
        · split
          · exact failPool_inv _ _ _ _ hInv
          · exact failStash_inv _ _ _ _ hInv
          · exact hInv

theorem sramFails_inv (structure_ : Nat) (user : Option ReadSource) (s : State) {Q : Base} (hInv : Inv Q s) : Inv Q (sramFails structure_ user s) := by
  unfold sramFails
  repeat' first
    | with_reducible assumption
    | (intro x; refine inv_have (Q := Q) (s := x) ?_ ?_; rotate_left; clear_value x; rotate_left; unfold x)
    | (intro (x : Flt))
    | (intro (x : Flash))
    | (intro (x : Pwr))
    | (intro (x : Glb))
    | (intro x; clear_value x)
    | (intro _)
    | with_reducible apply countFailure_inv
    | with_reducible apply place_inv
    | with_reducible apply fatal_inv
    | with_reducible apply logFault_inv
    | with_reducible apply failUser_inv
    | (with_reducible refine inv_optP ‹_› ?_)
    | with_reducible apply optInvP_map
    | (with_reducible refine inv_fst ‹_› ?_)
    | (with_reducible refine inv_snd ‹_› ?_)
    | split
    | lift_lets

theorem execCoreWatchdog_inv (fail : CtlFail) (s : State) {Q : Base} (hInv : Inv Q s) : OkNext Q (execCoreWatchdog fail s) := by
  unfold execCoreWatchdog
  repeat' first
    | with_reducible assumption
    | with_reducible apply coreFails_inv
    | with_reducible apply parserFails_inv
    | with_reducible apply sramCopyFails_inv
    | with_reducible apply sramFails_inv
    | with_reducible apply okNext_next
    | with_reducible apply okNext_fault
    | split

theorem writeFirmware_inv (e : Env) (length : Nat) (s : State) {Q : Base} (hInv : Inv Q s) : Inv Q (writeFirmware e length s).1 := by
  unfold writeFirmware
  repeat' first
    | with_reducible assumption
    | exact fun _ => ⟨List.Subset.refl _, List.Subset.refl _⟩
    | (intro x; refine inv_have (Q := Q) (s := x) ?_ ?_; rotate_left; clear_value x; rotate_left; unfold x)
    | (intro (x : Flt))
    | (intro (x : Flash))
    | (intro (x : Pwr))
    | (intro (x : Glb))
    | (intro x; clear_value x)
    | (intro _)
    | with_reducible apply startLong_inv
    | with_reducible apply updFlt_inv
    | with_reducible apply updInactive_inv
    | (simp -zeta only [inv_mk]; show Inv Q _)
    | dsimp -zeta only
    | lift_lets

theorem execWriteFirmware_inv (e : Env) (src length : Nat) (s : State) {Q : Base} (hInv : Inv Q s) : OkNext Q (execWriteFirmware e src length s) := by
  unfold execWriteFirmware
  repeat' first
    | with_reducible assumption
    | (intro _)
    | with_reducible apply mailbox_inv
    | with_reducible apply writeFirmware_inv
    | with_reducible apply okNext_next
    | with_reducible apply okNext_fault

theorem execFirmwareWriteComplete_inv (image : FwImage) (s : State) {Q : Base} (hInv : Inv Q s) : OkNext Q (execFirmwareWriteComplete image s) := by
  unfold execFirmwareWriteComplete
  repeat' first
    | with_reducible assumption
    | exact fun _ => ⟨List.Subset.refl _, List.Subset.refl _⟩
    | (intro x; refine inv_have (Q := Q) (s := x) ?_ ?_; rotate_left; clear_value x; rotate_left; unfold x)
    | (intro (x : Flt))
    | (intro (x : Flash))
    | (intro (x : Pwr))
    | (intro (x : Glb))
    | (intro x; clear_value x)
    | (intro _)
    | with_reducible apply updFlt_inv
    | with_reducible apply updInactive_inv
    | with_reducible apply finishOp_inv
    | with_reducible apply emit_inv
    | with_reducible apply okNext_next
    | with_reducible apply okNext_fault
    | (simp -zeta only [inv_mk]; show Inv Q _)
    | split
    | dsimp -zeta only
    | lift_lets

theorem beginActivation_inv (op : Option Nat) (s : State) {Q : Base} (hInv : Inv Q s) : Inv Q (beginActivation op s) := by
  unfold beginActivation
  repeat' first
    | with_reducible assumption
    | exact fun _ => ⟨List.Subset.refl _, List.Subset.refl _⟩
    | with_reducible apply beginRestart_inv
    | with_reducible apply updFlt_inv
    | (simp -zeta only [inv_mk]; show Inv Q _)
    | dsimp -zeta only

theorem execActivateFirmware_inv (e : Env) (s : State) {Q : Base} (hInv : Inv Q s) : OkNext Q (execActivateFirmware e s) := by
  unfold execActivateFirmware
  repeat' first
    | with_reducible assumption
    | (intro _)
    | with_reducible apply mailbox_inv
    | with_reducible apply startLong_inv
    | with_reducible apply beginActivation_inv
    | with_reducible apply okNext_next
    | with_reducible apply okNext_fault
    | dsimp -zeta only

theorem execActivationTimeout_inv (s : State) {Q : Base} (hInv : Inv Q s) : OkNext Q (execActivationTimeout s) := by
  unfold execActivationTimeout
  repeat' first
    | with_reducible assumption
    | exact fun _ => ⟨List.Subset.refl _, List.Subset.refl _⟩
    | with_reducible apply updFlt_inv
    | with_reducible apply logFault_inv
    | with_reducible apply okNext_next
    | with_reducible apply okNext_fault
    | (simp -zeta only [inv_mk]; show Inv Q _)
    | split
    | dsimp -zeta only

theorem execSvnCommit_inv (s : State) {Q : Base} (hInv : Inv Q s) : OkNext Q (execSvnCommit s) := by
  unfold execSvnCommit
  repeat' first
    | with_reducible assumption
    | exact fun _ => ⟨List.Subset.refl _, List.Subset.refl _⟩
    | with_reducible apply updFlt_inv
    | with_reducible apply okNext_next
    | with_reducible apply okNext_fault
    | (simp -zeta only [inv_mk]; show Inv Q _)
    | split
    | dsimp -zeta only

theorem execQueryFirmware_inv (e : Env) (s : State) {Q : Base} (hInv : Inv Q s) : OkNext Q (execQueryFirmware e s) := by
  unfold execQueryFirmware
  repeat' first
    | with_reducible assumption
    | (intro _)
    | with_reducible apply mailbox_inv
    | with_reducible apply okNext_next
    | with_reducible apply okNext_fault
    | dsimp -zeta only

theorem updMgmt_inv (f : Mgmt → Mgmt) (s : State) {Q : Base} (hInv : Inv Q s) : Inv Q (updMgmt f s) := by
  unfold updMgmt
  repeat' first
    | with_reducible assumption
    | (simp -zeta only [inv_mk]; show Inv Q _)

theorem mctpAnswer_inv (cmd : MctpCmd) (s : State) {Q : Base} (hInv : Inv Q s) : Inv Q (mctpAnswer cmd s) := by
  unfold mctpAnswer
  repeat' first
    | with_reducible assumption
    | with_reducible apply emit_inv
    | with_reducible apply updMgmt_inv
    | (simp -zeta only [inv_mk]; show Inv Q _)
    | split
    | dsimp -zeta only

theorem execMctpControlMessage_inv (cmd : MctpCmd) (s : State) {Q : Base} (hInv : Inv Q s) : OkNext Q (execMctpControlMessage cmd s) := by
  unfold execMctpControlMessage
  repeat' first
    | with_reducible assumption
    | with_reducible apply mctpAnswer_inv
    | with_reducible apply okNext_next
    | with_reducible apply okNext_fault
    | split

theorem execI3cAddressAssignment_inv (assign : I3cAssign) (s : State) {Q : Base} (hInv : Inv Q s) : OkNext Q (execI3cAddressAssignment assign s) := by
  unfold execI3cAddressAssignment
  repeat' first
    | with_reducible assumption
    | with_reducible apply updMgmt_inv
    | with_reducible apply okNext_next
    | with_reducible apply okNext_fault
    | (simp -zeta only [inv_mk]; show Inv Q _)
    | split
    | dsimp -zeta only

theorem pldmBaseAnswer_inv (req : PldmBase) (s : State) {Q : Base} (hInv : Inv Q s) : Inv Q (pldmBaseAnswer req s) := by
  unfold pldmBaseAnswer
  repeat' first
    | with_reducible assumption
    | with_reducible apply emit_inv
    | with_reducible apply updMgmt_inv
    | (simp -zeta only [inv_mk]; show Inv Q _)
    | split
    | dsimp -zeta only

theorem execPldmBaseRequest_inv (req : PldmBase) (s : State) {Q : Base} (hInv : Inv Q s) : OkNext Q (execPldmBaseRequest req s) := by
  unfold execPldmBaseRequest
  repeat' first
    | with_reducible assumption
    | with_reducible apply pldmBaseAnswer_inv
    | with_reducible apply okNext_next
    | with_reducible apply okNext_fault
    | split

theorem sensorAnswer_inv (sensor : PldmSensor) (reading : Nat) (s : State) {Q : Base} (hInv : Inv Q s) : Inv Q (sensorAnswer sensor reading s) := by
  unfold sensorAnswer
  repeat' first
    | with_reducible assumption
    | with_reducible apply emit_inv
    | (simp -zeta only [inv_mk]; show Inv Q _)
    | with_reducible apply optInv_map
    | with_reducible apply optInv_bind
    | with_reducible apply inv_getD
    | split
    | dsimp -zeta only

theorem execPldmSensorRead_inv (sensor : PldmSensor) (reading : Nat) (s : State) {Q : Base} (hInv : Inv Q s) : OkNext Q (execPldmSensorRead sensor reading s) := by
  unfold execPldmSensorRead
  repeat' first
    | with_reducible assumption
    | with_reducible apply emit_inv
    | with_reducible apply sensorAnswer_inv
    | with_reducible apply okNext_next
    | with_reducible apply okNext_fault
    | split

theorem execPldmFirmwareUpdate_inv (size : Nat) (s : State) {Q : Base} (hInv : Inv Q s) : OkNext Q (execPldmFirmwareUpdate size s) := by
  unfold execPldmFirmwareUpdate
  repeat' first
    | with_reducible assumption
    | exact fun _ => ⟨List.Subset.refl _, List.Subset.refl _⟩
    | (intro x; refine inv_have (Q := Q) (s := x) ?_ ?_; rotate_left; clear_value x; rotate_left; unfold x)
    | (intro (x : Flt))
    | (intro (x : Flash))
    | (intro (x : Pwr))
    | (intro (x : Glb))
    | (intro x; clear_value x)
    | (intro _)
    | with_reducible apply emit_inv
    | with_reducible apply updFlt_inv
    | with_reducible apply updInactive_inv
    | with_reducible apply okNext_next
    | with_reducible apply okNext_fault
    | (simp -zeta only [inv_mk]; show Inv Q _)
    | split
    | dsimp -zeta only
    | lift_lets

theorem recoverActivate_inv (s : State) {Q : Base} (hInv : Inv Q s) : Inv Q (recoverActivate s) := by
  unfold recoverActivate
  repeat' first
    | with_reducible assumption
    | with_reducible apply emit_inv
    | with_reducible apply coldWait_inv
    | split

theorem execPldmActivateFirmware_inv (s : State) {Q : Base} (hInv : Inv Q s) : OkNext Q (execPldmActivateFirmware s) := by
  unfold execPldmActivateFirmware
  repeat' first
    | with_reducible assumption
    | with_reducible apply emit_inv
    | with_reducible apply recoverActivate_inv
    | with_reducible apply beginActivation_inv
    | with_reducible apply okNext_next
    | with_reducible apply okNext_fault
    | split

theorem relayAnswer_inv (tag hostTime : Nat) (r : Reply) (s : State) {Q : Base} (hInv : Inv Q s) : Inv Q (relayAnswer tag hostTime r s) := by
  unfold relayAnswer
  repeat' first
    | with_reducible assumption
    | (intro x; refine inv_have (Q := Q) (s := x) ?_ ?_; rotate_left; clear_value x; rotate_left; unfold x)
    | (intro (x : Flt))
    | (intro (x : Flash))
    | (intro (x : Pwr))
    | (intro (x : Glb))
    | (intro x; clear_value x)
    | (intro _)
    | with_reducible apply addClaim_inv
    | with_reducible apply emit_inv
    | with_reducible apply optInv_map
    | with_reducible apply optInv_bind
    | with_reducible apply inv_getD
    | split
    | lift_lets

theorem relayServe_inv (o : OpInfo) (bodyLen tag hostTime : Nat) (check : State → Option Reply) (effect : State → State × Reply) (s : State) {Q : Base} (hf : ∀ v0, Inv Q v0 → Inv Q (effect v0).1) (hInv : Inv Q s) : Inv Q (relayServe o bodyLen tag hostTime check effect s) := by
  unfold relayServe
  repeat' first
    | with_reducible assumption
    | exact fun _ => ⟨List.Subset.refl _, List.Subset.refl _⟩
    | exact fun _ => List.Subset.refl _
    | exact fun _ => ⟨id, id⟩
    | (intro x; refine inv_have (Q := Q) (s := x) ?_ ?_; rotate_left; clear_value x; rotate_left; unfold x)
    | (intro (x : Flt))
    | (intro (x : Flash))
    | (intro (x : Pwr))
    | (intro (x : Glb))
    | (intro x; clear_value x)
    | (intro _)
    | with_reducible apply relayAnswer_inv
    | with_reducible apply hf
    | (simp -zeta only [inv_mk]; show Inv Q _)
    | with_reducible apply optInv_map
    | with_reducible apply optInv_bind
    | with_reducible apply inv_getD
    | (with_reducible refine inv_fst ‹_› ?_)
    | (with_reducible refine inv_snd ‹_› ?_)
    | (with_reducible refine inv_trd ‹_› ?_)
    | with_reducible apply inv_foldl
    | (with_reducible apply inv_ite)
    | split
    | dsimp -zeta only
    | lift_lets

theorem relayCmd_inv (bodyLen tag hostTime : Nat) (cmd : RelayCmd) (s : State) {Q : Base} (hInv : Inv Q s) : Inv Q (relayCmd bodyLen tag hostTime cmd s) := by
  unfold relayCmd
  repeat' first
    | with_reducible assumption
    | (intro _)
    | with_reducible apply relayServe_inv
    | with_reducible apply setPortConfig_inv
    | with_reducible apply mapSeat_inv
    | with_reducible apply clearRecords_inv
    | with_reducible apply readDump_inv
    | with_reducible apply clearDump_inv
    | with_reducible apply injectFault_inv
    | with_reducible apply relayAnswer_inv
    | with_reducible apply optInv_map
    | with_reducible apply optInv_bind
    | with_reducible apply inv_getD
    | split
    | dsimp -zeta only

theorem execCarmirRelay_inv (verMajor verMinor bodyLen tag hostTime : Nat) (cmd : RelayCmd) (s : State) {Q : Base} (hInv : Inv Q s) : OkNext Q (execCarmirRelay verMajor verMinor bodyLen tag hostTime cmd s) := by
  unfold execCarmirRelay
  repeat' first
    | with_reducible assumption
    | with_reducible apply emit_inv
    | with_reducible apply relayAnswer_inv
    | with_reducible apply relayCmd_inv
    | with_reducible apply okNext_next
    | with_reducible apply okNext_fault
    | split

theorem stdAnswer_inv (seat opcode rc : Nat) (data : List Nat) (s : State) {Q : Base} (hInv : Inv Q s) : Inv Q (stdAnswer seat opcode rc data s) := by
  unfold stdAnswer
  repeat' first
    | with_reducible assumption
    | (intro x; refine inv_have (Q := Q) (s := x) ?_ ?_; rotate_left; clear_value x; rotate_left; unfold x)
    | (intro (x : Flt))
    | (intro (x : Flash))
    | (intro (x : Pwr))
    | (intro (x : Glb))
    | (intro x; clear_value x)
    | (intro _)
    | with_reducible apply dropResp_inv
    | with_reducible apply updMbx_inv
    | with_reducible apply emit_inv
    | (simp -zeta only [inv_mk]; show Inv Q _)
    | split
    | dsimp -zeta only
    | lift_lets

theorem stdBusy_inv (seat opcode : Nat) (s : State) {Q : Base} (hInv : Inv Q s) : Inv Q (stdBusy seat opcode s) := by
  unfold stdBusy
  repeat' first
    | with_reducible assumption
    | with_reducible apply updMbx_inv
    | with_reducible apply stdAnswer_inv
    | (simp -zeta only [inv_mk]; show Inv Q _)
    | split
    | dsimp -zeta only

theorem stdMailbox_inv (seat opcode : Nat) (self : Instr) (f : Nat → Nat → State → Nat × List Nat × State) (s : State) {Q : Base} (hf : ∀ v0 v1 v2, Inv Q v2 → Inv Q (f v0 v1 v2).2.2) (hInv : Inv Q s) : OkNext Q (stdMailbox seat opcode self f s) := by
  unfold stdMailbox
  split
  · exact hInv
  · split
    · exact stdBusy_inv _ _ _ hInv
    · have hd := doorWrite_inv seat self opcode s hInv
      split
      · rename_i e
        rw [e] at hd
        exact hd
      · have ht := takeCmd_inv seat opcode s hInv
        dsimp only
        split
        · exact dropResp_inv _ _ ht
        · exact stdAnswer_inv _ _ _ _ _ (hf _ _ _ ht)

theorem execIdentifyMemoryDevice_inv (seat : Nat) (s : State) {Q : Base} (hInv : Inv Q s) : OkNext Q (execIdentifyMemoryDevice seat s) := by
  unfold execIdentifyMemoryDevice
  repeat' first
    | with_reducible assumption
    | (intro x; refine inv_have (Q := Q) (s := x) ?_ ?_; rotate_left; clear_value x; rotate_left; unfold x)
    | (intro (x : Flt))
    | (intro (x : Flash))
    | (intro (x : Pwr))
    | (intro (x : Glb))
    | (intro x; clear_value x)
    | (intro _)
    | with_reducible apply stdMailbox_inv
    | with_reducible apply okNext_next
    | with_reducible apply okNext_fault
    | dsimp -zeta only
    | lift_lets

theorem execGetSupportedLogs_inv (seat : Nat) (s : State) {Q : Base} (hInv : Inv Q s) : OkNext Q (execGetSupportedLogs seat s) := by
  unfold execGetSupportedLogs
  repeat' first
    | with_reducible assumption
    | (intro _)
    | with_reducible apply stdMailbox_inv
    | with_reducible apply okNext_next
    | with_reducible apply okNext_fault
    | dsimp -zeta only

theorem execGetLog_inv (seat : Nat) (cel : Bool) (offset length : Nat) (s : State) {Q : Base} (hInv : Inv Q s) : OkNext Q (execGetLog seat cel offset length s) := by
  unfold execGetLog
  repeat' first
    | with_reducible assumption
    | (intro _)
    | with_reducible apply stdMailbox_inv
    | with_reducible apply okNext_next
    | with_reducible apply okNext_fault
    | with_reducible apply optInv_map
    | with_reducible apply optInv_bind
    | with_reducible apply inv_getD
    | split
    | dsimp -zeta only

theorem execGetTimestamp_inv (seat : Nat) (s : State) {Q : Base} (hInv : Inv Q s) : OkNext Q (execGetTimestamp seat s) := by
  unfold execGetTimestamp
  repeat' first
    | with_reducible assumption
    | (intro _)
    | with_reducible apply stdMailbox_inv
    | with_reducible apply okNext_next
    | with_reducible apply okNext_fault
    | dsimp -zeta only

theorem execSetTimestamp_inv (seat : Nat) (time : Nat) (s : State) {Q : Base} (hInv : Inv Q s) : OkNext Q (execSetTimestamp seat time s) := by
  unfold execSetTimestamp
  repeat' first
    | with_reducible assumption
    | (intro _)
    | with_reducible apply stdMailbox_inv
    | with_reducible apply updDev_inv
    | with_reducible apply okNext_next
    | with_reducible apply okNext_fault
    | (simp -zeta only [inv_mk]; show Inv Q _)
    | dsimp -zeta only

theorem execGetEventRecords_inv (seat : Nat) (log : Nat) (s : State) {Q : Base} (hInv : Inv Q s) : OkNext Q (execGetEventRecords seat log s) := by
  unfold execGetEventRecords
  repeat' first
    | with_reducible assumption
    | (intro _)
    | with_reducible apply stdMailbox_inv
    | with_reducible apply okNext_next
    | with_reducible apply okNext_fault
    | with_reducible apply optInv_map
    | with_reducible apply optInv_bind
    | with_reducible apply inv_getD
    | split
    | dsimp -zeta only

theorem execClearEventRecords_inv (seat : Nat) (log : Nat) (all : Bool) (handles : List Nat) (s : State) {Q : Base} (hInv : Inv Q s) : OkNext Q (execClearEventRecords seat log all handles s) := by
  unfold execClearEventRecords
  repeat' first
    | with_reducible assumption
    | (intro _)
    | with_reducible apply stdMailbox_inv
    | with_reducible apply updLd_inv
    | with_reducible apply okNext_next
    | with_reducible apply okNext_fault
    | split
    | dsimp -zeta only

theorem execUnsupportedCxlOpcode_inv (seat opcode : Nat) (s : State) {Q : Base} (hInv : Inv Q s) : OkNext Q (execUnsupportedCxlOpcode seat opcode s) := by
  unfold execUnsupportedCxlOpcode
  repeat' first
    | with_reducible assumption
    | (intro _)
    | with_reducible apply stdMailbox_inv
    | with_reducible apply okNext_next
    | with_reducible apply okNext_fault
    | dsimp -zeta only

theorem lockedWrite_inv (st : Status) (s : State) {Q : Base} (hInv : Inv Q s) : Inv Q (lockedWrite st s) := by
  unfold lockedWrite
  repeat' first
    | with_reducible assumption
    | with_reducible apply logFault_inv

theorem writeStepCtrl_inv (v : Nat) (s : State) {Q : Base} (hInv : Inv Q s) : Inv Q (writeStepCtrl v s) := by
  unfold writeStepCtrl
  split
  · exact lockedWrite_inv _ _ hInv
  · rename_i h
    exact idleCommit_inv _ { hInv with glb := fun k => { hInv.glb k with parser := fun hr => absurd hr h } }

theorem writeDitherCtrl_inv (v : Nat) (s : State) {Q : Base} (hInv : Inv Q s) : Inv Q (writeDitherCtrl v s) := by
  exact idleCommit_inv _ { hInv with glb := fun k => { hInv.glb k with dither_pend := by rintro _ ⟨⟩; exact ditherMask_idem v } }

theorem writeDitherSalt_inv (v : Nat) (s : State) {Q : Base} (hInv : Inv Q s) : Inv Q (writeDitherSalt v s) := by
  exact idleCommit_inv _ { hInv with glb := fun k => { hInv.glb k with salt_pend := by rintro _ ⟨⟩; exact Nat.mod_lt _ (Nat.two_pow_pos 64) } }

theorem writeDeltaCfg_inv (v : Nat) (s : State) {Q : Base} (hInv : Inv Q s) : Inv Q (writeDeltaCfg v s) := by
  unfold writeDeltaCfg
  extract_lets a t
  split
  · exact lockedWrite_inv _ _ hInv
  · split
    · exact lockedWrite_inv _ _ hInv
    · rename_i ha
      split
      · exact lockedWrite_inv _ _ hInv
      · have : 29 ≤ a ∧ a ≤ 32 := by simpa using ha
        exact { hInv with glb := fun k => { hInv.glb k with area_low := this.1, area_high := this.2 } }

theorem writeCohCfg_inv (v : Nat) (s : State) {Q : Base} (hInv : Inv Q s) : Inv Q (writeCohCfg v s) := by
  exact { hInv with glb := fun k => { hInv.glb k with snoop_to := Nat.mod_lt _ (by decide) } }

theorem writePrtCtrl_inv (s : State) {Q : Base} (hInv : Inv Q s) : Inv Q (writePrtCtrl s) := by
  unfold writePrtCtrl
  repeat' first
    | with_reducible assumption
    | with_reducible apply lockedWrite_inv
    | split

theorem holdHalf_inv (port ld : Nat) (h : Option (Nat × Nat)) (s : State) {Q : Base} (hInv : Inv Q s) : Inv Q (holdHalf port ld h s) := by
  unfold holdHalf
  repeat' first
    | with_reducible assumption
    | with_reducible apply updLd_inv
    | (simp -zeta only [inv_mk]; show Inv Q _)
    | dsimp -zeta only

theorem malformedWrite_inv (s : State) (port ld : Nat) {Q : Base} (hInv : Inv Q s) : Inv Q (malformedWrite s port ld) := by
  unfold malformedWrite
  repeat' first
    | with_reducible assumption
    | (intro x; refine inv_have (Q := Q) (s := x) ?_ ?_; rotate_left; clear_value x; rotate_left; unfold x)
    | (intro (x : Flt))
    | (intro (x : Flash))
    | (intro (x : Pwr))
    | (intro (x : Glb))
    | (intro x; clear_value x)
    | (intro _)
    | with_reducible apply logFault_inv
    | with_reducible apply optInv_map
    | with_reducible apply optInv_bind
    | with_reducible apply inv_getD
    | lift_lets

theorem settled_inv (o : Host.Outcome State Fault Refusal) (s : State) {Q : Base} (hInv : Inv Q s) (ho : OkNext Q o) : Inv Q (settled o s) := by
  unfold settled
  split
  · exact ho
  · exact hInv

theorem applyWrite_inv (r : WrReg) (v : Nat) (s : State) {Q : Base} (hInv : Inv Q s) : Inv Q (applyWrite r v s) := by
  unfold applyWrite
  repeat' first
    | with_reducible assumption
    | with_reducible apply writeStepCtrl_inv
    | with_reducible apply writeDitherCtrl_inv
    | with_reducible apply writeDeltaCfg_inv
    | with_reducible apply writeDitherSalt_inv
    | with_reducible apply writeCohCfg_inv
    | with_reducible apply stagePwrCtrl_inv
    | with_reducible apply writePrtCtrl_inv
    | with_reducible apply updSeat_inv
    | with_reducible apply settled_inv
    | with_reducible apply execSeatNoticeHeadWrite_inv
    | with_reducible apply execStpCqHeadWrite_inv
    | with_reducible apply updRing_inv
    | with_reducible apply malformed_inv
    | with_reducible apply updMbx_inv
    | (simp -zeta only [inv_mk]; show Inv Q _)
    | split
    | dsimp -zeta only

theorem writeHalf_inv (port ld base offset value : Nat) (s : State) {Q : Base} (hInv : Inv Q s) : Inv Q (writeHalf port ld base offset value s) := by
  unfold writeHalf
  repeat' first
    | with_reducible assumption
    | with_reducible apply holdHalf_inv
    | with_reducible apply writeDitherSalt_inv
    | with_reducible apply malformedWrite_inv
    | split

theorem writeOne_inv (port ld base : Nat) (r : WrReg) (offset width value : Nat) (s : State) {Q : Base} (hInv : Inv Q s) : Inv Q (writeOne port ld base r offset width value s) := by
  unfold writeOne
  repeat' first
    | with_reducible assumption
    | with_reducible apply applyWrite_inv
    | with_reducible apply holdHalf_inv
    | with_reducible apply writeHalf_inv
    | with_reducible apply malformedWrite_inv
    | split

theorem dropHalf_inv (port ld : Nat) (l : List (Nat × WrReg)) (s : State) {Q : Base} (hInv : Inv Q s) : Inv Q (dropHalf port ld l s) := by
  unfold dropHalf
  repeat' first
    | with_reducible assumption
    | with_reducible apply holdHalf_inv
    | split
    | dsimp -zeta only

theorem writeMailbox_inv (seat offset width value : Nat) (s : State) {Q : Base} (hInv : Inv Q s) : Inv Q (writeMailbox seat offset width value s) := by
  unfold writeMailbox
  repeat' first
    | with_reducible assumption
    | (intro x; refine inv_have (Q := Q) (s := x) ?_ ?_; rotate_left; clear_value x; rotate_left; unfold x)
    | (intro (x : Flt))
    | (intro (x : Flash))
    | (intro (x : Pwr))
    | (intro (x : Glb))
    | (intro x; clear_value x)
    | (intro _)
    | with_reducible apply updMbx_inv
    | (simp -zeta only [inv_mk]; show Inv Q _)
    | split
    | dsimp -zeta only
    | lift_lets

theorem regWrite_inv (port ld offset width value : Nat) (s : State) {Q : Base} (hInv : Inv Q s) : Inv Q (regWrite port ld offset width value s) := by
  unfold regWrite
  repeat' first
    | with_reducible assumption
    | with_reducible apply writeMailbox_inv
    | with_reducible apply writeOne_inv
    | with_reducible apply malformedWrite_inv
    | with_reducible apply dropHalf_inv
    | split

theorem execRegisterWrite_inv (port ld offset width value : Nat) (s : State) {Q : Base} (hInv : Inv Q s) : OkNext Q (execRegisterWrite port ld offset width value s) := by
  unfold execRegisterWrite
  repeat' first
    | with_reducible assumption
    | with_reducible apply regWrite_inv
    | with_reducible apply okNext_next
    | with_reducible apply okNext_fault
    | split

theorem glbWrite_inv (seat : Nat) (f : State → State) (s : State) {Q : Base} (hf : ∀ v0, Inv Q v0 → Inv Q (f v0)) (hInv : Inv Q s) : OkNext Q (glbWrite seat f s) := by
  unfold glbWrite
  repeat' first
    | with_reducible assumption
    | exact fun _ => ⟨List.Subset.refl _, List.Subset.refl _⟩
    | exact fun _ => List.Subset.refl _
    | exact fun _ => ⟨id, id⟩
    | (intro x; refine inv_have (Q := Q) (s := x) ?_ ?_; rotate_left; clear_value x; rotate_left; unfold x)
    | (intro (x : Flt))
    | (intro (x : Flash))
    | (intro (x : Pwr))
    | (intro (x : Glb))
    | (intro x; clear_value x)
    | (intro _)
    | with_reducible apply okNext_next
    | with_reducible apply okNext_fault
    | with_reducible apply hf
    | (simp -zeta only [inv_mk]; show Inv Q _)
    | with_reducible apply optInv_map
    | with_reducible apply optInv_bind
    | with_reducible apply inv_getD
    | (with_reducible refine inv_fst ‹_› ?_)
    | (with_reducible refine inv_snd ‹_› ?_)
    | (with_reducible refine inv_trd ‹_› ?_)
    | with_reducible apply inv_foldl
    | (with_reducible apply inv_ite)
    | split
    | dsimp -zeta only
    | lift_lets

theorem execGlbStepCtrlWrite_inv (seat value : Nat) (s : State) {Q : Base} (hInv : Inv Q s) : OkNext Q (execGlbStepCtrlWrite seat value s) := by
  unfold execGlbStepCtrlWrite
  repeat' first
    | with_reducible assumption
    | (intro _)
    | with_reducible apply glbWrite_inv
    | with_reducible apply writeStepCtrl_inv
    | with_reducible apply okNext_next
    | with_reducible apply okNext_fault

theorem execGlbDitherCtrlWrite_inv (seat value : Nat) (s : State) {Q : Base} (hInv : Inv Q s) : OkNext Q (execGlbDitherCtrlWrite seat value s) := by
  unfold execGlbDitherCtrlWrite
  repeat' first
    | with_reducible assumption
    | (intro _)
    | with_reducible apply glbWrite_inv
    | with_reducible apply writeDitherCtrl_inv
    | with_reducible apply okNext_next
    | with_reducible apply okNext_fault

theorem saltWrite_inv (half value : Nat) (s : State) {Q : Base} (hInv : Inv Q s) : Inv Q (saltWrite half value s) := by
  unfold saltWrite
  repeat' first
    | with_reducible assumption
    | with_reducible apply writeOne_inv
    | with_reducible apply optInv_map
    | with_reducible apply optInv_bind
    | with_reducible apply inv_getD
    | split

theorem execGlbDitherSaltWrite_inv (seat half value : Nat) (s : State) {Q : Base} (hInv : Inv Q s) : OkNext Q (execGlbDitherSaltWrite seat half value s) := by
  unfold execGlbDitherSaltWrite
  repeat' first
    | with_reducible assumption
    | (intro _)
    | with_reducible apply glbWrite_inv
    | with_reducible apply saltWrite_inv
    | with_reducible apply okNext_next
    | with_reducible apply okNext_fault
    | split

theorem execGlbDeltaCfgWrite_inv (seat value : Nat) (s : State) {Q : Base} (hInv : Inv Q s) : OkNext Q (execGlbDeltaCfgWrite seat value s) := by
  unfold execGlbDeltaCfgWrite
  repeat' first
    | with_reducible assumption
    | (intro _)
    | with_reducible apply glbWrite_inv
    | with_reducible apply writeDeltaCfg_inv
    | with_reducible apply okNext_next
    | with_reducible apply okNext_fault

theorem execGlbCohCfgWrite_inv (seat value : Nat) (s : State) {Q : Base} (hInv : Inv Q s) : OkNext Q (execGlbCohCfgWrite seat value s) := by
  unfold execGlbCohCfgWrite
  repeat' first
    | with_reducible assumption
    | (intro _)
    | with_reducible apply glbWrite_inv
    | with_reducible apply writeCohCfg_inv
    | with_reducible apply okNext_next
    | with_reducible apply okNext_fault

theorem execPwrCtrlWrite_inv (seat value : Nat) (s : State) {Q : Base} (hInv : Inv Q s) : OkNext Q (execPwrCtrlWrite seat value s) := by
  unfold execPwrCtrlWrite
  repeat' first
    | with_reducible assumption
    | (intro _)
    | with_reducible apply glbWrite_inv
    | with_reducible apply stagePwrCtrl_inv
    | with_reducible apply okNext_next
    | with_reducible apply okNext_fault

theorem execPrtCtrlWrite_inv (seat port _value : Nat) (s : State) {Q : Base} (hInv : Inv Q s) : OkNext Q (execPrtCtrlWrite seat port _value s) := by
  unfold execPrtCtrlWrite
  repeat' first
    | with_reducible assumption
    | (intro _)
    | with_reducible apply glbWrite_inv
    | with_reducible apply writePrtCtrl_inv
    | with_reducible apply okNext_next
    | with_reducible apply okNext_fault
    | split

theorem execTelRec0Read_inv (port ld : Nat) (s : State) {Q : Base} (hInv : Inv Q s) : OkNext Q (execTelRec0Read port ld s) := by
  unfold execTelRec0Read
  repeat' first
    | with_reducible assumption
    | with_reducible apply emit_inv
    | with_reducible apply updLd_inv
    | with_reducible apply okNext_next
    | with_reducible apply okNext_fault
    | (simp -zeta only [inv_mk]; show Inv Q _)
    | split
    | dsimp -zeta only

theorem execDevtimeLowRead_inv (port ld : Nat) (s : State) {Q : Base} (hInv : Inv Q s) : OkNext Q (execDevtimeLowRead port ld s) := by
  unfold execDevtimeLowRead
  repeat' first
    | with_reducible assumption
    | with_reducible apply emit_inv
    | with_reducible apply updLd_inv
    | with_reducible apply okNext_next
    | with_reducible apply okNext_fault
    | (simp -zeta only [inv_mk]; show Inv Q _)
    | split
    | dsimp -zeta only

theorem takeLatched_inv {s t : State} {c : Instr} {Q : Base} (e : takeLatched s = some (c, t)) (hInv : Inv Q s) : Inv Q t := by
  unfold takeLatched at e
  split at e
  · cases e
  · unfold nextLatched at e
    obtain ⟨i, _, hi⟩ := List.exists_of_findSome?_eq_some e
    dsimp only at hi
    split at hi
    · cases hi
      exact updMbx_inv _ _ _ hInv
    · obtain ⟨x, _, hx⟩ := Option.map_eq_some_iff.1 hi
      cases hx
      exact updMbx_inv _ _ _ hInv

theorem clockTick_inv (s : State) {Q : Base} (hInv : Inv Q s) : Inv Q (clockTick s) := by
  unfold clockTick
  repeat' first
    | with_reducible assumption
    | with_reducible apply updDev_inv
    | (simp -zeta only [inv_mk]; show Inv Q _)
    | split
    | dsimp -zeta only

theorem doeProgress_inv (s : State) {Q : Base} (hInv : Inv Q s) : Inv Q (doeProgress s) := by
  unfold doeProgress
  repeat' first
    | with_reducible assumption
    | (intro _)
    | with_reducible apply finishDoe_inv
    | with_reducible apply optInv_map
    | with_reducible apply optInv_bind
    | with_reducible apply inv_getD
    | with_reducible apply inv_foldl
    | dsimp -zeta only

theorem deltaProgress_inv (s : State) {Q : Base} (hInv : Inv Q s) : Inv Q (deltaProgress s) := by
  unfold deltaProgress
  repeat' first
    | with_reducible assumption
    | with_reducible apply deltaRound_inv
    | split

theorem tick_inv (s : State) {Q : Base} (hInv : Inv Q s) : Inv Q (tick s) := by
  unfold tick
  repeat' first
    | with_reducible assumption
    | (intro x; refine inv_have (Q := Q) (s := x) ?_ ?_; rotate_left; clear_value x; rotate_left; unfold x)
    | (intro (x : Flt))
    | (intro (x : Flash))
    | (intro (x : Pwr))
    | (intro (x : Glb))
    | (intro x; clear_value x)
    | (intro _)
    | with_reducible apply clockTick_inv
    | with_reducible apply beginWarm_inv
    | with_reducible apply reload_inv
    | with_reducible apply pump_inv
    | with_reducible apply endFlush_inv
    | with_reducible apply deltaProgress_inv
    | with_reducible apply doeProgress_inv
    | with_reducible apply drainAll_inv
    | with_reducible apply ackConflicts_inv
    | split
    | lift_lets

theorem accepted_inv (o : OpInfo) (e : Env) (objs : List ClaimObj) (s : State) {Q : Base} (hInv : Inv Q s) : Inv Q (accepted o e objs s) := by
  unfold accepted
  repeat' first
    | with_reducible assumption
    | with_reducible apply endClaims_inv
    | with_reducible apply takeCmd_inv

theorem started_inv (e : Env) (k : OpKind) (u : State) {Q : Base} (hInv : Inv Q u) : OkNext Q (started e k u) := by
  unfold started
  repeat' first
    | with_reducible assumption
    | with_reducible apply answer_inv
    | with_reducible apply startLong_inv
    | with_reducible apply okNext_next
    | with_reducible apply okNext_fault

end Sys2Proof.Machine
end

