-- ==== Sys2Proof/Laws/Memory.lean ====
section
/-! SUPPORT. The byte stores: every store keeps the canonical form, a byte reads as it was last stored, and the others as before. -/

namespace Sys2Proof.Machine

/-- A store that begins at or above a bound begins above a lower one. -/
theorem memWfFrom_mono {lo hi : Nat} (h : lo ≤ hi) : ∀ {m : List Host.Cell}, memWfFrom hi m = true → memWfFrom lo m = true
  | [], _ => rfl
  | (j, w) :: rest, hm => by
    simp only [memWfFrom, Bool.and_eq_true, decide_eq_true_eq] at hm ⊢
    exact ⟨⟨Nat.le_trans h hm.1.1, hm.1.2⟩, hm.2⟩

/-- Storing a byte at or above the bound keeps the canonical form. -/
theorem memPut_wfFrom {lo a : Nat} (v : Byte) (ha : lo ≤ a) :
    ∀ {m : List Host.Cell}, memWfFrom lo m = true → memWfFrom lo (memPut m a v) = true
  | [], _ => by
    unfold memPut
    split
    · rfl
    · rename_i hv
      simp only [memWfFrom, Bool.and_eq_true, decide_eq_true_eq]
      exact ⟨⟨ha, by simpa using hv⟩, trivial⟩
  | (j, w) :: rest, hm => by
    simp only [memWfFrom, Bool.and_eq_true, decide_eq_true_eq] at hm
    unfold memPut
    split
    · rename_i haj
      split
      · simp only [memWfFrom, Bool.and_eq_true, decide_eq_true_eq]
        exact hm
      · rename_i hv
        simp only [memWfFrom, Bool.and_eq_true, decide_eq_true_eq]
        exact ⟨⟨ha, by simpa using hv⟩, ⟨haj, hm.1.2⟩, hm.2⟩
    · split
      · rename_i e
        subst e
        split
        · exact memWfFrom_mono (Nat.le_succ_of_le hm.1.1) hm.2
        · rename_i hv
          simp only [memWfFrom, Bool.and_eq_true, decide_eq_true_eq]
          exact ⟨⟨ha, by simpa using hv⟩, hm.2⟩
      · simp only [memWfFrom, Bool.and_eq_true, decide_eq_true_eq]
        exact ⟨hm.1, memPut_wfFrom v (by omega) hm.2⟩

/-- Storing a byte keeps the canonical form. -/
theorem memPut_wf {m : List Host.Cell} (h : memWf m = true) (a : Nat) (v : Byte) : memWf (memPut m a v) = true :=
  memPut_wfFrom v (Nat.zero_le a) h

/-- Storing bytes keeps the canonical form. -/
theorem memPuts_wf {m : List Host.Cell} (h : memWf m = true) (a : Nat) (l : List Byte) : memWf (memPuts m a l) = true := by
  induction l generalizing m a with
  | nil => exact h
  | cons b l ih => exact ih (memPut_wf h a b) (a + 1)

/-- The empty store has the canonical form. -/
theorem memWf_nil : memWf [] = true := rfl

/-- Nothing is listed below the bound. -/
theorem lookupKey_below {lo a : Nat} (h : a < lo) : ∀ {m : List Host.Cell}, memWfFrom lo m = true → lookupKey a m = none
  | [], _ => rfl
  | (j, w) :: rest, hm => by
    simp only [memWfFrom, Bool.and_eq_true, decide_eq_true_eq] at hm
    have hj : ¬ j = a := by omega
    simp only [lookupKey, hj, if_false]
    exact lookupKey_below (by omega) hm.2

/-- A byte just stored reads as stored. -/
theorem memByte_memPut_self {lo a : Nat} (v : Byte) :
    ∀ {m : List Host.Cell}, memWfFrom lo m = true → memByte (memPut m a v) a = v
  | [], _ => by
    unfold memPut memByte
    split
    · rename_i h; simp [lookupKey, h]
    · simp [lookupKey]
  | (j, w) :: rest, hm => by
    simp only [memWfFrom, Bool.and_eq_true, decide_eq_true_eq] at hm
    unfold memPut
    split
    · rename_i haj
      split
      · rename_i hv
        have hj : ¬ j = a := by omega
        simp [memByte, lookupKey, hj, lookupKey_below (show a < j + 1 by omega) hm.2, hv]
      · simp [memByte, lookupKey]
    · split
      · rename_i e
        subst e
        split
        · rename_i hv
          simp [memByte, lookupKey_below (Nat.lt_succ_self a) hm.2, hv]
        · simp [memByte, lookupKey]
      · rename_i hne
        have hj : ¬ j = a := fun e => hne e.symm
        have ih := memByte_memPut_self (a := a) v hm.2
        simpa [memByte, lookupKey, hj] using ih

/-- Another byte reads as before. -/
theorem memByte_memPut_ne {lo a b : Nat} (v : Byte) (hab : b ≠ a) :
    ∀ {m : List Host.Cell}, memWfFrom lo m = true → memByte (memPut m a v) b = memByte m b
  | [], _ => by
    unfold memPut memByte
    split
    · rfl
    · simp [lookupKey, Ne.symm hab]
  | (j, w) :: rest, hm => by
    simp only [memWfFrom, Bool.and_eq_true, decide_eq_true_eq] at hm
    unfold memPut
    split
    · split
      · rfl
      · simp [memByte, lookupKey, Ne.symm hab]
    · split
      · rename_i e
        subst e
        have hj : ¬ a = b := Ne.symm hab
        split
        · simp [memByte, lookupKey, hj]
        · simp [memByte, lookupKey, hj]
      · have ih := memByte_memPut_ne v hab hm.2
        by_cases hj : j = b
        · simp [memByte, lookupKey, hj]
        · simpa [memByte, lookupKey, hj] using ih

end Sys2Proof.Machine
end

