-- ==== Sys2Proof/Laws/State.lean ====
section
/-! SUPPORT. What each update of one component of State leaves as it was, field by field. -/

namespace Sys2Proof.Machine

@[simp] theorem updSeat_pending (n : Nat) (f : Seat → Seat) (s : State) : (updSeat n f s).pending = s.pending := rfl
@[simp] theorem updSeat_ports (n : Nat) (f : Seat → Seat) (s : State) : (updSeat n f s).ports = s.ports := rfl
@[simp] theorem updSeat_lds (n : Nat) (f : Seat → Seat) (s : State) : (updSeat n f s).lds = s.lds := rfl
@[simp] theorem updSeat_lastServed (n : Nat) (f : Seat → Seat) (s : State) : (updSeat n f s).lastServed = s.lastServed := rfl
@[simp] theorem updSeat_ops (n : Nat) (f : Seat → Seat) (s : State) : (updSeat n f s).ops = s.ops := rfl
@[simp] theorem updSeat_opCtr (n : Nat) (f : Seat → Seat) (s : State) : (updSeat n f s).opCtr = s.opCtr := rfl
@[simp] theorem updSeat_accepts (n : Nat) (f : Seat → Seat) (s : State) : (updSeat n f s).accepts = s.accepts := rfl
@[simp] theorem updSeat_claims (n : Nat) (f : Seat → Seat) (s : State) : (updSeat n f s).claims = s.claims := rfl
@[simp] theorem updSeat_parts (n : Nat) (f : Seat → Seat) (s : State) : (updSeat n f s).parts = s.parts := rfl
@[simp] theorem updSeat_rt (n : Nat) (f : Seat → Seat) (s : State) : (updSeat n f s).rt = s.rt := rfl
@[simp] theorem updSeat_rtNext (n : Nat) (f : Seat → Seat) (s : State) : (updSeat n f s).rtNext = s.rtNext := rfl
@[simp] theorem updSeat_rtFree (n : Nat) (f : Seat → Seat) (s : State) : (updSeat n f s).rtFree = s.rtFree := rfl
@[simp] theorem updSeat_tenants (n : Nat) (f : Seat → Seat) (s : State) : (updSeat n f s).tenants = s.tenants := rfl
@[simp] theorem updSeat_acct (n : Nat) (f : Seat → Seat) (s : State) : (updSeat n f s).acct = s.acct := rfl
@[simp] theorem updSeat_images (n : Nat) (f : Seat → Seat) (s : State) : (updSeat n f s).images = s.images := rfl
@[simp] theorem updSeat_swap (n : Nat) (f : Seat → Seat) (s : State) : (updSeat n f s).swap = s.swap := rfl
@[simp] theorem updSeat_held (n : Nat) (f : Seat → Seat) (s : State) : (updSeat n f s).held = s.held := rfl
@[simp] theorem updSeat_svc (n : Nat) (f : Seat → Seat) (s : State) : (updSeat n f s).svc = s.svc := rfl
@[simp] theorem updSeat_glb (n : Nat) (f : Seat → Seat) (s : State) : (updSeat n f s).glb = s.glb := rfl
@[simp] theorem updSeat_dev (n : Nat) (f : Seat → Seat) (s : State) : (updSeat n f s).dev = s.dev := rfl
@[simp] theorem updSeat_flt (n : Nat) (f : Seat → Seat) (s : State) : (updSeat n f s).flt = s.flt := rfl
@[simp] theorem updSeat_regions (n : Nat) (f : Seat → Seat) (s : State) : (updSeat n f s).regions = s.regions := rfl
@[simp] theorem updSeat_frames (n : Nat) (f : Seat → Seat) (s : State) : (updSeat n f s).frames = s.frames := rfl
@[simp] theorem updSeat_nodes (n : Nat) (f : Seat → Seat) (s : State) : (updSeat n f s).nodes = s.nodes := rfl
@[simp] theorem updSeat_pins (n : Nat) (f : Seat → Seat) (s : State) : (updSeat n f s).pins = s.pins := rfl
@[simp] theorem updSeat_tier (n : Nat) (f : Seat → Seat) (s : State) : (updSeat n f s).tier = s.tier := rfl
@[simp] theorem updSeat_pldmQueue (n : Nat) (f : Seat → Seat) (s : State) : (updSeat n f s).pldmQueue = s.pldmQueue := rfl
@[simp] theorem updSeat_tel (n : Nat) (f : Seat → Seat) (s : State) : (updSeat n f s).tel = s.tel := rfl
@[simp] theorem updSeat_certs (n : Nat) (f : Seat → Seat) (s : State) : (updSeat n f s).certs = s.certs := rfl
@[simp] theorem updSeat_keySlots (n : Nat) (f : Seat → Seat) (s : State) : (updSeat n f s).keySlots = s.keySlots := rfl
@[simp] theorem updSeat_tickets (n : Nat) (f : Seat → Seat) (s : State) : (updSeat n f s).tickets = s.tickets := rfl
@[simp] theorem updSeat_parks (n : Nat) (f : Seat → Seat) (s : State) : (updSeat n f s).parks = s.parks := rfl
@[simp] theorem updSeat_pulls (n : Nat) (f : Seat → Seat) (s : State) : (updSeat n f s).pulls = s.pulls := rfl
@[simp] theorem updSeat_draws (n : Nat) (f : Seat → Seat) (s : State) : (updSeat n f s).draws = s.draws := rfl
@[simp] theorem updSeat_flash (n : Nat) (f : Seat → Seat) (s : State) : (updSeat n f s).flash = s.flash := rfl
@[simp] theorem updSeat_xfers (n : Nat) (f : Seat → Seat) (s : State) : (updSeat n f s).xfers = s.xfers := rfl
@[simp] theorem updSeat_pset (n : Nat) (f : Seat → Seat) (s : State) : (updSeat n f s).pset = s.pset := rfl
@[simp] theorem updSeat_coh (n : Nat) (f : Seat → Seat) (s : State) : (updSeat n f s).coh = s.coh := rfl
@[simp] theorem updSeat_hup (n : Nat) (f : Seat → Seat) (s : State) : (updSeat n f s).hup = s.hup := rfl
@[simp] theorem updSeat_pwr (n : Nat) (f : Seat → Seat) (s : State) : (updSeat n f s).pwr = s.pwr := rfl
@[simp] theorem updSeat_mgmt (n : Nat) (f : Seat → Seat) (s : State) : (updSeat n f s).mgmt = s.mgmt := rfl
@[simp] theorem updSeat_out (n : Nat) (f : Seat → Seat) (s : State) : (updSeat n f s).out = s.out := rfl
@[simp] theorem updSeat_freeCtr (n : Nat) (f : Seat → Seat) (s : State) : (updSeat n f s).freeCtr = s.freeCtr := rfl

@[simp] theorem updPort_pending (p : Nat) (f : Port → Port) (s : State) : (updPort p f s).pending = s.pending := rfl
@[simp] theorem updPort_seats (p : Nat) (f : Port → Port) (s : State) : (updPort p f s).seats = s.seats := rfl
@[simp] theorem updPort_lds (p : Nat) (f : Port → Port) (s : State) : (updPort p f s).lds = s.lds := rfl
@[simp] theorem updPort_lastServed (p : Nat) (f : Port → Port) (s : State) : (updPort p f s).lastServed = s.lastServed := rfl
@[simp] theorem updPort_ops (p : Nat) (f : Port → Port) (s : State) : (updPort p f s).ops = s.ops := rfl
@[simp] theorem updPort_opCtr (p : Nat) (f : Port → Port) (s : State) : (updPort p f s).opCtr = s.opCtr := rfl
@[simp] theorem updPort_accepts (p : Nat) (f : Port → Port) (s : State) : (updPort p f s).accepts = s.accepts := rfl
@[simp] theorem updPort_claims (p : Nat) (f : Port → Port) (s : State) : (updPort p f s).claims = s.claims := rfl
@[simp] theorem updPort_parts (p : Nat) (f : Port → Port) (s : State) : (updPort p f s).parts = s.parts := rfl
@[simp] theorem updPort_rt (p : Nat) (f : Port → Port) (s : State) : (updPort p f s).rt = s.rt := rfl
@[simp] theorem updPort_rtNext (p : Nat) (f : Port → Port) (s : State) : (updPort p f s).rtNext = s.rtNext := rfl
@[simp] theorem updPort_rtFree (p : Nat) (f : Port → Port) (s : State) : (updPort p f s).rtFree = s.rtFree := rfl
@[simp] theorem updPort_tenants (p : Nat) (f : Port → Port) (s : State) : (updPort p f s).tenants = s.tenants := rfl
@[simp] theorem updPort_acct (p : Nat) (f : Port → Port) (s : State) : (updPort p f s).acct = s.acct := rfl
@[simp] theorem updPort_images (p : Nat) (f : Port → Port) (s : State) : (updPort p f s).images = s.images := rfl
@[simp] theorem updPort_swap (p : Nat) (f : Port → Port) (s : State) : (updPort p f s).swap = s.swap := rfl
@[simp] theorem updPort_held (p : Nat) (f : Port → Port) (s : State) : (updPort p f s).held = s.held := rfl
@[simp] theorem updPort_svc (p : Nat) (f : Port → Port) (s : State) : (updPort p f s).svc = s.svc := rfl
@[simp] theorem updPort_glb (p : Nat) (f : Port → Port) (s : State) : (updPort p f s).glb = s.glb := rfl
@[simp] theorem updPort_dev (p : Nat) (f : Port → Port) (s : State) : (updPort p f s).dev = s.dev := rfl
@[simp] theorem updPort_flt (p : Nat) (f : Port → Port) (s : State) : (updPort p f s).flt = s.flt := rfl
@[simp] theorem updPort_regions (p : Nat) (f : Port → Port) (s : State) : (updPort p f s).regions = s.regions := rfl
@[simp] theorem updPort_frames (p : Nat) (f : Port → Port) (s : State) : (updPort p f s).frames = s.frames := rfl
@[simp] theorem updPort_nodes (p : Nat) (f : Port → Port) (s : State) : (updPort p f s).nodes = s.nodes := rfl
@[simp] theorem updPort_pins (p : Nat) (f : Port → Port) (s : State) : (updPort p f s).pins = s.pins := rfl
@[simp] theorem updPort_tier (p : Nat) (f : Port → Port) (s : State) : (updPort p f s).tier = s.tier := rfl
@[simp] theorem updPort_pldmQueue (p : Nat) (f : Port → Port) (s : State) : (updPort p f s).pldmQueue = s.pldmQueue := rfl
@[simp] theorem updPort_tel (p : Nat) (f : Port → Port) (s : State) : (updPort p f s).tel = s.tel := rfl
@[simp] theorem updPort_certs (p : Nat) (f : Port → Port) (s : State) : (updPort p f s).certs = s.certs := rfl
@[simp] theorem updPort_keySlots (p : Nat) (f : Port → Port) (s : State) : (updPort p f s).keySlots = s.keySlots := rfl
@[simp] theorem updPort_tickets (p : Nat) (f : Port → Port) (s : State) : (updPort p f s).tickets = s.tickets := rfl
@[simp] theorem updPort_parks (p : Nat) (f : Port → Port) (s : State) : (updPort p f s).parks = s.parks := rfl
@[simp] theorem updPort_pulls (p : Nat) (f : Port → Port) (s : State) : (updPort p f s).pulls = s.pulls := rfl
@[simp] theorem updPort_draws (p : Nat) (f : Port → Port) (s : State) : (updPort p f s).draws = s.draws := rfl
@[simp] theorem updPort_flash (p : Nat) (f : Port → Port) (s : State) : (updPort p f s).flash = s.flash := rfl
@[simp] theorem updPort_xfers (p : Nat) (f : Port → Port) (s : State) : (updPort p f s).xfers = s.xfers := rfl
@[simp] theorem updPort_pset (p : Nat) (f : Port → Port) (s : State) : (updPort p f s).pset = s.pset := rfl
@[simp] theorem updPort_coh (p : Nat) (f : Port → Port) (s : State) : (updPort p f s).coh = s.coh := rfl
@[simp] theorem updPort_hup (p : Nat) (f : Port → Port) (s : State) : (updPort p f s).hup = s.hup := rfl
@[simp] theorem updPort_pwr (p : Nat) (f : Port → Port) (s : State) : (updPort p f s).pwr = s.pwr := rfl
@[simp] theorem updPort_mgmt (p : Nat) (f : Port → Port) (s : State) : (updPort p f s).mgmt = s.mgmt := rfl
@[simp] theorem updPort_out (p : Nat) (f : Port → Port) (s : State) : (updPort p f s).out = s.out := rfl
@[simp] theorem updPort_freeCtr (p : Nat) (f : Port → Port) (s : State) : (updPort p f s).freeCtr = s.freeCtr := rfl

@[simp] theorem updLd_pending (port ld : Nat) (f : Ld → Ld) (s : State) : (updLd port ld f s).pending = s.pending := rfl
@[simp] theorem updLd_seats (port ld : Nat) (f : Ld → Ld) (s : State) : (updLd port ld f s).seats = s.seats := rfl
@[simp] theorem updLd_ports (port ld : Nat) (f : Ld → Ld) (s : State) : (updLd port ld f s).ports = s.ports := rfl
@[simp] theorem updLd_lastServed (port ld : Nat) (f : Ld → Ld) (s : State) : (updLd port ld f s).lastServed = s.lastServed := rfl
@[simp] theorem updLd_ops (port ld : Nat) (f : Ld → Ld) (s : State) : (updLd port ld f s).ops = s.ops := rfl
@[simp] theorem updLd_opCtr (port ld : Nat) (f : Ld → Ld) (s : State) : (updLd port ld f s).opCtr = s.opCtr := rfl
@[simp] theorem updLd_accepts (port ld : Nat) (f : Ld → Ld) (s : State) : (updLd port ld f s).accepts = s.accepts := rfl
@[simp] theorem updLd_claims (port ld : Nat) (f : Ld → Ld) (s : State) : (updLd port ld f s).claims = s.claims := rfl
@[simp] theorem updLd_parts (port ld : Nat) (f : Ld → Ld) (s : State) : (updLd port ld f s).parts = s.parts := rfl
@[simp] theorem updLd_rt (port ld : Nat) (f : Ld → Ld) (s : State) : (updLd port ld f s).rt = s.rt := rfl
@[simp] theorem updLd_rtNext (port ld : Nat) (f : Ld → Ld) (s : State) : (updLd port ld f s).rtNext = s.rtNext := rfl
@[simp] theorem updLd_rtFree (port ld : Nat) (f : Ld → Ld) (s : State) : (updLd port ld f s).rtFree = s.rtFree := rfl
@[simp] theorem updLd_tenants (port ld : Nat) (f : Ld → Ld) (s : State) : (updLd port ld f s).tenants = s.tenants := rfl
@[simp] theorem updLd_acct (port ld : Nat) (f : Ld → Ld) (s : State) : (updLd port ld f s).acct = s.acct := rfl
@[simp] theorem updLd_images (port ld : Nat) (f : Ld → Ld) (s : State) : (updLd port ld f s).images = s.images := rfl
@[simp] theorem updLd_swap (port ld : Nat) (f : Ld → Ld) (s : State) : (updLd port ld f s).swap = s.swap := rfl
@[simp] theorem updLd_held (port ld : Nat) (f : Ld → Ld) (s : State) : (updLd port ld f s).held = s.held := rfl
@[simp] theorem updLd_svc (port ld : Nat) (f : Ld → Ld) (s : State) : (updLd port ld f s).svc = s.svc := rfl
@[simp] theorem updLd_glb (port ld : Nat) (f : Ld → Ld) (s : State) : (updLd port ld f s).glb = s.glb := rfl
@[simp] theorem updLd_dev (port ld : Nat) (f : Ld → Ld) (s : State) : (updLd port ld f s).dev = s.dev := rfl
@[simp] theorem updLd_flt (port ld : Nat) (f : Ld → Ld) (s : State) : (updLd port ld f s).flt = s.flt := rfl
@[simp] theorem updLd_regions (port ld : Nat) (f : Ld → Ld) (s : State) : (updLd port ld f s).regions = s.regions := rfl
@[simp] theorem updLd_frames (port ld : Nat) (f : Ld → Ld) (s : State) : (updLd port ld f s).frames = s.frames := rfl
@[simp] theorem updLd_nodes (port ld : Nat) (f : Ld → Ld) (s : State) : (updLd port ld f s).nodes = s.nodes := rfl
@[simp] theorem updLd_pins (port ld : Nat) (f : Ld → Ld) (s : State) : (updLd port ld f s).pins = s.pins := rfl
@[simp] theorem updLd_tier (port ld : Nat) (f : Ld → Ld) (s : State) : (updLd port ld f s).tier = s.tier := rfl
@[simp] theorem updLd_pldmQueue (port ld : Nat) (f : Ld → Ld) (s : State) : (updLd port ld f s).pldmQueue = s.pldmQueue := rfl
@[simp] theorem updLd_tel (port ld : Nat) (f : Ld → Ld) (s : State) : (updLd port ld f s).tel = s.tel := rfl
@[simp] theorem updLd_certs (port ld : Nat) (f : Ld → Ld) (s : State) : (updLd port ld f s).certs = s.certs := rfl
@[simp] theorem updLd_keySlots (port ld : Nat) (f : Ld → Ld) (s : State) : (updLd port ld f s).keySlots = s.keySlots := rfl
@[simp] theorem updLd_tickets (port ld : Nat) (f : Ld → Ld) (s : State) : (updLd port ld f s).tickets = s.tickets := rfl
@[simp] theorem updLd_parks (port ld : Nat) (f : Ld → Ld) (s : State) : (updLd port ld f s).parks = s.parks := rfl
@[simp] theorem updLd_pulls (port ld : Nat) (f : Ld → Ld) (s : State) : (updLd port ld f s).pulls = s.pulls := rfl
@[simp] theorem updLd_draws (port ld : Nat) (f : Ld → Ld) (s : State) : (updLd port ld f s).draws = s.draws := rfl
@[simp] theorem updLd_flash (port ld : Nat) (f : Ld → Ld) (s : State) : (updLd port ld f s).flash = s.flash := rfl
@[simp] theorem updLd_xfers (port ld : Nat) (f : Ld → Ld) (s : State) : (updLd port ld f s).xfers = s.xfers := rfl
@[simp] theorem updLd_pset (port ld : Nat) (f : Ld → Ld) (s : State) : (updLd port ld f s).pset = s.pset := rfl
@[simp] theorem updLd_coh (port ld : Nat) (f : Ld → Ld) (s : State) : (updLd port ld f s).coh = s.coh := rfl
@[simp] theorem updLd_hup (port ld : Nat) (f : Ld → Ld) (s : State) : (updLd port ld f s).hup = s.hup := rfl
@[simp] theorem updLd_pwr (port ld : Nat) (f : Ld → Ld) (s : State) : (updLd port ld f s).pwr = s.pwr := rfl
@[simp] theorem updLd_mgmt (port ld : Nat) (f : Ld → Ld) (s : State) : (updLd port ld f s).mgmt = s.mgmt := rfl
@[simp] theorem updLd_out (port ld : Nat) (f : Ld → Ld) (s : State) : (updLd port ld f s).out = s.out := rfl
@[simp] theorem updLd_freeCtr (port ld : Nat) (f : Ld → Ld) (s : State) : (updLd port ld f s).freeCtr = s.freeCtr := rfl

@[simp] theorem updPart_pending (p : Nat) (f : Part → Part) (s : State) : (updPart p f s).pending = s.pending := rfl
@[simp] theorem updPart_seats (p : Nat) (f : Part → Part) (s : State) : (updPart p f s).seats = s.seats := rfl
@[simp] theorem updPart_ports (p : Nat) (f : Part → Part) (s : State) : (updPart p f s).ports = s.ports := rfl
@[simp] theorem updPart_lds (p : Nat) (f : Part → Part) (s : State) : (updPart p f s).lds = s.lds := rfl
@[simp] theorem updPart_lastServed (p : Nat) (f : Part → Part) (s : State) : (updPart p f s).lastServed = s.lastServed := rfl
@[simp] theorem updPart_ops (p : Nat) (f : Part → Part) (s : State) : (updPart p f s).ops = s.ops := rfl
@[simp] theorem updPart_opCtr (p : Nat) (f : Part → Part) (s : State) : (updPart p f s).opCtr = s.opCtr := rfl
@[simp] theorem updPart_accepts (p : Nat) (f : Part → Part) (s : State) : (updPart p f s).accepts = s.accepts := rfl
@[simp] theorem updPart_claims (p : Nat) (f : Part → Part) (s : State) : (updPart p f s).claims = s.claims := rfl
@[simp] theorem updPart_rt (p : Nat) (f : Part → Part) (s : State) : (updPart p f s).rt = s.rt := rfl
@[simp] theorem updPart_rtNext (p : Nat) (f : Part → Part) (s : State) : (updPart p f s).rtNext = s.rtNext := rfl
@[simp] theorem updPart_rtFree (p : Nat) (f : Part → Part) (s : State) : (updPart p f s).rtFree = s.rtFree := rfl
@[simp] theorem updPart_tenants (p : Nat) (f : Part → Part) (s : State) : (updPart p f s).tenants = s.tenants := rfl
@[simp] theorem updPart_acct (p : Nat) (f : Part → Part) (s : State) : (updPart p f s).acct = s.acct := rfl
@[simp] theorem updPart_images (p : Nat) (f : Part → Part) (s : State) : (updPart p f s).images = s.images := rfl
@[simp] theorem updPart_swap (p : Nat) (f : Part → Part) (s : State) : (updPart p f s).swap = s.swap := rfl
@[simp] theorem updPart_held (p : Nat) (f : Part → Part) (s : State) : (updPart p f s).held = s.held := rfl
@[simp] theorem updPart_svc (p : Nat) (f : Part → Part) (s : State) : (updPart p f s).svc = s.svc := rfl
@[simp] theorem updPart_glb (p : Nat) (f : Part → Part) (s : State) : (updPart p f s).glb = s.glb := rfl
@[simp] theorem updPart_dev (p : Nat) (f : Part → Part) (s : State) : (updPart p f s).dev = s.dev := rfl
@[simp] theorem updPart_flt (p : Nat) (f : Part → Part) (s : State) : (updPart p f s).flt = s.flt := rfl
@[simp] theorem updPart_regions (p : Nat) (f : Part → Part) (s : State) : (updPart p f s).regions = s.regions := rfl
@[simp] theorem updPart_frames (p : Nat) (f : Part → Part) (s : State) : (updPart p f s).frames = s.frames := rfl
@[simp] theorem updPart_nodes (p : Nat) (f : Part → Part) (s : State) : (updPart p f s).nodes = s.nodes := rfl
@[simp] theorem updPart_pins (p : Nat) (f : Part → Part) (s : State) : (updPart p f s).pins = s.pins := rfl
@[simp] theorem updPart_tier (p : Nat) (f : Part → Part) (s : State) : (updPart p f s).tier = s.tier := rfl
@[simp] theorem updPart_pldmQueue (p : Nat) (f : Part → Part) (s : State) : (updPart p f s).pldmQueue = s.pldmQueue := rfl
@[simp] theorem updPart_tel (p : Nat) (f : Part → Part) (s : State) : (updPart p f s).tel = s.tel := rfl
@[simp] theorem updPart_certs (p : Nat) (f : Part → Part) (s : State) : (updPart p f s).certs = s.certs := rfl
@[simp] theorem updPart_keySlots (p : Nat) (f : Part → Part) (s : State) : (updPart p f s).keySlots = s.keySlots := rfl
@[simp] theorem updPart_tickets (p : Nat) (f : Part → Part) (s : State) : (updPart p f s).tickets = s.tickets := rfl
@[simp] theorem updPart_parks (p : Nat) (f : Part → Part) (s : State) : (updPart p f s).parks = s.parks := rfl
@[simp] theorem updPart_pulls (p : Nat) (f : Part → Part) (s : State) : (updPart p f s).pulls = s.pulls := rfl
@[simp] theorem updPart_draws (p : Nat) (f : Part → Part) (s : State) : (updPart p f s).draws = s.draws := rfl
@[simp] theorem updPart_flash (p : Nat) (f : Part → Part) (s : State) : (updPart p f s).flash = s.flash := rfl
@[simp] theorem updPart_xfers (p : Nat) (f : Part → Part) (s : State) : (updPart p f s).xfers = s.xfers := rfl
@[simp] theorem updPart_pset (p : Nat) (f : Part → Part) (s : State) : (updPart p f s).pset = s.pset := rfl
@[simp] theorem updPart_coh (p : Nat) (f : Part → Part) (s : State) : (updPart p f s).coh = s.coh := rfl
@[simp] theorem updPart_hup (p : Nat) (f : Part → Part) (s : State) : (updPart p f s).hup = s.hup := rfl
@[simp] theorem updPart_pwr (p : Nat) (f : Part → Part) (s : State) : (updPart p f s).pwr = s.pwr := rfl
@[simp] theorem updPart_mgmt (p : Nat) (f : Part → Part) (s : State) : (updPart p f s).mgmt = s.mgmt := rfl
@[simp] theorem updPart_out (p : Nat) (f : Part → Part) (s : State) : (updPart p f s).out = s.out := rfl
@[simp] theorem updPart_freeCtr (p : Nat) (f : Part → Part) (s : State) : (updPart p f s).freeCtr = s.freeCtr := rfl

@[simp] theorem updRegion_pending (id : Nat) (f : Region → Region) (s : State) : (updRegion id f s).pending = s.pending := rfl
@[simp] theorem updRegion_seats (id : Nat) (f : Region → Region) (s : State) : (updRegion id f s).seats = s.seats := rfl
@[simp] theorem updRegion_ports (id : Nat) (f : Region → Region) (s : State) : (updRegion id f s).ports = s.ports := rfl
@[simp] theorem updRegion_lds (id : Nat) (f : Region → Region) (s : State) : (updRegion id f s).lds = s.lds := rfl
@[simp] theorem updRegion_lastServed (id : Nat) (f : Region → Region) (s : State) : (updRegion id f s).lastServed = s.lastServed := rfl
@[simp] theorem updRegion_ops (id : Nat) (f : Region → Region) (s : State) : (updRegion id f s).ops = s.ops := rfl
@[simp] theorem updRegion_opCtr (id : Nat) (f : Region → Region) (s : State) : (updRegion id f s).opCtr = s.opCtr := rfl
@[simp] theorem updRegion_accepts (id : Nat) (f : Region → Region) (s : State) : (updRegion id f s).accepts = s.accepts := rfl
@[simp] theorem updRegion_claims (id : Nat) (f : Region → Region) (s : State) : (updRegion id f s).claims = s.claims := rfl
@[simp] theorem updRegion_parts (id : Nat) (f : Region → Region) (s : State) : (updRegion id f s).parts = s.parts := rfl
@[simp] theorem updRegion_rt (id : Nat) (f : Region → Region) (s : State) : (updRegion id f s).rt = s.rt := rfl
@[simp] theorem updRegion_rtNext (id : Nat) (f : Region → Region) (s : State) : (updRegion id f s).rtNext = s.rtNext := rfl
@[simp] theorem updRegion_rtFree (id : Nat) (f : Region → Region) (s : State) : (updRegion id f s).rtFree = s.rtFree := rfl
@[simp] theorem updRegion_tenants (id : Nat) (f : Region → Region) (s : State) : (updRegion id f s).tenants = s.tenants := rfl
@[simp] theorem updRegion_acct (id : Nat) (f : Region → Region) (s : State) : (updRegion id f s).acct = s.acct := rfl
@[simp] theorem updRegion_images (id : Nat) (f : Region → Region) (s : State) : (updRegion id f s).images = s.images := rfl
@[simp] theorem updRegion_swap (id : Nat) (f : Region → Region) (s : State) : (updRegion id f s).swap = s.swap := rfl
@[simp] theorem updRegion_held (id : Nat) (f : Region → Region) (s : State) : (updRegion id f s).held = s.held := rfl
@[simp] theorem updRegion_svc (id : Nat) (f : Region → Region) (s : State) : (updRegion id f s).svc = s.svc := rfl
@[simp] theorem updRegion_glb (id : Nat) (f : Region → Region) (s : State) : (updRegion id f s).glb = s.glb := rfl
@[simp] theorem updRegion_dev (id : Nat) (f : Region → Region) (s : State) : (updRegion id f s).dev = s.dev := rfl
@[simp] theorem updRegion_flt (id : Nat) (f : Region → Region) (s : State) : (updRegion id f s).flt = s.flt := rfl
@[simp] theorem updRegion_frames (id : Nat) (f : Region → Region) (s : State) : (updRegion id f s).frames = s.frames := rfl
@[simp] theorem updRegion_nodes (id : Nat) (f : Region → Region) (s : State) : (updRegion id f s).nodes = s.nodes := rfl
@[simp] theorem updRegion_pins (id : Nat) (f : Region → Region) (s : State) : (updRegion id f s).pins = s.pins := rfl
@[simp] theorem updRegion_tier (id : Nat) (f : Region → Region) (s : State) : (updRegion id f s).tier = s.tier := rfl
@[simp] theorem updRegion_pldmQueue (id : Nat) (f : Region → Region) (s : State) : (updRegion id f s).pldmQueue = s.pldmQueue := rfl
@[simp] theorem updRegion_tel (id : Nat) (f : Region → Region) (s : State) : (updRegion id f s).tel = s.tel := rfl
@[simp] theorem updRegion_certs (id : Nat) (f : Region → Region) (s : State) : (updRegion id f s).certs = s.certs := rfl
@[simp] theorem updRegion_keySlots (id : Nat) (f : Region → Region) (s : State) : (updRegion id f s).keySlots = s.keySlots := rfl
@[simp] theorem updRegion_tickets (id : Nat) (f : Region → Region) (s : State) : (updRegion id f s).tickets = s.tickets := rfl
@[simp] theorem updRegion_parks (id : Nat) (f : Region → Region) (s : State) : (updRegion id f s).parks = s.parks := rfl
@[simp] theorem updRegion_pulls (id : Nat) (f : Region → Region) (s : State) : (updRegion id f s).pulls = s.pulls := rfl
@[simp] theorem updRegion_draws (id : Nat) (f : Region → Region) (s : State) : (updRegion id f s).draws = s.draws := rfl
@[simp] theorem updRegion_flash (id : Nat) (f : Region → Region) (s : State) : (updRegion id f s).flash = s.flash := rfl
@[simp] theorem updRegion_xfers (id : Nat) (f : Region → Region) (s : State) : (updRegion id f s).xfers = s.xfers := rfl
@[simp] theorem updRegion_pset (id : Nat) (f : Region → Region) (s : State) : (updRegion id f s).pset = s.pset := rfl
@[simp] theorem updRegion_coh (id : Nat) (f : Region → Region) (s : State) : (updRegion id f s).coh = s.coh := rfl
@[simp] theorem updRegion_hup (id : Nat) (f : Region → Region) (s : State) : (updRegion id f s).hup = s.hup := rfl
@[simp] theorem updRegion_pwr (id : Nat) (f : Region → Region) (s : State) : (updRegion id f s).pwr = s.pwr := rfl
@[simp] theorem updRegion_mgmt (id : Nat) (f : Region → Region) (s : State) : (updRegion id f s).mgmt = s.mgmt := rfl
@[simp] theorem updRegion_out (id : Nat) (f : Region → Region) (s : State) : (updRegion id f s).out = s.out := rfl
@[simp] theorem updRegion_freeCtr (id : Nat) (f : Region → Region) (s : State) : (updRegion id f s).freeCtr = s.freeCtr := rfl

@[simp] theorem updMember_pending (i : Nat) (f : Member → Member) (s : State) : (updMember i f s).pending = s.pending := rfl
@[simp] theorem updMember_seats (i : Nat) (f : Member → Member) (s : State) : (updMember i f s).seats = s.seats := rfl
@[simp] theorem updMember_ports (i : Nat) (f : Member → Member) (s : State) : (updMember i f s).ports = s.ports := rfl
@[simp] theorem updMember_lds (i : Nat) (f : Member → Member) (s : State) : (updMember i f s).lds = s.lds := rfl
@[simp] theorem updMember_lastServed (i : Nat) (f : Member → Member) (s : State) : (updMember i f s).lastServed = s.lastServed := rfl
@[simp] theorem updMember_ops (i : Nat) (f : Member → Member) (s : State) : (updMember i f s).ops = s.ops := rfl
@[simp] theorem updMember_opCtr (i : Nat) (f : Member → Member) (s : State) : (updMember i f s).opCtr = s.opCtr := rfl
@[simp] theorem updMember_accepts (i : Nat) (f : Member → Member) (s : State) : (updMember i f s).accepts = s.accepts := rfl
@[simp] theorem updMember_claims (i : Nat) (f : Member → Member) (s : State) : (updMember i f s).claims = s.claims := rfl
@[simp] theorem updMember_parts (i : Nat) (f : Member → Member) (s : State) : (updMember i f s).parts = s.parts := rfl
@[simp] theorem updMember_rt (i : Nat) (f : Member → Member) (s : State) : (updMember i f s).rt = s.rt := rfl
@[simp] theorem updMember_rtNext (i : Nat) (f : Member → Member) (s : State) : (updMember i f s).rtNext = s.rtNext := rfl
@[simp] theorem updMember_rtFree (i : Nat) (f : Member → Member) (s : State) : (updMember i f s).rtFree = s.rtFree := rfl
@[simp] theorem updMember_tenants (i : Nat) (f : Member → Member) (s : State) : (updMember i f s).tenants = s.tenants := rfl
@[simp] theorem updMember_acct (i : Nat) (f : Member → Member) (s : State) : (updMember i f s).acct = s.acct := rfl
@[simp] theorem updMember_images (i : Nat) (f : Member → Member) (s : State) : (updMember i f s).images = s.images := rfl
@[simp] theorem updMember_swap (i : Nat) (f : Member → Member) (s : State) : (updMember i f s).swap = s.swap := rfl
@[simp] theorem updMember_held (i : Nat) (f : Member → Member) (s : State) : (updMember i f s).held = s.held := rfl
@[simp] theorem updMember_svc (i : Nat) (f : Member → Member) (s : State) : (updMember i f s).svc = s.svc := rfl
@[simp] theorem updMember_glb (i : Nat) (f : Member → Member) (s : State) : (updMember i f s).glb = s.glb := rfl
@[simp] theorem updMember_dev (i : Nat) (f : Member → Member) (s : State) : (updMember i f s).dev = s.dev := rfl
@[simp] theorem updMember_flt (i : Nat) (f : Member → Member) (s : State) : (updMember i f s).flt = s.flt := rfl
@[simp] theorem updMember_regions (i : Nat) (f : Member → Member) (s : State) : (updMember i f s).regions = s.regions := rfl
@[simp] theorem updMember_frames (i : Nat) (f : Member → Member) (s : State) : (updMember i f s).frames = s.frames := rfl
@[simp] theorem updMember_nodes (i : Nat) (f : Member → Member) (s : State) : (updMember i f s).nodes = s.nodes := rfl
@[simp] theorem updMember_pins (i : Nat) (f : Member → Member) (s : State) : (updMember i f s).pins = s.pins := rfl
@[simp] theorem updMember_tier (i : Nat) (f : Member → Member) (s : State) : (updMember i f s).tier = s.tier := rfl
@[simp] theorem updMember_pldmQueue (i : Nat) (f : Member → Member) (s : State) : (updMember i f s).pldmQueue = s.pldmQueue := rfl
@[simp] theorem updMember_tel (i : Nat) (f : Member → Member) (s : State) : (updMember i f s).tel = s.tel := rfl
@[simp] theorem updMember_certs (i : Nat) (f : Member → Member) (s : State) : (updMember i f s).certs = s.certs := rfl
@[simp] theorem updMember_keySlots (i : Nat) (f : Member → Member) (s : State) : (updMember i f s).keySlots = s.keySlots := rfl
@[simp] theorem updMember_tickets (i : Nat) (f : Member → Member) (s : State) : (updMember i f s).tickets = s.tickets := rfl
@[simp] theorem updMember_parks (i : Nat) (f : Member → Member) (s : State) : (updMember i f s).parks = s.parks := rfl
@[simp] theorem updMember_pulls (i : Nat) (f : Member → Member) (s : State) : (updMember i f s).pulls = s.pulls := rfl
@[simp] theorem updMember_draws (i : Nat) (f : Member → Member) (s : State) : (updMember i f s).draws = s.draws := rfl
@[simp] theorem updMember_flash (i : Nat) (f : Member → Member) (s : State) : (updMember i f s).flash = s.flash := rfl
@[simp] theorem updMember_xfers (i : Nat) (f : Member → Member) (s : State) : (updMember i f s).xfers = s.xfers := rfl
@[simp] theorem updMember_coh (i : Nat) (f : Member → Member) (s : State) : (updMember i f s).coh = s.coh := rfl
@[simp] theorem updMember_hup (i : Nat) (f : Member → Member) (s : State) : (updMember i f s).hup = s.hup := rfl
@[simp] theorem updMember_pwr (i : Nat) (f : Member → Member) (s : State) : (updMember i f s).pwr = s.pwr := rfl
@[simp] theorem updMember_mgmt (i : Nat) (f : Member → Member) (s : State) : (updMember i f s).mgmt = s.mgmt := rfl
@[simp] theorem updMember_out (i : Nat) (f : Member → Member) (s : State) : (updMember i f s).out = s.out := rfl
@[simp] theorem updMember_freeCtr (i : Nat) (f : Member → Member) (s : State) : (updMember i f s).freeCtr = s.freeCtr := rfl

@[simp] theorem updCoh_pending (f : Coh → Coh) (s : State) : (updCoh f s).pending = s.pending := rfl
@[simp] theorem updCoh_seats (f : Coh → Coh) (s : State) : (updCoh f s).seats = s.seats := rfl
@[simp] theorem updCoh_ports (f : Coh → Coh) (s : State) : (updCoh f s).ports = s.ports := rfl
@[simp] theorem updCoh_lds (f : Coh → Coh) (s : State) : (updCoh f s).lds = s.lds := rfl
@[simp] theorem updCoh_lastServed (f : Coh → Coh) (s : State) : (updCoh f s).lastServed = s.lastServed := rfl
@[simp] theorem updCoh_ops (f : Coh → Coh) (s : State) : (updCoh f s).ops = s.ops := rfl
@[simp] theorem updCoh_opCtr (f : Coh → Coh) (s : State) : (updCoh f s).opCtr = s.opCtr := rfl
@[simp] theorem updCoh_accepts (f : Coh → Coh) (s : State) : (updCoh f s).accepts = s.accepts := rfl
@[simp] theorem updCoh_claims (f : Coh → Coh) (s : State) : (updCoh f s).claims = s.claims := rfl
@[simp] theorem updCoh_parts (f : Coh → Coh) (s : State) : (updCoh f s).parts = s.parts := rfl
@[simp] theorem updCoh_rt (f : Coh → Coh) (s : State) : (updCoh f s).rt = s.rt := rfl
@[simp] theorem updCoh_rtNext (f : Coh → Coh) (s : State) : (updCoh f s).rtNext = s.rtNext := rfl
@[simp] theorem updCoh_rtFree (f : Coh → Coh) (s : State) : (updCoh f s).rtFree = s.rtFree := rfl
@[simp] theorem updCoh_tenants (f : Coh → Coh) (s : State) : (updCoh f s).tenants = s.tenants := rfl
@[simp] theorem updCoh_acct (f : Coh → Coh) (s : State) : (updCoh f s).acct = s.acct := rfl
@[simp] theorem updCoh_images (f : Coh → Coh) (s : State) : (updCoh f s).images = s.images := rfl
@[simp] theorem updCoh_swap (f : Coh → Coh) (s : State) : (updCoh f s).swap = s.swap := rfl
@[simp] theorem updCoh_held (f : Coh → Coh) (s : State) : (updCoh f s).held = s.held := rfl
@[simp] theorem updCoh_svc (f : Coh → Coh) (s : State) : (updCoh f s).svc = s.svc := rfl
@[simp] theorem updCoh_glb (f : Coh → Coh) (s : State) : (updCoh f s).glb = s.glb := rfl
@[simp] theorem updCoh_dev (f : Coh → Coh) (s : State) : (updCoh f s).dev = s.dev := rfl
@[simp] theorem updCoh_flt (f : Coh → Coh) (s : State) : (updCoh f s).flt = s.flt := rfl
@[simp] theorem updCoh_regions (f : Coh → Coh) (s : State) : (updCoh f s).regions = s.regions := rfl
@[simp] theorem updCoh_frames (f : Coh → Coh) (s : State) : (updCoh f s).frames = s.frames := rfl
@[simp] theorem updCoh_nodes (f : Coh → Coh) (s : State) : (updCoh f s).nodes = s.nodes := rfl
@[simp] theorem updCoh_pins (f : Coh → Coh) (s : State) : (updCoh f s).pins = s.pins := rfl
@[simp] theorem updCoh_tier (f : Coh → Coh) (s : State) : (updCoh f s).tier = s.tier := rfl
@[simp] theorem updCoh_pldmQueue (f : Coh → Coh) (s : State) : (updCoh f s).pldmQueue = s.pldmQueue := rfl
@[simp] theorem updCoh_tel (f : Coh → Coh) (s : State) : (updCoh f s).tel = s.tel := rfl
@[simp] theorem updCoh_certs (f : Coh → Coh) (s : State) : (updCoh f s).certs = s.certs := rfl
@[simp] theorem updCoh_keySlots (f : Coh → Coh) (s : State) : (updCoh f s).keySlots = s.keySlots := rfl
@[simp] theorem updCoh_tickets (f : Coh → Coh) (s : State) : (updCoh f s).tickets = s.tickets := rfl
@[simp] theorem updCoh_parks (f : Coh → Coh) (s : State) : (updCoh f s).parks = s.parks := rfl
@[simp] theorem updCoh_pulls (f : Coh → Coh) (s : State) : (updCoh f s).pulls = s.pulls := rfl
@[simp] theorem updCoh_draws (f : Coh → Coh) (s : State) : (updCoh f s).draws = s.draws := rfl
@[simp] theorem updCoh_flash (f : Coh → Coh) (s : State) : (updCoh f s).flash = s.flash := rfl
@[simp] theorem updCoh_xfers (f : Coh → Coh) (s : State) : (updCoh f s).xfers = s.xfers := rfl
@[simp] theorem updCoh_pset (f : Coh → Coh) (s : State) : (updCoh f s).pset = s.pset := rfl
@[simp] theorem updCoh_hup (f : Coh → Coh) (s : State) : (updCoh f s).hup = s.hup := rfl
@[simp] theorem updCoh_pwr (f : Coh → Coh) (s : State) : (updCoh f s).pwr = s.pwr := rfl
@[simp] theorem updCoh_mgmt (f : Coh → Coh) (s : State) : (updCoh f s).mgmt = s.mgmt := rfl
@[simp] theorem updCoh_out (f : Coh → Coh) (s : State) : (updCoh f s).out = s.out := rfl
@[simp] theorem updCoh_freeCtr (f : Coh → Coh) (s : State) : (updCoh f s).freeCtr = s.freeCtr := rfl

@[simp] theorem updRt_pending (h : Nat) (f : Rt → Rt) (s : State) : (updRt h f s).pending = s.pending := rfl
@[simp] theorem updRt_seats (h : Nat) (f : Rt → Rt) (s : State) : (updRt h f s).seats = s.seats := rfl
@[simp] theorem updRt_ports (h : Nat) (f : Rt → Rt) (s : State) : (updRt h f s).ports = s.ports := rfl
@[simp] theorem updRt_lds (h : Nat) (f : Rt → Rt) (s : State) : (updRt h f s).lds = s.lds := rfl
@[simp] theorem updRt_lastServed (h : Nat) (f : Rt → Rt) (s : State) : (updRt h f s).lastServed = s.lastServed := rfl
@[simp] theorem updRt_ops (h : Nat) (f : Rt → Rt) (s : State) : (updRt h f s).ops = s.ops := rfl
@[simp] theorem updRt_opCtr (h : Nat) (f : Rt → Rt) (s : State) : (updRt h f s).opCtr = s.opCtr := rfl
@[simp] theorem updRt_accepts (h : Nat) (f : Rt → Rt) (s : State) : (updRt h f s).accepts = s.accepts := rfl
@[simp] theorem updRt_claims (h : Nat) (f : Rt → Rt) (s : State) : (updRt h f s).claims = s.claims := rfl
@[simp] theorem updRt_parts (h : Nat) (f : Rt → Rt) (s : State) : (updRt h f s).parts = s.parts := rfl
@[simp] theorem updRt_rtNext (h : Nat) (f : Rt → Rt) (s : State) : (updRt h f s).rtNext = s.rtNext := rfl
@[simp] theorem updRt_rtFree (h : Nat) (f : Rt → Rt) (s : State) : (updRt h f s).rtFree = s.rtFree := rfl
@[simp] theorem updRt_tenants (h : Nat) (f : Rt → Rt) (s : State) : (updRt h f s).tenants = s.tenants := rfl
@[simp] theorem updRt_acct (h : Nat) (f : Rt → Rt) (s : State) : (updRt h f s).acct = s.acct := rfl
@[simp] theorem updRt_images (h : Nat) (f : Rt → Rt) (s : State) : (updRt h f s).images = s.images := rfl
@[simp] theorem updRt_swap (h : Nat) (f : Rt → Rt) (s : State) : (updRt h f s).swap = s.swap := rfl
@[simp] theorem updRt_held (h : Nat) (f : Rt → Rt) (s : State) : (updRt h f s).held = s.held := rfl
@[simp] theorem updRt_svc (h : Nat) (f : Rt → Rt) (s : State) : (updRt h f s).svc = s.svc := rfl
@[simp] theorem updRt_glb (h : Nat) (f : Rt → Rt) (s : State) : (updRt h f s).glb = s.glb := rfl
@[simp] theorem updRt_dev (h : Nat) (f : Rt → Rt) (s : State) : (updRt h f s).dev = s.dev := rfl
@[simp] theorem updRt_flt (h : Nat) (f : Rt → Rt) (s : State) : (updRt h f s).flt = s.flt := rfl
@[simp] theorem updRt_regions (h : Nat) (f : Rt → Rt) (s : State) : (updRt h f s).regions = s.regions := rfl
@[simp] theorem updRt_frames (h : Nat) (f : Rt → Rt) (s : State) : (updRt h f s).frames = s.frames := rfl
@[simp] theorem updRt_nodes (h : Nat) (f : Rt → Rt) (s : State) : (updRt h f s).nodes = s.nodes := rfl
@[simp] theorem updRt_pins (h : Nat) (f : Rt → Rt) (s : State) : (updRt h f s).pins = s.pins := rfl
@[simp] theorem updRt_tier (h : Nat) (f : Rt → Rt) (s : State) : (updRt h f s).tier = s.tier := rfl
@[simp] theorem updRt_pldmQueue (h : Nat) (f : Rt → Rt) (s : State) : (updRt h f s).pldmQueue = s.pldmQueue := rfl
@[simp] theorem updRt_tel (h : Nat) (f : Rt → Rt) (s : State) : (updRt h f s).tel = s.tel := rfl
@[simp] theorem updRt_certs (h : Nat) (f : Rt → Rt) (s : State) : (updRt h f s).certs = s.certs := rfl
@[simp] theorem updRt_keySlots (h : Nat) (f : Rt → Rt) (s : State) : (updRt h f s).keySlots = s.keySlots := rfl
@[simp] theorem updRt_tickets (h : Nat) (f : Rt → Rt) (s : State) : (updRt h f s).tickets = s.tickets := rfl
@[simp] theorem updRt_parks (h : Nat) (f : Rt → Rt) (s : State) : (updRt h f s).parks = s.parks := rfl
@[simp] theorem updRt_pulls (h : Nat) (f : Rt → Rt) (s : State) : (updRt h f s).pulls = s.pulls := rfl
@[simp] theorem updRt_draws (h : Nat) (f : Rt → Rt) (s : State) : (updRt h f s).draws = s.draws := rfl
@[simp] theorem updRt_flash (h : Nat) (f : Rt → Rt) (s : State) : (updRt h f s).flash = s.flash := rfl
@[simp] theorem updRt_xfers (h : Nat) (f : Rt → Rt) (s : State) : (updRt h f s).xfers = s.xfers := rfl
@[simp] theorem updRt_pset (h : Nat) (f : Rt → Rt) (s : State) : (updRt h f s).pset = s.pset := rfl
@[simp] theorem updRt_coh (h : Nat) (f : Rt → Rt) (s : State) : (updRt h f s).coh = s.coh := rfl
@[simp] theorem updRt_hup (h : Nat) (f : Rt → Rt) (s : State) : (updRt h f s).hup = s.hup := rfl
@[simp] theorem updRt_pwr (h : Nat) (f : Rt → Rt) (s : State) : (updRt h f s).pwr = s.pwr := rfl
@[simp] theorem updRt_mgmt (h : Nat) (f : Rt → Rt) (s : State) : (updRt h f s).mgmt = s.mgmt := rfl
@[simp] theorem updRt_out (h : Nat) (f : Rt → Rt) (s : State) : (updRt h f s).out = s.out := rfl
@[simp] theorem updRt_freeCtr (h : Nat) (f : Rt → Rt) (s : State) : (updRt h f s).freeCtr = s.freeCtr := rfl

@[simp] theorem updNode_pending (i : Nat) (f : Node → Node) (s : State) : (updNode i f s).pending = s.pending := rfl
@[simp] theorem updNode_seats (i : Nat) (f : Node → Node) (s : State) : (updNode i f s).seats = s.seats := rfl
@[simp] theorem updNode_ports (i : Nat) (f : Node → Node) (s : State) : (updNode i f s).ports = s.ports := rfl
@[simp] theorem updNode_lds (i : Nat) (f : Node → Node) (s : State) : (updNode i f s).lds = s.lds := rfl
@[simp] theorem updNode_lastServed (i : Nat) (f : Node → Node) (s : State) : (updNode i f s).lastServed = s.lastServed := rfl
@[simp] theorem updNode_ops (i : Nat) (f : Node → Node) (s : State) : (updNode i f s).ops = s.ops := rfl
@[simp] theorem updNode_opCtr (i : Nat) (f : Node → Node) (s : State) : (updNode i f s).opCtr = s.opCtr := rfl
@[simp] theorem updNode_accepts (i : Nat) (f : Node → Node) (s : State) : (updNode i f s).accepts = s.accepts := rfl
@[simp] theorem updNode_claims (i : Nat) (f : Node → Node) (s : State) : (updNode i f s).claims = s.claims := rfl
@[simp] theorem updNode_parts (i : Nat) (f : Node → Node) (s : State) : (updNode i f s).parts = s.parts := rfl
@[simp] theorem updNode_rt (i : Nat) (f : Node → Node) (s : State) : (updNode i f s).rt = s.rt := rfl
@[simp] theorem updNode_rtNext (i : Nat) (f : Node → Node) (s : State) : (updNode i f s).rtNext = s.rtNext := rfl
@[simp] theorem updNode_rtFree (i : Nat) (f : Node → Node) (s : State) : (updNode i f s).rtFree = s.rtFree := rfl
@[simp] theorem updNode_tenants (i : Nat) (f : Node → Node) (s : State) : (updNode i f s).tenants = s.tenants := rfl
@[simp] theorem updNode_acct (i : Nat) (f : Node → Node) (s : State) : (updNode i f s).acct = s.acct := rfl
@[simp] theorem updNode_images (i : Nat) (f : Node → Node) (s : State) : (updNode i f s).images = s.images := rfl
@[simp] theorem updNode_swap (i : Nat) (f : Node → Node) (s : State) : (updNode i f s).swap = s.swap := rfl
@[simp] theorem updNode_held (i : Nat) (f : Node → Node) (s : State) : (updNode i f s).held = s.held := rfl
@[simp] theorem updNode_svc (i : Nat) (f : Node → Node) (s : State) : (updNode i f s).svc = s.svc := rfl
@[simp] theorem updNode_glb (i : Nat) (f : Node → Node) (s : State) : (updNode i f s).glb = s.glb := rfl
@[simp] theorem updNode_dev (i : Nat) (f : Node → Node) (s : State) : (updNode i f s).dev = s.dev := rfl
@[simp] theorem updNode_flt (i : Nat) (f : Node → Node) (s : State) : (updNode i f s).flt = s.flt := rfl
@[simp] theorem updNode_regions (i : Nat) (f : Node → Node) (s : State) : (updNode i f s).regions = s.regions := rfl
@[simp] theorem updNode_frames (i : Nat) (f : Node → Node) (s : State) : (updNode i f s).frames = s.frames := rfl
@[simp] theorem updNode_pins (i : Nat) (f : Node → Node) (s : State) : (updNode i f s).pins = s.pins := rfl
@[simp] theorem updNode_tier (i : Nat) (f : Node → Node) (s : State) : (updNode i f s).tier = s.tier := rfl
@[simp] theorem updNode_pldmQueue (i : Nat) (f : Node → Node) (s : State) : (updNode i f s).pldmQueue = s.pldmQueue := rfl
@[simp] theorem updNode_tel (i : Nat) (f : Node → Node) (s : State) : (updNode i f s).tel = s.tel := rfl
@[simp] theorem updNode_certs (i : Nat) (f : Node → Node) (s : State) : (updNode i f s).certs = s.certs := rfl
@[simp] theorem updNode_keySlots (i : Nat) (f : Node → Node) (s : State) : (updNode i f s).keySlots = s.keySlots := rfl
@[simp] theorem updNode_tickets (i : Nat) (f : Node → Node) (s : State) : (updNode i f s).tickets = s.tickets := rfl
@[simp] theorem updNode_parks (i : Nat) (f : Node → Node) (s : State) : (updNode i f s).parks = s.parks := rfl
@[simp] theorem updNode_pulls (i : Nat) (f : Node → Node) (s : State) : (updNode i f s).pulls = s.pulls := rfl
@[simp] theorem updNode_draws (i : Nat) (f : Node → Node) (s : State) : (updNode i f s).draws = s.draws := rfl
@[simp] theorem updNode_flash (i : Nat) (f : Node → Node) (s : State) : (updNode i f s).flash = s.flash := rfl
@[simp] theorem updNode_xfers (i : Nat) (f : Node → Node) (s : State) : (updNode i f s).xfers = s.xfers := rfl
@[simp] theorem updNode_pset (i : Nat) (f : Node → Node) (s : State) : (updNode i f s).pset = s.pset := rfl
@[simp] theorem updNode_coh (i : Nat) (f : Node → Node) (s : State) : (updNode i f s).coh = s.coh := rfl
@[simp] theorem updNode_hup (i : Nat) (f : Node → Node) (s : State) : (updNode i f s).hup = s.hup := rfl
@[simp] theorem updNode_pwr (i : Nat) (f : Node → Node) (s : State) : (updNode i f s).pwr = s.pwr := rfl
@[simp] theorem updNode_mgmt (i : Nat) (f : Node → Node) (s : State) : (updNode i f s).mgmt = s.mgmt := rfl
@[simp] theorem updNode_out (i : Nat) (f : Node → Node) (s : State) : (updNode i f s).out = s.out := rfl
@[simp] theorem updNode_freeCtr (i : Nat) (f : Node → Node) (s : State) : (updNode i f s).freeCtr = s.freeCtr := rfl

@[simp] theorem updLane_pending (l : Nat) (f : Lane → Lane) (s : State) : (updLane l f s).pending = s.pending := rfl
@[simp] theorem updLane_seats (l : Nat) (f : Lane → Lane) (s : State) : (updLane l f s).seats = s.seats := rfl
@[simp] theorem updLane_ports (l : Nat) (f : Lane → Lane) (s : State) : (updLane l f s).ports = s.ports := rfl
@[simp] theorem updLane_lds (l : Nat) (f : Lane → Lane) (s : State) : (updLane l f s).lds = s.lds := rfl
@[simp] theorem updLane_lastServed (l : Nat) (f : Lane → Lane) (s : State) : (updLane l f s).lastServed = s.lastServed := rfl
@[simp] theorem updLane_ops (l : Nat) (f : Lane → Lane) (s : State) : (updLane l f s).ops = s.ops := rfl
@[simp] theorem updLane_opCtr (l : Nat) (f : Lane → Lane) (s : State) : (updLane l f s).opCtr = s.opCtr := rfl
@[simp] theorem updLane_accepts (l : Nat) (f : Lane → Lane) (s : State) : (updLane l f s).accepts = s.accepts := rfl
@[simp] theorem updLane_claims (l : Nat) (f : Lane → Lane) (s : State) : (updLane l f s).claims = s.claims := rfl
@[simp] theorem updLane_parts (l : Nat) (f : Lane → Lane) (s : State) : (updLane l f s).parts = s.parts := rfl
@[simp] theorem updLane_rt (l : Nat) (f : Lane → Lane) (s : State) : (updLane l f s).rt = s.rt := rfl
@[simp] theorem updLane_rtNext (l : Nat) (f : Lane → Lane) (s : State) : (updLane l f s).rtNext = s.rtNext := rfl
@[simp] theorem updLane_rtFree (l : Nat) (f : Lane → Lane) (s : State) : (updLane l f s).rtFree = s.rtFree := rfl
@[simp] theorem updLane_tenants (l : Nat) (f : Lane → Lane) (s : State) : (updLane l f s).tenants = s.tenants := rfl
@[simp] theorem updLane_acct (l : Nat) (f : Lane → Lane) (s : State) : (updLane l f s).acct = s.acct := rfl
@[simp] theorem updLane_images (l : Nat) (f : Lane → Lane) (s : State) : (updLane l f s).images = s.images := rfl
@[simp] theorem updLane_swap (l : Nat) (f : Lane → Lane) (s : State) : (updLane l f s).swap = s.swap := rfl
@[simp] theorem updLane_held (l : Nat) (f : Lane → Lane) (s : State) : (updLane l f s).held = s.held := rfl
@[simp] theorem updLane_svc (l : Nat) (f : Lane → Lane) (s : State) : (updLane l f s).svc = s.svc := rfl
@[simp] theorem updLane_glb (l : Nat) (f : Lane → Lane) (s : State) : (updLane l f s).glb = s.glb := rfl
@[simp] theorem updLane_dev (l : Nat) (f : Lane → Lane) (s : State) : (updLane l f s).dev = s.dev := rfl
@[simp] theorem updLane_flt (l : Nat) (f : Lane → Lane) (s : State) : (updLane l f s).flt = s.flt := rfl
@[simp] theorem updLane_regions (l : Nat) (f : Lane → Lane) (s : State) : (updLane l f s).regions = s.regions := rfl
@[simp] theorem updLane_frames (l : Nat) (f : Lane → Lane) (s : State) : (updLane l f s).frames = s.frames := rfl
@[simp] theorem updLane_nodes (l : Nat) (f : Lane → Lane) (s : State) : (updLane l f s).nodes = s.nodes := rfl
@[simp] theorem updLane_pins (l : Nat) (f : Lane → Lane) (s : State) : (updLane l f s).pins = s.pins := rfl
@[simp] theorem updLane_tier (l : Nat) (f : Lane → Lane) (s : State) : (updLane l f s).tier = s.tier := rfl
@[simp] theorem updLane_pldmQueue (l : Nat) (f : Lane → Lane) (s : State) : (updLane l f s).pldmQueue = s.pldmQueue := rfl
@[simp] theorem updLane_tel (l : Nat) (f : Lane → Lane) (s : State) : (updLane l f s).tel = s.tel := rfl
@[simp] theorem updLane_certs (l : Nat) (f : Lane → Lane) (s : State) : (updLane l f s).certs = s.certs := rfl
@[simp] theorem updLane_keySlots (l : Nat) (f : Lane → Lane) (s : State) : (updLane l f s).keySlots = s.keySlots := rfl
@[simp] theorem updLane_tickets (l : Nat) (f : Lane → Lane) (s : State) : (updLane l f s).tickets = s.tickets := rfl
@[simp] theorem updLane_parks (l : Nat) (f : Lane → Lane) (s : State) : (updLane l f s).parks = s.parks := rfl
@[simp] theorem updLane_pulls (l : Nat) (f : Lane → Lane) (s : State) : (updLane l f s).pulls = s.pulls := rfl
@[simp] theorem updLane_draws (l : Nat) (f : Lane → Lane) (s : State) : (updLane l f s).draws = s.draws := rfl
@[simp] theorem updLane_xfers (l : Nat) (f : Lane → Lane) (s : State) : (updLane l f s).xfers = s.xfers := rfl
@[simp] theorem updLane_pset (l : Nat) (f : Lane → Lane) (s : State) : (updLane l f s).pset = s.pset := rfl
@[simp] theorem updLane_coh (l : Nat) (f : Lane → Lane) (s : State) : (updLane l f s).coh = s.coh := rfl
@[simp] theorem updLane_hup (l : Nat) (f : Lane → Lane) (s : State) : (updLane l f s).hup = s.hup := rfl
@[simp] theorem updLane_pwr (l : Nat) (f : Lane → Lane) (s : State) : (updLane l f s).pwr = s.pwr := rfl
@[simp] theorem updLane_mgmt (l : Nat) (f : Lane → Lane) (s : State) : (updLane l f s).mgmt = s.mgmt := rfl
@[simp] theorem updLane_out (l : Nat) (f : Lane → Lane) (s : State) : (updLane l f s).out = s.out := rfl
@[simp] theorem updLane_freeCtr (l : Nat) (f : Lane → Lane) (s : State) : (updLane l f s).freeCtr = s.freeCtr := rfl

@[simp] theorem updHup_pending (f : Hup → Hup) (s : State) : (updHup f s).pending = s.pending := rfl
@[simp] theorem updHup_seats (f : Hup → Hup) (s : State) : (updHup f s).seats = s.seats := rfl
@[simp] theorem updHup_ports (f : Hup → Hup) (s : State) : (updHup f s).ports = s.ports := rfl
@[simp] theorem updHup_lds (f : Hup → Hup) (s : State) : (updHup f s).lds = s.lds := rfl
@[simp] theorem updHup_lastServed (f : Hup → Hup) (s : State) : (updHup f s).lastServed = s.lastServed := rfl
@[simp] theorem updHup_ops (f : Hup → Hup) (s : State) : (updHup f s).ops = s.ops := rfl
@[simp] theorem updHup_opCtr (f : Hup → Hup) (s : State) : (updHup f s).opCtr = s.opCtr := rfl
@[simp] theorem updHup_accepts (f : Hup → Hup) (s : State) : (updHup f s).accepts = s.accepts := rfl
@[simp] theorem updHup_claims (f : Hup → Hup) (s : State) : (updHup f s).claims = s.claims := rfl
@[simp] theorem updHup_parts (f : Hup → Hup) (s : State) : (updHup f s).parts = s.parts := rfl
@[simp] theorem updHup_rt (f : Hup → Hup) (s : State) : (updHup f s).rt = s.rt := rfl
@[simp] theorem updHup_rtNext (f : Hup → Hup) (s : State) : (updHup f s).rtNext = s.rtNext := rfl
@[simp] theorem updHup_rtFree (f : Hup → Hup) (s : State) : (updHup f s).rtFree = s.rtFree := rfl
@[simp] theorem updHup_tenants (f : Hup → Hup) (s : State) : (updHup f s).tenants = s.tenants := rfl
@[simp] theorem updHup_acct (f : Hup → Hup) (s : State) : (updHup f s).acct = s.acct := rfl
@[simp] theorem updHup_images (f : Hup → Hup) (s : State) : (updHup f s).images = s.images := rfl
@[simp] theorem updHup_swap (f : Hup → Hup) (s : State) : (updHup f s).swap = s.swap := rfl
@[simp] theorem updHup_held (f : Hup → Hup) (s : State) : (updHup f s).held = s.held := rfl
@[simp] theorem updHup_svc (f : Hup → Hup) (s : State) : (updHup f s).svc = s.svc := rfl
@[simp] theorem updHup_glb (f : Hup → Hup) (s : State) : (updHup f s).glb = s.glb := rfl
@[simp] theorem updHup_dev (f : Hup → Hup) (s : State) : (updHup f s).dev = s.dev := rfl
@[simp] theorem updHup_flt (f : Hup → Hup) (s : State) : (updHup f s).flt = s.flt := rfl
@[simp] theorem updHup_regions (f : Hup → Hup) (s : State) : (updHup f s).regions = s.regions := rfl
@[simp] theorem updHup_frames (f : Hup → Hup) (s : State) : (updHup f s).frames = s.frames := rfl
@[simp] theorem updHup_nodes (f : Hup → Hup) (s : State) : (updHup f s).nodes = s.nodes := rfl
@[simp] theorem updHup_pins (f : Hup → Hup) (s : State) : (updHup f s).pins = s.pins := rfl
@[simp] theorem updHup_tier (f : Hup → Hup) (s : State) : (updHup f s).tier = s.tier := rfl
@[simp] theorem updHup_pldmQueue (f : Hup → Hup) (s : State) : (updHup f s).pldmQueue = s.pldmQueue := rfl
@[simp] theorem updHup_tel (f : Hup → Hup) (s : State) : (updHup f s).tel = s.tel := rfl
@[simp] theorem updHup_certs (f : Hup → Hup) (s : State) : (updHup f s).certs = s.certs := rfl
@[simp] theorem updHup_keySlots (f : Hup → Hup) (s : State) : (updHup f s).keySlots = s.keySlots := rfl
@[simp] theorem updHup_tickets (f : Hup → Hup) (s : State) : (updHup f s).tickets = s.tickets := rfl
@[simp] theorem updHup_parks (f : Hup → Hup) (s : State) : (updHup f s).parks = s.parks := rfl
@[simp] theorem updHup_pulls (f : Hup → Hup) (s : State) : (updHup f s).pulls = s.pulls := rfl
@[simp] theorem updHup_draws (f : Hup → Hup) (s : State) : (updHup f s).draws = s.draws := rfl
@[simp] theorem updHup_flash (f : Hup → Hup) (s : State) : (updHup f s).flash = s.flash := rfl
@[simp] theorem updHup_xfers (f : Hup → Hup) (s : State) : (updHup f s).xfers = s.xfers := rfl
@[simp] theorem updHup_pset (f : Hup → Hup) (s : State) : (updHup f s).pset = s.pset := rfl
@[simp] theorem updHup_coh (f : Hup → Hup) (s : State) : (updHup f s).coh = s.coh := rfl
@[simp] theorem updHup_pwr (f : Hup → Hup) (s : State) : (updHup f s).pwr = s.pwr := rfl
@[simp] theorem updHup_mgmt (f : Hup → Hup) (s : State) : (updHup f s).mgmt = s.mgmt := rfl
@[simp] theorem updHup_out (f : Hup → Hup) (s : State) : (updHup f s).out = s.out := rfl
@[simp] theorem updHup_freeCtr (f : Hup → Hup) (s : State) : (updHup f s).freeCtr = s.freeCtr := rfl

@[simp] theorem updXfer_pending (op : Nat) (f : Xfer → Xfer) (s : State) : (updXfer op f s).pending = s.pending := rfl
@[simp] theorem updXfer_seats (op : Nat) (f : Xfer → Xfer) (s : State) : (updXfer op f s).seats = s.seats := rfl
@[simp] theorem updXfer_ports (op : Nat) (f : Xfer → Xfer) (s : State) : (updXfer op f s).ports = s.ports := rfl
@[simp] theorem updXfer_lds (op : Nat) (f : Xfer → Xfer) (s : State) : (updXfer op f s).lds = s.lds := rfl
@[simp] theorem updXfer_lastServed (op : Nat) (f : Xfer → Xfer) (s : State) : (updXfer op f s).lastServed = s.lastServed := rfl
@[simp] theorem updXfer_ops (op : Nat) (f : Xfer → Xfer) (s : State) : (updXfer op f s).ops = s.ops := rfl
@[simp] theorem updXfer_opCtr (op : Nat) (f : Xfer → Xfer) (s : State) : (updXfer op f s).opCtr = s.opCtr := rfl
@[simp] theorem updXfer_accepts (op : Nat) (f : Xfer → Xfer) (s : State) : (updXfer op f s).accepts = s.accepts := rfl
@[simp] theorem updXfer_claims (op : Nat) (f : Xfer → Xfer) (s : State) : (updXfer op f s).claims = s.claims := rfl
@[simp] theorem updXfer_parts (op : Nat) (f : Xfer → Xfer) (s : State) : (updXfer op f s).parts = s.parts := rfl
@[simp] theorem updXfer_rt (op : Nat) (f : Xfer → Xfer) (s : State) : (updXfer op f s).rt = s.rt := rfl
@[simp] theorem updXfer_rtNext (op : Nat) (f : Xfer → Xfer) (s : State) : (updXfer op f s).rtNext = s.rtNext := rfl
@[simp] theorem updXfer_rtFree (op : Nat) (f : Xfer → Xfer) (s : State) : (updXfer op f s).rtFree = s.rtFree := rfl
@[simp] theorem updXfer_tenants (op : Nat) (f : Xfer → Xfer) (s : State) : (updXfer op f s).tenants = s.tenants := rfl
@[simp] theorem updXfer_acct (op : Nat) (f : Xfer → Xfer) (s : State) : (updXfer op f s).acct = s.acct := rfl
@[simp] theorem updXfer_images (op : Nat) (f : Xfer → Xfer) (s : State) : (updXfer op f s).images = s.images := rfl
@[simp] theorem updXfer_swap (op : Nat) (f : Xfer → Xfer) (s : State) : (updXfer op f s).swap = s.swap := rfl
@[simp] theorem updXfer_held (op : Nat) (f : Xfer → Xfer) (s : State) : (updXfer op f s).held = s.held := rfl
@[simp] theorem updXfer_svc (op : Nat) (f : Xfer → Xfer) (s : State) : (updXfer op f s).svc = s.svc := rfl
@[simp] theorem updXfer_glb (op : Nat) (f : Xfer → Xfer) (s : State) : (updXfer op f s).glb = s.glb := rfl
@[simp] theorem updXfer_dev (op : Nat) (f : Xfer → Xfer) (s : State) : (updXfer op f s).dev = s.dev := rfl
@[simp] theorem updXfer_flt (op : Nat) (f : Xfer → Xfer) (s : State) : (updXfer op f s).flt = s.flt := rfl
@[simp] theorem updXfer_regions (op : Nat) (f : Xfer → Xfer) (s : State) : (updXfer op f s).regions = s.regions := rfl
@[simp] theorem updXfer_frames (op : Nat) (f : Xfer → Xfer) (s : State) : (updXfer op f s).frames = s.frames := rfl
@[simp] theorem updXfer_nodes (op : Nat) (f : Xfer → Xfer) (s : State) : (updXfer op f s).nodes = s.nodes := rfl
@[simp] theorem updXfer_pins (op : Nat) (f : Xfer → Xfer) (s : State) : (updXfer op f s).pins = s.pins := rfl
@[simp] theorem updXfer_tier (op : Nat) (f : Xfer → Xfer) (s : State) : (updXfer op f s).tier = s.tier := rfl
@[simp] theorem updXfer_pldmQueue (op : Nat) (f : Xfer → Xfer) (s : State) : (updXfer op f s).pldmQueue = s.pldmQueue := rfl
@[simp] theorem updXfer_tel (op : Nat) (f : Xfer → Xfer) (s : State) : (updXfer op f s).tel = s.tel := rfl
@[simp] theorem updXfer_certs (op : Nat) (f : Xfer → Xfer) (s : State) : (updXfer op f s).certs = s.certs := rfl
@[simp] theorem updXfer_keySlots (op : Nat) (f : Xfer → Xfer) (s : State) : (updXfer op f s).keySlots = s.keySlots := rfl
@[simp] theorem updXfer_tickets (op : Nat) (f : Xfer → Xfer) (s : State) : (updXfer op f s).tickets = s.tickets := rfl
@[simp] theorem updXfer_parks (op : Nat) (f : Xfer → Xfer) (s : State) : (updXfer op f s).parks = s.parks := rfl
@[simp] theorem updXfer_pulls (op : Nat) (f : Xfer → Xfer) (s : State) : (updXfer op f s).pulls = s.pulls := rfl
@[simp] theorem updXfer_draws (op : Nat) (f : Xfer → Xfer) (s : State) : (updXfer op f s).draws = s.draws := rfl
@[simp] theorem updXfer_flash (op : Nat) (f : Xfer → Xfer) (s : State) : (updXfer op f s).flash = s.flash := rfl
@[simp] theorem updXfer_pset (op : Nat) (f : Xfer → Xfer) (s : State) : (updXfer op f s).pset = s.pset := rfl
@[simp] theorem updXfer_coh (op : Nat) (f : Xfer → Xfer) (s : State) : (updXfer op f s).coh = s.coh := rfl
@[simp] theorem updXfer_hup (op : Nat) (f : Xfer → Xfer) (s : State) : (updXfer op f s).hup = s.hup := rfl
@[simp] theorem updXfer_pwr (op : Nat) (f : Xfer → Xfer) (s : State) : (updXfer op f s).pwr = s.pwr := rfl
@[simp] theorem updXfer_mgmt (op : Nat) (f : Xfer → Xfer) (s : State) : (updXfer op f s).mgmt = s.mgmt := rfl
@[simp] theorem updXfer_out (op : Nat) (f : Xfer → Xfer) (s : State) : (updXfer op f s).out = s.out := rfl
@[simp] theorem updXfer_freeCtr (op : Nat) (f : Xfer → Xfer) (s : State) : (updXfer op f s).freeCtr = s.freeCtr := rfl

@[simp] theorem updSet_pending (f : PoolSet → PoolSet) (s : State) : (updSet f s).pending = s.pending := rfl
@[simp] theorem updSet_seats (f : PoolSet → PoolSet) (s : State) : (updSet f s).seats = s.seats := rfl
@[simp] theorem updSet_ports (f : PoolSet → PoolSet) (s : State) : (updSet f s).ports = s.ports := rfl
@[simp] theorem updSet_lds (f : PoolSet → PoolSet) (s : State) : (updSet f s).lds = s.lds := rfl
@[simp] theorem updSet_lastServed (f : PoolSet → PoolSet) (s : State) : (updSet f s).lastServed = s.lastServed := rfl
@[simp] theorem updSet_ops (f : PoolSet → PoolSet) (s : State) : (updSet f s).ops = s.ops := rfl
@[simp] theorem updSet_opCtr (f : PoolSet → PoolSet) (s : State) : (updSet f s).opCtr = s.opCtr := rfl
@[simp] theorem updSet_accepts (f : PoolSet → PoolSet) (s : State) : (updSet f s).accepts = s.accepts := rfl
@[simp] theorem updSet_claims (f : PoolSet → PoolSet) (s : State) : (updSet f s).claims = s.claims := rfl
@[simp] theorem updSet_parts (f : PoolSet → PoolSet) (s : State) : (updSet f s).parts = s.parts := rfl
@[simp] theorem updSet_rt (f : PoolSet → PoolSet) (s : State) : (updSet f s).rt = s.rt := rfl
@[simp] theorem updSet_rtNext (f : PoolSet → PoolSet) (s : State) : (updSet f s).rtNext = s.rtNext := rfl
@[simp] theorem updSet_rtFree (f : PoolSet → PoolSet) (s : State) : (updSet f s).rtFree = s.rtFree := rfl
@[simp] theorem updSet_tenants (f : PoolSet → PoolSet) (s : State) : (updSet f s).tenants = s.tenants := rfl
@[simp] theorem updSet_acct (f : PoolSet → PoolSet) (s : State) : (updSet f s).acct = s.acct := rfl
@[simp] theorem updSet_images (f : PoolSet → PoolSet) (s : State) : (updSet f s).images = s.images := rfl
@[simp] theorem updSet_swap (f : PoolSet → PoolSet) (s : State) : (updSet f s).swap = s.swap := rfl
@[simp] theorem updSet_held (f : PoolSet → PoolSet) (s : State) : (updSet f s).held = s.held := rfl
@[simp] theorem updSet_svc (f : PoolSet → PoolSet) (s : State) : (updSet f s).svc = s.svc := rfl
@[simp] theorem updSet_glb (f : PoolSet → PoolSet) (s : State) : (updSet f s).glb = s.glb := rfl
@[simp] theorem updSet_dev (f : PoolSet → PoolSet) (s : State) : (updSet f s).dev = s.dev := rfl
@[simp] theorem updSet_flt (f : PoolSet → PoolSet) (s : State) : (updSet f s).flt = s.flt := rfl
@[simp] theorem updSet_regions (f : PoolSet → PoolSet) (s : State) : (updSet f s).regions = s.regions := rfl
@[simp] theorem updSet_frames (f : PoolSet → PoolSet) (s : State) : (updSet f s).frames = s.frames := rfl
@[simp] theorem updSet_nodes (f : PoolSet → PoolSet) (s : State) : (updSet f s).nodes = s.nodes := rfl
@[simp] theorem updSet_pins (f : PoolSet → PoolSet) (s : State) : (updSet f s).pins = s.pins := rfl
@[simp] theorem updSet_tier (f : PoolSet → PoolSet) (s : State) : (updSet f s).tier = s.tier := rfl
@[simp] theorem updSet_pldmQueue (f : PoolSet → PoolSet) (s : State) : (updSet f s).pldmQueue = s.pldmQueue := rfl
@[simp] theorem updSet_tel (f : PoolSet → PoolSet) (s : State) : (updSet f s).tel = s.tel := rfl
@[simp] theorem updSet_certs (f : PoolSet → PoolSet) (s : State) : (updSet f s).certs = s.certs := rfl
@[simp] theorem updSet_keySlots (f : PoolSet → PoolSet) (s : State) : (updSet f s).keySlots = s.keySlots := rfl
@[simp] theorem updSet_tickets (f : PoolSet → PoolSet) (s : State) : (updSet f s).tickets = s.tickets := rfl
@[simp] theorem updSet_parks (f : PoolSet → PoolSet) (s : State) : (updSet f s).parks = s.parks := rfl
@[simp] theorem updSet_pulls (f : PoolSet → PoolSet) (s : State) : (updSet f s).pulls = s.pulls := rfl
@[simp] theorem updSet_draws (f : PoolSet → PoolSet) (s : State) : (updSet f s).draws = s.draws := rfl
@[simp] theorem updSet_flash (f : PoolSet → PoolSet) (s : State) : (updSet f s).flash = s.flash := rfl
@[simp] theorem updSet_xfers (f : PoolSet → PoolSet) (s : State) : (updSet f s).xfers = s.xfers := rfl
@[simp] theorem updSet_coh (f : PoolSet → PoolSet) (s : State) : (updSet f s).coh = s.coh := rfl
@[simp] theorem updSet_hup (f : PoolSet → PoolSet) (s : State) : (updSet f s).hup = s.hup := rfl
@[simp] theorem updSet_pwr (f : PoolSet → PoolSet) (s : State) : (updSet f s).pwr = s.pwr := rfl
@[simp] theorem updSet_mgmt (f : PoolSet → PoolSet) (s : State) : (updSet f s).mgmt = s.mgmt := rfl
@[simp] theorem updSet_out (f : PoolSet → PoolSet) (s : State) : (updSet f s).out = s.out := rfl
@[simp] theorem updSet_freeCtr (f : PoolSet → PoolSet) (s : State) : (updSet f s).freeCtr = s.freeCtr := rfl

@[simp] theorem updPwr_pending (f : Pwr → Pwr) (s : State) : (updPwr f s).pending = s.pending := rfl
@[simp] theorem updPwr_seats (f : Pwr → Pwr) (s : State) : (updPwr f s).seats = s.seats := rfl
@[simp] theorem updPwr_ports (f : Pwr → Pwr) (s : State) : (updPwr f s).ports = s.ports := rfl
@[simp] theorem updPwr_lds (f : Pwr → Pwr) (s : State) : (updPwr f s).lds = s.lds := rfl
@[simp] theorem updPwr_lastServed (f : Pwr → Pwr) (s : State) : (updPwr f s).lastServed = s.lastServed := rfl
@[simp] theorem updPwr_ops (f : Pwr → Pwr) (s : State) : (updPwr f s).ops = s.ops := rfl
@[simp] theorem updPwr_opCtr (f : Pwr → Pwr) (s : State) : (updPwr f s).opCtr = s.opCtr := rfl
@[simp] theorem updPwr_accepts (f : Pwr → Pwr) (s : State) : (updPwr f s).accepts = s.accepts := rfl
@[simp] theorem updPwr_claims (f : Pwr → Pwr) (s : State) : (updPwr f s).claims = s.claims := rfl
@[simp] theorem updPwr_parts (f : Pwr → Pwr) (s : State) : (updPwr f s).parts = s.parts := rfl
@[simp] theorem updPwr_rt (f : Pwr → Pwr) (s : State) : (updPwr f s).rt = s.rt := rfl
@[simp] theorem updPwr_rtNext (f : Pwr → Pwr) (s : State) : (updPwr f s).rtNext = s.rtNext := rfl
@[simp] theorem updPwr_rtFree (f : Pwr → Pwr) (s : State) : (updPwr f s).rtFree = s.rtFree := rfl
@[simp] theorem updPwr_tenants (f : Pwr → Pwr) (s : State) : (updPwr f s).tenants = s.tenants := rfl
@[simp] theorem updPwr_acct (f : Pwr → Pwr) (s : State) : (updPwr f s).acct = s.acct := rfl
@[simp] theorem updPwr_images (f : Pwr → Pwr) (s : State) : (updPwr f s).images = s.images := rfl
@[simp] theorem updPwr_swap (f : Pwr → Pwr) (s : State) : (updPwr f s).swap = s.swap := rfl
@[simp] theorem updPwr_held (f : Pwr → Pwr) (s : State) : (updPwr f s).held = s.held := rfl
@[simp] theorem updPwr_svc (f : Pwr → Pwr) (s : State) : (updPwr f s).svc = s.svc := rfl
@[simp] theorem updPwr_glb (f : Pwr → Pwr) (s : State) : (updPwr f s).glb = s.glb := rfl
@[simp] theorem updPwr_dev (f : Pwr → Pwr) (s : State) : (updPwr f s).dev = s.dev := rfl
@[simp] theorem updPwr_flt (f : Pwr → Pwr) (s : State) : (updPwr f s).flt = s.flt := rfl
@[simp] theorem updPwr_regions (f : Pwr → Pwr) (s : State) : (updPwr f s).regions = s.regions := rfl
@[simp] theorem updPwr_frames (f : Pwr → Pwr) (s : State) : (updPwr f s).frames = s.frames := rfl
@[simp] theorem updPwr_nodes (f : Pwr → Pwr) (s : State) : (updPwr f s).nodes = s.nodes := rfl
@[simp] theorem updPwr_pins (f : Pwr → Pwr) (s : State) : (updPwr f s).pins = s.pins := rfl
@[simp] theorem updPwr_tier (f : Pwr → Pwr) (s : State) : (updPwr f s).tier = s.tier := rfl
@[simp] theorem updPwr_pldmQueue (f : Pwr → Pwr) (s : State) : (updPwr f s).pldmQueue = s.pldmQueue := rfl
@[simp] theorem updPwr_tel (f : Pwr → Pwr) (s : State) : (updPwr f s).tel = s.tel := rfl
@[simp] theorem updPwr_certs (f : Pwr → Pwr) (s : State) : (updPwr f s).certs = s.certs := rfl
@[simp] theorem updPwr_keySlots (f : Pwr → Pwr) (s : State) : (updPwr f s).keySlots = s.keySlots := rfl
@[simp] theorem updPwr_tickets (f : Pwr → Pwr) (s : State) : (updPwr f s).tickets = s.tickets := rfl
@[simp] theorem updPwr_parks (f : Pwr → Pwr) (s : State) : (updPwr f s).parks = s.parks := rfl
@[simp] theorem updPwr_pulls (f : Pwr → Pwr) (s : State) : (updPwr f s).pulls = s.pulls := rfl
@[simp] theorem updPwr_draws (f : Pwr → Pwr) (s : State) : (updPwr f s).draws = s.draws := rfl
@[simp] theorem updPwr_flash (f : Pwr → Pwr) (s : State) : (updPwr f s).flash = s.flash := rfl
@[simp] theorem updPwr_xfers (f : Pwr → Pwr) (s : State) : (updPwr f s).xfers = s.xfers := rfl
@[simp] theorem updPwr_pset (f : Pwr → Pwr) (s : State) : (updPwr f s).pset = s.pset := rfl
@[simp] theorem updPwr_coh (f : Pwr → Pwr) (s : State) : (updPwr f s).coh = s.coh := rfl
@[simp] theorem updPwr_hup (f : Pwr → Pwr) (s : State) : (updPwr f s).hup = s.hup := rfl
@[simp] theorem updPwr_mgmt (f : Pwr → Pwr) (s : State) : (updPwr f s).mgmt = s.mgmt := rfl
@[simp] theorem updPwr_out (f : Pwr → Pwr) (s : State) : (updPwr f s).out = s.out := rfl
@[simp] theorem updPwr_freeCtr (f : Pwr → Pwr) (s : State) : (updPwr f s).freeCtr = s.freeCtr := rfl

@[simp] theorem updDev_pending (f : Dev → Dev) (s : State) : (updDev f s).pending = s.pending := rfl
@[simp] theorem updDev_seats (f : Dev → Dev) (s : State) : (updDev f s).seats = s.seats := rfl
@[simp] theorem updDev_ports (f : Dev → Dev) (s : State) : (updDev f s).ports = s.ports := rfl
@[simp] theorem updDev_lds (f : Dev → Dev) (s : State) : (updDev f s).lds = s.lds := rfl
@[simp] theorem updDev_lastServed (f : Dev → Dev) (s : State) : (updDev f s).lastServed = s.lastServed := rfl
@[simp] theorem updDev_ops (f : Dev → Dev) (s : State) : (updDev f s).ops = s.ops := rfl
@[simp] theorem updDev_opCtr (f : Dev → Dev) (s : State) : (updDev f s).opCtr = s.opCtr := rfl
@[simp] theorem updDev_accepts (f : Dev → Dev) (s : State) : (updDev f s).accepts = s.accepts := rfl
@[simp] theorem updDev_claims (f : Dev → Dev) (s : State) : (updDev f s).claims = s.claims := rfl
@[simp] theorem updDev_parts (f : Dev → Dev) (s : State) : (updDev f s).parts = s.parts := rfl
@[simp] theorem updDev_rt (f : Dev → Dev) (s : State) : (updDev f s).rt = s.rt := rfl
@[simp] theorem updDev_rtNext (f : Dev → Dev) (s : State) : (updDev f s).rtNext = s.rtNext := rfl
@[simp] theorem updDev_rtFree (f : Dev → Dev) (s : State) : (updDev f s).rtFree = s.rtFree := rfl
@[simp] theorem updDev_tenants (f : Dev → Dev) (s : State) : (updDev f s).tenants = s.tenants := rfl
@[simp] theorem updDev_acct (f : Dev → Dev) (s : State) : (updDev f s).acct = s.acct := rfl
@[simp] theorem updDev_images (f : Dev → Dev) (s : State) : (updDev f s).images = s.images := rfl
@[simp] theorem updDev_swap (f : Dev → Dev) (s : State) : (updDev f s).swap = s.swap := rfl
@[simp] theorem updDev_held (f : Dev → Dev) (s : State) : (updDev f s).held = s.held := rfl
@[simp] theorem updDev_svc (f : Dev → Dev) (s : State) : (updDev f s).svc = s.svc := rfl
@[simp] theorem updDev_glb (f : Dev → Dev) (s : State) : (updDev f s).glb = s.glb := rfl
@[simp] theorem updDev_flt (f : Dev → Dev) (s : State) : (updDev f s).flt = s.flt := rfl
@[simp] theorem updDev_regions (f : Dev → Dev) (s : State) : (updDev f s).regions = s.regions := rfl
@[simp] theorem updDev_frames (f : Dev → Dev) (s : State) : (updDev f s).frames = s.frames := rfl
@[simp] theorem updDev_nodes (f : Dev → Dev) (s : State) : (updDev f s).nodes = s.nodes := rfl
@[simp] theorem updDev_pins (f : Dev → Dev) (s : State) : (updDev f s).pins = s.pins := rfl
@[simp] theorem updDev_tier (f : Dev → Dev) (s : State) : (updDev f s).tier = s.tier := rfl
@[simp] theorem updDev_pldmQueue (f : Dev → Dev) (s : State) : (updDev f s).pldmQueue = s.pldmQueue := rfl
@[simp] theorem updDev_tel (f : Dev → Dev) (s : State) : (updDev f s).tel = s.tel := rfl
@[simp] theorem updDev_certs (f : Dev → Dev) (s : State) : (updDev f s).certs = s.certs := rfl
@[simp] theorem updDev_keySlots (f : Dev → Dev) (s : State) : (updDev f s).keySlots = s.keySlots := rfl
@[simp] theorem updDev_tickets (f : Dev → Dev) (s : State) : (updDev f s).tickets = s.tickets := rfl
@[simp] theorem updDev_parks (f : Dev → Dev) (s : State) : (updDev f s).parks = s.parks := rfl
@[simp] theorem updDev_pulls (f : Dev → Dev) (s : State) : (updDev f s).pulls = s.pulls := rfl
@[simp] theorem updDev_draws (f : Dev → Dev) (s : State) : (updDev f s).draws = s.draws := rfl
@[simp] theorem updDev_flash (f : Dev → Dev) (s : State) : (updDev f s).flash = s.flash := rfl
@[simp] theorem updDev_xfers (f : Dev → Dev) (s : State) : (updDev f s).xfers = s.xfers := rfl
@[simp] theorem updDev_pset (f : Dev → Dev) (s : State) : (updDev f s).pset = s.pset := rfl
@[simp] theorem updDev_coh (f : Dev → Dev) (s : State) : (updDev f s).coh = s.coh := rfl
@[simp] theorem updDev_hup (f : Dev → Dev) (s : State) : (updDev f s).hup = s.hup := rfl
@[simp] theorem updDev_pwr (f : Dev → Dev) (s : State) : (updDev f s).pwr = s.pwr := rfl
@[simp] theorem updDev_mgmt (f : Dev → Dev) (s : State) : (updDev f s).mgmt = s.mgmt := rfl
@[simp] theorem updDev_out (f : Dev → Dev) (s : State) : (updDev f s).out = s.out := rfl
@[simp] theorem updDev_freeCtr (f : Dev → Dev) (s : State) : (updDev f s).freeCtr = s.freeCtr := rfl

@[simp] theorem updFlt_pending (f : Flt → Flt) (s : State) : (updFlt f s).pending = s.pending := rfl
@[simp] theorem updFlt_seats (f : Flt → Flt) (s : State) : (updFlt f s).seats = s.seats := rfl
@[simp] theorem updFlt_ports (f : Flt → Flt) (s : State) : (updFlt f s).ports = s.ports := rfl
@[simp] theorem updFlt_lds (f : Flt → Flt) (s : State) : (updFlt f s).lds = s.lds := rfl
@[simp] theorem updFlt_lastServed (f : Flt → Flt) (s : State) : (updFlt f s).lastServed = s.lastServed := rfl
@[simp] theorem updFlt_ops (f : Flt → Flt) (s : State) : (updFlt f s).ops = s.ops := rfl
@[simp] theorem updFlt_opCtr (f : Flt → Flt) (s : State) : (updFlt f s).opCtr = s.opCtr := rfl
@[simp] theorem updFlt_accepts (f : Flt → Flt) (s : State) : (updFlt f s).accepts = s.accepts := rfl
@[simp] theorem updFlt_claims (f : Flt → Flt) (s : State) : (updFlt f s).claims = s.claims := rfl
@[simp] theorem updFlt_parts (f : Flt → Flt) (s : State) : (updFlt f s).parts = s.parts := rfl
@[simp] theorem updFlt_rt (f : Flt → Flt) (s : State) : (updFlt f s).rt = s.rt := rfl
@[simp] theorem updFlt_rtNext (f : Flt → Flt) (s : State) : (updFlt f s).rtNext = s.rtNext := rfl
@[simp] theorem updFlt_rtFree (f : Flt → Flt) (s : State) : (updFlt f s).rtFree = s.rtFree := rfl
@[simp] theorem updFlt_tenants (f : Flt → Flt) (s : State) : (updFlt f s).tenants = s.tenants := rfl
@[simp] theorem updFlt_acct (f : Flt → Flt) (s : State) : (updFlt f s).acct = s.acct := rfl
@[simp] theorem updFlt_images (f : Flt → Flt) (s : State) : (updFlt f s).images = s.images := rfl
@[simp] theorem updFlt_swap (f : Flt → Flt) (s : State) : (updFlt f s).swap = s.swap := rfl
@[simp] theorem updFlt_held (f : Flt → Flt) (s : State) : (updFlt f s).held = s.held := rfl
@[simp] theorem updFlt_svc (f : Flt → Flt) (s : State) : (updFlt f s).svc = s.svc := rfl
@[simp] theorem updFlt_glb (f : Flt → Flt) (s : State) : (updFlt f s).glb = s.glb := rfl
@[simp] theorem updFlt_dev (f : Flt → Flt) (s : State) : (updFlt f s).dev = s.dev := rfl
@[simp] theorem updFlt_regions (f : Flt → Flt) (s : State) : (updFlt f s).regions = s.regions := rfl
@[simp] theorem updFlt_frames (f : Flt → Flt) (s : State) : (updFlt f s).frames = s.frames := rfl
@[simp] theorem updFlt_nodes (f : Flt → Flt) (s : State) : (updFlt f s).nodes = s.nodes := rfl
@[simp] theorem updFlt_pins (f : Flt → Flt) (s : State) : (updFlt f s).pins = s.pins := rfl
@[simp] theorem updFlt_tier (f : Flt → Flt) (s : State) : (updFlt f s).tier = s.tier := rfl
@[simp] theorem updFlt_pldmQueue (f : Flt → Flt) (s : State) : (updFlt f s).pldmQueue = s.pldmQueue := rfl
@[simp] theorem updFlt_tel (f : Flt → Flt) (s : State) : (updFlt f s).tel = s.tel := rfl
@[simp] theorem updFlt_certs (f : Flt → Flt) (s : State) : (updFlt f s).certs = s.certs := rfl
@[simp] theorem updFlt_keySlots (f : Flt → Flt) (s : State) : (updFlt f s).keySlots = s.keySlots := rfl
@[simp] theorem updFlt_tickets (f : Flt → Flt) (s : State) : (updFlt f s).tickets = s.tickets := rfl
@[simp] theorem updFlt_parks (f : Flt → Flt) (s : State) : (updFlt f s).parks = s.parks := rfl
@[simp] theorem updFlt_pulls (f : Flt → Flt) (s : State) : (updFlt f s).pulls = s.pulls := rfl
@[simp] theorem updFlt_draws (f : Flt → Flt) (s : State) : (updFlt f s).draws = s.draws := rfl
@[simp] theorem updFlt_flash (f : Flt → Flt) (s : State) : (updFlt f s).flash = s.flash := rfl
@[simp] theorem updFlt_xfers (f : Flt → Flt) (s : State) : (updFlt f s).xfers = s.xfers := rfl
@[simp] theorem updFlt_pset (f : Flt → Flt) (s : State) : (updFlt f s).pset = s.pset := rfl
@[simp] theorem updFlt_coh (f : Flt → Flt) (s : State) : (updFlt f s).coh = s.coh := rfl
@[simp] theorem updFlt_hup (f : Flt → Flt) (s : State) : (updFlt f s).hup = s.hup := rfl
@[simp] theorem updFlt_pwr (f : Flt → Flt) (s : State) : (updFlt f s).pwr = s.pwr := rfl
@[simp] theorem updFlt_mgmt (f : Flt → Flt) (s : State) : (updFlt f s).mgmt = s.mgmt := rfl
@[simp] theorem updFlt_out (f : Flt → Flt) (s : State) : (updFlt f s).out = s.out := rfl
@[simp] theorem updFlt_freeCtr (f : Flt → Flt) (s : State) : (updFlt f s).freeCtr = s.freeCtr := rfl

@[simp] theorem updMgmt_pending (f : Mgmt → Mgmt) (s : State) : (updMgmt f s).pending = s.pending := rfl
@[simp] theorem updMgmt_seats (f : Mgmt → Mgmt) (s : State) : (updMgmt f s).seats = s.seats := rfl
@[simp] theorem updMgmt_ports (f : Mgmt → Mgmt) (s : State) : (updMgmt f s).ports = s.ports := rfl
@[simp] theorem updMgmt_lds (f : Mgmt → Mgmt) (s : State) : (updMgmt f s).lds = s.lds := rfl
@[simp] theorem updMgmt_lastServed (f : Mgmt → Mgmt) (s : State) : (updMgmt f s).lastServed = s.lastServed := rfl
@[simp] theorem updMgmt_ops (f : Mgmt → Mgmt) (s : State) : (updMgmt f s).ops = s.ops := rfl
@[simp] theorem updMgmt_opCtr (f : Mgmt → Mgmt) (s : State) : (updMgmt f s).opCtr = s.opCtr := rfl
@[simp] theorem updMgmt_accepts (f : Mgmt → Mgmt) (s : State) : (updMgmt f s).accepts = s.accepts := rfl
@[simp] theorem updMgmt_claims (f : Mgmt → Mgmt) (s : State) : (updMgmt f s).claims = s.claims := rfl
@[simp] theorem updMgmt_parts (f : Mgmt → Mgmt) (s : State) : (updMgmt f s).parts = s.parts := rfl
@[simp] theorem updMgmt_rt (f : Mgmt → Mgmt) (s : State) : (updMgmt f s).rt = s.rt := rfl
@[simp] theorem updMgmt_rtNext (f : Mgmt → Mgmt) (s : State) : (updMgmt f s).rtNext = s.rtNext := rfl
@[simp] theorem updMgmt_rtFree (f : Mgmt → Mgmt) (s : State) : (updMgmt f s).rtFree = s.rtFree := rfl
@[simp] theorem updMgmt_tenants (f : Mgmt → Mgmt) (s : State) : (updMgmt f s).tenants = s.tenants := rfl
@[simp] theorem updMgmt_acct (f : Mgmt → Mgmt) (s : State) : (updMgmt f s).acct = s.acct := rfl
@[simp] theorem updMgmt_images (f : Mgmt → Mgmt) (s : State) : (updMgmt f s).images = s.images := rfl
@[simp] theorem updMgmt_swap (f : Mgmt → Mgmt) (s : State) : (updMgmt f s).swap = s.swap := rfl
@[simp] theorem updMgmt_held (f : Mgmt → Mgmt) (s : State) : (updMgmt f s).held = s.held := rfl
@[simp] theorem updMgmt_svc (f : Mgmt → Mgmt) (s : State) : (updMgmt f s).svc = s.svc := rfl
@[simp] theorem updMgmt_glb (f : Mgmt → Mgmt) (s : State) : (updMgmt f s).glb = s.glb := rfl
@[simp] theorem updMgmt_dev (f : Mgmt → Mgmt) (s : State) : (updMgmt f s).dev = s.dev := rfl
@[simp] theorem updMgmt_flt (f : Mgmt → Mgmt) (s : State) : (updMgmt f s).flt = s.flt := rfl
@[simp] theorem updMgmt_regions (f : Mgmt → Mgmt) (s : State) : (updMgmt f s).regions = s.regions := rfl
@[simp] theorem updMgmt_frames (f : Mgmt → Mgmt) (s : State) : (updMgmt f s).frames = s.frames := rfl
@[simp] theorem updMgmt_nodes (f : Mgmt → Mgmt) (s : State) : (updMgmt f s).nodes = s.nodes := rfl
@[simp] theorem updMgmt_pins (f : Mgmt → Mgmt) (s : State) : (updMgmt f s).pins = s.pins := rfl
@[simp] theorem updMgmt_tier (f : Mgmt → Mgmt) (s : State) : (updMgmt f s).tier = s.tier := rfl
@[simp] theorem updMgmt_pldmQueue (f : Mgmt → Mgmt) (s : State) : (updMgmt f s).pldmQueue = s.pldmQueue := rfl
@[simp] theorem updMgmt_tel (f : Mgmt → Mgmt) (s : State) : (updMgmt f s).tel = s.tel := rfl
@[simp] theorem updMgmt_certs (f : Mgmt → Mgmt) (s : State) : (updMgmt f s).certs = s.certs := rfl
@[simp] theorem updMgmt_keySlots (f : Mgmt → Mgmt) (s : State) : (updMgmt f s).keySlots = s.keySlots := rfl
@[simp] theorem updMgmt_tickets (f : Mgmt → Mgmt) (s : State) : (updMgmt f s).tickets = s.tickets := rfl
@[simp] theorem updMgmt_parks (f : Mgmt → Mgmt) (s : State) : (updMgmt f s).parks = s.parks := rfl
@[simp] theorem updMgmt_pulls (f : Mgmt → Mgmt) (s : State) : (updMgmt f s).pulls = s.pulls := rfl
@[simp] theorem updMgmt_draws (f : Mgmt → Mgmt) (s : State) : (updMgmt f s).draws = s.draws := rfl
@[simp] theorem updMgmt_flash (f : Mgmt → Mgmt) (s : State) : (updMgmt f s).flash = s.flash := rfl
@[simp] theorem updMgmt_xfers (f : Mgmt → Mgmt) (s : State) : (updMgmt f s).xfers = s.xfers := rfl
@[simp] theorem updMgmt_pset (f : Mgmt → Mgmt) (s : State) : (updMgmt f s).pset = s.pset := rfl
@[simp] theorem updMgmt_coh (f : Mgmt → Mgmt) (s : State) : (updMgmt f s).coh = s.coh := rfl
@[simp] theorem updMgmt_hup (f : Mgmt → Mgmt) (s : State) : (updMgmt f s).hup = s.hup := rfl
@[simp] theorem updMgmt_pwr (f : Mgmt → Mgmt) (s : State) : (updMgmt f s).pwr = s.pwr := rfl
@[simp] theorem updMgmt_out (f : Mgmt → Mgmt) (s : State) : (updMgmt f s).out = s.out := rfl
@[simp] theorem updMgmt_freeCtr (f : Mgmt → Mgmt) (s : State) : (updMgmt f s).freeCtr = s.freeCtr := rfl

end Sys2Proof.Machine
end

