-- ==== Sys2Proof/Tests/Slice0.lean ====
section
/-! SUPPORT. Small tests, and for every clause of every statement a state and operands that meet its hypotheses. -/

namespace Sys2Proof.Tests

open Sys2Proof Sys2Proof.Machine

/-- The device in service: every milestone reached, port 0 up in CXL mode with several LDs, and CCS 3.2 negotiated by seats 0 and 1. -/
def up : State :=
  { State.reset with
    dev := { State.reset.dev with
      fwReady := true, memActive := true, mapReady := true, admitOpen := true, epochsDue := false, rootLock := true, rootRosc := false
      portLock := 255 }
    ports := State.reset.ports.upd 0 fun p => { p with linkUp := true, width := 16, speed := 4, cxlMode := true, mld := true }
    seats := (State.reset.seats.upd 0 fun t => { t with negVersion := 0x0302 }).upd 1 fun t => { t with negVersion := 0x0302 } }

/-- An envelope of a seat with a body of this length, version 3.2. -/
def env (seat body : Nat) : Env :=
  { seat := seat, verMajor := 3, verMinor := 2, deferOk := true, tag := 7, hostTime := 9, bodyLen := body, payloadLen := 64 + body }

/-- The envelope of a command with the body its row gives, or one entry of 64 B. -/
def envOf (o : OpInfo) (seat : Nat) : Env := env seat (o.body.getD 64)

/-- The outcome is a next state. -/
def goesOn : Host.Outcome State Fault Refusal → Bool
  | .next _ => true
  | _ => false

/-- A small Serve partition. -/
def serveBody : LoadBody :=
  { part := 0, mode := 0, format := 0, tprLog2 := 4, layers := 1, kvHeads := 1, qHeads := 1, headDim := 32, vocab := 2, slots := 64
    modelId := 77 }

/-- A small Stash partition. -/
def stashBody : LoadBody := { part := 1, mode := 1, format := 0, tprLog2 := 4, layers := 1, slots := 64, modelId := 78 }

/-- A request of seat 0 on partition 0, with one full reach and one begun. -/
def request : Rt :=
  { state := .active, seat := 0, part := 0, length := 16, promptLen := 8, maxLen := 32, own := 32, eddy := true, frames := 2
    reaches := [⟨false, 0⟩, ⟨false, 1⟩], slots := [0, 1] }

/-- A device with work of every kind: a Serve and a Stash partition, requests, a step ring, windows, regions and images. -/
def rich : State :=
  { up with
    lds := (up.lds.upd 0 fun d => { d with alloc := 2 ^ 40, sessions := 1 }).upd 1 fun d => { d with alloc := 2 ^ 40 }
    seats := up.seats.upd 0 fun t => { t with
      maxEntries := 100, maxFrames := 100000, limits := { t.limits with dbSize := 2 ^ 38 }
      windows := [⟨1, 1, 1, 0, 2 ^ 25⟩, ⟨2, 2, 1, 0, 2 ^ 25⟩, ⟨3, 3, 1, 0, 2 ^ 25⟩, ⟨4, 4, 1, 0, 2 ^ 25⟩, ⟨5, 5, 1, 0, 2 ^ 25⟩]
      rings := t.rings.upd 0 fun r => { r with live := true, part := 0, sqLog2 := 6, cqLog2 := 6, sqBase := 0, cqBase := 4096, stored := [(0, 0)] } }
    parts := (up.parts.upd 0 fun p => { p with state := .resident, body := serveBody, stepNo := 5, cap := 100000 }).upd 1 fun p =>
      { p with state := .resident, body := stashBody, cap := 100000, runs := [{ run := 3, seat := 0, budget := 8, maxObjects := 4 }] }
    rt := ((((up.rt.set 1 request).set 2 { request with state := .prefill, slots := [2, 3], reaches := [⟨false, 2⟩, ⟨false, 3⟩] }).set 3
      { request with state := .parked, slots := [] }).set 4 { request with slots := [6, 7], reaches := [⟨false, 6⟩, ⟨false, 7⟩] }).set 5
      { request with slots := [8, 9], reaches := [⟨false, 8⟩, ⟨false, 9⟩] }
    rtNext := 6
    regions := [{ id := 1, seat := 0, resident := true, base := 0, size := 2 ^ 21, data := [(1024, 1#8)] },
      { id := 2, seat := 0, resident := true, shared := true, base := 2 ^ 40 - 2 ^ 21, size := 2 ^ 21, grants := [(1, 2)] },
      { id := 3, seat := 0, parkable := true, base := 2 ^ 22, size := 2 ^ 21 },
      { id := 4, seat := 0, parkable := true, base := 2 ^ 23, size := 2 ^ 21, st := .parked }]
    images := [{ modelId := 90, body := { serveBody with modelId := 90, part := 4 }, owner := none, metaBytes := 0 }]
    parks := [{ pid := 1, handle := some 1536, ticket := none, part := 0, seat := 0, expiry := 1000, units := 1
                saved := { request with slots := [], sel := 0 } },
      { pid := 2, handle := none, ticket := some 55, part := 0, seat := 0, expiry := 1000, units := 1, saved := request }]
    tickets := [⟨55, 0⟩]
    nodes := [{ idx := 65, digest := 1234, check := 0, slot := 20, len := 16, rows := 16, part := 0 }]
    pins := [(65, 0)]
    tenants := up.tenants.set 9 { exists_ := true, cap := 10 }
    hup := { up.hup with present := true, healthy := true, chg := .ready } }

/-- The device with a record at the head of seat 0's ring 0, whose listed bytes are given, the others 0. -/
def withRecord (l : List (Nat × Byte)) (s : State) : State := updRegion 1 (fun r => { r with data := l }) s

/-- The 64 bytes of that record. -/
def recordBytes (l : List (Nat × Byte)) : List Byte := memBytes l 0 64

/-- The device in a step of partition 0 that keeps one request. -/
def stepping : State :=
  updPart 0 (fun p => { p with step := { p.step with
    cond := .open_, window := 1, kept := [{ handle := 512, len := 16 }], items := [{ handle := 512, layer := 0 }] } }) rich

/-- The device attending that request's one item. -/
def serving : State :=
  updPart 0 (fun p => { p with step := { p.step with items := [{ handle := 512, layer := 0, started := some 0 }] } })
    { stepping with svc := { stepping.svc with inService := some (0, 0), halfA := some { part := 0, idx := 0, pass := 0, ready := true } } }

/-- The device in a formed pool set of two. -/
def inSet : State :=
  { rich with pset := { phase := .formed, setId := 1, n := 2, index := 0, setTo := 1000, rebuild := true, members := [{ index := 1, window := 5 }] } }

/-- The device with one operation that runs. -/
def running (k : OpKind) (s : State) : State :=
  { s with ops := [{ n := 4, seat := 0, kind := k, deferred := true, tag := 0, hostTime := 0, tPosted := 0, tAccept := 0 }], opCtr := 5 }


set_option maxRecDepth 4000 in
/-- A running operation of seat 0 is found by its OPID, whatever that is. -/
theorem test_getOperation_opid (o : Op) (h : o.deferred = true) :
    let s := { rich with ops := [o] }; let e := envOf Op.getOperation 0; let u := accepted Op.getOperation e [] s;
    served Op.getOperation e [] s = true ∧ opOfId u e.seat (Config.opid o.n).toNat = some o := by
  intro s e u
  refine ⟨rfl, ?_⟩
  have : u.ops = [o] := rfl
  simp [opOfId, this, h, e, envOf, env]

theorem test_shoalEncode_raw :
    let s := rich; let e := envOf Op.shoalEncode 0; let u := accepted Op.shoalEncode e [] s;
    served Op.shoalEncode e [] s = true ∧ placedOk u 0 0 65536 64 = true ∧
      placedOk u 0 (2 ^ 20) (encodeResult 0 0 0 u).2.length 64 = true ∧ hdmDamaged u 0 0 65536 = false := by
  intro s e u
  have h : (encodeResult 0 0 0 u).2.length = 65536 := by
    have : hdmBytes u 0 0 65536 = some (memBytes [(1024, 1#8)] 0 65536) := rfl
    rw [encodeResult, this]
    have h2 : ∀ l : List Byte, (shoalUnit 0 0 l).2 = l := fun l => rfl
    rw [Option.getD_some, h2, memBytes, List.length_map, List.length_range]
  rw [h]
  decide

/-- Zero nibbles of class 7 are one bit each. -/
theorem test_readBlock_zeros (k : Nat) : ∀ n i : Nat, readBlock 7 0 0 n i (List.replicate (2 * n + k) false) = some (List.replicate n 0#8)
  | 0, _ => rfl
  | n + 1, i => by
    rw [show 2 * (n + 1) + k = (2 * n + k) + 1 + 1 by omega, List.replicate_succ, List.replicate_succ]
    have h : ∀ l, readNibble (some ⟨false, false⟩) 0 0 (false :: l) = some (0, l) := fun l => by
      simp [readNibble, readCode, codeOf, Lane12.table, shoalTL, stripPrefix, List.range, List.range.loop]
    have hl : nibLane 7 i false = some ⟨false, false⟩ := rfl
    have hh : nibLane 7 i true = some ⟨false, false⟩ := rfl
    simp only [readBlock, hl, hh, h, test_readBlock_zeros k n (i + 1)]
    rfl

theorem test_bits_zeros : ∀ n : Nat, ((List.replicate n 0#8).map byteBits).flatten = List.replicate (8 * n) false
  | 0 => rfl
  | n + 1 => by
    rw [List.replicate_succ, List.map_cons, List.flatten_cons, test_bits_zeros n, show 8 * (n + 1) = 8 + 8 * n by omega,
      ← List.replicate_append_replicate]
    rfl

/-- A block of zeros in class 7: 65 units of 16 zero bytes. -/
theorem test_decodeBlock_zeros : decodeBlock 7 64 (List.replicate 1040 0#8) = some (List.replicate 4096 0#8) := by
  have h : (List.replicate 1040 (0#8)).drop 1 = List.replicate 1039 0#8 := List.drop_replicate ..
  have h0 : ((List.replicate 1040 (0#8)).headD 0).toNat = 0 := rfl
  unfold decodeBlock
  rw [if_neg (by decide), if_neg (by decide), h, test_bits_zeros, h0]
  exact test_readBlock_zeros 120 4096 0

theorem test_decodeBlocks_zeros : ∀ n i : Nat, decodeBlocks 7 7 i (List.replicate n 64) (List.replicate (1040 * n) 0#8) =
    some (List.replicate (4096 * n) 0#8)
  | 0, _ => rfl
  | n + 1, i => by
    rw [List.replicate_succ, decodeBlocks]
    simp only [ite_self, List.take_replicate, List.drop_replicate]
    rw [show min (16 * (64 + 1)) (1040 * (n + 1)) = 1040 by omega, test_decodeBlock_zeros,
      show 1040 * (n + 1) - 16 * (64 + 1) = 1040 * n by omega]
    simp only [test_decodeBlocks_zeros n (i + 1), Option.map_some, List.replicate_append_replicate]
    rw [show 4096 + 4096 * n = 4096 * (n + 1) by omega]

/-- The object of 65,536 zero bytes in class 7. -/
def codedZeros : List Byte :=
  List.replicate 16 64#8 ++ [7#8, 7#8, 1#8] ++ List.replicate 13 0#8 ++ List.replicate 16640 0#8

theorem test_shoalDecode_zeros : shoalDecode codedZeros = some (List.replicate 65536 0#8) := by
  have hl : codedZeros.length = 16672 := by
    simp only [codedZeros, List.length_append, List.length_replicate, List.length_cons, List.length_nil]
  have hd : codedZeros.drop 32 = List.replicate (1040 * 16) 0#8 := by
    unfold codedZeros
    rw [List.drop_append, List.length_append, List.length_append, List.length_replicate, List.length_replicate]
    rfl
  have hg : ∀ i, i < 32 → codedZeros.getD i 0 = (List.replicate 16 64#8 ++ [7#8, 7#8, 1#8] ++ List.replicate 13 0#8).getD i 0 := by
    intro i hi
    unfold codedZeros
    rw [List.getD_eq_getElem?_getD, List.getD_eq_getElem?_getD, List.getElem?_append_left hi]
  unfold shoalDecode
  have hls : (List.range 16).map (fun i => (codedZeros.getD i 0).toNat) = List.replicate 16 64 := by
    rw [show (List.replicate 16 64 : List Nat) = (List.range 16).map fun _ => 64 by decide]
    apply List.map_congr_left
    intro i hi
    rw [hg i (by simp at hi; omega)]
    revert i
    decide
  simp only [hls, hd, hl, hg 16 (by omega), hg 17 (by omega), hg 18 (by omega)]
  rw [if_neg]
  · exact test_decodeBlocks_zeros 16 0
  · have h13 : ((List.range 13).any fun i => (codedZeros.getD (19 + i) 0).toNat != 0) = false := by
      rw [List.any_eq_false]
      intro i hi
      rw [hg _ (by simp at hi; omega)]
      revert i
      decide
    rw [h13]
    decide

theorem test_memBytes_zeros (m : List Host.Cell) (k n : Nat) (hz : ∀ i, k ≤ i → memByte m i = 0#8) :
    memBytes m 0 (k + n) = (List.range k).map (memByte m) ++ List.replicate n 0#8 := by
  unfold memBytes
  rw [List.range_add, List.map_append, List.map_map]
  congr 1
  · simp
  · rw [List.eq_replicate_iff]
    refine ⟨by simp, fun b hb => ?_⟩
    obtain ⟨i, -, rfl⟩ := List.mem_map.mp hb
    simpa using hz (k + i) (by omega)

/-- The cells of that object: its sixteen lengths, its classes and its version. -/
def codedCells : List Host.Cell := (List.range 16).map (fun i => (i, 64#8)) ++ [(16, 7#8), (17, 7#8), (18, 1#8)]

theorem test_codedCells_high (i : Nat) (hi : 19 ≤ i) : memByte codedCells i = 0#8 := by
  have : ∀ m : List Host.Cell, (∀ c ∈ m, c.1 ≠ i) → memByte m i = 0#8 := by
    intro m
    induction m with
    | nil => intro _; rfl
    | cons c m ih =>
      intro h
      have h1 := h c (by simp)
      have h2 := ih fun d hd => h d (by simp [hd])
      unfold memByte at h2 ⊢
      unfold lookupKey
      rw [if_neg h1]
      exact h2
  apply this
  intro c hc
  have : c.1 < 19 := by
    revert c
    decide
  omega

theorem test_codedCells_low : (List.range 19).map (memByte codedCells) = List.replicate 16 64#8 ++ [7#8, 7#8, 1#8] := by decide

theorem test_codedCells_bytes (n : Nat) :
    memBytes codedCells 0 (19 + n) = List.replicate 16 64#8 ++ [7#8, 7#8, 1#8] ++ List.replicate n 0#8 := by
  rw [test_memBytes_zeros codedCells 19 n test_codedCells_high, test_codedCells_low]

theorem test_codedZeros_cells : codedZeros = memBytes codedCells 0 16672 := by
  rw [show 16672 = 19 + (13 + 16640) from rfl, test_codedCells_bytes, ← List.replicate_append_replicate, ← List.append_assoc]
  rfl

/-- Seat 0's first region with these cells. -/
def withCells (m : List Host.Cell) : State :=
  { rich with regions := [{ id := 1, seat := 0, resident := true, base := 0, size := 2 ^ 21, data := m }] }

theorem test_withCells_bytes (m : List Host.Cell) (n : Nat) (h : n ≤ 2 ^ 21) :
    hdmBytes (accepted Op.shoalDecode (envOf Op.shoalDecode 0) [] (withCells m)) 0 0 n = some (memBytes m 0 n) := by
  have : regionAt (accepted Op.shoalDecode (envOf Op.shoalDecode 0) [] (withCells m)) 0 0 n =
      some { id := 1, seat := 0, resident := true, base := 0, size := 2 ^ 21, data := m } := by
    simp [regionAt, accepted, endClaims, takeCmd, withCells, updMbx, updSeat, within]
    omega
  simp [hdmBytes, this]

theorem test_shoalDecode_placed :
    let s := withCells codedCells; let e := envOf Op.shoalDecode 0; let u := accepted Op.shoalDecode e [] s;
    served Op.shoalDecode e [] s = true ∧ placedOk u 0 0 16672 64 = true ∧ placedOk u 0 (2 ^ 20) 65536 64 = true ∧
      hdmDamaged u 0 0 16672 = false ∧ (hdmBytes u 0 0 16672).bind shoalDecode = some (List.replicate 65536 0#8) := by
  refine ⟨by decide, by decide, by decide, by decide, ?_⟩
  rw [test_withCells_bytes _ _ (by decide), ← test_codedZeros_cells, Option.bind_some, test_shoalDecode_zeros]

/-- At most 66 blocks of a die are bad from the factory, so of 67 in a row one is not. -/
theorem test_someGoodBlock (c d n : Nat) : ∃ b, n ≤ b ∧ b ≤ n + 66 ∧ factoryBad c d b = false := by
  by_cases h : ∃ b, n ≤ b ∧ b < n + 66 ∧ Config.factoryMark c d b = false
  · obtain ⟨b, h1, h2, h3⟩ := h
    exact ⟨b, h1, by omega, by simp [factoryBad, h3]⟩
  · refine ⟨n + 66, by omega, by omega, ?_⟩
    have hm : ∀ b, n ≤ b → b < n + 66 → Config.factoryMark c d b = true := fun b h1 h2 => by
      cases hb : Config.factoryMark c d b with
      | true => rfl
      | false => exact absurd ⟨b, h1, h2, hb⟩ h
    have hk : ∀ k, k ≤ 66 → k ≤ ((List.range (n + k)).filter (Config.factoryMark c d)).length := by
      intro k
      induction k with
      | zero => omega
      | succ k ih =>
        intro hk
        rw [show n + (k + 1) = n + k + 1 by omega, List.range_succ, List.filter_append, List.length_append]
        have := hm (n + k) (by omega) (by omega)
        simp [this]
        exact ih (by omega)
    have := hk 66 (by omega)
    simp [factoryBad]
    omega

/-- A lane has a good block. -/
theorem test_goodBlock : ∃ b, 991 < 992 ∧ b < 3724 ∧ goodBlock rich 991 b = true := by
  obtain ⟨b, _, h, hb⟩ := test_someGoodBlock (laneDie rich 991).1 (laneDie rich 991).2 0
  have hc : ((rich.flash.lanes.get 991).blocks.get b).st = .free := rfl
  refine ⟨b, by decide, by omega, ?_⟩
  have : b < 3716 := by omega
  simp [goodBlock, hb, hc, this]

theorem test_le_foldl_max (x : Nat) : ∀ (l : List Nat) (m : Nat), x ≤ m ∨ x ∈ l → x ≤ l.foldl max m
  | [], m, h => by simpa using h
  | a :: l, m, h => by
    rw [List.foldl_cons]
    apply test_le_foldl_max x l
    rw [List.mem_cons] at h
    rcases h with h | h | h
    · exact .inl (by omega)
    · exact .inl (by omega)
    · exact .inr h

theorem test_filter_one (p : Nat → Bool) (n b : Nat) (hb : b < n) (h : p b = true) (hp : ∀ k, p k = true → k = b) :
    (List.range n).filter p = [b] := by
  have : p = (· == b) := by
    funext k
    by_cases hk : k = b
    · simp [hk, h]
    · cases hp' : p k with
      | true => exact absurd (hp k hp') hk
      | false => simp [hk]
  have hn : List.Nodup (List.range n) := List.nodup_range
  rw [this, List.filter_beq, hn.count, if_pos (List.mem_range.mpr hb)]
  rfl

/-- A lane whose one closed block has never been erased, and of whose other blocks one has been erased 201 times. -/
def wornLane (a b : Nat) : State :=
  { rich with flash := { rich.flash with lanes := rich.flash.lanes.upd 991 fun l =>
    { l with blocks := { dflt := {}, cells := [(a, { erase := 201 }), (b, { st := .closed })] } } } }

theorem test_staticLevelling : ∃ a b, let s := wornLane a b; let er := fun k => ((s.flash.lanes.get 991).blocks.get k).erase;
    991 < 992 ∧ leastBlock er (blocksIn s 991 .closed) = some b ∧ er b + 200 < ((goodBlocks s 991).map er).foldl max 0 := by
  obtain ⟨a, _, ha, h⟩ := test_someGoodBlock (laneDie rich 991).1 (laneDie rich 991).2 0
  obtain ⟨b, hb0, hb, h2⟩ := test_someGoodBlock (laneDie rich 991).1 (laneDie rich 991).2 100
  refine ⟨a, b, ?_⟩
  intro s er
  have hg : ∀ k, ((s.flash.lanes.get 991).blocks.get k) = if k = a then { erase := 201 } else if k = b then { st := .closed } else {} := by
    intro k
    have : (s.flash.lanes.get 991).blocks = { dflt := {}, cells := [(a, { erase := 201 }), (b, { st := .closed })] } := by
      rfl
    rw [this]
    simp only [Tab.get, lookupKey, eq_comm (a := a), eq_comm (a := b)]
    split
    · rfl
    · split <;> rfl
  have hd : laneDie s 991 = laneDie rich 991 := rfl
  have ab : b ≠ a := by omega
  have ea : er a = 201 := by simp [er, hg]
  have eb : er b = 0 := by simp [er, hg, ab]
  have ga : goodBlock s 991 a = true := by
    simp [goodBlock, hd, h, hg, show a < 3716 by omega]
  have gb : goodBlock s 991 b = true := by
    simp [goodBlock, hd, h2, hg, ab, show b < 3716 by omega]
  refine ⟨by decide, ?_, ?_⟩
  · have : blocksIn s 991 .closed = [b] := by
      unfold blocksIn goodBlocks
      rw [List.filter_filter]
      refine test_filter_one _ _ _ (by omega) (by simp [gb, hg, ab]) fun k hk => ?_
      simp only [hg, Bool.and_eq_true, decide_eq_true_eq] at hk
      by_cases h0 : k = a
      · simp [h0] at hk
      · by_cases h1 : k = b
        · exact h1
        · simp [h0, h1] at hk
    rw [this]
    rfl
  · have hm : 201 ≤ ((goodBlocks s 991).map er).foldl max 0 :=
      test_le_foldl_max 201 _ 0 (.inr (List.mem_map.mpr ⟨a, List.mem_filter.mpr ⟨List.mem_range.mpr (by omega), ga⟩, ea⟩))
    omega

/-- A device with one dirty frame, written half a second ago, and room in the open block of the lane of its home. -/
def dirtyOne : State :=
  updDev (fun d => { d with devtime := 500000000 })
    { rich with
      frames := [{ key := .region 3 0, firstDirty := 0, lastWrite := 0 }]
      flash := { rich.flash with
        homes := [(.region 3 0, 992)], lanes := rich.flash.lanes.upd 0 fun l => { l with host := some (5, 0) } } }

theorem test_storedLen (a b : Nat) (d : List Byte) : storedLen a b d ≤ 4095 := by
  unfold storedLen
  split
  rename_i raw b' h
  split
  · omega
  · unfold shoalUnit at h
    split at h
    · simp_all
    · simp only at h
      split at h
      · simp only [Prod.mk.injEq] at h
        obtain ⟨-, rfl⟩ := h
        omega
      · simp_all

theorem test_progLen (s : State) (u : UnitKey) (a b : Nat) : (progOf s u a b).len ≤ 4095 := test_storedLen _ _ _

theorem test_placeUnit (fuel l : Nat) (gc flush : Bool) (unit len : Nat) (s : State) (h : hasRoom s l gc len = true) :
    (placeUnit fuel l gc flush unit len s).isSome = true := by
  cases fuel with
  | zero =>
    show (if hasRoom s l gc len then some (appendUnit l gc unit len s) else none).isSome = true
    rw [if_pos h, Option.isSome_some]
  | succ n =>
    show (if hasRoom s l gc len then some (appendUnit l gc unit len s) else _).isSome = true
    rw [if_pos h, Option.isSome_some]

theorem test_dirtyOne_unit : unitNo dirtyOne (.region 3 0) = some 992 := rfl

theorem test_dirtyOne_room (len : Nat) (h : len ≤ 4095) : hasRoom dirtyOne 0 false len = true := by
  have : (dirtyOne.flash.lanes.get 0).host = some (5, 0) := rfl
  simp only [hasRoom, this, slotsOf, ceilDiv, blockSlots, Bool.false_eq_true, if_false]
  split <;> simp <;> omega

theorem test_dirtyOne_place (len : Nat) (h : len ≤ 4095) : (place false false 992 len dirtyOne).isSome = true := by
  have hd : ¬((dirtyOne.flash.lanes.get 0).cond = .dead ∨ (!false && journalFull dirtyOne) = true) := by decide
  rw [place, show laneOf 992 = 0 by decide]
  simp only [Bool.or_eq_true, decide_eq_true_eq, if_neg hd]
  exact test_placeUnit _ _ _ _ _ _ _ (test_dirtyOne_room len h)

theorem test_dirtyOne_parity (d : List Byte) : parityProgram false (.region 3 0) d dirtyOne = dirtyOne := by
  have h1 : parityUnit dirtyOne (.region 3 0) = false := rfl
  have h2 : parityIndex dirtyOne (.region 3 0) = none := rfl
  rw [parityProgram, takeParity, h1]
  simp [h2]

theorem test_dirtyOne_next : nextWriteBack dirtyOne = some { key := .region 3 0, firstDirty := 0, lastWrite := 0 } := by
  have hl : laneOfFrame dirtyOne { key := .region 3 0, firstDirty := 0, lastWrite := 0 } = 0 := by
    show laneOf ((unitNo dirtyOne (.region 3 0)).getD (freshUnit dirtyOne)) = 0
    rw [test_dirtyOne_unit, Option.getD_some]
    decide
  have hc : ((dirtyOne.flash.lanes.get 0).cond != LaneCond.dead) = true := by decide
  have ho : laneOpen dirtyOne 0 = true := by
    unfold laneOpen
    rw [test_dirtyOne_room 0xFFF (by omega), hc, Bool.or_true, Bool.and_true]
  have hw : programWaits dirtyOne (laneOfFrame dirtyOne { key := .region 3 0, firstDirty := 0, lastWrite := 0 }) = false := by
    rw [hl]
    unfold programWaits
    rw [ho]
    decide
  have he : eligible dirtyOne { key := .region 3 0, firstDirty := 0, lastWrite := 0 } = true := by decide
  have hi : dirtyOne.flash.inflight = [] := rfl
  have hf : dirtyOne.frames = [{ key := .region 3 0, firstDirty := 0, lastWrite := 0 }] := rfl
  rw [nextWriteBack, hf, List.filter_cons, he, hw, hi]
  rfl

theorem test_nextWriteBack :
    dirtyOne.dev.memActive = true ∧ dirtyOne.pwr.held.contains 57 = false ∧ hbmHalted dirtyOne = false ∧
      nextWriteBack dirtyOne = some { key := .region 3 0, firstDirty := 0, lastWrite := 0 } ∧
      unitOfFrame dirtyOne (.region 3 0) = some (.region 3 0, 0) ∧ giveUnit (.region 3 0) dirtyOne = dirtyOne ∧
      (unitNo dirtyOne (.region 3 0)).getD 0 = 992 ∧
      ∀ q, q = progOf dirtyOne (.region 3 0) 992 0 →
        (place false false 992 q.len (parityProgram false (.region 3 0) (memBytes q.data 0 65536) dirtyOne)).isSome = true := by
  refine ⟨rfl, rfl, rfl, test_dirtyOne_next, rfl, ?_, by rw [test_dirtyOne_unit]; rfl, fun q hq => ?_⟩
  · rw [giveUnit, test_dirtyOne_unit]
    rfl
  · rw [test_dirtyOne_parity]
    exact test_dirtyOne_place _ (hq ▸ test_progLen ..)


theorem test_nibbles_zeros : ∀ n i : Nat, nibbles 7 i (List.replicate n 0#8) = List.replicate (2 * n) (0, some ⟨false, false⟩)
  | 0, _ => rfl
  | n + 1, i => by
    rw [show 2 * (n + 1) = 2 * n + 1 + 1 by omega, List.replicate_succ, List.replicate_succ, List.replicate_succ, nibbles,
      test_nibbles_zeros n (i + 1)]
    rfl

theorem test_foldl_replicate {α : Type} (f : Nat → α → Nat) (x : α) (k : Nat) (h : ∀ t, f t x = t + k) : ∀ m t : Nat,
    (List.replicate m x).foldl f t = t + m * k
  | 0, t => by simp
  | m + 1, t => by
    rw [List.replicate_succ, List.foldl_cons, h, test_foldl_replicate f x k h m, Nat.succ_mul]
    omega

theorem test_laneCost_zeros (c m : Nat) :
    laneCost (List.replicate m (0, some ⟨false, false⟩)) false c = m * (codeOf ⟨false, false⟩ (16 - c)).length := by
  unfold laneCost
  rw [test_foldl_replicate _ _ (codeOf ⟨false, false⟩ (16 - c)).length (fun t => by simp)]
  exact Nat.zero_add _

theorem test_centre_zeros : centreOf (List.replicate 8192 (0, some ⟨false, false⟩)) false = 0 := by
  have h : ∀ ns : List (Nat × Option Lane12), (∀ c, laneCost ns false c = 8192 * (codeOf ⟨false, false⟩ (16 - c)).length) →
      centreOf ns false = 0 := by
    intro ns hns
    unfold centreOf
    simp only [hns]
    decide
  exact h _ fun c => test_laneCost_zeros c 8192

theorem test_stream_zeros (m z : Nat) : (blockStream (List.replicate m (0, some ⟨false, false⟩)) 0 z).length = 8 + m := by
  have hs : ∀ n : Nat, (List.replicate n 1).sum = n := fun n => by
    induction n with
    | zero => rfl
    | succ n ih => rw [List.replicate_succ, List.sum_cons, ih]; omega
  rw [blockStream, List.length_append, List.length_flatten, List.map_map, List.map_replicate]
  simp only [Function.comp_apply]
  rw [show (codeOf ⟨false, false⟩ (0 + 16 - if false = true then z else 0)).length = 1 from by rw [if_neg Bool.false_ne_true]; rfl, hs]
  rfl

theorem test_shoalBlock_of (data : List Byte) (ha : centreOf (nibbles 7 0 data) false = 0)
    (hs : ∀ z, (blockStream (nibbles 7 0 data) 0 z).length = 8200) :
    (shoalBlock 7 data).1 = 64 ∧ (shoalBlock 7 data).2.length = 1040 := by
  have hp : ∀ n l, (packBits n l).length = n := by
    intro n
    induction n with
    | zero => intro l; rfl
    | succ n ih => intro l; rw [packBits, List.length_cons, ih]
  unfold shoalBlock
  rw [if_neg (by decide)]
  simp only [ha, hs]
  rw [show ceilDiv 8200 128 = 65 by decide, if_pos (by decide)]
  exact ⟨rfl, hp ..⟩

/-- A block of zeros in class 7 codes in 65 units of 16 bytes. -/
theorem test_shoalBlock_zeros (data : List Byte) (h : data = List.replicate 4096 0#8) :
    (shoalBlock 7 data).1 = 64 ∧ (shoalBlock 7 data).2.length = 1040 := by
  have hn : nibbles 7 0 data = List.replicate 8192 (0, some ⟨false, false⟩) := h ▸ test_nibbles_zeros 4096 0
  apply test_shoalBlock_of
  · rw [hn]
    exact test_centre_zeros
  · intro z
    rw [hn]
    exact test_stream_zeros 8192 z

theorem test_shoalUnit_of (data : List Byte) (h : ∀ i < 16, (shoalBlock 7 (unitBlock data i)).2.length = 1040) :
    (shoalUnit 7 7 data).1 = false := by
  have hm : ((List.range 16).map fun i => (shoalBlock 7 (unitBlock data i)).2.length).sum = 16640 := by
    rw [List.map_congr_left fun i hi => h i (List.mem_range.mp hi)]
    decide
  unfold shoalUnit
  rw [if_neg (by decide)]
  simp only [ite_self]
  rw [if_pos]
  simp only [List.length_append, List.length_map, List.length_range, List.length_flatten, List.map_map, List.length_replicate]
  rw [show ((fun x => x.length) ∘ (fun x => x.2) ∘ fun i => shoalBlock 7 (unitBlock data i)) =
    fun i => (shoalBlock 7 (unitBlock data i)).2.length from rfl, hm]
  decide

theorem test_unitBlock_zeros (n i : Nat) (h : 4096 * (i + 1) ≤ n) : unitBlock (List.replicate n 0#8) i = List.replicate 4096 0#8 := by
  rw [unitBlock, List.drop_replicate, List.take_replicate, Nat.min_eq_left (by omega)]

/-- A map unit of zeros is stored as an object. -/
theorem test_shoalUnit_zeros (data : List Byte) (h : data = List.replicate 65536 0#8) : (shoalUnit 7 7 data).1 = false :=
  test_shoalUnit_of data fun i hi =>
    (test_shoalBlock_zeros _ ((congrArg (unitBlock · i) h).trans (test_unitBlock_zeros _ i (by omega)))).2
/-- The device with an open block in every lane. -/
def openLanes : State := { rich with flash := { rich.flash with lanes := { dflt := { host := some (5, 0) } } } }

theorem test_programMeta (u : UnitKey) (s : State) (h : s.flash.lanes = { dflt := { host := some (5, 0) } })
    (hj : journalFull s = false) : (programMeta u s).isSome = true := by
  have hj' : journalFull (giveUnit u s) = journalFull s := by
    unfold giveUnit
    split <;> rfl
  have hg : (giveUnit u s).flash.lanes = s.flash.lanes := by
    unfold giveUnit
    split <;> rfl
  have hl : ∀ l, (giveUnit u s).flash.lanes.get l = { host := some (5, 0) } := fun l => by rw [hg, h]; rfl
  have hr : ∀ l, hasRoom (giveUnit u s) l false 0xFFF = true := fun l => by
    simp only [hasRoom, Bool.false_eq_true, if_false, hl]
    decide
  have hd : ∀ l, ¬(((giveUnit u s).flash.lanes.get l).cond = .dead ∨ (!false && journalFull (giveUnit u s)) = true) := fun l => by
    rw [hl, hj', hj]; decide
  unfold programMeta
  simp only [Option.isSome_map]
  rw [place]
  simp only [Bool.or_eq_true, decide_eq_true_eq, if_neg (hd _)]
  exact test_placeUnit _ _ _ _ _ _ _ (hr _)

/-- A partition that swaps out with nothing dirty. -/
def swappingOne : State :=
  updPart 0 (fun p => { p with state := .swappingOut }) { openLanes with swap := some { out := true, part := 0, release := false, op := 0 } }

theorem test_swapOut :
    let s := swappingOne; let w : Swap := { out := true, part := 0, release := false, op := 0 }
    s.swap = some w ∧ w.out = true ∧ s.dev.memActive = true ∧ flashClosed s = false ∧ (s.parts.get w.part).state = .swappingOut ∧
      (swapOutEnd w s).isSome = true := by
  intro s w
  refine ⟨rfl, rfl, rfl, rfl, rfl, ?_⟩
  have hb : writeBackAll (frameOfPart s 0) s = some s := rfl
  have hn : (List.range (imageBytes s 0 / 65536)).map (fun j => UnitKey.image 77 j) = [.image 77 0] := by decide
  have hf : (freeImageMeta 77 s).flash.lanes = s.flash.lanes := rfl
  have hm := test_programMeta (.image 77 0) (freeImageMeta 77 s) (hf.trans rfl) rfl
  have hw : (writeImage 0 (some 0) s).isSome = true := by
    unfold writeImage
    simp only [Option.isSome_map]
    rw [show ((s.parts.get 0).body.modelId) = 77 from rfl, hn]
    exact hm
  unfold swapOutEnd swapOutData
  simp only [Option.isSome_map]
  rw [show w.part = 0 from rfl, hb]
  exact hw

/-- A request without Eddy that parks, of a partition with nothing dirty. -/
def parkingOne : State :=
  running (.park 512 1 false) (updRt 512 (fun r => { r with state := .parking, eddy := false }) openLanes)

theorem test_parkEnd :
    let s := parkingOne; let o : Op := { n := 4, seat := 0, kind := .park 512 1 false, deferred := true, tag := 0, hostTime := 0, tPosted := 0, tAccept := 0 }
    opOf s 4 = some o ∧ o.kind = .park 512 1 false ∧ bulkTurn s (parkReady s) 4 = true ∧ (parkEnd o 512 1 false s).isSome = true := by
  intro s o
  refine ⟨rfl, rfl, by decide, ?_⟩
  have hb : writeBackAll (frameOfRt s (handleRti 512)) s = some s := rfl
  have hn : (List.range (parkUnits s (rtOf s 512))).map (fun j => UnitKey.parkRec 0 j) = [.parkRec 0 0] := by decide
  have hm := test_programMeta (.parkRec 0 0) (homesToPark 0 0 (homeSlots s (rtOf s 512)) s) rfl rfl
  have hw : (parkData 512 0 s).isSome = true := by
    unfold parkData
    simp only [Option.isSome_map]
    rw [hb, Option.bind_some, hn]
    exact hm
  unfold parkEnd
  simp only [Option.isSome_map]
  exact hw
/-- A lane of channel 31 with one closed block, or none. -/
def scrubOne (b : Option Nat) : State :=
  { rich with flash := { rich.flash with lanes := rich.flash.lanes.upd 991 fun l =>
    { l with blocks := { dflt := {}, cells := (b.map fun k => (k, { st := .closed })).toList } } } }

theorem test_scrub_lanes (b : Option Nat) : lanesOn (scrubOne b) 31 = (List.range 31).map fun i => 32 * i + 31 := by
  have h : ∀ l, laneDie (scrubOne b) l = (l % 32, l / 32) := by
    intro l
    have : ((scrubOne b).flash.lanes.get l).moved = none := by
      by_cases hl : l = 991
      · subst hl; rfl
      · have h1 : (scrubOne b).flash.lanes.get l = rich.flash.lanes.get l := by simp [scrubOne, hl]
        rw [h1]
        rfl
    simp [laneDie, this]
  unfold lanesOn
  simp only [h]
  decide +kernel

theorem test_scrub_other (b : Option Nat) (l : Nat) (h : l ≠ 991) : blocksIn (scrubOne b) l .closed = [] := by
  have h1 : (scrubOne b).flash.lanes.get l = rich.flash.lanes.get l := by simp [scrubOne, h]
  have h2 : ∀ k, ((rich.flash.lanes.get l).blocks.get k).st = .free := fun _ => rfl
  simp [blocksIn, List.filter_eq_nil_iff, h1, h2]

theorem test_scrub_none : channelBlocks (scrubOne none) 31 = [] := by
  have h : ∀ l, blocksIn (scrubOne none) l .closed = [] := fun l => by
    by_cases hl : l = 991
    · subst hl
      have h2 : ∀ k, (((scrubOne none).flash.lanes.get 991).blocks.get k).st = .free := fun _ => rfl
      simp [blocksIn, List.filter_eq_nil_iff, h2]
    · exact test_scrub_other _ _ hl
  simp [channelBlocks, h]

theorem test_scrub_one (b : Nat) (hb : b < 3716) (hf : factoryBad 31 30 b = false) :
    channelBlocks (scrubOne (some b)) 31 = [(30 * 3724 + b, 991)] := by
  have hd : laneDie (scrubOne (some b)) 991 = (31, 30) := rfl
  have hg : ∀ k, (((scrubOne (some b)).flash.lanes.get 991).blocks.get k) = if k = b then { st := .closed } else {} := by
    intro k
    have : ((scrubOne (some b)).flash.lanes.get 991).blocks = { dflt := {}, cells := [(b, { st := .closed })] } := rfl
    rw [this]
    simp only [Tab.get, lookupKey, eq_comm (a := b)]
    split <;> rfl
  have h1 : blocksIn (scrubOne (some b)) 991 .closed = [b] := by
    unfold blocksIn goodBlocks
    rw [List.filter_filter]
    refine test_filter_one _ _ _ (by omega) (by simp [goodBlock, hd, hf, hg, hb]) fun k hk => ?_
    simp only [hg, Bool.and_eq_true, decide_eq_true_eq] at hk
    by_cases h1 : k = b
    · exact h1
    · simp [h1] at hk
  have h0 : ∀ l ∈ (List.range 30).map fun i => 32 * i + 31, blocksIn (scrubOne (some b)) l .closed = [] := by
    intro l hl
    obtain ⟨i, hi, rfl⟩ := List.mem_map.mp hl
    have := List.mem_range.mp hi
    exact test_scrub_other _ _ (by omega)
  have h2 : (((List.range 30).map fun i => 32 * i + 31).map fun l => (blocksIn (scrubOne (some b)) l .closed).map fun k =>
      ((laneDie (scrubOne (some b)) l).2 * 3724 + k, l)).flatten = [] := by
    rw [List.flatten_eq_nil_iff]
    intro x hx
    obtain ⟨l, hl, rfl⟩ := List.mem_map.mp hx
    rw [h0 l hl]
    rfl
  unfold channelBlocks
  rw [test_scrub_lanes, show 31 = 30 + 1 from rfl, List.range_succ, List.map_append, List.map_append, List.flatten_append, h2]
  simp [h1, hd]

theorem test_FlashEventsAct_10 : ∃ s k, let channel := 31; let lane := 991;
    let u := if (s.flash.scrub.get channel).2.2 + 604800 ≤ s.dev.parkClock then nextFlashPass channel s else s; let x := u.flash.scrub.get channel
    let bs := channelBlocks u channel
    channel < 32 ∧ scrubNext u (256 + channel) x.1 x.2.1 (bs.map (·.1)) = some k ∧ lookupKey (k % 2 ^ 20) bs = some lane := by
  obtain ⟨b, _, h, hf⟩ := test_someGoodBlock 31 30 0
  refine ⟨scrubOne (some b), scrubPlace (scrubOne (some b)) 287 0 (30 * 3724 + b), ?_⟩
  intro channel lane u x bs
  have hu : u = scrubOne (some b) := rfl
  have hbs : bs = [(30 * 3724 + b, 991)] := by
    show channelBlocks u 31 = _
    rw [hu, test_scrub_one b (by omega) hf]
  have hx : x = (0, 0, 0) := rfl
  refine ⟨by decide, ?_, ?_⟩
  · rw [hbs, hx, hu]
    simp [scrubNext, channel]
  · rw [hbs]
    have hk : ∀ y, (y * 2 ^ 20 + (30 * 3724 + b)) % 2 ^ 20 = 30 * 3724 + b := fun y => by omega
    simp only [scrubPlace, hk, lookupKey]
    simp [lane]

theorem test_FlashEventsAct_11 : let s := scrubOne none; let channel := 31;
    let u := if (s.flash.scrub.get channel).2.2 + 604800 ≤ s.dev.parkClock then nextFlashPass channel s else s; let x := u.flash.scrub.get channel
    let bs := channelBlocks u channel
    channel < 32 ∧ scrubNext u (256 + channel) x.1 x.2.1 (bs.map (·.1)) = none := by
  intro s channel u x bs
  have hu : u = scrubOne none := rfl
  have hbs : bs = [] := by
    show channelBlocks u 31 = _
    rw [hu, test_scrub_none]
  exact ⟨by decide, by rw [hbs]; rfl⟩

theorem test_FlashEventsAct_19 : let s := scrubOne none; let channel := 31; let die := 30; let lane := 991;
    channel < 32 ∧ s.flash.failed.contains channel = false ∧ laneOfDie s channel die = some lane := by
  refine ⟨by decide, by decide, ?_⟩
  show laneOfDie (scrubOne none) 31 30 = some 991
  unfold laneOfDie
  rw [test_scrub_lanes]
  rfl

/-- A lane that leaves its die with one unit still there and no block to move it to. -/
def noRoom : State :=
  { rich with flash := { rich.flash with
    lanes := rich.flash.lanes.upd 5 fun l => { l with cond := .evacuating, blocks := { dflt := { st := .closed } } }
    homes := [(.region 3 0, 5)], map := [{ unit := 5, len := 4095, pos := 0, old := true, data := [] }] } }

theorem test_FlashEventsAct_21 : let s := noRoom; let lane := 5;
    let move := fun (x : Option State) (m : MapEnt) => x.bind fun s => (place true false m.unit m.len s).map fun y => moveEntry m.unit y.2 y.1
    let moved := (s.flash.map.filter fun m => m.old && !m.lost && laneOf m.unit = lane).foldl move (some s)
    lane < 992 ∧ (s.flash.lanes.get lane).cond = .evacuating ∧ moved = none := by
  intro s lane move moved
  refine ⟨by decide, rfl, ?_⟩
  have hc : (blocksIn s 5 .free) = [] := by
    have h2 : ∀ k, ((s.flash.lanes.get 5).blocks.get k).st = .closed := fun _ => rfl
    simp [blocksIn, List.filter_eq_nil_iff, h2]
  have hm : mayOpen s 5 true false = false := by
    have hf : freeCount s 5 = 0 := by simp [freeCount, hc]
    simp [mayOpen, hf]
  have hr : hasRoom s 5 true 4095 = false := rfl
  have ho : openBlk 5 true false s = none := by simp [openBlk, hm]
  have hp : ∀ n, placeUnit (n + 1) 5 true false 5 4095 s = none := fun n => by
    show (if hasRoom s 5 true 4095 then some (appendUnit 5 true 5 4095 s) else (openBlk 5 true false s).map _) = none
    rw [hr, ho]
    rfl
  have hq : place true false 5 4095 s = none := by
    rw [place, if_neg (by decide)]
    exact hp 3723
  have hl : (s.flash.map.filter fun m => m.old && !m.lost && laneOf m.unit = lane) =
      [{ unit := 5, len := 4095, pos := 0, old := true, data := [] }] := by decide
  show ((s.flash.map.filter fun m => m.old && !m.lost && laneOf m.unit = lane).foldl move (some s)) = none
  rw [hl, List.foldl_cons, List.foldl_nil]
  simp only [move, Option.bind_some]
  rw [hq, Option.map_none]


theorem test_identifySeat_served : served Op.identifySeat (env 0 0) [] up = true := by decide

theorem test_SeatCommandsAnswer_0 :
    let s := rich
    let e := envOf Op.identifySeat 0
    served Op.identifySeat e [] s = true := by decide

theorem test_SeatCommandsAnswer_1 :
    let s := rich
    let e := envOf Op.negotiateVersion 0
    let low := 0x0302
    let high := 0x0302
    served Op.negotiateVersion e [] s = true ∧ low ≤ 0x0302 ∧ 0x0302 ≤ high := by decide

theorem test_SeatCommandsAnswer_2 :
    let s := rich
    let e := envOf Op.negotiateVersion 0
    let low := 0x0303
    let high := 0x0400
    served Op.negotiateVersion e [] s = true ∧ (0x0302 < low ∨ high < 0x0302) := by decide

theorem test_SeatCommandsAnswer_3 :
    let s := rich
    let e := envOf Op.setNoticeRing 0
    served Op.setNoticeRing e [] s = true := by decide

theorem test_SeatCommandsAnswer_4 :
    let s := rich
    let e := envOf Op.setNoticeRing 0
    let base := 8192
    let log2 := 6
    let u := accepted Op.setNoticeRing e [] s
    served Op.setNoticeRing e [] s = true ∧ base ≠ 0 ∧ 6 ≤ log2 ∧ log2 ≤ 12 ∧ base % (32 * 2 ^ log2) = 0 ∧
      (regionAt u e.seat base (32 * 2 ^ log2)).isNone = false ∧ meetsRing u e.seat base (32 * 2 ^ log2) = false := by decide

theorem test_SeatCommandsAnswer_6 :
    let s := rich
    let e := envOf Op.setPortConfig 0
    let port := 7
    let clk := 1
    let u := accepted Op.setPortConfig e [] s
    served Op.setPortConfig e [] s = true ∧ port ≤ 7 ∧ clk ≤ 1 ∧ (u.ports.get port).retired = false := by decide

theorem test_SeatCommandsAnswer_7 :
    let s := updSeat 63 (fun t => { t with map := none }) rich
    let e := envOf Op.mapSeat 0
    let seat := 63
    let port := 7
    let ld := 15
    let u := accepted Op.mapSeat e [] s
    served Op.mapSeat e [] s = true ∧ 0 < seat ∧ seat ≤ 63 ∧ port ≤ 7 ∧ ld ≤ 15 ∧ (u.seats.get seat).map = none ∧
      (u.lds.get (ldKey port ld)).alloc = 0 ∧ seatOfLd u port ld = none ∧ (u.ports.get port).retired = false := by decide

theorem test_SeatCommandsAnswer_8 :
    let s := updPort 7 (fun p => { p with linkUp := true, cxlMode := true, mld := true }) up
    let e := env 63 0
    taken e s = true ∧ 64 ≤ e.payloadLen ∧ e.payloadLen = 64 + e.bodyLen ∧ e.bodyLen ≤ 65472 := by decide



theorem test_PartitionCommandsAnswer_0 :
    let s := rich
    let e := envOf Op.loadPartition 0
    let b := { serveBody with part := 15, modelId := 91 }
    let u := accepted Op.loadPartition e [] s
    served Op.loadPartition e [] s = true ∧ b.valid = true ∧ (u.parts.get b.part).state = .empty ∧ modelTaken u b.modelId = false := by decide

theorem test_PartitionCommandsAnswer_1 :
    let s := rich
    let e := envOf Op.queryPartition 0
    let part := 1
    let u := accepted Op.queryPartition e [] s
    served Op.queryPartition e [] s = true ∧ part ≤ 15 ∧ (u.parts.get part).state ≠ .empty := by decide

theorem test_PartitionCommandsAnswer_2 :
    let s := rich
    let e := envOf Op.swapOutPartition 0
    let part := 0
    let release := false
    let u := accepted Op.swapOutPartition e [.swap, .partition part] s
    served Op.swapOutPartition e [.swap, .partition part] s = true ∧ swapOutCheck part release u = none := by decide

theorem test_PartitionCommandsAnswer_3 :
    let s := rich
    let e := envOf Op.swapInPartition 0
    let modelId := 90
    let part := 15
    let i := { modelId := 90, body := { serveBody with modelId := 90, part := 4 }, owner := none, metaBytes := 0 : Image }
    let u := accepted Op.swapInPartition e [.swap, .partition part] s
    served Op.swapInPartition e [.swap, .partition part] s = true ∧ swapInCheck modelId part u = none ∧ imageOf u modelId = some i := by decide

theorem test_PartitionCommandsAnswer_4 :
    let s := updPart 0 (fun p => { p with step := { p.step with cond := .open_, kept := [{ handle := 512, len := 16 }] } }) rich
    let e := envOf Op.unloadPartition 0
    let part := 0
    let force := true
    let u := accepted Op.unloadPartition e [.swap, .partition part] s
    served Op.unloadPartition e [.swap, .partition part] s = true ∧ unloadCheck part force u = none ∧ stepOpen u part = true := by decide

theorem test_PartitionCommandsAnswer_5 :
    let s := rich
    let e := envOf Op.unloadPartition 0
    let part := 0
    let force := true
    let u := accepted Op.unloadPartition e [.swap, .partition part] s
    served Op.unloadPartition e [.swap, .partition part] s = true ∧ unloadCheck part force u = none ∧ stepOpen u part = false := by decide

theorem test_PartitionCommandsAnswer_6 :
    let s := rich
    let e := envOf Op.bindKvWindow 0
    let part := 0
    let offset := 2 ^ 35
    let u := accepted Op.bindKvWindow e [] s
    served Op.bindKvWindow e [] s = true ∧ part ≤ 15 ∧ (u.parts.get part).state ≠ .empty ∧ (u.parts.get part).body.mode ≠ 1 ∧
      offset % 2 ^ 30 = 0 ∧ offset + kvSpace (u.parts.get part).body ≤ seatHdmH u e.seat ∧
      ((hdmTaken u e.seat).any fun x => overlaps offset (kvSpace (u.parts.get part).body) x.1 x.2) = false ∧
      ((u.seats.get e.seat).kvWindows.any fun w => w.1 = part) = false := by decide

theorem test_PartitionCommandsAnswer_7 :
    let s := updSeat 0 (fun t => { t with kvWindows := [(0, 2 ^ 35)] }) rich
    let e := envOf Op.unbindKvWindow 0
    let part := 0
    let seat := 0
    let u := accepted Op.unbindKvWindow e [] s
    served Op.unbindKvWindow e [] s = true ∧ part ≤ 15 ∧ unbindSeat e seat ≤ 63 ∧
      ((u.seats.get (unbindSeat e seat)).kvWindows.any fun w => w.1 = part) = true := by decide

theorem test_PartitionCommandsAnswer_8 :
    let s := rich
    let e := envOf Op.listImages 0
    served Op.listImages e [] s = true := by decide

theorem test_PartitionCommandsAnswer_9 :
    let s := rich
    let e := envOf Op.deleteImage 0
    let modelId := 90
    let i := { modelId := 90, body := { serveBody with modelId := 90, part := 4 }, owner := none, metaBytes := 0 : Image }
    let u := accepted Op.deleteImage e [] s
    served Op.deleteImage e [] s = true ∧ imageOf u modelId = some i ∧ i.owner = none := by decide



theorem test_TenantAndLimitCommandsAnswer_0 :
    let s := rich
    let e := envOf Op.createTenant 0
    let tenant := 4095
    let mode := 1
    let rate := 2 ^ 32 - 1
    let cap := 2 ^ 32 - 1
    let u := accepted Op.createTenant e [] s
    served Op.createTenant e [] s = true ∧ tenant ≤ 4095 ∧ mode ≤ 1 ∧ rate < 2 ^ 32 ∧ cap < 2 ^ 32 ∧ (u.tenants.get tenant).exists_ = false := by decide

theorem test_TenantAndLimitCommandsAnswer_1 :
    let s := rich
    let e := envOf Op.deleteTenant 0
    let tenant := 9
    let u := accepted Op.deleteTenant e [] s
    served Op.deleteTenant e [] s = true ∧ tenant ≠ 0 ∧ tenant ≤ 4095 ∧ (u.tenants.get tenant).exists_ = true ∧ tenantLive u tenant = 0 := by decide

theorem test_TenantAndLimitCommandsAnswer_2 :
    let s := rich
    let e := envOf Op.setTenantBudget 0
    let tenant := 9
    let mode := 1
    let rate := 0
    let cap := 0
    let u := accepted Op.setTenantBudget e [] s
    served Op.setTenantBudget e [] s = true ∧ tenant ≤ 4095 ∧ mode ≤ 1 ∧ rate < 2 ^ 32 ∧ cap < 2 ^ 32 ∧
      (u.tenants.get tenant).exists_ = true := by decide

theorem test_TenantAndLimitCommandsAnswer_3 :
    let s := rich
    let e := envOf Op.grantBudget 0
    let tenant := 9
    let u := accepted Op.grantBudget e [] s
    served Op.grantBudget e [] s = true ∧ tenant ≤ 4095 ∧ (u.tenants.get tenant).exists_ = true ∧ (u.tenants.get tenant).unmetered = false := by decide

theorem test_TenantAndLimitCommandsAnswer_4 :
    let s := rich
    let e := envOf Op.queryTenant 0
    let tenant := 0
    let u := accepted Op.queryTenant e [] s
    served Op.queryTenant e [] s = true ∧ tenant ≤ 4095 ∧ (u.tenants.get tenant).exists_ = true := by decide

theorem test_TenantAndLimitCommandsAnswer_5 :
    let s := rich
    let e := envOf Op.setSeatQuota 0
    let seat := 63
    let maxEntries := 131072
    let maxFrames := 2 ^ 32 - 1
    served Op.setSeatQuota e [] s = true ∧ seat ≤ 63 ∧ maxEntries ≤ 131072 ∧ maxFrames < 2 ^ 32 := by decide

theorem test_TenantAndLimitCommandsAnswer_6 :
    let s := rich
    let e := envOf Op.setPartitionCap 0
    let part := 15
    let cap := 2 ^ 32 - 1
    served Op.setPartitionCap e [] s = true ∧ part ≤ 15 ∧ cap < 2 ^ 32 := by decide

theorem test_TenantAndLimitCommandsAnswer_7 :
    let s := rich
    let e := envOf Op.queryCapacity 0
    served Op.queryCapacity e [] s = true := by decide



theorem test_RequestCommandsAnswer_0 :
    let s := rich
    let e := envOf Op.admitRequest 0
    let b := { part := 0, prio := 255, tenant := 0, eddy := true, seeded := false, promptLen := 1, maxNew := 1, pfx := 0, dlToken := 1048575, dlItem := 4095, seed := 0 : AdmitBody }
    let i := 6
    let u := accepted Op.admitRequest e [.partition b.part] s
    served Op.admitRequest e [.partition b.part] s = true ∧ admitCheck e b u = none ∧ nextFreeRt u = some i := by decide

theorem test_RequestCommandsAnswer_1 :
    let s := rich
    let e := envOf Op.commitPrompt 0
    let handle := 1024
    let u := accepted Op.commitPrompt e [.request handle] s
    served Op.commitPrompt e [.request handle] s = true ∧ handleCheck u e.seat handle = none ∧ (rtOf u handle).state = .prefill ∧
      (u.pulls.any fun p => p.handle = handle) = false ∧ (rtOf u handle).cowFrom = none := by decide

theorem test_RequestCommandsAnswer_2 :
    let s := rich
    let e := envOf Op.setRequest 0
    let handle := 512
    let prio := 255
    let dlToken := 1048575
    let dlItem := 4095
    let u := accepted Op.setRequest e [] s
    served Op.setRequest e [] s = true ∧ handleCheck u e.seat handle = none ∧ prio ≤ 255 ∧ dlToken ≤ 1048575 ∧ dlItem ≤ 4095 ∧
      (stepOpen u (rtOf u handle).part = false ∨ (rtOf u handle).state = .parking ∨ (rtOf u handle).state = .parked) := by decide

theorem test_RequestCommandsAnswer_3 :
    let s := updPart 0 (fun p => { p with step := { p.step with cond := .open_, kept := [{ handle := 512, len := 16 }] } }) rich
    let e := envOf Op.setRequest 0
    let handle := 512
    let prio := 255
    let dlToken := 1048575
    let dlItem := 4095
    let u := accepted Op.setRequest e [] s
    served Op.setRequest e [] s = true ∧ handleCheck u e.seat handle = none ∧ prio ≤ 255 ∧ dlToken ≤ 1048575 ∧ dlItem ≤ 4095 ∧
      stepOpen u (rtOf u handle).part = true ∧
      ((rtOf u handle).state = .prefill ∨ (rtOf u handle).state = .active ∨ (rtOf u handle).state = .full) := by decide

theorem test_RequestCommandsAnswer_4 :
    let s := rich
    let e := envOf Op.cancelRequest 0
    let handle := 512
    let u := accepted Op.cancelRequest e [.request handle, .partition (rtOf s handle).part] s
    served Op.cancelRequest e [.request handle, .partition (rtOf s handle).part] s = true ∧ handleCheck u e.seat handle = none ∧
      cancelCheck handle u = none ∧ stepOpen u (rtOf u handle).part = false := by decide

theorem test_RequestCommandsAnswer_5 :
    let s := updPart 0 (fun p => { p with step := { p.step with cond := .open_, kept := [{ handle := 512, len := 16 }] } }) rich
    let e := envOf Op.cancelRequest 0
    let handle := 512
    let u := accepted Op.cancelRequest e [.request handle, .partition (rtOf s handle).part] s
    served Op.cancelRequest e [.request handle, .partition (rtOf s handle).part] s = true ∧ handleCheck u e.seat handle = none ∧
      cancelCheck handle u = none ∧ stepOpen u (rtOf u handle).part = true ∧ (rtOf u handle).state ≠ .parked := by decide

theorem test_RequestCommandsAnswer_6 :
    let s := rich
    let e := envOf Op.queryRequest 0
    let handle := 1536
    let u := accepted Op.queryRequest e [] s
    served Op.queryRequest e [] s = true ∧ handleCheck u e.seat handle = none := by decide

theorem test_RequestCommandsAnswer_7 :
    let s := rich
    let e := envOf Op.listRequests 0
    served Op.listRequests e [] s = true := by decide



theorem test_RingWindowAndStepCommandsAnswer_0 :
    let s := rich
    let e := envOf Op.createStepRing 0
    let b := { ring := 3, part := 0, sqLog2 := 6, cqLog2 := 6, sqBase := 8192, cqBase := 12288, cqPeer := false, cqWindow := 0 : RingBody }
    let u := accepted Op.createStepRing e [.partition b.part] s
    served Op.createStepRing e [.partition b.part] s = true ∧ createStepRingCheck e b u = none := by decide

theorem test_RingWindowAndStepCommandsAnswer_1 :
    let s := rich
    let e := envOf Op.destroyStepRing 0
    let ring := 0
    let seat := 0
    let u := accepted Op.destroyStepRing e [] s
    served Op.destroyStepRing e [] s = true ∧ ring ≤ 3 ∧ seat ≤ 63 ∧ (e.seat = 0 ∨ seat = e.seat) ∧ (ringOf u seat ring).live = true ∧
      (u.parts.get (ringOf u seat ring).part).step.cond = .idle := by decide

theorem test_RingWindowAndStepCommandsAnswer_2 :
    let s := updPart 0 (fun p => { p with step := { p.step with cond := .open_, kept := [{ handle := 512, len := 16 }] } }) rich
    let e := envOf Op.destroyStepRing 0
    let ring := 0
    let seat := 0
    let u := accepted Op.destroyStepRing e [] s
    served Op.destroyStepRing e [] s = true ∧ ring ≤ 3 ∧ seat ≤ 63 ∧ (e.seat = 0 ∨ seat = e.seat) ∧ (ringOf u seat ring).live = true ∧
      (u.parts.get (ringOf u seat ring).part).step.cond ≠ .idle := by decide

theorem test_RingWindowAndStepCommandsAnswer_3 :
    let s := updPart 0 (fun p => { p with step := { p.step with cond := .open_, kept := [{ handle := 512, len := 16 }] } }) rich
    let e := envOf Op.closeStep 0
    let part := 0
    let u := accepted Op.closeStep e [] s
    served Op.closeStep e [] s = true ∧ closeStepCheck e part u = none ∧ (u.parts.get part).step.cond ≠ .closing := by decide

theorem test_RingWindowAndStepCommandsAnswer_4 :
    let s := rich
    let e := envOf Op.queryStep 0
    let part := 1
    let u := accepted Op.queryStep e [] s
    served Op.queryStep e [] s = true ∧ part ≤ 15 ∧ (u.parts.get part).state ≠ .empty := by decide

theorem test_RingWindowAndStepCommandsAnswer_5 :
    let s := rich
    let e := envOf Op.registerWindow 0
    let kind := 5
    let mask := 255
    let base := 4096
    let length := 4096
    let u := accepted Op.registerWindow e [] s
    served Op.registerWindow e [] s = true ∧ badWindow kind mask base length = false ∧ (u.seats.get e.seat).windows.length < 256 := by decide

theorem test_RingWindowAndStepCommandsAnswer_6 :
    let s := rich
    let e := envOf Op.releaseWindow 0
    let window := 5
    let u := accepted Op.releaseWindow e [] s
    served Op.releaseWindow e [] s = true ∧ window / 65536 < 64 ∧ (windowOf u (window / 65536) window).isNone = false ∧
      (e.seat = 0 ∨ window / 65536 = e.seat) ∧ windowInUse u (window / 65536) window = false := by decide

theorem test_RingWindowAndStepCommandsAnswer_7 :
    let s := updPart 0 (fun p => { p with step := { p.step with cond := .open_, kept := [{ handle := 512, len := 16 }] } }) rich
    let e := envOf Op.setDigests 0
    let part := 0
    let on := true
    let u := accepted Op.setDigests e [] s
    served Op.setDigests e [] s = true ∧ setDigestsCheck part on u = none ∧ stepOpen u part = true := by decide

theorem test_RingWindowAndStepCommandsAnswer_8 :
    let s := rich
    let e := envOf Op.setDigests 0
    let part := 0
    let on := true
    let u := accepted Op.setDigests e [] s
    served Op.setDigests e [] s = true ∧ setDigestsCheck part on u = none ∧ stepOpen u part = false := by decide

theorem test_RingWindowAndStepCommandsAnswer_9 :
    let s := updPart 0 (fun p => { p with digests := true }) rich
    let e := envOf Op.setSelection 0
    let handle := 512
    let sel := 3
    let sink := 1
    let recent := 1
    let u := accepted Op.setSelection e [] s
    served Op.setSelection e [] s = true ∧ handleCheck u e.seat handle = none ∧ (u.parts.get (rtOf u handle).part).digests = true ∧
      (sel = 0 ∨ sink + recent + 1 ≤ sel) ∧ stepOpen u (rtOf u handle).part = false := by decide

theorem test_RingWindowAndStepCommandsAnswer_10 :
    let s := updPart 0 (fun p => { p with digests := true }) (updPart 0 (fun p => { p with step := { p.step with cond := .open_, kept := [{ handle := 512, len := 16 }] } }) rich)
    let e := envOf Op.setSelection 0
    let handle := 512
    let sel := 0
    let sink := 1
    let recent := 1
    let u := accepted Op.setSelection e [] s
    served Op.setSelection e [] s = true ∧ handleCheck u e.seat handle = none ∧ (u.parts.get (rtOf u handle).part).digests = true ∧
      (sel = 0 ∨ sink + recent + 1 ≤ sel) ∧ stepOpen u (rtOf u handle).part = true ∧ (rtOf u handle).state = .active := by decide



theorem test_PrefixCommandsAnswer_0 :
    let s := rich
    let e := envOf Op.lookupPrefix 0
    let part := 0
    let tenant := 4095
    let count := 16
    let tokens := 0
    let u := accepted Op.lookupPrefix e [.delta, .partition part] s
    served Op.lookupPrefix e [.delta, .partition part] s = true ∧ lookupCheck e part tenant count tokens u = none := by decide

theorem test_PrefixCommandsAnswer_1 :
    let s := rich
    let e := envOf Op.insertPrefix 0
    let part := 0
    let count := 16
    let tokens := 0
    let handle := 512
    let u := accepted Op.insertPrefix e [.delta, .request handle, .partition part] s
    insertDenied s part e.seat = false ∧ served Op.insertPrefix e [.delta, .request handle, .partition part] s = true ∧
      insertCheck e part count tokens handle u = none := by decide

theorem test_PrefixCommandsAnswer_2 :
    let s := rich
    let e := envOf Op.pinPrefix 0
    let part := 0
    let tenant := 0
    let pfx := 1234
    let n := { idx := 65, digest := 1234, check := 0, slot := 20, len := 16, rows := 16, part := 0 : Node }
    let u := accepted Op.pinPrefix e [.partition part] s
    served Op.pinPrefix e [.partition part] s = true ∧ prefixPart u part = none ∧ resolvePrefix u part tenant pfx = some n ∧
      u.pins.length < 262144 := by decide

theorem test_PrefixCommandsAnswer_3 :
    let s := rich
    let e := envOf Op.unpinPrefix 0
    let part := 0
    let tenant := 0
    let pfx := 1234
    let p := ((65, 0) : Nat × Nat)
    let u := accepted Op.unpinPrefix e [.partition part] s
    served Op.unpinPrefix e [.partition part] s = true ∧ prefixPart u part = none ∧ unpinTarget u e.seat part tenant pfx = some p := by decide

theorem test_PrefixCommandsAnswer_4 :
    let s := rich
    let e := envOf Op.queryPrefix 0
    let part := 0
    let tenant := 0
    let pfx := 1234
    let n := { idx := 65, digest := 1234, check := 0, slot := 20, len := 16, rows := 16, part := 0 : Node }
    let u := accepted Op.queryPrefix e [.partition part] s
    served Op.queryPrefix e [.partition part] s = true ∧ prefixPart u part = none ∧ resolvePrefix u part tenant pfx = some n := by decide

theorem test_PrefixCommandsAnswer_5 :
    let s := rich
    let e := envOf Op.setPrefixPolicy 0
    let part := 0
    let charge := 1000
    let scope := 0
    let maxSlots := 2 ^ 32 - 1
    let mask := 2 ^ 64 - 1
    let u := accepted Op.setPrefixPolicy e [.partition part] s
    served Op.setPrefixPolicy e [.partition part] s = true ∧ prefixPolicyCheck part charge scope maxSlots mask u = none := by decide

theorem test_PrefixCommandsAnswer_6 :
    let s := rich
    let e := envOf Op.purgePrefix 0
    let part := 0
    let u := accepted Op.purgePrefix e [.delta, .partition part] s
    served Op.purgePrefix e [.delta, .partition part] s = true ∧ deltaBusy u = none ∧ prefixPart u part = none := by decide

theorem test_PrefixCommandsAnswer_7 :
    let s := rich
    let e := envOf Op.queryPrefixStore 0
    let part := 0
    let u := accepted Op.queryPrefixStore e [.partition part] s
    served Op.queryPrefixStore e [.partition part] s = true ∧ prefixPart u part = none := by decide



theorem test_ParkTicketAndPullCommandsAnswer_0 :
    let s := rich
    let e := envOf Op.parkConversation 0
    let handle := 512
    let release := true
    let ttl := 2 ^ 32 - 1
    let u := accepted Op.parkConversation e [.request handle, .partition (rtOf s handle).part] s
    served Op.parkConversation e [.request handle, .partition (rtOf s handle).part] s = true ∧ parkCheck e handle release ttl u = none ∧
      keptInStep u handle = false := by decide

theorem test_ParkTicketAndPullCommandsAnswer_1 :
    let s := updPart 0 (fun p => { p with step := { p.step with cond := .open_, kept := [{ handle := 512, len := 16 }] } }) rich
    let e := envOf Op.parkConversation 0
    let handle := 512
    let release := false
    let ttl := 1
    let u := accepted Op.parkConversation e [.request handle, .partition (rtOf s handle).part] s
    served Op.parkConversation e [.request handle, .partition (rtOf s handle).part] s = true ∧ parkCheck e handle release ttl u = none ∧
      keptInStep u handle = true := by decide

theorem test_ParkTicketAndPullCommandsAnswer_2 :
    let s := rich
    let e := envOf Op.unparkConversation 0
    let handle := 1536
    let k := { pid := 1, handle := some 1536, ticket := none, part := 0, seat := 0, expiry := 1000, units := 1, saved := { request with slots := [], sel := 0 } : Park }
    let u := accepted Op.unparkConversation e [.request handle, .partition (rtOf s handle).part] s
    handle ≠ 0 ∧ served Op.unparkConversation e [.request handle, .partition (rtOf s handle).part] s = true ∧
      unparkCheck e handle 0 u = none ∧ unparkTarget u e.seat handle 0 = some k := by decide

theorem test_ParkTicketAndPullCommandsAnswer_3 :
    let s := rich
    let e := envOf Op.renewPark 0
    let handle := 0
    let ticket := 55
    let ttl := 1
    let u := accepted Op.renewPark e [if handle != 0 then .request handle else .ticket ticket] s
    (served Op.renewPark e [if handle != 0 then .request handle else .ticket ticket] s = true) ∧ renewCheck e handle ticket ttl u = none := by decide

theorem test_ParkTicketAndPullCommandsAnswer_4 :
    let s := rich
    let e := envOf Op.queryTicket 0
    let ticket := 55
    let k := { pid := 2, handle := none, ticket := some 55, part := 0, seat := 0, expiry := 1000, units := 1, saved := request : Park }
    let u := accepted Op.queryTicket e [] s
    served Op.queryTicket e [] s = true ∧ parkOfTicket u e.seat ticket = some k := by decide

theorem test_ParkTicketAndPullCommandsAnswer_5 :
    let s := rich
    let e := envOf Op.discardTicket 0
    let ticket := 55
    let k := { pid := 2, handle := none, ticket := some 55, part := 0, seat := 0, expiry := 1000, units := 1, saved := request : Park }
    let u := accepted Op.discardTicket e [.ticket ticket] s
    served Op.discardTicket e [.ticket ticket] s = true ∧ parkOfTicket u e.seat ticket = some k ∧ unparkRuns u ticket = false := by decide

theorem test_ParkTicketAndPullCommandsAnswer_6 :
    let s := rich
    let e := envOf Op.pullKv 0
    let handle := 1024
    let window := 4
    let offset := 64
    let first := 1
    let reaches := 1
    let layer0 := 0
    let layer1 := 0
    let w := (⟨4, 4, 1, 0, 2 ^ 25⟩ : Window)
    let u := accepted Op.pullKv e [.request handle, .pulls, .partition (rtOf s handle).part] s
    served Op.pullKv e [.request handle, .pulls, .partition (rtOf s handle).part] s = true ∧
      pullCheck e handle window offset first reaches layer0 layer1 u = none ∧ windowOf u e.seat window = some w ∧
      (firstUp u w.mask).isNone = false := by decide

theorem test_ParkTicketAndPullCommandsAnswer_7 :
    let s := rich
    let e := envOf Op.parkRegion 0
    let base := 2 ^ 22
    let r := { id := 3, seat := 0, parkable := true, base := 2 ^ 22, size := 2 ^ 21 : Region }
    let u := accepted Op.parkRegion e [.region r.id] s
    served Op.parkRegion e [.region r.id] s = true ∧ regionBase s e.seat base = some r ∧ parkRegionCheck e base u = none := by decide

theorem test_ParkTicketAndPullCommandsAnswer_8 :
    let s := rich
    let e := envOf Op.unparkRegion 0
    let base := 2 ^ 23
    let r := { id := 4, seat := 0, parkable := true, base := 2 ^ 23, size := 2 ^ 21, st := .parked : Region }
    let u := accepted Op.unparkRegion e [.region r.id] s
    served Op.unparkRegion e [.region r.id] s = true ∧ regionBase s e.seat base = some r ∧ unparkRegionCheck e base u = none := by decide

theorem test_ParkTicketAndPullCommandsAnswer_9 :
    let s := rich
    let e := envOf Op.setTierConfig 0
    let imageGb := 2000
    let parkGb := 213488
    let u := accepted Op.setTierConfig e [] s
    served Op.setTierConfig e [] s = true ∧ tierConfigCheck imageGb parkGb u = none := by decide

theorem test_ParkTicketAndPullCommandsAnswer_10 :
    let s := rich
    let e := envOf Op.queryTiers 0
    served Op.queryTiers e [] s = true := by decide

theorem test_ParkTicketAndPullCommandsAnswer_11 :
    let s := rich
    let e := envOf Op.queryFlash 0
    served Op.queryFlash e [] s = true := by decide



theorem test_LogitWindowAndCountCommandsAnswer_0 :
    let s := rich
    let e := envOf Op.setLogitWindow 0
    let handle := 512
    let addr := 16384
    let length := 128
    let u := accepted Op.setLogitWindow e [] s
    served Op.setLogitWindow e [] s = true ∧ onEddy e handle (setLogitCheck handle addr length) u = none ∧
      (stepOpen u (rtOf u handle).part && (keptOf u (rtOf u handle).part handle).isSome) = false := by decide

theorem test_LogitWindowAndCountCommandsAnswer_1 :
    let s := updPart 0 (fun p => { p with step := { p.step with cond := .open_, kept := [{ handle := 512, len := 16 }] } }) rich
    let e := envOf Op.setLogitWindow 0
    let handle := 512
    let addr := 0
    let length := 0
    let u := accepted Op.setLogitWindow e [] s
    served Op.setLogitWindow e [] s = true ∧ onEddy e handle (setLogitCheck handle addr length) u = none ∧
      stepOpen u (rtOf u handle).part = true ∧ (keptOf u (rtOf u handle).part handle).isSome = true := by decide

theorem test_LogitWindowAndCountCommandsAnswer_2 :
    let s := rich
    let e := envOf Op.loadCounts 0
    let handle := 512
    let count := 65536
    let list := 0
    let u := accepted Op.loadCounts e [.request handle] s
    served Op.loadCounts e [.request handle] s = true ∧ handleCheck u e.seat handle = none ∧ (rtOf u handle).eddy = true ∧ 0 < count ∧
      count ≤ 65536 ∧ placedOk u e.seat list (4 * count) 64 = true ∧ countsBusy u handle = false := by decide

theorem test_LogitWindowAndCountCommandsAnswer_3 :
    let s := rich
    let e := envOf Op.clearCounts 0
    let handle := 512
    let u := accepted Op.clearCounts e [.request handle] s
    served Op.clearCounts e [.request handle] s = true ∧ handleCheck u e.seat handle = none ∧ (rtOf u handle).eddy = true ∧
      countsBusy u handle = false := by decide

theorem test_LogitWindowAndCountCommandsAnswer_4 :
    let s := rich
    let e := envOf Op.clearCounts 0
    let handle := 512
    let u := accepted Op.clearCounts e [.request handle] s
    served Op.clearCounts e [.request handle] s = true ∧ handleCheck u e.seat handle = none ∧ (rtOf u handle).eddy = true ∧
      countsBusy u handle = false ∧ ((List.range 8).any fun i => heldAt u true (.counts (handleRti handle)) (32768 * i) 1) = false := by decide

theorem test_LogitWindowAndCountCommandsAnswer_5 :
    let s := rich
    let e := envOf Op.queryCounts 0
    let handle := 512
    let first := 3073
    let count := 1023
    let u := accepted Op.queryCounts e [] s
    served Op.queryCounts e [] s = true ∧ handleCheck u e.seat handle = none ∧ (rtOf u handle).eddy = true ∧ 0 < count ∧ count ≤ 1023 ∧
      first + count ≤ 4096 := by decide



theorem test_RegionCommandsAnswer_0 :
    let s := rich
    let e := envOf Op.allocateRegion 0
    let b := { resident := true, base := 2 ^ 24, size := 2 ^ 21 : RegionBody }
    let u := accepted Op.allocateRegion e [] s
    served Op.allocateRegion e [] s = true ∧ allocateCheck e b u = none := by decide

theorem test_RegionCommandsAnswer_1 :
    let s := rich
    let e := envOf Op.freeRegion 0
    let id := 3
    let r := { id := 3, seat := 0, parkable := true, base := 2 ^ 22, size := 2 ^ 21 : Region }
    let u := accepted Op.freeRegion e [.region id] s
    served Op.freeRegion e [.region id] s = true ∧ freeRegionCheck e id u = none ∧ regionOf u id = some r ∧ r.shared = false := by decide

theorem test_RegionCommandsAnswer_2 :
    let s := rich
    let e := envOf Op.queryRegion 0
    let id := 1
    let r := { id := 1, seat := 0, resident := true, base := 0, size := 2 ^ 21, data := [(1024, 1#8)] : Region }
    let u := accepted Op.queryRegion e [] s
    served Op.queryRegion e [] s = true ∧ regionFor u e.seat id = some r := by decide

theorem test_RegionCommandsAnswer_3 :
    let s := rich
    let e := envOf Op.grantRegion 0
    let id := 2
    let g := 63
    let mode := 1
    let u := accepted Op.grantRegion e [.region id] s
    served Op.grantRegion e [.region id] s = true ∧ grantCheck e id g mode u = none ∧ ((regionOf u id).map (·.mode g)).getD 0 ≤ mode := by decide

theorem test_RegionCommandsAnswer_4 :
    let s := rich
    let e := envOf Op.grantRegion 0
    let id := 2
    let g := 1
    let mode := 0
    let u := accepted Op.grantRegion e [.region id] s
    served Op.grantRegion e [.region id] s = true ∧ grantCheck e id g mode u = none ∧ mode < ((regionOf u id).map (·.mode g)).getD 0 := by decide

theorem test_RegionCommandsAnswer_5 :
    let s := updSeat 1 (fun t => { t with limits := { t.limits with dbSize := 2 ^ 38 } }) rich
    let e := envOf Op.attachRegion 1
    let id := 2
    let base := 2 ^ 40 - 2 ^ 21
    let u := accepted Op.attachRegion e [.region id] s
    served Op.attachRegion e [.region id] s = true ∧ attachCheck e id base u = none := by decide

theorem test_RegionCommandsAnswer_6 :
    let s := updRegion 2 (fun r => { r with attached := [(1, 2 ^ 40 - 2 ^ 22)] }) rich
    let e := envOf Op.detachRegion 1
    let id := 2
    let r := { id := 2, seat := 0, resident := true, shared := true, base := 2 ^ 40 - 2 ^ 21, size := 2 ^ 21, grants := [(1, 2)], attached := [(1, 2 ^ 40 - 2 ^ 22)] : Region }
    let u := accepted Op.detachRegion e [.region id] s
    served Op.detachRegion e [.region id] s = true ∧ regionOf u id = some r ∧ (lookupKey e.seat r.attached).isSome = true := by decide



theorem test_PoolCommandsAnswer_0 :
    let s := rich
    let e := envOf Op.setPoolLimits 0
    let seat := 63
    let cls := 1
    let maxRate := 120
    let maxOps := 16
    let keySlots := 4096
    let regions := 65536
    let dbSize := 0
    let u := accepted Op.setPoolLimits e [] s
    served Op.setPoolLimits e [] s = true ∧ poolLimitsCheck seat cls maxRate maxOps keySlots regions dbSize u = none := by decide

theorem test_PoolCommandsAnswer_1 :
    let s := rich
    let e := envOf Op.queryPoolLimits 0
    let seat := 63
    served Op.queryPoolLimits e [] s = true ∧ seat ≤ 63 ∧ (e.seat = 0 ∨ seat = e.seat) := by decide

theorem test_PoolCommandsAnswer_2 :
    let s := rich
    let e := envOf Op.queryKeySlots 0
    served Op.queryKeySlots e [] s = true := by decide

theorem test_PoolCommandsAnswer_3 :
    let s := rich
    let e := envOf Op.poolOperation 0
    let descs := [({ op := 2, src := 2 ^ 20, dst := 2 ^ 20 + 64, length := 64 } : PoolDesc)]
    let u := accepted Op.poolOperation e [.poolOps] s
    served Op.poolOperation e [.poolOps] s = true ∧ opsFull u e.seat = none ∧ e.bodyLen = 64 * descs.length ∧
      descs.all (poolDescOk u e.seat) = true := by decide

theorem test_PoolCommandsAnswer_4 :
    let s := rich
    let e := envOf Op.joinPoolSet 0
    let b := { setId := 1, n := 2, index := 0, setTo := 100, parityGb := 0, rebuild := false, windows := [(1, 5)] : JoinBody }
    let u := accepted Op.joinPoolSet e [] s
    served Op.joinPoolSet e [] s = true ∧ joinCheck b u = none := by decide

theorem test_PoolCommandsAnswer_5 :
    let s := { rich with pset := { phase := .formed, setId := 1, n := 2, index := 0, setTo := 1000, rebuild := true, members := [{ index := 1, window := 5 }] } }
    let e := envOf Op.leavePoolSet 0
    let u := accepted Op.leavePoolSet e [] s
    served Op.leavePoolSet e [] s = true ∧ leaveCheck u = none := by decide

theorem test_PoolCommandsAnswer_6 :
    let s := rich
    let e := envOf Op.queryPoolSet 0
    served Op.queryPoolSet e [] s = true := by decide

theorem test_PoolCommandsAnswer_7 :
    let s := { rich with pset := { phase := .formed, setId := 1, n := 2, index := 0, setTo := 1000, rebuild := true, members := [{ index := 1, window := 5 }] } }
    let e := envOf Op.rebuildMember 0
    let u := accepted Op.rebuildMember e [] s
    served Op.rebuildMember e [] s = true ∧ u.pset.phase = .formed ∧ u.pset.rebuild = true ∧ u.pset.rebuildOp = none := by decide



theorem test_CoherenceAndStashCommandsAnswer_0 :
    let s := rich
    let e := envOf Op.queryLine 0
    let addr := 2 ^ 40 - 2 ^ 21 + 64
    let r := 2
    let l := 1
    let u := accepted Op.queryLine e [] s
    served Op.queryLine e [] s = true ∧ sharedLine u e.seat addr = some (r, l) := by decide

theorem test_CoherenceAndStashCommandsAnswer_1 :
    let s := rich
    let e := envOf Op.fenceSeat 0
    let seat := 63
    let u := accepted Op.fenceSeat e [.cohSeat seat] s
    served Op.fenceSeat e [.cohSeat seat] s = true ∧ seat ≤ 63 ∧ u.coh.fenced.getLsbD seat = false := by decide

theorem test_CoherenceAndStashCommandsAnswer_2 :
    let s := { rich with coh := { rich.coh with fenced := 1#64 <<< 63 } }
    let e := envOf Op.unfenceSeat 0
    let seat := 63
    let u := accepted Op.unfenceSeat e [.cohSeat seat] s
    served Op.unfenceSeat e [.cohSeat seat] s = true ∧ seat ≤ 63 ∧ u.coh.fenced.getLsbD seat = true ∧ u.coh.sweeping.getLsbD seat = false := by decide

theorem test_CoherenceAndStashCommandsAnswer_3 :
    let s := rich
    let e := envOf Op.queryCoherence 0
    served Op.queryCoherence e [] s = true := by decide

theorem test_CoherenceAndStashCommandsAnswer_4 :
    let s := rich
    let e := envOf Op.openRun 0
    let part := 1
    let run := 2 ^ 24 - 1
    let frames := 1
    let maxObjects := 1048576
    let u := accepted Op.openRun e [.partition part] s
    served Op.openRun e [.partition part] s = true ∧ openRunCheck e part run frames maxObjects u = none := by decide

theorem test_CoherenceAndStashCommandsAnswer_5 :
    let s := rich
    let e := envOf Op.closeRun 0
    let part := 1
    let run := 3
    let u := accepted Op.closeRun e [.partition part, .run part run] s
    served Op.closeRun e [.partition part, .run part run] s = true ∧ closeRunCheck e part run u = none := by decide

theorem test_CoherenceAndStashCommandsAnswer_6 :
    let s := rich
    let e := envOf Op.stashTransfer 0
    let d := { op := 1, part := 1, key := 3 * 2 ^ 40, addr := 2 ^ 20, length := 65536 : StashDesc }
    let ds := ([] : List StashDesc)
    let u := accepted Op.stashTransfer e (.poolOps :: ((d :: ds).map fun d => ClaimObj.partition d.part).eraseDups) s
    served Op.stashTransfer e (.poolOps :: ((d :: ds).map fun d => ClaimObj.partition d.part).eraseDups) s = true ∧
      stashCheck e (d :: ds) u = none := by decide

theorem test_CoherenceAndStashCommandsAnswer_7 :
    let s := rich
    let e := envOf Op.setSchedule 0
    let part := 1
    let run := 3
    let count := 0
    let list := 0
    let u := accepted Op.setSchedule e [.partition part, .run part run] s
    served Op.setSchedule e [.partition part, .run part run] s = true ∧ setScheduleCheck e part run count list u = none := by decide

theorem test_CoherenceAndStashCommandsAnswer_8 :
    let s := rich
    let e := envOf Op.queryStash 0
    let part := 1
    let run := 3
    let r := { run := 3, seat := 0, budget := 8, maxObjects := 4 : Run }
    let u := accepted Op.queryStash e [.partition part] s
    served Op.queryStash e [.partition part] s = true ∧ stashGate part u = none ∧ (runFor u e.seat part run).isNone = false ∧
      runOf u part run = some r := by decide



theorem test_PowerAndHoldupCommandsAnswer_0 :
    let s := rich
    let e := envOf Op.setTelemetryRing 0
    let base := 2 ^ 20
    let log2 := 12
    let u := accepted Op.setTelemetryRing e [] s
    served Op.setTelemetryRing e [] s = true ∧ telemetryRingCheck base log2 u = none := by decide

theorem test_PowerAndHoldupCommandsAnswer_1 :
    let s := rich
    let e := envOf Op.queryPower 0
    served Op.queryPower e [] s = true := by decide

theorem test_PowerAndHoldupCommandsAnswer_2 :
    let s := rich
    let e := envOf Op.queryOcRegions 0
    served Op.queryOcRegions e [] s = true := by decide

theorem test_PowerAndHoldupCommandsAnswer_3 :
    let s := rich
    let e := envOf Op.setPowerConfig 0
    let idleGate := 1
    let idleUs := 65535
    served Op.setPowerConfig e [] s = true ∧ idleGate ≤ 1 ∧ idleUs ≤ 65535 := by decide

theorem test_PowerAndHoldupCommandsAnswer_4 :
    let s := rich
    let e := envOf Op.queryHoldup 0
    served Op.queryHoldup e [] s = true := by decide

theorem test_PowerAndHoldupCommandsAnswer_5 :
    let s := rich
    let e := envOf Op.testHoldup 0
    let u := accepted Op.testHoldup e [] s
    served Op.testHoldup e [] s = true ∧ u.hup.present = true ∧ u.hup.chg ≠ .testing ∧ u.hup.chg ≠ .fault := by decide

theorem test_PowerAndHoldupCommandsAnswer_6 :
    let s := rich
    let e := envOf Op.setHoldupConfig 0
    let days := 180
    served Op.setHoldupConfig e [] s = true ∧ 7 ≤ days ∧ days ≤ 180 := by decide



theorem test_FaultDumpFirmwareAndCodecCommandsAnswer_0 :
    let s := rich
    let e := envOf Op.readFaultRecords 0
    served Op.readFaultRecords e [] s = true := by decide

theorem test_FaultDumpFirmwareAndCodecCommandsAnswer_1 :
    let s := rich
    let e := envOf Op.clearFaultRecords 0
    served Op.clearFaultRecords e [] s = true := by decide

theorem test_FaultDumpFirmwareAndCodecCommandsAnswer_2 :
    let s := rich
    let e := envOf Op.queryFaultState 0
    served Op.queryFaultState e [] s = true := by decide

theorem test_FaultDumpFirmwareAndCodecCommandsAnswer_3 :
    let s := updFlt (fun f => { f with dump0 := some { id := 1, path := 0, complete := true, tFatal := 0, pclk := 0, boot := 1, fw := 0, image := 0, cause := { tEvent := 0, pclk := 0, boot := 1, seq := 0, cls := 2, unit := 0, index := 0, event := 0, count := 0, action := 0, seat := 0, port := 0, part := 0, flags := 0, location := 0, handle := 0, tag := 0, detail := 0 }, status := 0, log := [] } }) rich
    let e := envOf Op.queryDump 0
    let u := accepted Op.queryDump e [] s
    served Op.queryDump e [] s = true ∧ (u.flt.dump0.isNone && u.flt.dump1.isNone) = false := by decide

theorem test_FaultDumpFirmwareAndCodecCommandsAnswer_4 :
    let s := updFlt (fun f => { f with dump0 := some { id := 1, path := 0, complete := true, tFatal := 0, pclk := 0, boot := 1, fw := 0, image := 0, cause := { tEvent := 0, pclk := 0, boot := 1, seq := 0, cls := 2, unit := 0, index := 0, event := 0, count := 0, action := 0, seat := 0, port := 0, part := 0, flags := 0, location := 0, handle := 0, tag := 0, detail := 0 }, status := 0, log := [] } }) rich
    let e := envOf ({ Op.readDump with long := false } : OpInfo) 0
    let slot := 0
    let id := 0
    let off := 0
    let len := 4096
    let u := accepted ({ Op.readDump with long := false } : OpInfo) e [] s
    served ({ Op.readDump with long := false } : OpInfo) e [] s = true ∧ readDumpCheck slot id off len 0 u = none := by decide

theorem test_FaultDumpFirmwareAndCodecCommandsAnswer_5 :
    let s := updFlt (fun f => { f with dump0 := some { id := 1, path := 0, complete := true, tFatal := 0, pclk := 0, boot := 1, fw := 0, image := 0, cause := { tEvent := 0, pclk := 0, boot := 1, seq := 0, cls := 2, unit := 0, index := 0, event := 0, count := 0, action := 0, seat := 0, port := 0, part := 0, flags := 0, location := 0, handle := 0, tag := 0, detail := 0 }, status := 0, log := [] } }) rich
    let e := envOf ({ Op.readDump with long := true } : OpInfo) 0
    let slot := 0
    let id := 0
    let off := 0
    let len := 4096
    let dst := 64
    let u := accepted ({ Op.readDump with long := true } : OpInfo) e [] s
    dst ≠ 0 ∧ served ({ Op.readDump with long := true } : OpInfo) e [] s = true ∧ readDumpCheck slot id off len dst u = none := by decide

theorem test_FaultDumpFirmwareAndCodecCommandsAnswer_6 :
    let s := updFlt (fun f => { f with dump0 := some { id := 1, path := 0, complete := true, tFatal := 0, pclk := 0, boot := 1, fw := 0, image := 0, cause := { tEvent := 0, pclk := 0, boot := 1, seq := 0, cls := 2, unit := 0, index := 0, event := 0, count := 0, action := 0, seat := 0, port := 0, part := 0, flags := 0, location := 0, handle := 0, tag := 0, detail := 0 }, status := 0, log := [] } }) rich
    let e := envOf Op.clearDump 0
    let slot := 0
    let u := accepted Op.clearDump e [] s
    served Op.clearDump e [] s = true ∧ slot ≤ 1 ∧ (dumpOf u slot).isNone = false := by decide

theorem test_FaultDumpFirmwareAndCodecCommandsAnswer_7 :
    let s := rich
    let e := envOf Op.injectFault 0
    let pc := 255
    let bank := 255
    let row := 2 ^ 24 - 1
    let place := HbmPlace.free
    let u := accepted Op.injectFault e [] s
    served Op.injectFault e [] s = true ∧ injectCheck (.hbm pc bank row place) u = none := by decide

theorem test_FaultDumpFirmwareAndCodecCommandsAnswer_8 :
    let s := rich
    let e := envOf Op.injectFault 0
    let tile := 319
    let row := 1023
    let u := accepted Op.injectFault e [] s
    served Op.injectFault e [] s = true ∧ tile < 320 ∧ row < 1024 ∧ u.flt.retiredTiles.contains tile = false := by decide

theorem test_FaultDumpFirmwareAndCodecCommandsAnswer_9 :
    let s := { rich with flash := { rich.flash with homes := [(.region 3 0, 5)], map := [{ unit := 5, len := 4095, pos := 0, data := [] }] } }
    let e := envOf Op.injectFault 0
    let unit := 5
    let u := accepted Op.injectFault e [] s
    served Op.injectFault e [] s = true ∧ (u.flash.map.any fun m => m.unit = unit) = true := by decide

theorem test_FaultDumpFirmwareAndCodecCommandsAnswer_10 :
    let s := rich
    let e := envOf Op.queryFirmware 0
    served Op.queryFirmware e [] s = true := by decide

theorem test_FaultDumpFirmwareAndCodecCommandsAnswer_11 :
    let s := rich
    let e := envOf Op.writeFirmware 0
    let src := 0
    let length := 2 ^ 21
    let u := accepted Op.writeFirmware e [.firmware] s
    served Op.writeFirmware e [.firmware] s = true ∧ writeFirmwareCheck src length u = none := by decide

theorem test_FaultDumpFirmwareAndCodecCommandsAnswer_12 :
    let s := updFlt (fun f => { f with imageB := { f.imageB with valid := true } }) rich
    let e := envOf Op.activateFirmware 0
    let u := accepted Op.activateFirmware e [.firmware] s
    served Op.activateFirmware e [.firmware] s = true ∧ u.flt.activating = none ∧ u.flt.writing = none ∧ (inactiveImage u).valid = true := by decide

theorem test_FaultDumpFirmwareAndCodecCommandsAnswer_13 :
    let s := rich
    let e := envOf Op.restartFirmware 0
    served Op.restartFirmware e [] s = true := by decide

theorem test_FaultDumpFirmwareAndCodecCommandsAnswer_14 :
    let s := rich
    let e := envOf Op.resetWarm 0
    served Op.resetWarm e [] s = true := by decide

 

theorem test_StandardMailboxCommandsAnswer_0 :
    let s := rich
    let n := 1
    let p := 0
    let l := 1
    n < 64 ∧ (s.seats.get n).map = some (p, l) ∧ seatReached s n = true ∧ seatD3 s n = false ∧ doorbell s n = false ∧
      (s.seats.get n).mbx.orphan = none ∧ (s.seats.get n).mbx.waitingSince = none ∧ s.dev.fwReady = true ∧ aheadOf s n = false ∧
      recordsWait s = false := by decide

theorem test_StandardMailboxCommandsAnswer_2 :
    let s := rich
    let n := 1
    let p := 0
    let l := 1
    let offset := 0
    let length := 4 * celOpcodes.length
    n < 64 ∧ (s.seats.get n).map = some (p, l) ∧ seatReached s n = true ∧ seatD3 s n = false ∧ doorbell s n = false ∧
      (s.seats.get n).mbx.orphan = none ∧ (s.seats.get n).mbx.waitingSince = none ∧ s.dev.fwReady = true ∧ aheadOf s n = false ∧
      recordsWait s = false ∧ offset + length ≤ 4 * celOpcodes.length := by decide

theorem test_StandardMailboxCommandsAnswer_4 :
    let s := rich
    let n := 1
    let p := 0
    let l := 1
    let time := 2 ^ 64 - 1
    n < 64 ∧ (s.seats.get n).map = some (p, l) ∧ seatReached s n = true ∧ seatD3 s n = false ∧ doorbell s n = false ∧
      (s.seats.get n).mbx.orphan = none ∧ (s.seats.get n).mbx.waitingSince = none ∧ s.dev.fwReady = true ∧ aheadOf s n = false ∧
      recordsWait s = false ∧ time < 2 ^ 64 := by decide

theorem test_StandardMailboxCommandsAnswer_5 :
    let s := rich
    let n := 1
    let p := 0
    let l := 1
    let log := 3
    let x := ({} : EventLog)
    n < 64 ∧ (s.seats.get n).map = some (p, l) ∧ seatReached s n = true ∧ seatD3 s n = false ∧ doorbell s n = false ∧
      (s.seats.get n).mbx.orphan = none ∧ (s.seats.get n).mbx.waitingSince = none ∧ s.dev.fwReady = true ∧ aheadOf s n = false ∧
      recordsWait s = false ∧ eventLog (s.lds.get (ldKey p l)) log = some x := by decide

theorem test_StandardMailboxCommandsAnswer_6 :
    let s := rich
    let n := 1
    let p := 0
    let l := 1
    let log := 3
    let all := false
    let handles := ([] : List Nat)
    let x := ({} : EventLog)
    let y := ({} : EventLog)
    n < 64 ∧ (s.seats.get n).map = some (p, l) ∧ seatReached s n = true ∧ seatD3 s n = false ∧ doorbell s n = false ∧
      (s.seats.get n).mbx.orphan = none ∧ (s.seats.get n).mbx.waitingSince = none ∧ s.dev.fwReady = true ∧ aheadOf s n = false ∧
      recordsWait s = false ∧ eventLog (s.lds.get (ldKey p l)) log = some x ∧ clearLog x all handles = some y := by decide

theorem test_StandardMailboxCommandsAnswer_8 :
    let s := updDev (fun d => { d with fwReady := false }) rich
    let n := 1
    n < 64 ∧ s.dev.fwReady = false ∧ seatReached s n = true ∧ seatD3 s n = false ∧ doorbell s n = false := by decide

 

theorem test_FabricManagerCommandsAnswer_0 :
    let s := rich
    let port := 0
    port < 8 ∧ (s.ports.get port).linkUp = true ∧ (s.ports.get port).ideFailed = false ∧ (s.ports.get port).mld = true ∧
      s.dev.fwReady = true := by decide

theorem test_FabricManagerCommandsAnswer_2 :
    let s := rich
    let port := 0
    let allocs := [(1, 2 ^ 40 / 256000000 * 256000000 + 256000000)]
    port < 8 ∧ (s.ports.get port).linkUp = true ∧ (s.ports.get port).ideFailed = false ∧ (s.ports.get port).mld = true ∧
      s.dev.fwReady = true ∧ badAllocs s port allocs = false := by decide +kernel

theorem test_FabricManagerCommandsAnswer_4 :
    let s := rich
    let port := 0
    let moderate := 26
    let severe := 100
    let cci := 8192
    port < 8 ∧ (s.ports.get port).linkUp = true ∧ (s.ports.get port).ideFailed = false ∧ (s.ports.get port).mld = true ∧
      s.dev.fwReady = true ∧ 25 < moderate ∧ moderate < severe ∧ severe ≤ 100 ∧ cci ∈ [128, 256, 512, 1024, 2048, 4096, 8192] := by decide

theorem test_FabricManagerCommandsAnswer_7 :
    let s := rich
    let port := 0
    let values := [(15, 255)]
    port < 8 ∧ (s.ports.get port).linkUp = true ∧ (s.ports.get port).ideFailed = false ∧ (s.ports.get port).mld = true ∧
      s.dev.fwReady = true ∧ (values.any fun v => decide (15 < v.1) || decide (255 < v.2)) = false := by decide

theorem test_FabricManagerCommandsAnswer_12 :
    let s := updPort 0 (fun p => { p with mld := false }) rich
    let port := 0
    port < 8 ∧ (s.ports.get port).linkUp = true ∧ (s.ports.get port).ideFailed = false ∧ (s.ports.get port).mld = false := by decide

 

theorem test_ConfigurationAndDoeAccessesAnswer_0 :
    let s := rich
    let port := 0
    let ld := 15
    ldServed s port ld = true := by decide

theorem test_ConfigurationAndDoeAccessesAnswer_2 :
    let s := rich
    let port := 0
    let ld := 15
    let value := 512
    ldServed s port ld = true ∧ value ∈ [128, 256, 512] := by decide

theorem test_ConfigurationAndDoeAccessesAnswer_3 :
    let s := rich
    let port := 0
    let ld := 15
    let i := 3
    ldServed s port ld = true ∧ i < 4 := by decide

theorem test_ConfigurationAndDoeAccessesAnswer_4 :
    let s := rich
    let port := 0
    let ld := 15
    let value := 3
    ldServed s port ld = true ∧ value ∈ [0, 3] := by decide

theorem test_ConfigurationAndDoeAccessesAnswer_5 :
    let s := rich
    let port := 0
    let ld := 15
    let item := CfgItem.vendorId
    ldServed s port ld = true ∧ item ∉ [.biEnable, .maxPayload, .powerState] ∧ ((∀ i, item ≠ .hdmBase i ∧ item ≠ .hdmSize i ∧
      item ≠ .hdmControl i)) := by
  intro s port ld item
  exact ⟨by decide, by decide, fun i => ⟨nofun, nofun, nofun⟩⟩

theorem test_ConfigurationAndDoeAccessesAnswer_6 :
    let s := updDev (fun d => { d with fwReady := false }) rich
    let port := 0
    let ld := 15
    port < 8 ∧ ld < 16 ∧ ldReached s port ld = true ∧ s.dev.fwReady = false := by decide

theorem test_ConfigurationAndDoeAccessesAnswer_7 :
    let s := rich
    let port := 0
    let ld := 15
    let kind := 3
    let length := 16384
    doeServed s port ld = true ∧ length ≤ 16384 ∧ kind ≤ 3 := by decide

theorem test_ConfigurationAndDoeAccessesAnswer_8 :
    let s := rich
    let port := 0
    let ld := 15
    let length := 16385
    doeServed s port ld = true ∧ 16384 < length := by decide

theorem test_ConfigurationAndDoeAccessesAnswer_9 :
    let s := updLd 0 15 (fun d => { d with doeWork := some (0, 0) }) rich
    let port := 0
    let ld := 15
    ldServed s port ld = true ∧ (s.lds.get (ldKey port ld)).doeWork.isSome = true := by decide

theorem test_ConfigurationAndDoeAccessesAnswer_10 :
    let s := rich
    let port := 0
    let ld := 15
    let index := 3
    doeServed s port ld = true ∧ index < 4 := by decide

theorem test_ConfigurationAndDoeAccessesAnswer_11 :
    let s := rich
    let port := 0
    let ld := 15
    doeServed s port ld = true := by decide

theorem test_ConfigurationAndDoeAccessesAnswer_12 :
    let s := rich
    let port := 0
    let ld := 15
    port < 8 ∧ ld < 16 ∧ ldReached s port ld = true := by decide

 

theorem test_SecurityMessagesAnswer_0 :
    let s := updPort 0 (fun p => { p with ideProgrammed := some 1, ideKey := some 1 }) rich
    let port := 0
    let ld := 0
    doeServed s port ld = true := by decide

theorem test_SecurityMessagesAnswer_1 :
    let s := updPort 0 (fun p => { p with ideProgrammed := some 1, ideKey := some 1 }) rich
    let port := 0
    let ld := 0
    let v := 0x11
    let req := SpdmReq.keyExchange
    doeServed s port ld = true ∧ v ≠ 0x12 ∧ req ≠ .getVersion := by decide

theorem test_SecurityMessagesAnswer_2 :
    let s := updPort 0 (fun p => { p with ideProgrammed := some 1, ideKey := some 1 }) rich
    let port := 0
    let ld := 0
    doeServed s port ld = true ∧ (s.lds.get (ldKey port ld)).sessions < 2 := by decide

theorem test_SecurityMessagesAnswer_3 :
    let s := updPort 0 (fun p => { p with ideProgrammed := some 1, ideKey := some 1 }) rich
    let slot := 3
    let chain := ([] : List Byte)
    doeServed s 0 0 = true ∧ (s.lds.get (ldKey 0 0)).sessions ≠ 0 ∧ (s.seats.get 0).map = some (0, 0) ∧ 1 ≤ slot ∧ slot ≤ 3 ∧
      chain.length ≤ chainRoom := by decide

theorem test_SecurityMessagesAnswer_4 :
    let s := updPort 0 (fun p => { p with ideProgrammed := some 1, ideKey := some 1 }) rich
    let port := 0
    doeServed s port 0 = true ∧ (s.lds.get (ldKey port 0)).sessions ≠ 0 := by decide

theorem test_SecurityMessagesAnswer_5 :
    let s := updPort 0 (fun p => { p with ideProgrammed := some 1, ideKey := some 1 }) rich
    let port := 0
    let k := 1
    doeServed s port 0 = true ∧ (s.lds.get (ldKey port 0)).sessions ≠ 0 ∧ (s.ports.get port).ideProgrammed = some k := by decide

theorem test_SecurityMessagesAnswer_6 :
    let s := updPort 0 (fun p => { p with ideProgrammed := some 1, ideKey := some 1 }) rich
    let port := 0
    let k := 1
    doeServed s port 0 = true ∧ (s.lds.get (ldKey port 0)).sessions ≠ 0 ∧ (s.ports.get port).ideKey = some k := by decide

theorem test_SecurityMessagesAnswer_9 :
    let s := updPort 0 (fun p => { p with ideProgrammed := some 1, ideKey := some 1 }) rich
    let port := 0
    let ld := 0
    let n := 0
    let slot := 4095
    let key1 := 1
    let key2 := 2 ^ 256 - 1
    doeServed s port ld = true ∧ seatOfLd s port ld = some n ∧ (s.lds.get (ldKey port ld)).sessions ≠ 0 ∧ slot ≤ 4095 ∧
      keySlotOf s slot = none ∧ key1 < 2 ^ 256 ∧ key2 < 2 ^ 256 ∧ key1 ≠ key2 ∧
      (s.keySlots.filter fun k => k.owner = n).length < (s.seats.get n).limits.keySlots := by decide

theorem test_SecurityMessagesAnswer_10 :
    let s := { rich with keySlots := [{ slot := 4095, owner := 0, key1 := 1, key2 := 2, kcv := 0 : KeySlot }] }
    let port := 0
    let ld := 0
    let n := 0
    let slot := 4095
    let k := { slot := 4095, owner := 0, key1 := 1, key2 := 2, kcv := 0 : KeySlot }
    doeServed s port ld = true ∧ seatOfLd s port ld = some n ∧ (s.lds.get (ldKey port ld)).sessions ≠ 0 ∧ keySlotOf s slot = some k ∧
      k.owner = n ∧ (s.regions.any fun r => r.protected_ && decide (r.keySlot = slot)) = false := by decide

theorem test_SecurityMessagesAnswer_11 :
    let s := updPort 0 (fun p => { p with ideProgrammed := some 1, ideKey := some 1 }) rich
    let port := 0
    let ld := 0
    let n := 0
    doeServed s port ld = true ∧ seatOfLd s port ld = some n ∧ (s.lds.get (ldKey port ld)).sessions ≠ 0 := by decide

 

theorem test_ManagementMessagesAnswer_0 :
    let s := rich
    let eid := 254
    s.pwr.stage ≠ .off ∧ 8 ≤ eid ∧ eid ≤ 254 := by decide

theorem test_ManagementMessagesAnswer_1 :
    let s := rich
    s.pwr.stage ≠ .off := by decide

theorem test_ManagementMessagesAnswer_2 :
    let s := rich
    let addr := 127
    s.pwr.stage ≠ .off ∧ s.mgmt.addr = 0 ∧ addr < 128 := by decide

theorem test_ManagementMessagesAnswer_4 :
    let s := rich
    let tid := 254
    s.pwr.stage ≠ .off ∧ 1 ≤ tid ∧ tid ≤ 254 := by decide

theorem test_ManagementMessagesAnswer_6 :
    let s := rich
    s.pwr.stage ≠ .off ∧ s.dev.recovery = false := by decide

theorem test_ManagementMessagesAnswer_7 :
    let s := { rich with pldmQueue := [[]] }
    let ev := ([] : List Nat)
    let rest := ([] : List (List Nat))
    s.pwr.stage ≠ .off ∧ s.dev.recovery = false ∧ s.dev.fwReady = true ∧ s.pldmQueue = ev :: rest := by decide

theorem test_ManagementMessagesAnswer_8 :
    let s := rich
    let size := 67108864
    s.pwr.stage ≠ .off ∧ s.dev.fwReady = true ∧ s.dev.recovery = false ∧ s.flt.writing = none ∧ s.flt.activating = none ∧ 0 < size ∧
      size ≤ 67108864 := by decide

theorem test_ManagementMessagesAnswer_9 :
    let s := updFlt (fun f => { f with imageB := { f.imageB with valid := true } }) rich
    s.pwr.stage ≠ .off ∧ s.dev.fwReady = true ∧ s.dev.recovery = false ∧ s.flt.writing = none ∧ s.flt.activating = none ∧
      s.flt.restarting = false ∧ (inactiveImage s).valid = true := by decide

theorem test_ManagementMessagesAnswer_10 :
    let s := rich
    s.pwr.stage ≠ .off ∧ s.dev.fwReady = true := by decide

theorem test_RingStoresAndStepRecordsAct_0 :
    let s := rich
    let seat := 0
    let ring := 0
    let slot := 63
    seat < 64 ∧ ring < 4 ∧ seatReached s seat = true ∧ (ringOf s seat ring).live = true ∧ slot < 2 ^ (ringOf s seat ring).sqLog2 := by decide

theorem test_RingStoresAndStepRecordsAct_1 :
    let s := withRecord [(1, 255#8)] (rich)
    let seat := 0
    let ring := 0
    let b := recordBytes [(1, 255#8)]
    seat < 64 ∧ ring < 4 ∧ nextRecord s seat ring = some b ∧ recKind b = 0 := by decide

theorem test_RingStoresAndStepRecordsAct_2 :
    let s := withRecord [(0, 255#8)] (rich)
    let seat := 0
    let ring := 0
    let b := recordBytes [(0, 255#8)]
    seat < 64 ∧ ring < 4 ∧ nextOfKind s seat ring (fun k => 6 ≤ k) = some b := by decide

theorem test_RingStoresAndStepRecordsAct_3 :
    let s := withRecord [(0, 1#8)] ({ rich with glb := { rich.glb with hwparsePend := some false } })
    let seat := 0
    let ring := 0
    let b := recordBytes [(0, 1#8)]
    seat < 64 ∧ ring < 4 ∧ nextOfKind s seat ring (· == 1) = some b ∧ let part := (ringOf s seat ring).part; let u := wakeTiles (consume seat ring 1 s); holdsOpen u part = true := by decide

theorem test_RingStoresAndStepRecordsAct_4 :
    let s := withRecord [(0, 1#8)] (rich)
    let seat := 0
    let ring := 0
    let b := recordBytes [(0, 1#8)]
    seat < 64 ∧ ring < 4 ∧ nextOfKind s seat ring (· == 1) = some b ∧ let part := (ringOf s seat ring).part; let u := wakeTiles (consume seat ring 1 s); holdsOpen u part = false := by decide

theorem test_RingStoresAndStepRecordsAct_5 :
    let s := withRecord [(0, 2#8), (5, 2#8), (8, 5#8)] (stepping)
    let seat := 0
    let ring := 0
    let b := recordBytes [(0, 2#8), (5, 2#8), (8, 5#8)]
    seat < 64 ∧ ring < 4 ∧ nextOfKind s seat ring (· == 2) = some b ∧ recordCheck s seat ring 2 b = none := by decide

theorem test_RingStoresAndStepRecordsAct_6 :
    let s := withRecord [(0, 3#8), (5, 2#8), (8, 5#8)] (stepping)
    let seat := 0
    let ring := 0
    let b := recordBytes [(0, 3#8), (5, 2#8), (8, 5#8)]
    seat < 64 ∧ ring < 4 ∧ nextOfKind s seat ring (· == 3) = some b ∧ recordCheck s seat ring 3 b = none := by decide

theorem test_RingStoresAndStepRecordsAct_7 :
    let s := withRecord [(0, 4#8), (5, 2#8), (8, 5#8)] (updPart 0 (fun p => { p with step := { p.step with deliver := true } }) stepping)
    let seat := 0
    let ring := 0
    let b := recordBytes [(0, 4#8), (5, 2#8), (8, 5#8)]
    seat < 64 ∧ ring < 4 ∧ nextOfKind s seat ring (· == 4) = some b ∧ recordCheck s seat ring 4 b = none := by decide

theorem test_RingStoresAndStepRecordsAct_8 :
    let s := withRecord [(0, 5#8), (8, 5#8)] (stepping)
    let seat := 0
    let ring := 0
    let b := recordBytes [(0, 5#8), (8, 5#8)]
    seat < 64 ∧ ring < 4 ∧ nextOfKind s seat ring (· == 5) = some b ∧ closeCheck s seat ring b = none := by decide

theorem test_RingStoresAndStepRecordsAct_9 :
    let s := updRt 512 (fun r => { r with logit := some (16384, 128) }) rich
    let seat := 0
    let addr := 16384
    let h := 512
    seat < 64 ∧ headerOwner s seat addr = some h ∧ seatReached s seat = true := by decide

theorem test_RefusedStepRecordsComplete_0 :
    let s := withRecord [(0, 2#8), (8, 5#8)] (stepping)
    let seat := 0
    let ring := 0
    let k := 2
    let b := recordBytes [(0, 2#8), (8, 5#8)]
    let st := Status.staleGeneration
    let log := false
    seat < 64 ∧ ring < 4 ∧ k ∈ [2, 3, 4] ∧ nextOfKind s seat ring (· == k) = some b ∧ recordCheck s seat ring k b = some (st, log) := by decide

theorem test_CxlMemMessagesAct_0 :
    let s := rich
    let port := 0
    let ld := 7
    let addr := 2 ^ 40
    let mv := MetaVal.a
    let n := 7
    port < 8 ∧ ld < 16 ∧ memReached s port ld = true ∧ seatOfLd s port ld = some n ∧ (s.lds.get (ldKey port ld)).ingress = [] ∧
      heldUp s port ld n (.read (lineOf addr) (.read mv)) = false := by decide

theorem test_CxlMemMessagesAct_1 :
    let s := rich
    let port := 0
    let ld := 7
    let addr := 2 ^ 40
    let mv := MetaVal.a
    let mask := 0
    let data := ([] : List Byte)
    let n := 7
    port < 8 ∧ ld < 16 ∧ memReached s port ld = true ∧ seatOfLd s port ld = some n ∧ (s.lds.get (ldKey port ld)).ingress = [] ∧
      heldUp s port ld n (.write (lineOf addr) mv (mask % 2 ^ 64) (padTo 64 data)) = false := by decide

theorem test_CxlMemMessagesAct_2 :
    let s := rich
    let port := 0
    let ld := 7
    let addr := 2 ^ 40
    let mv := MetaVal.a
    let n := 7
    port < 8 ∧ ld < 16 ∧ memReached s port ld = true ∧ seatOfLd s port ld = some n ∧ (s.lds.get (ldKey port ld)).ingress = [] ∧
      heldUp s port ld n (.noData (lineOf addr) (.inv mv)) = false := by decide

theorem test_CxlMemMessagesAct_3 :
    let s := rich
    let port := 0
    let ld := 7
    let addr := 2 ^ 40
    let n := 7
    port < 8 ∧ ld < 16 ∧ memReached s port ld = true ∧ seatOfLd s port ld = some n ∧ (s.lds.get (ldKey port ld)).ingress = [] ∧
      heldUp s port ld n (.read (lineOf addr) .readData) = false := by decide

theorem test_CxlMemMessagesAct_4 :
    let s := rich
    let port := 0
    let ld := 7
    let addr := 2 ^ 40
    let n := 7
    port < 8 ∧ ld < 16 ∧ memReached s port ld = true ∧ seatOfLd s port ld = some n ∧ (s.lds.get (ldKey port ld)).ingress = [] ∧
      heldUp s port ld n (.noData (lineOf addr) .evict) = false := by decide

theorem test_CxlMemMessagesAct_5 :
    let s := updLd 0 7 (fun d => { d with ingress := [.read 0 (.read .a)] }) rich
    let port := 0
    let ld := 7
    let addr := 2 ^ 40
    let mv := MetaVal.a
    let mask := 0
    let data := ([] : List Byte)
    let n := 7
    port < 8 ∧ ld < 16 ∧ memReached s port ld = true ∧ seatOfLd s port ld = some n ∧ let wait := fun r => updLd port ld (fun d => { d with ingress := d.ingress ++ [r] }) s; let r := MemReq.read (lineOf addr) (.read mv); let w := MemReq.write (lineOf addr) mv (mask % 2 ^ 64) (padTo 64 data); ((heldUp s port ld n r = true ∨ (s.lds.get (ldKey port ld)).ingress ≠ [])) := by decide

theorem test_CxlMemMessagesAct_6 :
    let s := updLd 0 7 (fun d => { d with ingress := [.read 0 (.read .a)] }) rich
    let port := 0
    let ld := 7
    let addr := 2 ^ 40
    let mv := MetaVal.a
    let mask := 0
    let data := ([] : List Byte)
    let n := 7
    port < 8 ∧ ld < 16 ∧ memReached s port ld = true ∧ seatOfLd s port ld = some n ∧ let wait := fun r => updLd port ld (fun d => { d with ingress := d.ingress ++ [r] }) s; let r := MemReq.read (lineOf addr) (.read mv); let w := MemReq.write (lineOf addr) mv (mask % 2 ^ 64) (padTo 64 data); ((heldUp s port ld n w = true ∨ (s.lds.get (ldKey port ld)).ingress ≠ [])) := by decide

theorem test_CxlMemMessagesAct_7 :
    let port := 0
    let ld := 7
    port < 8 ∧ ld < 16 := by decide

theorem test_CxlMemMessagesAct_8 :
    let s := rich
    let port := 0
    let ld := 7
    let n := 7
    port < 8 ∧ ld < 16 ∧ memReached s port ld = true ∧ seatOfLd s port ld = some n := by decide

theorem test_CxlMemMessagesAct_9 :
    let s := rich
    let port := 0
    let ld := 7
    let addr := 2 ^ 40
    let n := 7
    port < 8 ∧ ld < 16 ∧ memReached s port ld = true ∧ seatOfLd s port ld = some n ∧ responseDue s (n, lineOf addr) = false := by decide

theorem test_CxlMemMessagesAct_10 :
    let s := { rich with tier := { rich.tier with heldWrites := [{ stepWork := false, target := .region 2, pieces := [], tag := .host 0 (2 ^ 40 - 2 ^ 21) 0 }] } }
    let port := 0
    let ld := 0
    let addr := 2 ^ 40 - 2 ^ 21
    let n := 0
    port < 8 ∧ ld < 16 ∧ memReached s port ld = true ∧ seatOfLd s port ld = some n ∧ responseDue s (n, lineOf addr) = true := by decide

theorem test_CxlMemMessagesAct_11 :
    let s := rich
    let port := 0
    let ld := 15
    port < 8 ∧ ld < 16 ∧ memReached s port ld = true ∧ seatOfLd s port ld = none := by decide

theorem test_PoolSetMessagesAct_0 :
    let s := inSet
    let member := 1
    let seq := 0
    let entry := ({ kind := 1, cls := 0, status := 0, replyTo := 0, target := 0, offset := 0, size := 0, data := [] } : StreamEntry)
    let m := { index := 1, window := 5 : Member }
    member < 8 ∧ memberOf s member = some m ∧ apertureOpen s = true ∧ memClosed s = false ∧ seq = m.applied ∧ entryWaits entry s = false := by decide

theorem test_PoolSetMessagesAct_1 :
    let s := inSet
    let member := 1
    let seq := 1
    let m := { index := 1, window := 5 : Member }
    member < 8 ∧ memberOf s member = some m ∧ seq ≠ m.applied := by decide

theorem test_PoolSetMessagesAct_2 :
    let s := { inSet with pset := { inSet.pset with members := [{ index := 1, window := 5, sent := 1 }] } }
    let member := 1
    let value := 1
    let m := { index := 1, window := 5, sent := 1 : Member }
    member < 8 ∧ memberOf s member = some m ∧ apertureOpen s = true ∧ m.absent = false ∧ (value + 2 ^ 32 - m.credit) % 2 ^ 32 ≤ m.inFlight := by decide

theorem test_PoolSetMessagesAct_3 :
    let s := inSet
    let member := 1
    let value := 1
    let m := { index := 1, window := 5 : Member }
    member < 8 ∧ memberOf s member = some m ∧ m.inFlight < (value + 2 ^ 32 - m.credit) % 2 ^ 32 := by decide

theorem test_PoolSetEventsAct_0 :
    let s := updDev (fun d => { d with devtime := 1000000000 }) { inSet with pset := { inSet.pset with members := [{ index := 1, window := 5, sent := 1, waiting := [(0, 0, { kind := .reserve })] }] } }
    let member := 1
    let m := { index := 1, window := 5, sent := 1, waiting := [(0, 0, { kind := .reserve })] : Member }
    member < 8 ∧ memberOf s member = some m ∧ m.absent = false ∧
      (m.waiting.any fun e => !covered m.credit e.1 && e.2.1 + s.pset.setTo * 1000000 ≤ s.dev.devtime) = true := by decide

theorem test_PoolSetEventsAct_1 :
    let s := updDev (fun d => { d with devtime := 10000000000 }) { inSet with pset := { inSet.pset with phase := .forming, joinOp := some 4 } }
    s.pset.phase = .forming ∧ s.pset.joinOp.isSome = true ∧ s.pset.joinAt + 10000000000 ≤ s.dev.devtime := by decide

theorem test_PoolSetEventsAct_2 :
    let s := { inSet with pset := { inSet.pset with phase := .forming } }
    s.pset.phase = .forming := by decide

theorem test_PoolSetEventsAct_3 :
    let s := inSet
    let member := 1
    let m := { index := 1, window := 5 : Member }
    member < 8 ∧ memberOf s member = some m ∧ s.pset.phase = .formed := by decide

theorem test_PoolSetEventsAct_4 :
    let s := running .rebuild { inSet with pset := { inSet.pset with rebuildOp := some 4 } }
    let op := 4
    let o := { n := 4, seat := 0, kind := .rebuild, deferred := true, tag := 0, hostTime := 0, tPosted := 0, tAccept := 0 : Op }
    opOf s op = some o ∧ o.kind = .rebuild ∧ s.pset.rebuildOp = some op := by decide

theorem test_PoolSetEventsAct_5 :
    let s := updRegion 3 (fun r => { r with mirrored := true, degraded := true }) inSet
    let region := 3
    let r := { id := 3, seat := 0, parkable := true, base := 2 ^ 22, size := 2 ^ 21, mirrored := true, degraded := true : Region }
    let m := { index := 1, window := 5 : Member }
    regionOf s region = some r ∧ memberOf s (partnerIx s) = some m ∧ m.absent = false ∧ r.mirrored = true ∧ r.degraded = true ∧
      s.pset.phase = .formed ∧ replicaWaits s region = false ∧ bulkClosed s = false := by decide

theorem test_PortEventsAct_0 :
    let s := rich
    let port := 7
    let offer := { width := 16, speed := 6, cxl := true, lopt := false, reversed := false, mld := true : Offer }
    port < 8 ∧ let p := s.ports.get port; p.linkUp = false ∧ p.retired = false ∧ s.pwr.held.contains (48 + port) = false ∧ s.dev.portLock / 2 ^ port % 2 ≠ 0 ∧ s.dev.recovery = false ∧ 0 < trainWidth p offer ∧ 0 < offer.speed ∧ offer.speed ≤ 6 := by decide

theorem test_PortEventsAct_1 :
    let s := rich
    let port := 0
    port < 8 ∧ (s.ports.get port).linkUp = true := by decide

theorem test_PortEventsAct_2 :
    let s := rich
    let port := 0
    let high := true
    let hard := true
    port < 8 ∧ groupUsable s port high = true ∧ let c := countFailure { unit := 4, index := port, place := bit high } false s; ((hard = true ∨ 3 ≤ c.2)) := by decide

theorem test_PortEventsAct_3 :
    let s := rich
    let port := 7
    let high := false
    let hard := false
    port < 8 ∧ groupUsable s port high = true ∧ let c := countFailure { unit := 4, index := port, place := bit high } false s; hard = false ∧ c.2 < 3 := by decide

theorem test_PortEventsAct_4 :
    let s := updPort 0 (fun p => { p with ideKey := some 1 }) rich
    let port := 0
    port < 8 ∧ (s.ports.get port).linkUp = true ∧ ((s.ports.get port).ideKey.isSome || (s.ports.get port).ioKey.isSome) = true ∧
      (s.ports.get port).ideFailed = false := by decide

theorem test_PortEventsAct_8 :
    let s := rich
    let port := 0
    let ld := 7
    let n := 7
    port < 8 ∧ ld < 16 ∧ ldReached s port ld = true ∧ seatOfLd s port ld = some n := by decide

theorem test_PortEventsAct_11 :
    let s := rich
    let port := 0
    port < 8 ∧ (s.ports.get port).linkUp = true ∧ s.pwr.gpf.contains port = false := by decide

theorem test_PortEventsAct_12 :
    let s := updPwr (fun p => { p with gpf := [0, 7] }) rich
    let port := 0
    let rest := [7]
    s.pwr.gpf = port :: rest := by decide

theorem test_StartAndResetEventsAct_0 :
    let s := updPwr (fun p => { p with vin := false }) rich
    s.pwr.vin = false ∧ s.pwr.protOpen = false := by decide

theorem test_StartAndResetEventsAct_1 :
    let s := updPwr (fun p => { p with protOpen := true }) rich
    s.pwr.protOpen = true := by decide

theorem test_StartAndResetEventsAct_2 :
    let s := updPwr (fun p => { p with pwrEn := false }) rich
    s.pwr.pwrEn = false := by decide

theorem test_StartAndResetEventsAct_3 :
    let s := updPwr (fun p => { p with stage := .ramping, rails := 8 }) rich
    s.pwr.stage = .ramping ∧ s.pwr.rails < 9 := by decide

theorem test_StartAndResetEventsAct_4 :
    let s := updPwr (fun p => { p with stage := .ramping, rails := 9 }) rich
    s.pwr.stage = .ramping ∧ 9 ≤ s.pwr.rails := by decide

theorem test_StartAndResetEventsAct_5 :
    let s := updPwr (fun p => { p with stage := .ramping, rails := 3 }) rich
    s.pwr.stage = .ramping := by decide

theorem test_StartAndResetEventsAct_7 :
    let s := updDev (fun d => { d with coldDue := true }) (rich)
    s.dev.coldDue = true := by decide

theorem test_StartAndResetEventsAct_8 :
    let s := rich
    s.pwr.stage = .up ∧ s.dev.recovery = false := by decide

theorem test_StartAndResetEventsAct_9 :
    let s := updPwr (fun p => { p with stage := .saving }) rich
    s.pwr.stage = .saving := by decide

theorem test_StartAndResetEventsAct_10 :
    let s := rich
    s.pwr.pwrEn = true ∧ let u := updPwr (fun p => { p with pwrEn := false, startStopped := false, fatalOff := false }) s; live u = true := by decide

theorem test_StartAndResetEventsAct_11 :
    let s := updPwr (fun p => { p with stage := .ramping }) rich
    s.pwr.pwrEn = true ∧ let u := updPwr (fun p => { p with pwrEn := false, startStopped := false, fatalOff := false }) s; live u = false ∧ flushing u = false ∧ u.pwr.stage ≠ .off := by decide

theorem test_StartAndResetEventsAct_12 :
    let s := rich
    s.pwr.stage = .up ∧ s.dev.refclkOk = true := by decide

theorem test_StartAndResetEventsAct_13 :
    let s := rich
    s.pwr.stage = .up ∧ s.dev.rootLock = true := by decide

theorem test_StartAndResetEventsAct_14 :
    let s := updFlt (fun f => { f with restarting := true }) rich
    s.pwr.stage = .up ∧ s.dev.recovery = false ∧ s.dev.rootLock = true ∧ reloadDue s = true := by decide

theorem test_StartAndResetEventsAct_15 :
    let s := updDev (fun d => { d with fwReady := false }) (rich)
    s.pwr.stage = .up ∧ s.dev.recovery = false ∧ s.dev.rootLock = true ∧ reloadDue s = false ∧ s.dev.fwReady = false := by decide

theorem test_StartAndResetEventsAct_16 :
    let s := updDev (fun d => { d with memActive := false }) (rich)
    s.pwr.stage = .up ∧ s.dev.portLock ≠ 0 ∧ s.dev.recovery = false ∧ s.dev.memActive = false := by decide

theorem test_StartAndResetEventsAct_17 :
    let s := updDev (fun d => { d with mapReady := false }) (rich)
    s.dev.memActive = true ∧ s.dev.mapReady = false := by decide

theorem test_StartAndResetEventsAct_18 :
    let s := updDev (fun d => { d with admitOpen := false }) (rich)
    s.dev.fwReady = true ∧ s.dev.memActive = true ∧ s.dev.mapReady = true ∧ s.dev.admitOpen = false ∧ s.flt.sable = false := by decide

theorem test_StartAndResetEventsAct_19 :
    let s := { updDev (fun d => { d with restoreRegions := [3] }) (rich) with swap := some { out := false, part := 0, release := false, op := 0, restore := true } }
    let id := 3
    let rest := ([] : List Nat)
    s.dev.memActive = true ∧ s.dev.mapReady = true ∧ s.flt.sable = false ∧ (s.swap.any (·.restore)) = true ∧
      s.dev.restoreRegions = id :: rest := by decide

theorem test_StartAndResetEventsAct_20 :
    let s := { updDev (fun d => { d with restoreParts := [0] }) (rich) with swap := some { out := false, part := 0, release := false, op := 0, restore := true } }
    let p := 0
    let rest := ([] : List Nat)
    s.dev.memActive = true ∧ s.dev.mapReady = true ∧ s.flt.sable = false ∧ (s.swap.any (·.restore)) = true ∧ s.dev.restoreRegions = [] ∧
      s.dev.restoreParts = p :: rest := by decide

theorem test_StartAndResetEventsAct_21 :
    let s := { updDev (fun d => { d with bootFlush := false }) (rich) with swap := some { out := false, part := 0, release := false, op := 0, restore := true } }
    s.dev.memActive = true ∧ s.dev.mapReady = true ∧ s.flt.sable = false ∧ (s.swap.any (·.restore)) = true ∧ s.dev.restoreRegions = [] ∧
      s.dev.restoreParts = [] := by decide

theorem test_FlushAndClockEventsAct_0 :
    let s := rich
    s.pwr.vin = true := by decide

theorem test_FlushAndClockEventsAct_1 :
    let s := rich
    live s = true := by decide

theorem test_FlushAndClockEventsAct_2 :
    let s := updPwr (fun p => { p with stage := .flushData, flush := some { cause := .input, whole := true, full := true } }) rich
    let x := { cause := .input, whole := true, full := true : FlushSt }
    s.pwr.flush = some x ∧ s.pwr.stage = .flushData ∧ x.full = true := by decide

theorem test_FlushAndClockEventsAct_3 :
    let s := updPwr (fun p => { p with stage := .flushMeta, flush := some { cause := .input, whole := true, full := true } }) rich
    let x := { cause := .input, whole := true, full := true : FlushSt }
    s.pwr.flush = some x ∧ x.full = true ∧ s.pwr.stage = .flushMeta := by decide

theorem test_FlushAndClockEventsAct_4 :
    let s := updPwr (fun p => { p with stage := .flushMeta, flush := some { cause := .input, whole := true, full := false } }) rich
    let x := { cause := .input, whole := true, full := false : FlushSt }
    s.pwr.flush = some x ∧ x.full = false ∧ flushing s = true := by decide

theorem test_FlushAndClockEventsAct_5 :
    let s := updPwr (fun p => { p with stage := .flushData, flush := some { cause := .input, whole := true, full := true } }) rich
    flushing s = true := by decide

theorem test_FlushAndClockEventsAct_6 :
    let s := rich
    s.dev.refclkOk = true ∧ flushing s = false := by decide

theorem test_HoldupEventsAct_0 :
    let s := rich
    s.hup.present = true := by decide

theorem test_HoldupEventsAct_2 :
    let s := { rich with hup := { rich.hup with eCap := 100 } }
    let e := 98
    s.hup.present = true ∧ let u := updHup (fun h => { h with eStored := e }) s; s.hup.chg = .ready ∧ 100 * e ≤ 98 * s.hup.eCap := by decide

theorem test_HoldupEventsAct_3 :
    let s := { rich with hup := { rich.hup with chg := .charging } }
    let e := 98
    s.hup.present = true ∧ let u := updHup (fun h => { h with eStored := e }) s; s.hup.chg ≠ .ready := by decide

theorem test_HoldupEventsAct_4 :
    let s := { rich with hup := { rich.hup with eCap := 100 } }
    let e := 99
    s.hup.present = true ∧ let u := updHup (fun h => { h with eStored := e }) s; 98 * s.hup.eCap < 100 * e := by decide

theorem test_HoldupEventsAct_5 :
    let s := { rich with hup := { rich.hup with present := false } }
    s.hup.present = false := by decide

theorem test_HoldupEventsAct_6 :
    let s := rich
    s.hup.present = true ∧ s.pwr.flush = none := by decide

theorem test_HoldupEventsAct_7 :
    let s := { updPwr (fun p => { p with stage := .flushData, flush := some { cause := .input, whole := true, full := true }, vin := false }) rich with hup := rich.hup }
    let x := { cause := .input, whole := true, full := true : FlushSt }
    s.hup.present = true ∧ s.pwr.flush = some x ∧ x.full = true ∧ s.pwr.vin = false ∧ s.pwr.stage = .flushData := by decide

theorem test_HoldupEventsAct_8 :
    let s := { rich with hup := { rich.hup with chg := .charging, chargeRange := true } }
    s.hup.present = true ∧ s.hup.stopped = false ∧ s.hup.chargeRange = true ∧ s.hup.chg = .charging := by decide

theorem test_HoldupEventsAct_9 :
    let s := { rich with hup := { rich.hup with chg := .testing, step := .charge, chargeRange := true } }
    s.hup.present = true ∧ s.hup.stopped = false ∧ s.hup.chargeRange = true ∧ s.hup.chg = .testing ∧ s.hup.step = .charge := by decide

theorem test_HoldupEventsAct_10 :
    let s := { rich with hup := { rich.hup with chg := .testing, step := .charge } }
    ((s.hup.chg = .charging ∨ s.hup.chg = .testing ∧ s.hup.step = .charge)) := by decide

theorem test_HoldupEventsAct_11 :
    let s := updDev (fun d => { d with parkClock := 7776000 }) (rich)
    s.hup.present = true ∧ ((s.hup.chg = .charging ∨ s.hup.chg = .ready)) ∧ s.hup.lastTest + periodSeconds s ≤ s.dev.parkClock := by decide

theorem test_HoldupEventsAct_12 :
    let s := { rich with hup := { rich.hup with chg := .testing, step := .rest } }
    s.hup.chg = .testing ∧ s.hup.step = .rest := by decide

theorem test_HoldupEventsAct_13 :
    let s := { rich with hup := { rich.hup with chg := .testing, step := .discharge } }
    let energy := 642999
    s.hup.chg = .testing ∧ s.hup.step = .discharge ∧ let u := updHup (fun h => { h with chg := .charging, step := .waiting, eCap := energy, tested := true, lastTest := s.dev.parkClock, low := energy < 643000 }) s; energy < 643000 := by decide

theorem test_HoldupEventsAct_14 :
    let s := { rich with hup := { rich.hup with chg := .testing, step := .discharge } }
    let energy := 2879999
    s.hup.chg = .testing ∧ s.hup.step = .discharge ∧ let u := updHup (fun h => { h with chg := .charging, step := .waiting, eCap := energy, tested := true, lastTest := s.dev.parkClock, low := energy < 643000 }) s; 643000 ≤ energy ∧ energy < 2880000 := by decide

theorem test_HoldupEventsAct_15 :
    let s := { rich with hup := { rich.hup with chg := .testing, step := .discharge } }
    let energy := 2880000
    s.hup.chg = .testing ∧ s.hup.step = .discharge ∧ let u := updHup (fun h => { h with chg := .charging, step := .waiting, eCap := energy, tested := true, lastTest := s.dev.parkClock, low := energy < 643000 }) s; 2880000 ≤ energy := by decide

theorem test_PowerProtectionEventsAct_0 :
    let location := 2
    location < 3 := by decide

theorem test_PowerProtectionEventsAct_1 :
    let s := rich
    let bc := 1
    bc < 2 ∧ s.pwr.bcLost.contains bc = false := by decide

theorem test_PowerProtectionEventsAct_2 :
    let rail := 8
    let high := false
    rail < 9 ∧ ((high = true → rail = 0)) := by decide

theorem test_PowerProtectionEventsAct_3 :
    let s := rich
    let phase := 119
    phase < 120 ∧ s.pwr.phasesOff.contains phase = false := by decide

theorem test_PowerProtectionEventsAct_4 :
    let s := rich
    let region := 57
    region < 58 ∧ s.pwr.stage = .up ∧ s.pwr.throttled.contains region = false := by decide

theorem test_PowerProtectionEventsAct_5 :
    let region := 57
    region < 58 := by decide

theorem test_PowerProtectionEventsAct_6 :
    let s := rich
    let region := 57
    region < 58 ∧ (s.pwr.stage = .up ∨ flushing s = true) ∧ s.pwr.held.contains region = false ∧ s.pwr.failed.contains region = false ∧ let c := countFailure (regionLoc region) false s; c.2 < 3 := by decide

theorem test_PowerProtectionEventsAct_7 :
    let s := updFlt (fun f => { f with failures := [(regionLoc 56, [0, 0])] }) rich
    let region := 56
    region < 58 ∧ (s.pwr.stage = .up ∨ flushing s = true) ∧ s.pwr.held.contains region = false ∧ s.pwr.failed.contains region = false ∧ let c := countFailure (regionLoc region) false s; 3 ≤ c.2 ∧ 56 ≤ region := by decide

theorem test_PowerProtectionEventsAct_8 :
    let s := updFlt (fun f => { f with failures := [(regionLoc 55, [0, 0])] }) rich
    let region := 55
    region < 58 ∧ (s.pwr.stage = .up ∨ flushing s = true) ∧ s.pwr.held.contains region = false ∧ s.pwr.failed.contains region = false ∧ let c := countFailure (regionLoc region) false s; 3 ≤ c.2 ∧ region < 56 := by decide

theorem test_IdleTelemetryAndClockEventsAct_0 :
    let s := updDev (fun d => { d with devtime := 1000000 }) ({ rich with glb := { rich.glb with pwrCtrl := 2 ^ 31 + 1000 } })
    s.pwr.stage = .up ∧ s.dev.memActive = true ∧ idleGate s = true ∧ deviceIdle s = true ∧ s.svc.gate = .usable ∧
      s.svc.idleSince + 1000 * idleUs s ≤ s.dev.devtime := by decide

theorem test_IdleTelemetryAndClockEventsAct_1 :
    let s := { rich with svc := { rich.svc with gate := .waking } }
    s.svc.gate = .waking := by decide

theorem test_IdleTelemetryAndClockEventsAct_2 :
    let s := updDev (fun d => { d with devtime := 1000000 }) (rich)
    s.pwr.stage = .up ∧ (s.tel.window + 1) * 10 ^ 6 ≤ s.dev.devtime := by decide

theorem test_IdleTelemetryAndClockEventsAct_3 :
    let port := 7
    port < 8 := by decide

theorem test_IdleTelemetryAndClockEventsAct_5 :
    let s := rich
    s.dev.admitOpen = true := by decide

theorem test_IdleTelemetryAndClockEventsAct_7 :
    let s := rich
    s.dev.memActive = true := by decide

theorem test_AttentionServiceEventsAct_0 :
    let s := updDev (fun d => { d with devtime := 1000000 }) ({ stepping with svc := { stepping.svc with inService := some (0, 0) } })
    let p := 0
    let i := 0
    let it := { handle := 512, layer := 0 : Item }
    s.svc.inService = some (p, i) ∧ itemOf s p i = some it ∧ it.rec? = none ∧ it.since + 1000 * (s.parts.get p).step.waitUs ≤ s.dev.devtime ∧
      canComplete s (s.parts.get p).step.ownerSeat (s.parts.get p).step.ownerRing 1 = true := by decide

theorem test_AttentionServiceEventsAct_1 :
    let s := { stepping with svc := { stepping.svc with inService := some (0, 0), halfA := some { part := 0, idx := 0, pass := 0 } } }
    let h := { part := 0, idx := 0, pass := 0 : Half }
    let it := { handle := 512, layer := 0 : Item }
    arraysHalted s = false ∧ stagingHalf s = some h ∧ itemOf s h.part h.idx = some it := by decide

theorem test_AttentionServiceEventsAct_2 :
    let s := serving
    let p := 0
    let i := 0
    let it := { handle := 512, layer := 0, started := some 0 : Item }
    arraysHalted s = false ∧ s.svc.inService = some (p, i) ∧ itemOf s p i = some it ∧ (s.parts.get p).step.deliver = false ∧
      it.started.isSome = true ∧ it.ending = none ∧ it.record = none ∧ passReady s p i it.passes = true := by decide

theorem test_AttentionServiceEventsAct_3 :
    let s := updPart 0 (fun p => { p with step := { p.step with deliver := true, items := [{ handle := 512, layer := 0, started := some 0, ports := [0] }] } }) serving
    let p := 0
    let i := 0
    let it := { handle := 512, layer := 0, started := some 0, ports := [0] : Item }
    let w := (⟨1, 1, 1, 0, 2 ^ 25⟩ : Window)
    pushing s = some (p, i, it) ∧ hbmHalted s = false ∧ ((List.range (itemAll s p it)).any fun r => sliceDamaged s p it.layer (reachSlot s it.handle r)) = false ∧ windowOf s (s.parts.get p).step.ownerSeat (s.parts.get p).step.window = some w ∧ it.ports ≠ [] ∧ let t := pushSlices w it p s; (it.ports.any fun q => !carriesPeer s q) = false := by decide

theorem test_AttentionServiceEventsAct_4 :
    let s := updPort 0 (fun p => { p with linkUp := false }) (updPart 0 (fun p => { p with step := { p.step with deliver := true, items := [{ handle := 512, layer := 0, started := some 0, ports := [0] }] } }) serving)
    let p := 0
    let i := 0
    let it := { handle := 512, layer := 0, started := some 0, ports := [0] : Item }
    let w := (⟨1, 1, 1, 0, 2 ^ 25⟩ : Window)
    pushing s = some (p, i, it) ∧ hbmHalted s = false ∧ ((List.range (itemAll s p it)).any fun r => sliceDamaged s p it.layer (reachSlot s it.handle r)) = false ∧ windowOf s (s.parts.get p).step.ownerSeat (s.parts.get p).step.window = some w ∧ it.ports ≠ [] ∧ let t := pushSlices w it p s; (it.ports.any fun q => !carriesPeer s q) = true := by decide

theorem test_AttentionServiceEventsAct_5 :
    let s := updFlt (fun f => { f with damage := [(.kv 0 0, 1#256)] }) (updPart 0 (fun p => { p with step := { p.step with deliver := true, items := [{ handle := 512, layer := 0, started := some 0, ports := [0] }] } }) serving)
    let p := 0
    let i := 0
    let it := { handle := 512, layer := 0, started := some 0, ports := [0] : Item }
    pushing s = some (p, i, it) ∧ hbmHalted s = false ∧
      ((List.range (itemAll s p it)).any fun r => sliceDamaged s p it.layer (reachSlot s it.handle r)) = true := by decide

theorem test_AttentionServiceEventsAct_6 :
    let s := updPart 0 (fun p => { p with step := { p.step with deliver := true, items := [{ handle := 512, layer := 0, started := some 0, ports := [] }] } }) serving
    let p := 0
    let i := 0
    let it := { handle := 512, layer := 0, started := some 0, ports := [] : Item }
    pushing s = some (p, i, it) ∧ hbmHalted s = false ∧
      ((List.range (itemAll s p it)).any fun r => sliceDamaged s p it.layer (reachSlot s it.handle r)) = false ∧
      (windowOf s (s.parts.get p).step.ownerSeat (s.parts.get p).step.window = none ∨ it.ports = []) := by decide

theorem test_AttentionServiceEventsAct_7 :
    let s := withRecord [(16384 + 8, 2#8), (16384 + 22, 128#8), (16384 + 23, 63#8), (16384 + 30, 128#8), (16384 + 31, 63#8)] (updRt 512 (fun r => { r with logit := some (16384, 128) }) { stepping with draws := [{ handle := 512, part := 0, step := 5, queued := 0 }] })
    let d := { handle := 512, part := 0, step := 5, queued := 0  : Draw }
    let rest := ([] : List Draw)
    let x := { token := 0, greedy := true, full := false : Drawn }
    s.draws = d :: rest ∧ s.dev.memActive = true ∧ s.flt.sable = false ∧
      canComplete s (s.parts.get d.part).step.ownerSeat (s.parts.get d.part).step.ownerRing 1 = true ∧ windowHeld s d.handle = false ∧
      clearHeld s d.handle = false ∧ (drawOutcome s d).1 = some x ∧ holdsWrite s true (countFrame d.handle x.token) = false := by decide +kernel

theorem test_AttentionServiceEventsAct_8 :
    let s := { stepping with draws := [{ handle := 512, part := 0, step := 5, queued := 0 }] }
    let d := { handle := 512, part := 0, step := 5, queued := 0  : Draw }
    let rest := ([] : List Draw)
    s.draws = d :: rest ∧ s.dev.memActive = true ∧ s.flt.sable = false ∧
      canComplete s (s.parts.get d.part).step.ownerSeat (s.parts.get d.part).step.ownerRing 1 = true ∧ windowHeld s d.handle = false ∧
      clearHeld s d.handle = false ∧ (drawOutcome s d).1 = none := by decide

theorem test_AttentionServiceEventsAct_9 :
    let s := updPart 0 (fun p => { p with step := { p.step with cond := .closing, items := [] } }) stepping
    let part := 0
    part < 16 ∧ boundaryDue s part = true := by decide

theorem test_AttentionServiceEventsAct_10 :
    let s := { updRing 0 0 (fun r => { r with cqBase := 2 ^ 40 - 2 ^ 21 }) (updPart 0 (fun p => { p with step := { p.step with cond := .closing, items := [] } }) stepping) with coh := { rich.coh with dir := [{ region := 2, line := 0, holders := 2#64, excl := true }] } }
    let part := 0
    part < 16 ∧ boundaryDue s part = false ∧ stepDone s part = true ∧ boundarySpace s part = true := by decide

theorem test_AttentionServiceEventsAct_11 :
    let s := { rich with glb := { rich.glb with pwrCtrlPend := some 0 } }
    deviceIdle s = true ∧ globalPending s = true := by decide

theorem test_FlashEventsAct_0 :
    let s := updDev (fun d => { d with devtime := 30000000000 }) (rich)
    let stack := 7
    stack < 8 ∧ s.flash.recalDue.get stack + 6000000000 ≤ s.dev.devtime := by decide

theorem test_FlashEventsAct_1 :
    let s := updDev (fun d => { d with devtime := 30000000000 }) (rich)
    let channel := 31
    channel < 32 ∧ s.flash.calLast.get channel + 30000000000 ≤ s.dev.devtime := by decide

theorem test_FlashEventsAct_2 :
    let s := rich
    let stack := 7
    stack < 8 ∧ s.dev.memActive = true := by decide

theorem test_FlashEventsAct_4 :
    let s := { rich with flash := { rich.flash with inflight := [{ key := .region 3 0, unit := 5, len := 4095, pos := 0, damaged := false, data := [] }] } }
    let idx := 0
    let q := { key := .region 3 0, unit := 5, len := 4095, pos := 0, damaged := false, data := []  : Prog }
    s.flash.inflight[idx]? = some q ∧ parityWaits s q.key = false := by decide

theorem test_FlashEventsAct_5 :
    let s := { rich with flash := { rich.flash with inflight := [{ key := .region 3 0, unit := 5, len := 4095, pos := 0, damaged := false, data := [] }] } }
    let idx := 0
    let q := { key := .region 3 0, unit := 5, len := 4095, pos := 0, damaged := false, data := []  : Prog }
    s.flash.inflight[idx]? = some q ∧ let u := dirtyAgain q { s with flash := { s.flash with inflight := s.flash.inflight.eraseIdx idx } }; parityIndex u q.key = none := by decide

theorem test_FlashEventsAct_6 :
    let s := { { rich with flash := { rich.flash with inflight := [{ key := .region 3 0, unit := 5, len := 4095, pos := 0, damaged := false, data := [] }] } } with pset := { rich.pset with units := [(.region 3 0, 4)] } }
    let idx := 0
    let q := { key := .region 3 0, unit := 5, len := 4095, pos := 0, damaged := false, data := []  : Prog }
    let k := 4
    s.flash.inflight[idx]? = some q ∧ let u := dirtyAgain q { s with flash := { s.flash with inflight := s.flash.inflight.eraseIdx idx } }; parityIndex u q.key = some k := by decide

theorem test_FlashEventsAct_8 :
    let s := { rich with flash := { rich.flash with homes := [(.region 3 0, 5)], map := [{ unit := 5, len := 4095, pos := 0, data := [] }] } }
    let idx := 0
    let m := { unit := 5, len := 4095, pos := 0, data := [] : MapEnt }
    s.flash.map[idx]? = some m ∧ m.lost = false := by decide

theorem test_FlashEventsAct_9 :
    let s := { rich with flash := { rich.flash with lanes := rich.flash.lanes.upd 991 fun l => { l with blocks := l.blocks.upd 3723 fun b => { b with st := .closed } } } }
    let lane := 991
    let block := 3723
    let found := true
    lane < 992 ∧ block < 3724 ∧ ((s.flash.lanes.get lane).blocks.get block).st = .closed ∧
      refreshDue s ((s.flash.lanes.get lane).blocks.get block) found = true := by decide

theorem test_FlashEventsAct_14 :
    let s := { rich with flash := { rich.flash with jSince := 2 ^ 27 } }
    s.flash.ckpt = none ∧ ((if s.tier.flushMode then 2 ^ 30 else 2 ^ 27) ≤ s.flash.jSince) := by decide

theorem test_FlashEventsAct_15 :
    let s := { rich with flash := { rich.flash with ckpt := some 3 } }
    let n := 3
    s.flash.ckpt = some n := by decide

theorem test_FlashEventsAct_16 :
    let s := rich
    let channel := 31
    channel < 32 ∧ s.flash.failed.contains channel = false := by decide

theorem test_FlashEventsAct_17 :
    let s := updFlt (fun f => { f with failures := [({ unit := 6, index := 31, place := 0 }, [0, 0])] }) (rich)
    let channel := 31
    channel < 32 ∧ s.flash.failed.contains channel = false ∧ let c := countFailure { unit := 6, index := channel, place := 0 } false s; 3 ≤ c.2 := by decide

theorem test_FlashEventsAct_18 :
    let s := rich
    let channel := 31
    channel < 32 ∧ s.flash.failed.contains channel = false ∧ let c := countFailure { unit := 6, index := channel, place := 0 } false s; c.2 < 3 := by decide

theorem test_FlashEventsAct_20 :
    let s := { rich with flash := { rich.flash with lanes := rich.flash.lanes.upd 991 fun l => { l with cond := .evacuating } } }
    let lane := 991
    let u := s
    lane < 992 ∧ (s.flash.lanes.get lane).cond = .evacuating ∧ let move := fun (x : Option State) (m : MapEnt) => x.bind fun s => (place true false m.unit m.len s).map fun y => moveEntry m.unit y.2 y.1; let moved := (s.flash.map.filter fun m => m.old && !m.lost && laneOf m.unit = lane).foldl move (some s); moved = some u := by decide

theorem test_ErrorEventsAct_0 :
    let s := rich
    let stack := 7
    let pc := 31
    let bank := 255
    let row := 2 ^ 24 - 1
    stack < 8 ∧ pc < 32 ∧ hbmRowOk (stack * 32 + pc) bank row = true ∧ pcServes s (stack * 32 + pc) = true := by decide

theorem test_ErrorEventsAct_1 :
    let s := updFlt (fun f => { f with damage := [(.region 3 0, 1#256)] }) ({ rich with flash := { rich.flash with homes := [(.region 3 0, 5)], map := [{ unit := 5, len := 4095, pos := 0, data := [] }] } })
    let place := HbmPlace.region 3 0
    let k := FrameKey.region 3 0
    let u := UnitKey.region 3 0
    let n := 0
    let m := { unit := 5, len := 4095, pos := 0, data := [] : MapEnt }
    placeFrame s place = some k ∧ s.dev.memActive = true ∧ s.dev.mapReady = true ∧ frameDamaged s k = true ∧ isClean s k = true ∧
      unitOfFrame s k = some (u, n) ∧ mapOf s u = some m ∧ m.lost = false := by decide

theorem test_ErrorEventsAct_2 :
    let s := updFlt (fun f => { f with retiringPcs := [255] }) rich
    let pc := 255
    pc < 256 ∧ s.dev.memActive = true ∧ s.flt.retiringPcs.contains pc = true ∧ s.acct.frames ≤ frameLimit s := by decide

theorem test_ErrorEventsAct_3 :
    let s := rich
    let tile := 319
    let row := 1023
    tile < 320 ∧ row < 1024 ∧ tileServes s tile = true := by decide

theorem test_ErrorEventsAct_4 :
    let s := updDev (fun d => { d with memActive := false }) (rich)
    let tile := 319
    let row := 1023
    tile < 320 ∧ row < 1024 ∧ s.pwr.stage = .up ∧ s.dev.memActive = false ∧ s.dev.recovery = false ∧
      s.flt.retiredTiles.contains tile = false := by decide

theorem test_ErrorEventsAct_5 :
    let s := rich
    let core := 3
    core < 4 ∧ s.pwr.stage = .up ∧ s.dev.recovery = false ∧ let c := countFailure { unit := 13, index := core, place := 0 } false s; c.2 < 3 := by decide

theorem test_ErrorEventsAct_6 :
    let s := updFlt (fun f => { f with failures := [({ unit := 13, index := 3, place := 0 }, [0, 0])] }) (rich)
    let core := 3
    core < 4 ∧ s.pwr.stage = .up ∧ s.dev.recovery = false ∧ let c := countFailure { unit := 13, index := core, place := 0 } false s; 3 ≤ c.2 := by decide

theorem test_ErrorEventsAct_7 :
    let s := rich
    s.pwr.stage = .up ∧ s.dev.recovery = false ∧ let c := countFailure { unit := 0, index := 0, place := 1 } false s; c.2 < 3 := by decide

theorem test_ErrorEventsAct_8 :
    let s := updFlt (fun f => { f with failures := [({ unit := 0, index := 0, place := 1 }, [0, 0])] }) (rich)
    s.pwr.stage = .up ∧ s.dev.recovery = false ∧ let c := countFailure { unit := 0, index := 0, place := 1 } false s; 3 ≤ c.2 ∧ c.1.glb.parserRetired = false := by decide

theorem test_ErrorEventsAct_9 :
    let s := updFlt (fun f => { f with singleCopy := [(67, 1)] }) (rich)
    let k := 67
    let entry := 0
    k < 68 ∧ s.pwr.stage = .up ∧ s.dev.recovery = false ∧ let c := countFailure { unit := 12, index := k, place := entry } false s; let loss : FaultEv := { unit := 12, index := k, event := 2, location := entry }; let corrected : FaultEv := { unit := 12, index := k, event := 1, count := c.2, action := 2, location := entry }; let single : FaultEv := { cls := 1, unit := 12, index := k, event := 1, count := c.2, action := 3, location := entry }; (s.flt.singleCopy.any fun x => x.1 = k) = true := by decide

theorem test_ErrorEventsAct_10 :
    let s := rich
    let k := 67
    let entry := 0
    k < 68 ∧ s.pwr.stage = .up ∧ s.dev.recovery = false ∧ let c := countFailure { unit := 12, index := k, place := entry } false s; let loss : FaultEv := { unit := 12, index := k, event := 2, location := entry }; let corrected : FaultEv := { unit := 12, index := k, event := 1, count := c.2, action := 2, location := entry }; let single : FaultEv := { cls := 1, unit := 12, index := k, event := 1, count := c.2, action := 3, location := entry }; (s.flt.singleCopy.any fun x => x.1 = k) = false ∧ c.2 < 3 := by decide

theorem test_ErrorEventsAct_11 :
    let s := updFlt (fun f => { f with failures := [({ unit := 12, index := 67, place := 0 }, [0, 0])] }) (rich)
    let k := 67
    let entry := 0
    k < 68 ∧ s.pwr.stage = .up ∧ s.dev.recovery = false ∧ let c := countFailure { unit := 12, index := k, place := entry } false s; let loss : FaultEv := { unit := 12, index := k, event := 2, location := entry }; let corrected : FaultEv := { unit := 12, index := k, event := 1, count := c.2, action := 2, location := entry }; let single : FaultEv := { cls := 1, unit := 12, index := k, event := 1, count := c.2, action := 3, location := entry }; (s.flt.singleCopy.any fun x => x.1 = k) = false ∧ 3 ≤ c.2 := by decide

theorem test_ErrorEventsAct_12 :
    let s := updFlt (fun f => { f with failures := [({ unit := 12, index := 68, place := 0 }, [0, 0])] }) (rich)
    let k := 68
    68 ≤ k ∧ k < 71 ∧ s.pwr.stage = .up ∧ s.dev.recovery = false ∧ let c := countFailure { unit := 12, index := k, place := 0 } false s; 3 ≤ c.2 := by decide

theorem test_ErrorEventsAct_13 :
    let s := rich
    let k := 70
    68 ≤ k ∧ k < 71 ∧ s.pwr.stage = .up ∧ s.dev.recovery = false ∧ let c := countFailure { unit := 12, index := k, place := 0 } false s; c.2 < 3 := by decide

theorem test_ErrorEventsAct_15 :
    let kind := 3
    let index := 119
    let location := 0
    let x := (true, true, ({ unit := 8, index := 119, event := 17 } : FaultEv))
    fatalKind kind index location = some x ∧ kind ≠ 6 := by decide

theorem test_ErrorEventsAct_16 :
    let index := 255
    let location := 0
    let x := (false, false, ({ unit := 1, index := 255, event := 4 } : FaultEv))
    fatalKind 6 index location = some x := by decide

theorem test_ErrorEventsAct_17 :
    let s := updFlt (fun f => { f with activating := some none, newImage := true }) (updDev (fun d => { d with fwReady := false, devtime := 3000000000 }) (rich))
    s.flt.activating.isSome = true ∧ s.flt.newImage = true ∧ s.dev.fwReady = false ∧ s.flt.restartAt + 2000000000 ≤ s.dev.devtime := by decide

theorem test_ErrorEventsAct_18 :
    let s := updDev (fun d => { d with parkClock := 3600 }) (rich)
    s.dev.fwReady = true ∧ s.flt.newImage = false ∧ s.flt.activeSince + 3600 ≤ s.dev.parkClock := by decide

theorem test_ErrorEventsAct_19 :
    let s := updFlt (fun f => { f with restarting := true }) (updDev (fun d => { d with devtime := 5000000000 }) (rich))
    s.flt.restarting = true ∧ s.dev.fwReady = true ∧ s.flt.restartAt + 5000000000 ≤ s.dev.devtime := by decide

theorem test_ErrorEventsAct_20 :
    let s := updFlt (fun f => { f with writing := some none }) rich
    let w := (none : Option Nat)
    s.flt.writing = some w := by decide

theorem test_SwapParkAndCopyOperationsEnd_1 :
    let s := updPart 0 (fun p => { p with state := .swappingIn }) { rich with swap := some { out := false, part := 0, release := false, op := 0 } }
    let w := { out := false, part := 0, release := false, op := 0  : Swap }
    s.swap = some w ∧ w.out = false ∧ w.restore = false ∧ s.dev.memActive = true ∧ flashClosed s = false ∧
      (s.parts.get w.part).state = .swappingIn := by decide

theorem test_SwapParkAndCopyOperationsEnd_3 :
    let s := running (.unpark 1536 0) (rich)
    let op := 4
    let o := { n := 4, seat := 0, kind := .unpark 1536 0, deferred := true, tag := 0, hostTime := 0, tPosted := 0, tAccept := 0 : Op }
    let h := 1536
    let t := 0
    let k := { pid := 1, handle := some 1536, ticket := none, part := 0, seat := 0, expiry := 1000, units := 1, saved := { request with slots := [], sel := 0 } : Park }
    opOf s op = some o ∧ o.kind = .unpark h t ∧ ((if t = 0 then parkOfHandle s h else s.parks.find? fun p => p.ticket = some t) = some k) ∧
      bulkTurn s (unparkReady s) op = true := by decide

theorem test_SwapParkAndCopyOperationsEnd_4 :
    let s := running (.pull 1024) ({ rich with pulls := [{ op := 4, handle := 1024, seat := 0, window := 4, offset := 0, first := 0, reaches := 1, layer0 := 0, layer1 := 0 }] })
    let op := 4
    let data := ([] : List Byte)
    let p := { op := 4, handle := 1024, seat := 0, window := 4, offset := 0, first := 0, reaches := 1, layer0 := 0, layer1 := 0  : Pull }
    let o := { n := 4, seat := 0, kind := .pull 1024, deferred := true, tag := 0, hostTime := 0, tPosted := 0, tAccept := 0 : Op }
    s.pulls.find? (fun p => p.op = op) = some p ∧ opOf s op = some o ∧ (writePull p data s).isSome = true := by decide +kernel

theorem test_SwapParkAndCopyOperationsEnd_5 :
    let s := { rich with pulls := [{ op := 4, handle := 1024, seat := 0, window := 4, offset := 0, first := 0, reaches := 1, layer0 := 0, layer1 := 0 }] }
    let op := 4
    let p := { op := 4, handle := 1024, seat := 0, window := 4, offset := 0, first := 0, reaches := 1, layer0 := 0, layer1 := 0  : Pull }
    s.pulls.find? (fun p => p.op = op) = some p := by decide

theorem test_SwapParkAndCopyOperationsEnd_7 :
    let s := updRt 512 (fun r => { r with cow := true }) rich
    let h := 512
    handleCurrent s h = true ∧ s.dev.memActive = true ∧ s.flt.sable = false ∧ (endCow h s).isSome = true := by decide

theorem test_SwapParkAndCopyOperationsEnd_8 :
    let s := running (.purge 0) (rich)
    let op := 4
    let o := { n := 4, seat := 0, kind := .purge 0, deferred := true, tag := 0, hostTime := 0, tPosted := 0, tAccept := 0 : Op }
    opOf s op = some o ∧ o.kind.isDelta = true ∧ s.dev.memActive = true ∧ s.flt.sable = false := by decide

theorem test_SwapParkAndCopyOperationsEnd_9 :
    let s := updPart 0 (fun p => { p with digests := true }) rich
    let part := 0
    let d := ((0, 0) : Nat × Nat)
    part < 16 ∧ bulkClosed s = false ∧ nextDigest s part = some d := by decide

theorem test_SwapParkAndCopyOperationsEnd_10 :
    let s := running (.loadCounts 512 1 0) (rich)
    let op := 4
    let o := { n := 4, seat := 0, kind := .loadCounts 512 1 0, deferred := true, tag := 0, hostTime := 0, tPosted := 0, tAccept := 0 : Op }
    let h := 512
    let count := 1
    let list := 0
    let w := [0]
    opOf s op = some o ∧ o.kind = .loadCounts h count list ∧ words32 s o.seat list count = some w ∧ s.draws = [] ∧ s.dev.memActive = true ∧
      clearHeld s h = false ∧ loadLost s h = none ∧ ((w.filter (· < 524288)).any fun t => holdsWrite s true (countFrame h t)) = false ∧
      hdmDamaged s o.seat list (4 * count) = false := by decide

theorem test_RegionPoolAndFenceOperationsEnd_0 :
    let s := running (.allocRegion 3) (rich)
    let op := 4
    let o := { n := 4, seat := 0, kind := .allocRegion 3, deferred := true, tag := 0, hostTime := 0, tPosted := 0, tAccept := 0 : Op }
    let id := 3
    opOf s op = some o ∧ o.kind = .allocRegion id ∧ bulkTurn s (poolReady s) op = true := by decide

theorem test_RegionPoolAndFenceOperationsEnd_1 :
    let s := running (.parkRegion 3) (updRegion 3 (fun r => { r with st := .parking }) rich)
    let op := 4
    let o := { n := 4, seat := 0, kind := .parkRegion 3, deferred := true, tag := 0, hostTime := 0, tPosted := 0, tAccept := 0 : Op }
    let id := 3
    let r := { id := 3, seat := 0, parkable := true, base := 2 ^ 22, size := 2 ^ 21, st := .parking : Region }
    opOf s op = some o ∧ o.kind = .parkRegion id ∧ regionOf s id = some r ∧ r.st = .parking ∧ bulkTurn s (parkReady s) op = true ∧
      (writeBackAll (frameOfRegion r.id) s).isSome = true := by decide

theorem test_RegionPoolAndFenceOperationsEnd_2 :
    let s := running (.unparkRegion 3) (updRegion 3 (fun r => { r with st := .unparking }) rich)
    let op := 4
    let o := { n := 4, seat := 0, kind := .unparkRegion 3, deferred := true, tag := 0, hostTime := 0, tPosted := 0, tAccept := 0 : Op }
    let id := 3
    let r := { id := 3, seat := 0, parkable := true, base := 2 ^ 22, size := 2 ^ 21, st := .unparking : Region }
    opOf s op = some o ∧ o.kind = .unparkRegion id ∧ regionOf s id = some r ∧ r.st = .unparking ∧ bulkTurn s (unparkReady s) op = true := by decide

theorem test_RegionPoolAndFenceOperationsEnd_3 :
    let s := running .poolOp ({ rich with xfers := [{ op := 4, seat := 0, pool := [{ op := 2, src := 2 ^ 20, dst := 2 ^ 20 + 64, length := 64 }] }] })
    let op := 4
    let x := { op := 4, seat := 0, pool := [{ op := 2, src := 2 ^ 20, dst := 2 ^ 20 + 64, length := 64 }] : Xfer }
    let d := { op := 2, src := 2 ^ 20, dst := 2 ^ 20 + 64, length := 64 : PoolDesc }
    let rest := ([] : List PoolDesc)
    xferOf s op = some x ∧ x.pool = d :: rest ∧ s.flt.sable = false ∧ bulkTurn s (poolReady s) op = true := by decide

theorem test_RegionPoolAndFenceOperationsEnd_4 :
    let s := { rich with xfers := [{ op := 4, seat := 0, stash := [{ op := 1, part := 1, key := 3 * 2 ^ 40, addr := 2 ^ 20, length := 65536 }], issued := some 0 }] }
    let op := 4
    let x := { op := 4, seat := 0, stash := [{ op := 1, part := 1, key := 3 * 2 ^ 40, addr := 2 ^ 20, length := 65536 }], issued := some 0 : Xfer }
    let d := { op := 1, part := 1, key := 3 * 2 ^ 40, addr := 2 ^ 20, length := 65536 : StashDesc }
    let rest := ([] : List StashDesc)
    xferOf s op = some x ∧ x.stash = d :: rest ∧ stashTurn s (xferPlace x.op) = true ∧ x.issued.isSome = true := by decide

theorem test_RegionPoolAndFenceOperationsEnd_5 :
    let s := { rich with xfers := [{ op := 4, seat := 0, stash := [{ op := 2, part := 1, key := 3 * 2 ^ 40, addr := 2 ^ 20, length := 65536 }] }] }
    let op := 4
    let x := { op := 4, seat := 0, stash := [{ op := 2, part := 1, key := 3 * 2 ^ 40, addr := 2 ^ 20, length := 65536 }] : Xfer }
    let d := { op := 2, part := 1, key := 3 * 2 ^ 40, addr := 2 ^ 20, length := 65536 : StashDesc }
    let rest := ([] : List StashDesc)
    let st := Status.notFound
    xferOf s op = some x ∧ x.stash = d :: rest ∧ stashTurn s (xferPlace x.op) = true ∧ x.issued = none ∧ stashStatus s x.seat d = some st := by decide

theorem test_RegionPoolAndFenceOperationsEnd_6 :
    let s := { rich with xfers := [{ op := 4, seat := 0, stash := [{ op := 1, part := 1, key := 3 * 2 ^ 40, addr := 2 ^ 20, length := 65536 }] }] }
    let op := 4
    let x := { op := 4, seat := 0, stash := [{ op := 1, part := 1, key := 3 * 2 ^ 40, addr := 2 ^ 20, length := 65536 }] : Xfer }
    let d := { op := 1, part := 1, key := 3 * 2 ^ 40, addr := 2 ^ 20, length := 65536 : StashDesc }
    let rest := ([] : List StashDesc)
    xferOf s op = some x ∧ x.stash = d :: rest ∧ stashTurn s (xferPlace x.op) = true ∧ x.issued = none ∧ stashStatus s x.seat d = none := by decide

theorem test_RegionPoolAndFenceOperationsEnd_7 :
    let s := updPart 1 (fun p => { p with runs := [{ run := 3, seat := 0, budget := 8, maxObjects := 4, sched := [3 * 2 ^ 40 + 9], objs := [{ idx := 0, key := 3 * 2 ^ 40 + 9, size := 16, first := 0, st := .spilled }] }] }) rich
    let part := 1
    let run := 3
    let r := { run := 3, seat := 0, budget := 8, maxObjects := 4, sched := [3 * 2 ^ 40 + 9], objs := [{ idx := 0, key := 3 * 2 ^ 40 + 9, size := 16, first := 0, st := .spilled }] : Run }
    let i := 0
    let o := { idx := 0, key := 3 * 2 ^ 40 + 9, size := 16, first := 0, st := .spilled : StashObj }
    part < 16 ∧ runOf s part run = some r ∧ r.unspill = none ∧ (s.parts.get part).state = .resident ∧ memClosed s = false ∧ flashClosed s = false ∧ unspillNext r = some (i, o) ∧ o.frames - o.held ≤ r.free + ((spillable s part r (some i)).map (·.held)).sum ∧ let u := makeRoom part run (o.frames - o.held) (some i) (r.objs.length + 1) s; o.frames - o.held ≤ ((runOf u part run).map (·.free)).getD 0 := by decide

theorem test_RegionPoolAndFenceOperationsEnd_8 :
    let s := updPart 1 (fun p => { p with runs := [{ run := 3, seat := 0, budget := 8, maxObjects := 4, sched := [3 * 2 ^ 40 + 9], objs := [{ idx := 0, key := 3 * 2 ^ 40 + 9, size := 16, first := 0, st := .spilled }], unspill := some (3 * 2 ^ 40 + 9) }] }) rich
    let part := 1
    let run := 3
    let r := { run := 3, seat := 0, budget := 8, maxObjects := 4, sched := [3 * 2 ^ 40 + 9], objs := [{ idx := 0, key := 3 * 2 ^ 40 + 9, size := 16, first := 0, st := .spilled }], unspill := some (3 * 2 ^ 40 + 9) : Run }
    let key := 3 * 2 ^ 40 + 9
    part < 16 ∧ runOf s part run = some r ∧ r.unspill = some key ∧ stashTurn s (unspillPlace r.unspillAt) = true := by decide

theorem test_RegionPoolAndFenceOperationsEnd_9 :
    let s := updDev (fun d => { d with devtime := 128000000 }) ({ rich with coh := { rich.coh with snoops := [{ region := 2, line := 0, seat := 63, kind := 2, since := 0, timeout := 128 }] } })
    let seat := 63
    seat < 64 ∧ (s.coh.snoops.any fun n => n.seat = seat && n.since + n.timeout * 1000000 ≤ s.dev.devtime) = true := by decide

theorem test_RegionPoolAndFenceOperationsEnd_10 :
    let s := { rich with coh := { rich.coh with sweeping := 1#64 <<< 63 } }
    let seat := 63
    seat < 64 ∧ s.coh.sweeping.getLsbD seat = true := by decide

theorem test_RegionPoolAndFenceOperationsEnd_11 :
    let s := running (.dumpCopy 0 0 0 64 (64)) { updFlt (fun f => { f with dump0 := some { id := 1, path := 0, complete := true, tFatal := 0, pclk := 0, boot := 1, fw := 0, image := 0, cause := { tEvent := 0, pclk := 0, boot := 1, seq := 0, cls := 2, unit := 0, index := 0, event := 0, count := 0, action := 0, seat := 0, port := 0, part := 0, flags := 0, location := 0, handle := 0, tag := 0, detail := 0 }, status := 0, log := [] } }) rich with xfers := [{ op := 4, seat := 0, issued := some 64 }] }
    let op := 4
    let o := { n := 4, seat := 0, kind := .dumpCopy 0 0 0 64 (64), deferred := true, tag := 0, hostTime := 0, tPosted := 0, tAccept := 0 : Op }
    let slot := 0
    let id := 0
    let off := 0
    let len := 64
    let dst := 64
    let x := { op := 4, seat := 0, issued := some 64 : Xfer }
    opOf s op = some o ∧ o.kind = .dumpCopy slot id off len dst ∧ s.dev.memActive = true ∧ xferOf s op = some x ∧
      residentAt s dst len = true ∧ (dumpExtent s slot id).isSome = true ∧ x.issued.isSome = true ∧ xferHeld s op = false := by decide

theorem test_RegionPoolAndFenceOperationsEnd_12 :
    let s := running (.dumpCopy 0 0 0 64 (2 ^ 40 - 2 ^ 21)) { updFlt (fun f => { f with dump0 := some { id := 1, path := 0, complete := true, tFatal := 0, pclk := 0, boot := 1, fw := 0, image := 0, cause := { tEvent := 0, pclk := 0, boot := 1, seq := 0, cls := 2, unit := 0, index := 0, event := 0, count := 0, action := 0, seat := 0, port := 0, part := 0, flags := 0, location := 0, handle := 0, tag := 0, detail := 0 }, status := 0, log := [] } }) rich with xfers := [{ op := 4, seat := 0 }], coh := { dir := [{ region := 2, line := 0, holders := 1#64, excl := true }] } }
    let op := 4
    let o := { n := 4, seat := 0, kind := .dumpCopy 0 0 0 64 (2 ^ 40 - 2 ^ 21), deferred := true, tag := 0, hostTime := 0, tPosted := 0, tAccept := 0 : Op }
    let slot := 0
    let id := 0
    let off := 0
    let len := 64
    let dst := 2 ^ 40 - 2 ^ 21
    let x := { op := 4, seat := 0 : Xfer }
    opOf s op = some o ∧ o.kind = .dumpCopy slot id off len dst ∧ s.dev.memActive = true ∧ xferOf s op = some x ∧
      residentAt s dst len = true ∧ (dumpExtent s slot id).isSome = true ∧ x.issued = none ∧ writeWaits s 0 [(dst, len)] ≠ [] := by decide

theorem test_RegionPoolAndFenceOperationsEnd_13 :
    let s := running (.dumpCopy 0 0 0 64 (64)) { updFlt (fun f => { f with dump0 := some { id := 1, path := 0, complete := true, tFatal := 0, pclk := 0, boot := 1, fw := 0, image := 0, cause := { tEvent := 0, pclk := 0, boot := 1, seq := 0, cls := 2, unit := 0, index := 0, event := 0, count := 0, action := 0, seat := 0, port := 0, part := 0, flags := 0, location := 0, handle := 0, tag := 0, detail := 0 }, status := 0, log := [] } }) rich with xfers := [{ op := 4, seat := 0 }] }
    let op := 4
    let o := { n := 4, seat := 0, kind := .dumpCopy 0 0 0 64 (64), deferred := true, tag := 0, hostTime := 0, tPosted := 0, tAccept := 0 : Op }
    let slot := 0
    let id := 0
    let off := 0
    let len := 64
    let dst := 64
    let x := { op := 4, seat := 0 : Xfer }
    opOf s op = some o ∧ o.kind = .dumpCopy slot id off len dst ∧ s.dev.memActive = true ∧ xferOf s op = some x ∧ residentAt s dst len = true ∧ (dumpExtent s slot id).isSome = true ∧ x.issued = none ∧ writeWaits s 0 [(dst, len)] = [] ∧ let u := updXfer op (fun x => { x with issued := some len }) (writeHdm op 0 dst (dumpBytes s slot id off len) s); xferHeld u op = false := by decide

theorem test_RegisterAccessesAct_0 :
    let s := rich
    let seat := 0
    let ring := 0
    let value := 1
    seat < 64 ∧ ring < 4 ∧ seatReached s seat = true ∧
      ringUsed (ringOf s seat ring).cqTail (ringOf s seat ring).cqHead < ringUsed value (ringOf s seat ring).cqHead := by decide

theorem test_RegisterAccessesAct_1 :
    let s := rich
    let seat := 0
    let ring := 0
    let value := 0
    seat < 64 ∧ ring < 4 ∧ seatReached s seat = true ∧
      ringUsed value (ringOf s seat ring).cqHead ≤ ringUsed (ringOf s seat ring).cqTail (ringOf s seat ring).cqHead := by decide

theorem test_RegisterAccessesAct_2 :
    let s := rich
    let seat := 0
    let value := 1
    seat < 64 ∧ seatReached s seat = true ∧
      ringUsed (s.seats.get seat).noticeTail (s.seats.get seat).noticeHead < ringUsed value (s.seats.get seat).noticeHead := by decide

theorem test_RegisterAccessesAct_3 :
    let s := rich
    let seat := 0
    let value := 2 ^ 32
    seat < 64 ∧ seatReached s seat = true ∧
      ringUsed value (s.seats.get seat).noticeHead ≤ ringUsed (s.seats.get seat).noticeTail (s.seats.get seat).noticeHead := by decide

theorem test_RegisterAccessesAct_4 :
    let s := rich
    seatReached s 0 = true := by decide

theorem test_RegisterAccessesAct_6 :
    let s := rich
    let half := 2
    half < 3 ∧ seatReached s 0 = true := by decide

theorem test_RegisterAccessesAct_10 :
    let s := rich
    let port := 7
    port < 8 ∧ seatReached s 0 = true := by decide

theorem test_RegisterAccessesAct_11 :
    let s := rich
    let port := 0
    let ld := 15
    port < 8 ∧ ld < 16 ∧ memReached s port ld = true := by decide

theorem test_RegisterAccessesAct_13 :
    let s := rich
    let port := 0
    let ld := 15
    let width := 64
    port < 8 ∧ ld < 16 ∧ width ∈ [8, 16, 32, 64] ∧ memReached s port ld = true := by decide

theorem test_step_front : ∃ c rest s, State.pending s = c :: rest := ⟨.identifySeat (env 0 0), [], { up with pending := [.identifySeat (env 0 0)] }, rfl⟩

theorem test_idle_latched : (takeLatched (updMbx 1 (fun m => { m with latched := some (.identifySeat (env 1 0)) }) up)).isSome = true := by decide
theorem test_idle_tick : State.pending up = [] ∧ (takeLatched up).isNone = true ∧ up.pwr.stage ≠ .off := by decide
theorem test_idle_off : (updPwr (fun p => { p with stage := .off }) up).pwr.stage = .off := rfl

theorem test_queue_next : goesOn (step { up with pending := [.identifySeat (env 0 0)] }) = true := by decide

theorem test_layout_up : GlbOk up.glb ∧ goesOn (step up) = true := by
  refine ⟨?_, by decide⟩
  constructor <;> decide

theorem test_retired_next : goesOn (step (updPort 0 (fun p => { p with groupL := false }) up)) = true := by decide

theorem test_wf_identify : (Instr.identifySeat (env 0 0)).wf = true := by decide

theorem test_doorbell_rung : doorbell (updMbx 0 (fun m => { m with deferWait := some 4 }) up) 0 = true := by decide
theorem test_doorbell_unreached : doorbell up 63 = false ∧ (up.seats.get 63).mbx.waitingSince = none ∧ seatReached up 63 = false := by decide
theorem test_doorbell_d3 : seatD3 (updLd 0 0 (fun d => { d with d3hot := true }) up) 0 = true := by decide
theorem test_doorbell_early :
    let s := updDev (fun d => { d with fwReady := false }) up
    doorbell s 0 = false ∧ (s.seats.get 0).mbx.waitingSince = none ∧ seatReached s 0 = true ∧ seatD3 s 0 = false ∧ s.dev.fwReady = false := by decide
theorem test_doorbell_behind : aheadOf (updMbx 0 (fun m => { m with latched := some (.identifySeat (env 0 0)) }) up) 1 = true := by decide

theorem test_checks_length : taken { env 0 0 with payloadLen := 63 } up = true := by decide
theorem test_checks_version : taken (env 2 0) up = true ∧ versionOk Op.listImages (env 2 0) up = false := by decide
theorem test_checks_denied : taken (env 1 0) up = true ∧ versionOk Op.mapSeat (env 1 0) up = true ∧ Op.mapSeat.seat0 = true := by decide
theorem test_checks_fatal :
    let s := updFlt (fun f => { f with sable := true }) up
    taken (env 0 0) s = true ∧ versionOk Op.mapSeat (env 0 0) s = true ∧ Op.mapSeat.s = false := by decide
theorem test_checks_notReady :
    let s := updDev (fun d => { d with admitOpen := false }) up
    taken (env 0 0) s = true ∧ versionOk Op.admitRequest (env 0 0) s = true ∧ Op.admitRequest.a = true ∧ Op.admitRequest.seat0 = false := by decide
theorem test_checks_busy :
    let s := updDev (fun d => { d with memActive := false }) up
    taken (env 0 0) s = true ∧ versionOk Op.closeStep (env 0 0) s = true ∧ Op.closeStep.a = false ∧ Op.closeStep.f = false := by decide

theorem test_unsupported_taken : taken (env 0 0) up = true ∧ (env 0 0).payloadLen = 64 + (env 0 0).bodyLen := by decide

theorem test_narrow :
    let p := up.ports.get 1
    p.linkUp = false ∧ p.groupL = true ∧ p.groupH = true ∧ up.pwr.held.contains (48 + 1) = false ∧ up.dev.portLock / 2 ^ 1 % 2 ≠ 0 ∧
      up.dev.recovery = false := by decide

theorem test_badLength : taken { env 1 8 with payloadLen := 64 } up = true := by decide

theorem test_bytes : memWf [(3, 7#8)] = true ∧ memByte (memPuts [(3, 7#8)] 2 [1#8, 0#8]) 3 = 0 := by decide

theorem test_shoal_block : (List.replicate 4096 (0x3F#8)).length = 4096 := List.length_replicate ..

theorem test_shoal_unit : ∃ data : List Byte, data.length = 65536 ∧ (shoalUnit 7 7 data).1 = false :=
  ⟨_, List.length_replicate, test_shoalUnit_zeros _ rfl⟩

theorem test_shoal_unit_raw : (shoalUnit 0 0 [1#8]).1 = true := rfl

/-- Seat 1 at the last bytes of the GLB_ block's neighbour, seat 0's LD just past page 0, and an LD of no seat. -/
theorem test_OnlyItsLdWritesARegister_0 :
    seatOfLd rich 0 1 = some 1 ∧ 0x1FFF8 + 64 / 8 ≤ 0x100000 + 1 * 0x20000 ∧ seatOfLd rich 0 0 = some 0 ∧ 0x20000 ≤ 0x120000 ∧
    0x100000 + 0 * 0x20000 + 0x20000 ≤ 0x120000 ∧ seatOfLd (updSeat 9 (fun t => { t with map := none }) rich) 0 9 = none := by decide

theorem test_OnlyItsLdWritesARegister_1 : let seat := 63; seat ≠ 0 := by decide

theorem test_ReadsOutsideTheLdReturnZero_0 : 0x20000 ≤ 0xFFFF8 ∧ 0xFFFF8 + 64 / 8 ≤ 0x100000 := by decide

theorem test_ReadsOutsideTheLdReturnZero_1 :
    63 < 64 ∧ seatOfLd rich 0 0 ≠ some 63 ∧ 0x100000 + 63 * 0x20000 ≤ 0x8FFFF8 ∧ 0x8FFFF8 + 64 / 8 ≤ 0x100000 + 63 * 0x20000 + 0x20000 := by
  decide

theorem test_ReadsOutsideTheLdReturnZero_2 : 0x900000 ≤ 0xFFFFF8 ∧ 0xFFFFF8 + 64 / 8 ≤ 0x1000000 := by decide

theorem test_ReadsOutsideTheLdReturnZero_3 :
    0x1000000 ≤ 0x1FFFFF8 ∧ 0x1FFFFF8 + 64 / 8 ≤ 0x2000000 ∧ seatOfLd rich 0 1 ≠ some 0 ∧ rich.pset.phase = .none := by decide

theorem test_ReadsOutsideTheLdReturnZero_4 : 0 < 8 ∧ 15 < 16 ∧ memReached rich 0 15 = true ∧ ldKey 0 0 ≠ ldKey 0 15 := by decide

theorem test_FramesStripeOverEveryChannel_0 : 255 < 256 ∧ ∃ u, u < 256 ∧ (u + frameNo (.kv 0 0)) % 256 = 255 :=
  ⟨by decide, (255 + 256 - frameNo (.kv 0 0) % 256) % 256, Nat.mod_lt _ (by decide), by omega⟩

theorem test_FramesStripeOverEveryChannel_1 :
    hbmRowOk 255 255 0 = true ∧ pcServes rich 255 = true ∧
    placeFrame (judgeHbm false 255 255 0 1 false rich) (.region 3 63) = some (.region 3 63) ∧
    (judgeHbm false 255 255 0 1 false rich).flt.damage.length < 65536 ∧
    (countFailure { unit := 1, index := 255, place := 255 * 2 ^ 24 } false rich).2 = 1 := by decide +kernel

/-- An item of the smallest body. -/
def smallAttn : Attn :=
  { b := serveBody, salt := 0, ditherCtrl := 0, handle := 512, len := 1, step := 0, layer := 0, query := List.replicate 32 0, live := [0] }

/-- Each clause at the last head, row and element of its range. -/
theorem test_ProductsHaveDitherOfTheirOwn : 0 < smallAttn.b.qHeads ∧ 0 < 1 ∧ 31 < smallAttn.b.headDim ∧ 32 ≤ smallAttn.b.headDim ∧
    smallAttn.slot (.score 1 0 0 31) = smallAttn.slot (.score 1 0 0 31) ∧
    smallAttn.slot (.scale 1 1 0 0 0) = smallAttn.slot (.scale 1 1 0 0 0) ∧
    smallAttn.slot (.weight 1 0 0) = smallAttn.slot (.weight 1 0 0) ∧
    smallAttn.slot (.value 1 0 0 31) = smallAttn.slot (.value 1 0 0 31) ∧
    smallAttn.slot (.rescale 0 32) = smallAttn.slot (.rescale 0 32) ∧ smallAttn.slot (.norm 0 31) = smallAttn.slot (.norm 0 31) ∧
    smallAttn.slot (.bound 1 0 0 31) = smallAttn.slot (.bound 1 0 0 31) :=
  ⟨by decide, by decide, by decide, by decide, rfl, rfl, rfl, rfl, rfl, rfl, rfl⟩

/-! ### Known answers -/

/-- SHA-384 of "abc" (FIPS 180-4). -/
theorem test_sha384 : (sha384 [0x61#8, 0x62#8, 0x63#8]).take 4 = [0xCB#8, 0x00#8, 0x75#8, 0x3F#8] := by decide +kernel

/-- AES-256 of FIPS 197, Appendix C.3. -/
theorem test_aes256 : (aesEnc (aesKeys (List.range 32)) ((List.range 16).map (· * 17))).take 4 = [0x8E, 0xA2, 0xB7, 0xCA] := by decide +kernel

/-- Decryption undoes it. -/
theorem test_aes256_dec :
    aesDec (aesKeys (List.range 32)) [0x8E, 0xA2, 0xB7, 0xCA, 0x51, 0x67, 0x45, 0xBF, 0xEA, 0xFC, 0x49, 0x90, 0x4B, 0x49, 0x60, 0x89] =
      (List.range 16).map (· * 17) := by decide +kernel

/-- The generator's published answers for zeros and for ones. -/
theorem test_philox : (philox 0 0 0 0 0).take 4 = [0xD5#8, 0xE8#8, 0x27#8, 0x66#8] ∧
    (philox (2 ^ 64 - 1) (2 ^ 32 - 1) (2 ^ 32 - 1) (2 ^ 32 - 1) (2 ^ 32 - 1)).take 4 = [0x6D#8, 0x27#8, 0x8F#8, 0x40#8] := by decide +kernel

/-- The check value of the CRC of IEEE 802.3 over "123456789". -/
theorem test_crc32 : crc32 [0x31#8, 0x32#8, 0x33#8, 0x34#8, 0x35#8, 0x36#8, 0x37#8, 0x38#8, 0x39#8] = 0xCBF43926 := by decide +kernel

/-! ### Ill-formed commands, one for each check of WellFormed.lean -/

theorem test_ill_envelope :
    (Instr.identifySeat { env 0 0 with seat := 64 }).wf = false ∧ (Instr.identifySeat { env 0 0 with verMajor := 256 }).wf = false ∧
    (Instr.identifySeat { env 0 0 with verMinor := 256 }).wf = false ∧ (Instr.identifySeat { env 0 0 with tag := 2 ^ 32 }).wf = false ∧
    (Instr.identifySeat { env 0 0 with hostTime := 2 ^ 64 }).wf = false ∧ (Instr.identifySeat { env 0 0 with bodyLen := 2 ^ 32 }).wf = false ∧
    (Instr.identifySeat { env 0 0 with payloadLen := 2 ^ 32 }).wf = false := by decide

theorem test_ill_width :
    (Instr.setPortConfig (env 0 64) 256 0).wf = false ∧ (Instr.negotiateVersion (env 0 64) 0 65536).wf = false ∧
    (Instr.getOperation (env 0 64) (2 ^ 32)).wf = false ∧ (Instr.deleteImage (env 0 64) (2 ^ 64)).wf = false := by decide

theorem test_ill_load :
    loadOk { serveBody with part := 256 } = false ∧ loadOk { serveBody with mode := 256 } = false ∧ loadOk { serveBody with format := 256 } = false ∧
    loadOk { serveBody with tprLog2 := 256 } = false ∧ loadOk { serveBody with layers := 65536 } = false ∧
    loadOk { serveBody with kvHeads := 65536 } = false ∧ loadOk { serveBody with qHeads := 65536 } = false ∧
    loadOk { serveBody with headDim := 65536 } = false ∧ loadOk { serveBody with vocab := 2 ^ 32 } = false ∧
    loadOk { serveBody with slots := 2 ^ 32 } = false ∧ loadOk { serveBody with scoreScale := 2 ^ 32 } = false ∧
    loadOk { serveBody with modelId := 2 ^ 64 } = false ∧ (Instr.loadPartition (env 0 64) { serveBody with part := 256 }).wf = false := by decide

/-- A body of ADMIT_REQUEST. -/
def admitBody : AdmitBody :=
  { part := 0, prio := 0, tenant := 0, eddy := false, seeded := false, promptLen := 1, maxNew := 1, pfx := 0, dlToken := 0, dlItem := 0, seed := 0 }

theorem test_ill_admit :
    admitOk admitBody = true ∧ admitOk { admitBody with part := 256 } = false ∧ admitOk { admitBody with prio := 256 } = false ∧
    admitOk { admitBody with tenant := 65536 } = false ∧ admitOk { admitBody with promptLen := 2 ^ 32 } = false ∧
    admitOk { admitBody with maxNew := 2 ^ 32 } = false ∧ admitOk { admitBody with pfx := 2 ^ 64 } = false ∧
    admitOk { admitBody with dlToken := 2 ^ 64 } = false ∧ admitOk { admitBody with dlItem := 2 ^ 64 } = false ∧
    admitOk { admitBody with seed := 2 ^ 64 } = false ∧ (Instr.admitRequest (env 0 64) { admitBody with part := 256 }).wf = false := by decide

/-- A body of CREATE_STEP_RING. -/
def ringBody : RingBody := { ring := 0, part := 0, sqLog2 := 6, cqLog2 := 6, sqBase := 0, cqBase := 4096, cqPeer := false, cqWindow := 0 }

theorem test_ill_ring :
    ringBodyOk ringBody = true ∧ ringBodyOk { ringBody with ring := 256 } = false ∧ ringBodyOk { ringBody with part := 256 } = false ∧
    ringBodyOk { ringBody with sqLog2 := 256 } = false ∧ ringBodyOk { ringBody with cqLog2 := 256 } = false ∧
    ringBodyOk { ringBody with sqBase := 2 ^ 64 } = false ∧ ringBodyOk { ringBody with cqBase := 2 ^ 64 } = false ∧
    ringBodyOk { ringBody with cqWindow := 2 ^ 32 } = false ∧ (Instr.createStepRing (env 0 64) { ringBody with ring := 256 }).wf = false := by decide

theorem test_ill_region :
    regionOk { base := 0, size := 0 } = true ∧ regionOk { part := 256, base := 0, size := 0 } = false ∧
    regionOk { keySlot := 2 ^ 32, base := 0, size := 0 } = false ∧ regionOk { base := 2 ^ 64, size := 0 } = false ∧
    regionOk { base := 0, size := 2 ^ 64 } = false ∧ (Instr.allocateRegion (env 0 64) { base := 2 ^ 64, size := 0 }).wf = false := by decide

/-- A body of JOIN_POOL_SET. -/
def joinBody : JoinBody := { setId := 1, n := 2, index := 0, setTo := 100, parityGb := 0, rebuild := false, windows := [(1, 5)] }

theorem test_ill_join :
    joinOk joinBody = true ∧ joinOk { joinBody with setId := 2 ^ 64 } = false ∧ joinOk { joinBody with n := 2 ^ 32 } = false ∧
    joinOk { joinBody with index := 2 ^ 32 } = false ∧ joinOk { joinBody with setTo := 2 ^ 32 } = false ∧
    joinOk { joinBody with parityGb := 2 ^ 32 } = false ∧ (Instr.joinPoolSet (env 0 64) { joinBody with n := 2 ^ 32 }).wf = false := by decide

theorem test_ill_pool :
    poolDescsOk [{ op := 1 }] = true ∧ poolDescsOk [{ op := 256 }] = false ∧ poolDescsOk [{ op := 1, rtype := 256 }] = false ∧
    poolDescsOk [{ op := 1, rop := 256 }] = false ∧ poolDescsOk [{ op := 1, srcWindow := 2 ^ 32 }] = false ∧
    poolDescsOk [{ op := 1, dstWindow := 2 ^ 32 }] = false ∧ poolDescsOk [{ op := 1, src := 2 ^ 64 }] = false ∧
    poolDescsOk [{ op := 1, dst := 2 ^ 64 }] = false ∧ poolDescsOk [{ op := 1, length := 2 ^ 64 }] = false ∧
    poolDescsOk [{ op := 1, pattern := 2 ^ 64 }] = false ∧ poolDescsOk [{ op := 1, result := 2 ^ 64 }] = false ∧
    (Instr.poolOperation (env 0 64) [{ op := 256 }]).wf = false := by decide

theorem test_ill_stash :
    stashDescsOk [{ op := 1, part := 0, key := 0 }] = true ∧ stashDescsOk [{ op := 256, part := 0, key := 0 }] = false ∧
    stashDescsOk [{ op := 1, part := 256, key := 0 }] = false ∧ stashDescsOk [{ op := 1, part := 0, key := 2 ^ 64 }] = false ∧
    stashDescsOk [{ op := 1, part := 0, key := 0, window := 2 ^ 32 }] = false ∧ stashDescsOk [{ op := 1, part := 0, key := 0, addr := 2 ^ 64 }] = false ∧
    stashDescsOk [{ op := 1, part := 0, key := 0, offset := 2 ^ 64 }] = false ∧ stashDescsOk [{ op := 1, part := 0, key := 0, length := 2 ^ 64 }] = false ∧
    stashDescsOk [{ op := 1, part := 0, key := 0, keySlot := 2 ^ 32 }] = false ∧ stashDescsOk [{ op := 1, part := 0, key := 0, result := 2 ^ 64 }] = false ∧
    (Instr.stashTransfer (env 0 64) [{ op := 256, part := 0, key := 0 }]).wf = false := by decide

/-- A stream entry. -/
def streamEntry : StreamEntry := { kind := 1, cls := 0, status := 0, replyTo := 0, target := 0, offset := 0, size := 0, data := [] }

theorem test_ill_entry :
    entryOk streamEntry = true ∧ entryOk { streamEntry with kind := 256 } = false ∧ entryOk { streamEntry with cls := 256 } = false ∧
    entryOk { streamEntry with status := 65536 } = false ∧ entryOk { streamEntry with replyTo := 2 ^ 32 } = false ∧
    entryOk { streamEntry with target := 2 ^ 64 } = false ∧ entryOk { streamEntry with offset := 2 ^ 64 } = false ∧
    entryOk { streamEntry with size := 2 ^ 64 } = false ∧ (Instr.poolsetEntry 8 0 streamEntry).wf = false := by decide

theorem test_ill_entry_long (b : Byte) : entryOk { streamEntry with data := List.replicate 4097 b } = false := by
  have : ¬ 4097 ≤ 4096 := by omega
  simp only [entryOk, List.length_replicate, this, decide_false, Bool.and_false]

theorem test_ill_line : (Instr.cxlMemWrite 0 0 0 .a 0 []).wf = false ∧ (Instr.ringStore 0 0 0 true (List.replicate 65 0#8)).wf = false := by decide

theorem test_ill_access : (Instr.registerWrite 0 0 0 24 0).wf = false ∧ (Instr.registerWrite 8 0 0 32 0).wf = false ∧
    (Instr.registerWrite 0 16 0 32 0).wf = false := by decide

theorem test_ill_fatal : (Instr.fatalEvent 3 120 0).wf = false ∧ (Instr.fatalEvent 12 0 0).wf = false := by decide

theorem test_ill_units :
    (Instr.nop 64 0).wf = false ∧ (Instr.nop 0 4).wf = false ∧ (Instr.hotReset 8).wf = false ∧ (Instr.stepBoundary 16).wf = false ∧
    (Instr.hbmError 8 0 0 0 .free true).wf = false ∧ (Instr.tileArrayError 320 0 .selfTest).wf = false ∧ (Instr.coreWatchdog (.core 4)).wf = false ∧
    (Instr.throttleEngage 58).wf = false ∧ (Instr.converterLoss 2).wf = false ∧ (Instr.flashEraseFail 992 0).wf = false ∧
    (Instr.coreWatchdog (.sramCopy 68 0)).wf = false ∧ (Instr.coreWatchdog (.sram 67 none)).wf = false ∧
    (Instr.coreWatchdog (.sram 71 none)).wf = false ∧ (Instr.channelFailure 32 .noDie).wf = false ∧
    (Instr.channelFailure 0 (.die 32)).wf = false ∧ (Instr.keyInstall 0 0 true 0 (2 ^ 256) 0).wf = false := by decide

/-- What a rebuild gives back that is ill-formed: a parity unit's number, its length, a region's id or its seat. -/
theorem test_ill_rebuilt (b : RegionBody) :
    (Instr.rebuildComplete 0 {}).wf = true ∧ (Instr.rebuildComplete 0 { parity := [(2 ^ 32, [])] }).wf = false ∧
    (Instr.rebuildComplete 0 { regions := [{ body := b, id := 2 ^ 64, seat := 0 }] }).wf = false ∧
    (Instr.rebuildComplete 0 { regions := [{ body := b, id := 0, seat := 64 }] }).wf = false := by
  simp [Instr.wf, rebuiltOk, widthOk, below]

end Sys2Proof.Tests
end

namespace Sys2Proof.Machine

/-! ### Every command runs (R2, log entry 106) -/

/-- The outcome is a next state: no fault and no refusal. -/
def Runs (o : Host.Outcome State Fault Refusal) : Prop := ∃ t, o = .next t

theorem runs_next (t : State) : Runs (.next t) := ⟨t, rfl⟩

/-- A meaning that goes on to `o` unless a guard stops it runs when `o` does. -/
theorem runs_guard {c : Prop} [Decidable c] {t : State} {o : Host.Outcome State Fault Refusal} (h : Runs o) :
    Runs (if c then .next t else o) := by
  split
  · exact runs_next t
  · exact h

/-! #### The interfaces commands arrive at -/

theorem mailbox_runs (o : OpInfo) (e : Env) (self : Instr) (objs : List ClaimObj) (check : State → Option Reply)
    (effect : State → State × Reply) (s : State) : Runs (mailbox o e self objs check effect s) := by
  unfold mailbox
  refine runs_guard ?_
  split <;> exact runs_next _

theorem stdMailbox_runs (seat opcode : Nat) (self : Instr) (f : Nat → Nat → State → Nat × List Nat × State) (s : State) :
    Runs (stdMailbox seat opcode self f s) := by
  unfold stdMailbox
  refine runs_guard (runs_guard ?_)
  split
  · exact runs_next _
  · dsimp only
    split <;> exact runs_next _

theorem fmCommand_runs (port : Nat) (c : FmCmd) (s : State) : Runs (fmCommand port c s) :=
  runs_guard (runs_guard (runs_guard (runs_guard (runs_next _))))

theorem onDoe_runs (port ld : Nat) (f : State → State) (s : State) : Runs (onDoe port ld f s) :=
  runs_guard (runs_guard (runs_guard (runs_guard (runs_next _))))

theorem ideMessage_runs (port ld : Nat) (secured : Bool) (f : State → State) (s : State) :
    Runs (ideMessage port ld secured f s) := onDoe_runs ..

theorem keyMessage_runs (port ld : Nat) (secured : Bool) (f : Nat → State → State × List Nat) (s : State) :
    Runs (keyMessage port ld secured f s) := onDoe_runs ..

theorem onLd_runs (port ld : Nat) (f : Nat → State → State) (s : State) : Runs (onLd port ld f s) := by
  unfold onLd
  refine runs_guard (runs_guard ?_)
  split <;> exact runs_next _

theorem ldReset_runs (port ld : Nat) (s : State) : Runs (ldReset port ld s) := by
  unfold ldReset
  refine runs_guard (runs_guard ?_)
  split <;> exact runs_next _

theorem stepRecord_runs (kind seat ring : Nat) (effect : List Byte → State → State) (s : State) :
    Runs (stepRecord kind seat ring effect s) := by
  unfold stepRecord
  refine runs_guard ?_
  split
  · exact runs_next _
  · split <;> exact runs_next _

theorem glbWrite_runs (seat : Nat) (f : State → State) (s : State) : Runs (glbWrite seat f s) :=
  runs_guard (runs_guard (runs_next _))

/-! #### Every meaning -/

theorem execFlashPatrolScrub_runs (channel : Nat) (readFound : Bool) (s : State) :
    Runs (execFlashPatrolScrub channel readFound s) := by
  unfold execFlashPatrolScrub
  refine runs_guard ?_
  extract_lets
  split <;> exact runs_next _

/-- Every command runs, an ill-formed one too: where it names what the device does not have, a guard answers (log entry 106). The cases
follow the interface a command arrives at, and for the other commands what their meaning asks of the state before it acts. -/
theorem exec_runs (i : Instr) (s : State) : Runs (exec i s) := by
  cases i with
  -- The Carmir commands of a mailbox.
  | identifySeat | negotiateVersion | setNoticeRing | getOperation | setPortConfig | mapSeat | loadPartition
  | queryPartition | swapOutPartition | swapInPartition | unloadPartition | bindKvWindow | unbindKvWindow | listImages
  | deleteImage | createTenant | deleteTenant | setTenantBudget | grantBudget | queryTenant | setSeatQuota
  | setPartitionCap | queryCapacity | admitRequest | commitPrompt | setRequest | cancelRequest | queryRequest
  | listRequests | createStepRing | destroyStepRing | closeStep | queryStep | registerWindow | releaseWindow
  | setDigests | setSelection | lookupPrefix | insertPrefix | pinPrefix | unpinPrefix | queryPrefix | setPrefixPolicy
  | purgePrefix | queryPrefixStore | parkConversation | unparkConversation | renewPark | queryTicket | discardTicket
  | pullKv | parkRegion | unparkRegion | setTierConfig | queryTiers | queryFlash | setLogitWindow | loadCounts
  | clearCounts | queryCounts | allocateRegion | freeRegion | queryRegion | grantRegion | attachRegion | detachRegion
  | setPoolLimits | queryPoolLimits | queryKeySlots | poolOperation | joinPoolSet | leavePoolSet | queryPoolSet
  | rebuildMember | queryLine | fenceSeat | unfenceSeat | queryCoherence | openRun | closeRun | stashTransfer
  | setSchedule | queryStash | setTelemetryRing | queryPower | queryOcRegions | setPowerConfig | queryHoldup
  | testHoldup | setHoldupConfig | readFaultRecords | clearFaultRecords | queryFaultState | queryDump | readDump
  | clearDump | injectFault | queryFirmware | writeFirmware | activateFirmware | restartFirmware | resetWarm
  | shoalEncode | shoalDecode =>
    simp only [exec]
    exact mailbox_runs ..
  -- The standard commands of a mailbox.
  | identifyMemoryDevice | getSupportedLogs | getLog | getTimestamp | setTimestamp | getEventRecords
  | clearEventRecords | unsupportedCxlOpcode =>
    simp only [exec]
    exact stdMailbox_runs ..
  -- The FM API.
  | getLdInfo | getLdAllocations | setLdAllocations | getQosControl | setQosControl | getQosStatus | getQosAllocatedBw
  | setQosAllocatedBw | getQosBwLimit | setQosBwLimit | fmIdentify | tunnelManagementCommand =>
    simp only [exec]
    exact fmCommand_runs ..
  -- The objects of a DOE instance, IDE key management and key slots among them.
  | doeObject | doeDiscovery | cdatTableAccess | spdmRequest | setCertificate =>
    simp only [exec]
    exact onDoe_runs ..
  | cxlKeyProg | cxlKSetGo | cxlKSetStop | cxlQuery | cxlGetkey =>
    simp only [exec]
    exact ideMessage_runs ..
  | keyInstall | keyErase | keyQuery =>
    simp only [exec]
    exact keyMessage_runs ..
  -- CXL.mem accesses.
  | cxlMemRead | cxlMemWrite | memInv | memRdData | memClnEvct | birsp | biconflict =>
    simp only [exec]
    exact onLd_runs ..
  -- Resets of a logical device.
  | functionLevelReset | cxlReset =>
    simp only [exec]
    exact ldReset_runs ..
  -- Records of a step.
  | attend | append | deliver =>
    simp only [exec]
    exact stepRecord_runs ..
  -- Writes of device-wide registers.
  | glbStepCtrlWrite | glbDitherCtrlWrite | glbDeltaCfgWrite | glbCohCfgWrite | pwrCtrlWrite =>
    simp only [exec]
    exact glbWrite_runs ..
  | glbDitherSaltWrite | prtCtrlWrite =>
    simp only [exec]
    exact runs_guard (glbWrite_runs ..)
  -- What acts without a guard.
  | perstDeassert | refclkReturn | parkClockSecond | claimLapse | journalPageFlush | channelFailure | hbmError
  | failureExpiry =>
    simp only [exec]
    exact runs_next _
  -- Behind one guard.
  | mctpControlMessage | pldmBaseRequest | memSpecRd | standbyStart | pwrEnAssert | railStartTimeout | coldReset
  | perstAssert | inputLossTrigger | busUndervoltage | flushRefclkLoss | rootPllLock | portPllLock | memoryActive
  | mapReady | admitOpen | holdupMeasurement | packInsert | testDue | testRestEnd | testDischargeEnd | throttleRelease
  | tripHoldEnd | idleGateTimeout | tileWakeComplete | telemetryWindowEnd | devloadSample | collectionIntervalEnd
  | tenantRefill | parkExpiry | idleCommit | mapCheckpoint | activationTimeout | svnCommit | joinTimeout
  | poolSetFormed | cowCopyComplete | inputProtectionClose | firmwareRestartTimeout =>
    simp only [exec]
    exact runs_guard (runs_next _)
  -- Behind two guards.
  | pldmSensorRead | ringStore | pciPmStateChange | recoveryEntry | ideIntegrityFailure | hotReset | linkDisable
  | gpfPhase1 | gpfPhase2 | railGood | warmResetSaveComplete | refclkLoss | converterLoss | phaseFault
  | hbmRecalDeadline | flashCalDeadline | hbmPatrolScrub | flashEraseFail | blockRefresh | pcRetirementCopyEnd
  | snoopTimeout | fenceSweepEnd | telRec0Read | devtimeLowRead | registerWrite | surpriseLinkDown =>
    simp only [exec]
    exact runs_guard (runs_guard (runs_next _))
  -- Behind three guards and more.
  | pldmFirmwareUpdate | carmirRelay | pwrEnDeassert | fwReady | stepBoundary | stpCqHeadWrite
  | seatNoticeHeadWrite =>
    simp only [exec]
    exact runs_guard (runs_guard (runs_guard (runs_next _)))
  | configurationRequest =>
    simp only [exec]
    exact runs_guard (runs_guard (runs_guard (runs_guard (runs_next _))))
  | linkTrainingComplete =>
    simp only [exec]
    exact runs_guard (runs_guard (runs_guard (runs_guard (runs_guard (runs_next _)))))
  -- What looks up the work it reports: each case of each lookup answers a next state.
  | flashPatrolScrub =>
    simp only [exec]
    exact execFlashPatrolScrub_runs ..
  | unsupportedOpcode | i3cAddressAssignment | pldmActivateFirmware | nop | undefinedKind | stepOpen | stepClose
  | logitHeaderStore | poolsetEntry | laneGroupFailure | gpfPhase2Deadline | flushDataPhaseEnd | flushComplete
  | restoreComplete | packPoll | packRemove | chargeComplete | overTemperature | railOutOfWindow | throttleEngage
  | overCurrentTrip | itemExpiry | stagingComplete | itemComputeComplete | deliverPushComplete | draw | writebackUnit
  | flashProgramComplete | flashProgramFail | flashReadUncorrectable | staticLevelling | laneEvacuationComplete
  | frameRepair | tileArrayError | coreWatchdog | fatalEvent | memberAbsent | memberRejoin | peerReadFailure
  | swapOutComplete | swapInComplete | parkComplete | unparkComplete | pullComplete | prefixOperationComplete
  | digestBuild | regionZeroFillComplete | poolDescriptorEnd | stashDescriptorEnd | unspill | rebuildComplete
  | chargerCurrentLoss | poolsetCredit | mapCheckpointComplete | unspillComplete | mirrorResyncComplete
  | regionParkComplete | regionUnparkComplete | loadCountsComplete | firmwareWriteComplete | dumpCopyComplete =>
    simp only [exec, execUnsupportedOpcode, execI3cAddressAssignment, execPldmActivateFirmware, execNop,
      execUndefinedKind, execStepOpen, execStepClose, execLogitHeaderStore, execPoolsetEntry, execLaneGroupFailure,
      execGpfPhase2Deadline, execFlushDataPhaseEnd, execFlushComplete, execRestoreComplete, execPackPoll,
      execPackRemove, execChargeComplete, execOverTemperature, execRailOutOfWindow, execThrottleEngage,
      execOverCurrentTrip, execItemExpiry, execStagingComplete, execItemComputeComplete, execDeliverPushComplete,
      execDraw, execWritebackUnit, execFlashProgramComplete, execFlashProgramFail, execFlashReadUncorrectable,
      execStaticLevelling, execLaneEvacuationComplete, execFrameRepair, execTileArrayError, execCoreWatchdog,
      execFatalEvent, execMemberAbsent, execMemberRejoin, execPeerReadFailure, execSwapOutComplete,
      execSwapInComplete, execParkComplete, execUnparkComplete, execPullComplete, execPrefixOperationComplete,
      execDigestBuild, execRegionZeroFillComplete, execPoolDescriptorEnd, execStashDescriptorEnd, execUnspill,
      execRebuildComplete, execChargerCurrentLoss, execPoolsetCredit, execMapCheckpointComplete, execUnspillComplete,
      execMirrorResyncComplete, execRegionParkComplete, execRegionUnparkComplete, execLoadCountsComplete,
      execFirmwareWriteComplete, execDumpCopyComplete]
    repeat' first | with_reducible exact runs_next _ | split

/-- Settles O42: every meaning ends each of its branches in a next state. -/
theorem wellFormedCommandsRun : Obligations.WellFormedCommandsRun :=
  fun i s _ => exec_runs i s

/-! ### A response placed in a mailbox: what it changes (R80, R85) -/

theorem takeCmd_get_ne {n k : Nat} (h : k ≠ n) (o : Nat) (s : State) : (takeCmd n o s).seats.get k = s.seats.get k := by
  simp [takeCmd, updMbx, updSeat, h]

section
variable (n tag hostTime tPosted tAccept : Nat) (r : Reply) (s : State)

/-- Beside the mailboxes and what is sent, a response leaves the state as it was. -/
theorem placeResp_form :
    placeResp n tag hostTime tPosted tAccept r s =
      { s with seats := (placeResp n tag hostTime tPosted tAccept r s).seats
               out := (placeResp n tag hostTime tPosted tAccept r s).out } := by
  unfold placeResp
  extract_lets
  split <;> rfl

/-- The seats after a response: that of its mailbox holds it, whether or not an interrupt is sent. -/
theorem placeResp_seats :
    ∃ f : Mailbox → Mailbox, (placeResp n tag hostTime tPosted tAccept r s).seats = (updMbx n f s).seats ∧
      ∀ m, (f m).resp.map (·.status) = some r.status := by
  unfold placeResp
  extract_lets resp u
  have sent : ∀ o, (if (u.seats.get n).mbx.irqEnable then emit o u else u).seats = u.seats := by
    intro o
    split <;> rfl
  exact ⟨_, sent _, fun _ => rfl⟩

variable {n tag hostTime tPosted tAccept r s}

theorem placeResp_get_ne {k : Nat} (h : k ≠ n) :
    (placeResp n tag hostTime tPosted tAccept r s).seats.get k = s.seats.get k := by
  obtain ⟨f, hf, -⟩ := placeResp_seats n tag hostTime tPosted tAccept r s
  simp [hf, updMbx, updSeat, h]

theorem placeResp_get_self :
    (placeResp n tag hostTime tPosted tAccept r s).seats.get n =
      { s.seats.get n with mbx := ((placeResp n tag hostTime tPosted tAccept r s).seats.get n).mbx } := by
  obtain ⟨f, hf, -⟩ := placeResp_seats n tag hostTime tPosted tAccept r s
  simp [hf, updMbx, updSeat]

theorem placeResp_status :
    ((placeResp n tag hostTime tPosted tAccept r s).seats.get n).mbx.resp.map (·.status) = some r.status := by
  obtain ⟨f, hf, hr⟩ := placeResp_seats n tag hostTime tPosted tAccept r s
  simp [hf, updMbx, updSeat, hr]

end

/-- A bare status other than BUSY is placed in the mailbox, unless a seat reset has discarded the response (R80, R83). -/
theorem answer_of {e : Env} {st : Status} {s : State} (hst : st ≠ .busy) (ho : (s.seats.get e.seat).mbx.orphan = none) :
    answer e (.of st) s =
      placeResp e.seat e.tag e.hostTime (s.seats.get e.seat).mbx.posted s.dev.devtime (.of st) s := by
  cases st
  case busy => exact absurd rfl hst
  all_goals simp [answer, Reply.of, discards, ho]

/-! ### Undefined opcodes (R9) -/

/-- An undefined opcode with a good payload length is answered UNSUPPORTED once it is taken, right after the length check (R9, R82). -/
theorem execUnsupportedOpcode_taken {e : Env} {opcode : Nat} {s : State} (ht : taken e s = true)
    (hp : e.payloadLen = 64 + e.bodyLen) (hb : e.bodyLen ≤ 65472) :
    execUnsupportedOpcode e opcode s = .next (answer e (.of .unsupported) (takeCmd e.seat opcode s)) := by
  have hs := taken_seat ht
  have hgood : ¬ (e.payloadLen < 64 || e.payloadLen != 64 + e.bodyLen || decide (65472 < e.bodyLen)) = true := by
    simp only [Bool.or_eq_true, decide_eq_true_eq, bne_iff_ne]
    omega
  unfold execUnsupportedOpcode
  rw [if_neg (by omega), doorWrite_taken ht]
  exact if_neg hgood

/-- Settles O45: the answer is a response placed in the seat's mailbox, which changes nothing beside that mailbox and what is sent. -/
theorem undefinedOpcodesReturnUnsupported : Obligations.UndefinedOpcodesReturnUnsupported := by
  intro e opcode s _ _ ht hp hb
  refine ⟨execUnsupportedOpcode_taken ht hp hb, fun ho => ?_⟩
  rw [answer_of (by decide) (by simpa using ho)]
  intro t
  refine ⟨placeResp_form .., fun n => ?_, fun n hn => ?_, placeResp_status⟩
  · by_cases hn : n = e.seat
    · subst hn
      rw [placeResp_get_self, takeCmd_seat]
    · rw [placeResp_get_ne hn, takeCmd_get_ne hn]
  · rw [placeResp_get_ne hn, takeCmd_get_ne hn]

end Sys2Proof.Machine

namespace Sys2Proof.Machine

/-! ### The item order of a step: a stable sort by priority (R22, R173) -/

/-- No handle stands before one of higher priority. -/
def PrioDescends (s : State) (l : List Nat) : Prop := l.Pairwise fun a b => (rtOf s b).prio ≤ (rtOf s a).prio

/-- The handle's request has priority `p`. -/
def hasPrio (s : State) (p h : Nat) : Bool := (rtOf s h).prio = p

section
variable {s : State} {g h : Nat} {l : List Nat}

/-- Behind a handle of lower priority than `h` every handle has lower priority than `h`. -/
theorem PrioDescends.lt_of_head_lt (hl : PrioDescends s (g :: l)) (hlt : (rtOf s g).prio < (rtOf s h).prio) :
    ∀ b ∈ g :: l, (rtOf s b).prio < (rtOf s h).prio :=
  List.forall_mem_cons.mpr ⟨hlt, fun _ hb => Nat.lt_of_le_of_lt (List.rel_of_pairwise_cons hl hb) hlt⟩

theorem insertPrio_perm : (insertPrio s h l).Perm (h :: l) := by
  induction l with
  | nil => exact .refl _
  | cons g rest ih =>
    unfold insertPrio
    split
    · exact .refl _
    · exact (ih.cons g).trans (.swap h g rest)

theorem insertPrio_descends (hl : PrioDescends s l) : PrioDescends s (insertPrio s h l) := by
  induction l with
  | nil => exact List.pairwise_singleton ..
  | cons g rest ih =>
    obtain ⟨hg, hrest⟩ := List.pairwise_cons.mp hl
    unfold insertPrio
    split
    next hlt =>
      exact List.pairwise_cons.mpr ⟨fun b hb => Nat.le_of_lt (hl.lt_of_head_lt hlt b hb), hl⟩
    next hle =>
      refine List.pairwise_cons.mpr ⟨fun b hb => ?_, ih hrest⟩
      obtain rfl | hb := List.mem_cons.mp (insertPrio_perm.mem_iff.mp hb)
      · exact Nat.le_of_not_lt hle
      · exact hg b hb

/-- Among the handles of one priority, the inserted one is last: those behind it are all of a lower priority. -/
theorem filter_insertPrio (hl : PrioDescends s l) (p : Nat) :
    (insertPrio s h l).filter (hasPrio s p) = (l ++ [h]).filter (hasPrio s p) := by
  induction l with
  | nil => rfl
  | cons g rest ih =>
    unfold insertPrio
    split
    next hlt =>
      by_cases hp : hasPrio s p h = true
      · have hnone : (g :: rest).filter (hasPrio s p) = [] :=
          List.filter_eq_nil_iff.mpr fun b hb hbp =>
            Nat.ne_of_lt (hl.lt_of_head_lt hlt b hb) ((of_decide_eq_true hbp).trans (of_decide_eq_true hp).symm)
        rw [List.filter_append, List.filter_cons, hnone, List.nil_append, List.filter_cons, List.filter_nil]
      · rw [List.filter_append, List.filter_cons_of_neg hp, List.filter_cons_of_neg hp, List.filter_nil, List.append_nil]
    next => rw [List.cons_append, List.filter_cons, List.filter_cons, ih hl.of_cons]

/-- `byPrio` with the handles inserted so far. -/
def insertAllPrio (s : State) (acc l : List Nat) : List Nat := l.foldl (fun acc h => insertPrio s h acc) acc

variable {acc : List Nat}

theorem insertAllPrio_cons : insertAllPrio s acc (h :: l) = insertAllPrio s (insertPrio s h acc) l := rfl

theorem insertAllPrio_perm : (insertAllPrio s acc l).Perm (acc ++ l) := by
  induction l generalizing acc with
  | nil => exact .of_eq (List.append_nil acc).symm
  | cons h rest ih =>
    rw [insertAllPrio_cons]
    exact ih.trans ((insertPrio_perm.append_right rest).trans List.perm_middle.symm)

theorem insertAllPrio_descends (hacc : PrioDescends s acc) : PrioDescends s (insertAllPrio s acc l) := by
  induction l generalizing acc with
  | nil => exact hacc
  | cons h rest ih => exact ih (insertPrio_descends hacc)

theorem filter_insertAllPrio (hacc : PrioDescends s acc) (p : Nat) :
    (insertAllPrio s acc l).filter (hasPrio s p) = (acc ++ l).filter (hasPrio s p) := by
  induction l generalizing acc with
  | nil => rw [List.append_nil]; rfl
  | cons h rest ih =>
    rw [insertAllPrio_cons, ih (insertPrio_descends hacc), List.filter_append, filter_insertPrio hacc,
      ← List.filter_append, List.append_assoc, List.singleton_append]

variable (s l)

theorem byPrio_eq_insertAllPrio : byPrio s l = insertAllPrio s [] l := rfl

theorem byPrio_perm : (byPrio s l).Perm l := by
  rw [byPrio_eq_insertAllPrio]
  exact insertAllPrio_perm

theorem byPrio_descends : PrioDescends s (byPrio s l) := by
  rw [byPrio_eq_insertAllPrio]
  exact insertAllPrio_descends .nil

theorem filter_byPrio (p : Nat) : (byPrio s l).filter (hasPrio s p) = l.filter (hasPrio s p) := by
  rw [byPrio_eq_insertAllPrio]
  exact filter_insertAllPrio .nil p

end

theorem PrioDescends.getD_le {s : State} {l : List Nat} (hl : PrioDescends s l) {i j : Nat} (hij : i < j) (hj : j < l.length) :
    (rtOf s (l.getD j 0)).prio ≤ (rtOf s (l.getD i 0)).prio := by
  have hi : i < l.length := Nat.lt_trans hij hj
  rw [List.getD_eq_getElem?_getD, List.getD_eq_getElem?_getD, List.getElem?_eq_getElem hj, List.getElem?_eq_getElem hi]
  exact List.pairwise_iff_getElem.mp hl i j hi hj hij

/-- The items of an opened step are those of its kept requests, by priority. -/
theorem openedStep_items (s : State) (seat ring tArrive : Nat) (b : List Byte) :
    (openedStep s seat ring tArrive b).items =
      stepItems (s.parts.get (ringOf s seat ring).part).body.layers
        (byPrio s ((openedStep s seat ring tArrive b).kept.map (·.handle))) := by
  simp only [openedStep, List.map_map, Function.comp_def, List.map_id']

/-- Settles O48: the order of each layer is the kept requests sorted by priority, and the sort is stable. -/
theorem itemsFollowLayerPriorityAndList : Obligations.ItemsFollowLayerPriorityAndList := by
  intro s seat ring tArrive b x kept
  exact ⟨byPrio s kept, openedStep_items s seat ring tArrive b, byPrio_perm s kept,
    fun _ _ hij hj => (byPrio_descends s kept).getD_le hij hj, filter_byPrio s kept⟩

end Sys2Proof.Machine

namespace Sys2Proof.Machine

/-! ### The write of a doorbell that is not taken at once (R79, R83, R89, R107) -/

/-- Every command of Table 23-3 arrives at its seat's mailbox under its own row and envelope, and is what the mailbox latches. -/
theorem exec_eq_mailbox {i : Instr} {o : OpInfo} {e : Env} (h : mail? i = some (o, e)) (s : State) :
    ∃ objs check effect, exec i s = mailbox o e i objs check effect s := by
  unfold mail? at h
  split at h <;> cases h <;> exact ⟨_, _, _, rfl⟩

/-- A command whose doorbell write is not taken does what that write does, and nothing of its own. -/
theorem exec_of_doorWrite {i : Instr} {o : OpInfo} {e : Env} {s t : State} (h : mail? i = some (o, e)) (hs : e.seat < 64)
    (ht : doorWrite e.seat i o.opcode s = some t) : exec i s = .next t := by
  obtain ⟨objs, check, effect, hi⟩ := exec_eq_mailbox h s
  rw [hi, mailbox, if_neg (by omega), ht]

section
variable {seat opcode : Nat} {self : Instr} {s : State} (ho : (s.seats.get seat).mbx.orphan = none)
include ho

theorem doorWrite_unreached (hr : seatReached s seat = false ∨ seatD3 s seat = true)
    (hw : (s.seats.get seat).mbx.waitingSince = none ∨ doorbell s seat = true) : doorWrite seat self opcode s = some s := by
  unfold doorWrite
  rw [if_neg (by rcases hw with hw | hw <;> simp [ho, hw]), if_pos (by simpa using hr)]

variable (hr : seatReached s seat = true) (h3 : seatD3 s seat = false)
include hr h3

theorem doorWrite_spoils (hd : doorbell s seat = true) :
    doorWrite seat self opcode s = some (updMbx seat (fun m => { m with spoiled := true }) s) := by
  simp [doorWrite, ho, hr, h3, hd]

theorem doorWrite_latches (hd : doorbell s seat = false) (hw : (s.seats.get seat).mbx.waitingSince = none)
    (hwait : s.dev.fwReady = false ∨ aheadOf s seat = true ∨ recordsWait s = true) :
    doorWrite seat self opcode s = some (updMbx seat (fun m =>
      { m with latched := some self, waitingSince := some s.dev.devtime, opcode := opcode, posted := s.dev.devtime }) s) := by
  have hlate : ¬ (s.dev.fwReady && !aheadOf s seat && !recordsWait s) = true := by
    rcases hwait with h | h | h <;> simp [h]
  simp [doorWrite, ho, hr, h3, hd, hw, hlate]

end

/-- Settles O43: a command of Table 23-3 that is not taken at once does what the write of its doorbell does. -/
theorem doorbellWrites : Obligations.DoorbellWrites := by
  intro i o e s hi hs ho
  refine ⟨fun hr hw => ?_, fun hr h3 => ⟨fun hd => ?_, fun hd hw hwait => ?_⟩⟩
  · exact exec_of_doorWrite hi hs (doorWrite_unreached ho hr hw)
  · exact exec_of_doorWrite hi hs (doorWrite_spoils ho hr h3 hd)
  · exact exec_of_doorWrite hi hs (doorWrite_latches ho hr h3 hd hw hwait)

/-! ### Reads of BAR0 outside what decodes in the LD (R44, R617, R619) -/

/-- Bytes that are all 0 spell 0. -/
theorem leNat_eq_zero {l : List Byte} (h : ∀ b ∈ l, b = 0) : leNat l = 0 := by
  induction l with
  | nil => rfl
  | cons b rest ih =>
    obtain ⟨rfl, hrest⟩ := List.forall_mem_cons.mp h
    simp [leNat, ih hrest]

/-- A read of bytes that are all 0 returns 0, where it is not the one of the high half of GLB_DEVTIME. -/
theorem regRead_eq_zero {s : State} {port ld offset width : Nat} (hoff : offset ≠ 0x1000C)
    (h : ∀ off, offset ≤ off → off < offset + width / 8 → barByte s port ld off = 0) : regRead s port ld offset width = 0 := by
  unfold regRead
  rw [if_neg (by simp [hoff])]
  refine leNat_eq_zero fun b hb => ?_
  obtain ⟨i, hi, rfl⟩ := List.mem_map.mp hb
  have := List.mem_range.mp hi
  exact h _ (by omega) (by omega)

/-- A seat mapped to an LD is one of the 64. -/
theorem seatOfLd_lt {s : State} {port ld n : Nat} (h : seatOfLd s port ld = some n) : n < 64 :=
  List.mem_range.mp (List.mem_of_find?_eq_some h)

/-- Every register of the GLB_ block ends below 0x20000 (Table 22-4). -/
theorem glbView_end_le (s : State) (port ld : Nat) : ∀ r ∈ glbView s port ld, r.1 + r.2.1 ≤ 0x20000 := by
  intro r hr
  simp only [glbView, List.mem_append, List.mem_flatten, List.mem_map, List.mem_range] at hr
  rcases hr with ((hr | ⟨l, ⟨p, hp, rfl⟩, hr⟩) | ⟨k, hk, rfl⟩) | hr
  · simp only [List.mem_cons, List.not_mem_nil, or_false] at hr
    rcases hr with rfl | rfl | rfl | rfl | rfl | rfl | rfl | rfl | rfl | rfl | rfl | rfl <;> simp
  · simp only [List.mem_append, List.mem_cons, List.not_mem_nil, or_false, List.mem_map, List.mem_range] at hr
    rcases hr with (rfl | rfl) | ⟨k, hk, rfl⟩ <;> dsimp only <;> omega
  · dsimp only
    omega
  · simp only [List.mem_cons, List.not_mem_nil, or_false] at hr
    rcases hr with rfl | rfl | rfl | rfl | rfl | rfl | rfl <;> simp

/-- No GLB_ register lies at 0x20000 or above. -/
theorem viewByte_glbView_none (s : State) (port ld : Nat) {off : Nat} (h : 0x20000 ≤ off) : viewByte (glbView s port ld) off = none := by
  rw [viewByte, Option.map_eq_none_iff, List.find?_eq_none]
  intro r hr
  have := glbView_end_le s port ld r hr
  simp only [Bool.and_eq_true, decide_eq_true_eq]
  omega

section
variable {s : State} {port ld off : Nat}

/-- Above the GLB_ block and outside the aperture, only the page of the LD's own seat decodes. -/
theorem barByte_outside_page (hlow : 0x20000 ≤ off) (hap : off < 0x1000000)
    (hpage : ∀ n, seatOfLd s port ld = some n → off < 0x100000 + n * 0x20000 ∨ 0x100000 + n * 0x20000 + 0x20000 ≤ off) :
    barByte s port ld off = 0 := by
  unfold barByte
  rw [if_neg (by omega), viewByte_glbView_none s port ld hlow]
  cases hn : seatOfLd s port ld with
  | none => rfl
  | some n =>
    dsimp only
    rw [if_neg (by simp only [Bool.and_eq_true, decide_eq_true_eq]; omega), if_pos (by simpa using hpage n hn)]

/-- The aperture reads 0 in the LD of another seat than seat 0, and in a module that is in no pool set (R485). -/
theorem barByte_closed_aperture (hlow : 0x1000000 ≤ off) (hhigh : off < 0x2000000)
    (h : seatOfLd s port ld ≠ some 0 ∨ s.pset.phase = .none) : barByte s port ld off = 0 := by
  unfold barByte
  rw [if_neg (by omega), viewByte_glbView_none s port ld (by omega)]
  cases hn : seatOfLd s port ld with
  | none => rfl
  | some n =>
    have hclosed : ¬ (n = 0 && s.pset.phase != .none) = true := by
      rcases h with h | h
      · have : n ≠ 0 := by
          rintro rfl
          exact h hn
        simp [this]
      · simp [h]
    dsimp only
    rw [if_pos (by simp [hlow, hhigh]), if_neg hclosed]

end

/-- An AON clock leaves every LD as it is. -/
@[simp] theorem clockTick_lds (s : State) : (clockTick s).lds = s.lds := by
  unfold clockTick
  split <;> rfl

@[simp] theorem repeat_clockTick_lds (k : Nat) (s : State) : (Nat.repeat clockTick k s).lds = s.lds := by
  induction k with
  | zero => rfl
  | succ k ih => rw [Nat.repeat, clockTick_lds, ih]

/-- The high half of GLB_DEVTIME reads as the LD's latch, else as it stands (R74). -/
theorem regRead_devtimeHigh (s : State) (port ld : Nat) :
    regRead s port ld 0x1000C 32 = (s.lds.get (ldKey port ld)).devtimeHigh.getD (s.dev.devtime / 2 ^ 32) := rfl

/-- The guard of an access that names a port and an LD the device has. -/
theorem portLd_guard {port ld : Nat} (hp : port < 8) (hl : ld < 16) : ¬ (decide (8 ≤ port) || decide (16 ≤ ld)) = true := by
  simp only [Bool.or_eq_true, decide_eq_true_eq]
  omega

/-- The state after a read of the low half of GLB_DEVTIME: the LD's latch holds the high half (R74). -/
def devtimeLatched (port ld : Nat) (s : State) : State :=
  emit (.regValue port ld 0x10008 (s.dev.devtime % 2 ^ 32))
    (updLd port ld (fun d => { d with devtimeHigh := some (s.dev.devtime / 2 ^ 32 % 2 ^ 32) }) s)

theorem exec_devtimeLowRead {port ld : Nat} {s : State} (hp : port < 8) (hl : ld < 16) (hr : memReached s port ld = true) :
    exec (.devtimeLowRead port ld) s = .next (devtimeLatched port ld s) := by
  show execDevtimeLowRead port ld s = _
  rw [execDevtimeLowRead, if_neg (portLd_guard hp hl), if_pos hr]
  rfl

theorem devtimeLatched_lds (port ld : Nat) (s : State) :
    (devtimeLatched port ld s).lds =
      s.lds.upd (ldKey port ld) fun d => { d with devtimeHigh := some (s.dev.devtime / 2 ^ 32 % 2 ^ 32) } := rfl

/-- Settles O54: the registers of BAR0 end below the pages, a page decodes in its own seat's LD alone, and the latch is the LD's. -/
theorem readsOutsideTheLdReturnZero : Obligations.ReadsOutsideTheLdReturnZero := by
  refine ⟨fun port ld offset width s hlo hhi => ?_, fun port ld n offset width s hn hne hlo hhi => ?_,
    fun port ld offset width s hlo hhi => ?_, fun port ld offset width s hlo hhi hclosed => ?_,
    fun port ld s hp hl hr => ⟨devtimeLatched port ld s, exec_devtimeLowRead hp hl hr, fun k => ?_, fun p l hne => ?_⟩⟩
  · exact regRead_eq_zero (by omega) fun off _ _ => barByte_outside_page (by omega) (by omega) fun _ _ => .inl (by omega)
  · refine regRead_eq_zero (by omega) fun off _ _ => barByte_outside_page (by omega) (by omega) fun m hm => ?_
    have : m ≠ n := by
      rintro rfl
      exact hne hm
    omega
  · refine regRead_eq_zero (by omega) fun off _ _ => barByte_outside_page (by omega) (by omega) fun m hm => .inr ?_
    have := seatOfLd_lt hm
    omega
  · exact regRead_eq_zero (by omega) fun off _ _ => barByte_closed_aperture (by omega) (by omega) hclosed
  · rw [regRead_devtimeHigh, repeat_clockTick_lds, devtimeLatched_lds, Tab.get_upd_self, Option.getD_some]
  · rw [regRead_devtimeHigh, regRead_devtimeHigh, devtimeLatched_lds, Tab.get_upd_ne _ hne]
    rfl

/-! ### Seat and identity commands (§3.6) -/

/-- A command that names no object ends no claim. -/
@[simp] theorem endClaims_nil (seat : Nat) (s : State) : endClaims seat [] s = s := by
  have hall : s.claims.filter (fun c => !(c.seat = seat && ([] : List ClaimObj).contains c.obj)) = s.claims :=
    List.filter_eq_self.mpr fun c _ => by rw [List.contains_nil, Bool.and_false, Bool.not_false]
  rw [endClaims, hall]

/-- A command that names no object is judged in the state in which it is served. -/
theorem Serves.takeCmd_eq {o : OpInfo} {e : Env} {s u : State} (h : Serves o e [] s u) : takeCmd e.seat o.opcode s = u :=
  (endClaims_nil _ _).symm.trans h.2

section
variable {o : OpInfo} {e : Env} {self : Instr} {check : State → Option Reply} {effect : State → State × Reply} {s u : State}

/-- A served command that names no object and passes its own checks has its effect and answers it. -/
theorem mailbox_effect (h : Serves o e [] s u) (hc : check u = none) :
    mailbox o e self [] check effect s = .next (answer e (effect u).2 (effect u).1) := by
  rw [mailbox_serves h (congrArg check (h.takeCmd_eq.trans h.2.symm)), hc]

/-- A served command that names no object and fails a check of its own answers that, and has no effect. -/
theorem mailbox_refuses (h : Serves o e [] s u) {r : Reply} (hc : check u = some r) :
    mailbox o e self [] check effect s = .next (answer e r u) := by
  rw [mailbox_serves h (congrArg check (h.takeCmd_eq.trans h.2.symm)), hc]
  simp [h.takeCmd_eq]

end

theorem setNoticeRingCheck_none {e : Env} {base log2 : Nat} {u : State} (h6 : 6 ≤ log2) (h12 : log2 ≤ 12)
    (hal : base % (32 * 2 ^ log2) = 0) (hr : (regionAt u e.seat base (32 * 2 ^ log2)).isNone = false)
    (hm : meetsRing u e.seat base (32 * 2 ^ log2) = false) : setNoticeRingCheck e base log2 u = none := by
  have h1 : ¬ log2 < 6 := by omega
  have h2 : ¬ 12 < log2 := by omega
  simp [setNoticeRingCheck, h1, h2, hal, hr, hm]

theorem setPortConfigCheck_none {port clk : Nat} {u : State} (hp : port ≤ 7) (hc : clk ≤ 1) (hr : (u.ports.get port).retired = false) :
    setPortConfigCheck port clk u = none := by
  have h1 : ¬ 7 < port := by omega
  have h2 : ¬ 1 < clk := by omega
  simp [setPortConfigCheck, h1, h2, hr]

section
variable {seat port ld : Nat} {u : State} (hmap : (u.seats.get seat).map = none)
include hmap

/-- A seat without a map may take a free LD without an allocation on a port in service (R43). -/
theorem mapSeatCheck_unmapped (hs : seat ≤ 63) (hp : port ≤ 7) (hl : ld ≤ 15) (ha : (u.lds.get (ldKey port ld)).alloc = 0)
    (ho : seatOfLd u port ld = none) (hr : (u.ports.get port).retired = false) : mapSeatCheck seat port ld u = none := by
  have h1 : ¬ 63 < seat := by omega
  have h2 : ¬ 7 < port := by omega
  have h3 : ¬ 15 < ld := by omega
  have h4 : port ≠ 255 := by omega
  simp [mapSeatCheck, hmap, h1, h2, h3, h4, ha, ho, hr]

/-- A seat without a map gains an LD: the map changes, and the LD's CDAT Sequence counts on (R45). -/
theorem mapSeat_unmapped (hp : port ≤ 7) :
    mapSeat seat port ld u =
      (updLd port ld (fun d => { d with cdatSeq := (d.cdatSeq + 1) % 2 ^ 32 })
        (updSeat seat (fun t => { t with map := some (port, ld) }) u), {}) := by
  have h4 : port ≠ 255 := by omega
  simp [mapSeat, hmap, h4]

end

/-- Settles O1: each command, once served, passes its checks and has the effect its meaning gives. -/
theorem seatCommandsAnswer : Obligations.SeatCommandsAnswer := by
  refine ⟨fun e s u h => ?_, fun e low high s u h hlo hhi => ?_, fun e low high s u h hout => ?_, fun e log2 s u h => ?_,
    fun e base log2 s u h h0 h6 h12 hal hr hm => ?_, fun e opid s u op h ho => ?_, fun e port clk s u h hp hc hr => ?_,
    fun e seat port ld s u h _ hs hp hl hmap ha ho hr => ?_, fun e opcode s ht _ hp hb => execUnsupportedOpcode_taken ht hp hb⟩
  · exact mailbox_effect h rfl
  · exact mailbox_effect h (by simp [hlo, hhi])
  · exact mailbox_refuses h (if_neg (by simp only [Bool.and_eq_true, decide_eq_true_eq]; omega))
  · exact mailbox_effect h rfl
  · refine (mailbox_effect h (setNoticeRingCheck_none h6 h12 hal hr hm)).trans ?_
    simp only [setNoticeRing, if_neg h0, bne_iff_ne.mpr h0]
  · refine (mailbox_effect h (by simp [ho])).trans ?_
    simp only [ho]
  · exact mailbox_effect h (setPortConfigCheck_none hp hc hr)
  · refine (mailbox_effect h (mapSeatCheck_unmapped hmap hs hp hl ha ho hr)).trans ?_
    rw [mapSeat_unmapped hmap hp]

/-! ### Standard CXL mailbox commands (R81, R599) -/

/-- A standard command that reaches an idle mailbox of a serving device is taken by CC0 (R79, R89, R107). -/
theorem StdServed.doorWrite_none {n p l : Nat} {s : State} (h : StdServed n p l s) (self : Instr) (opcode : Nat) :
    doorWrite n self opcode s = none := by
  obtain ⟨-, -, hreach, hd3, hbell, horphan, hwait, hready, hahead, hrec⟩ := h
  simp [doorWrite, hreach, hd3, hbell, horphan, hwait, hready, hahead, hrec]

/-- A served standard command answers what its function gives for the seat's LD, in the state in which CC0 has taken it. -/
theorem stdMailbox_served {n p l : Nat} {s : State} (h : StdServed n p l s) (opcode : Nat) (self : Instr)
    (f : Nat → Nat → State → Nat × List Nat × State) :
    stdMailbox n opcode self f s = .next (stdAnswer n opcode (f p l (takeCmd n opcode s)).1 (f p l (takeCmd n opcode s)).2.1
      (f p l (takeCmd n opcode s)).2.2) := by
  have ⟨hn, hmap, _, _, _, _, _, hready, _, _⟩ := h
  have hmap' : ((takeCmd n opcode s).seats.get n).map = some (p, l) := by rw [takeCmd_seat, hmap]
  unfold stdMailbox
  rw [if_neg (by omega), if_neg (by simp [hready]), h.doorWrite_none]
  simp only [hmap']

/-- Before FW_READY a standard command at an idle mailbox that it reaches is answered Busy (R579). -/
theorem stdMailbox_busy {n : Nat} {s : State} (hn : n < 64) (hf : s.dev.fwReady = false) (hr : seatReached s n = true)
    (h3 : seatD3 s n = false) (hd : doorbell s n = false) (opcode : Nat) (self : Instr) (f : Nat → Nat → State → Nat × List Nat × State) :
    stdMailbox n opcode self f s =
      .next (stdAnswer n opcode rcBusy [] (updMbx n (fun m => { m with opcode := opcode, posted := s.dev.devtime }) s)) := by
  unfold stdMailbox
  rw [if_neg (by omega), if_pos (by simp [hf])]
  simp [stdBusy, hr, h3, hd]

/-- Settles O14: each function of a standard command, in the state in which CC0 has taken it. -/
theorem standardMailboxCommandsAnswer : Obligations.StandardMailboxCommandsAnswer := by
  refine ⟨fun n p l s h => ?_, fun n p l s h => ?_, fun n p l offset length s h hlen => ?_, fun n p l s h => ?_,
    fun n p l time s h ht => ?_, fun n p l log x s h hx => ?_, fun n p l log all handles x y s h hx hy => ?_, fun n p l opcode s h => ?_,
    fun n s hn hf hr h3 hd => ?_⟩
  · show execIdentifyMemoryDevice n s = _
    exact stdMailbox_served h ..
  · show execGetSupportedLogs n s = _
    exact stdMailbox_served h ..
  · show execGetLog n true offset length s = _
    refine (stdMailbox_served h ..).trans ?_
    rw [if_neg (by decide), if_neg (Nat.not_lt.mpr hlen)]
  · show execGetTimestamp n s = _
    exact stdMailbox_served h ..
  · show execSetTimestamp n time s = _
    refine (stdMailbox_served h ..).trans ?_
    rw [Nat.mod_eq_of_lt ht]
    rfl
  · show execGetEventRecords n log s = _
    refine (stdMailbox_served h ..).trans ?_
    simp only [takeCmd_lds, hx]
    rfl
  · show execClearEventRecords n log all handles s = _
    refine (stdMailbox_served h ..).trans ?_
    simp only [takeCmd_lds, hx, hy]
  · show execUnsupportedCxlOpcode n opcode s = _
    exact stdMailbox_served h ..
  · show execGetTimestamp n s = _
    exact stdMailbox_busy hn hf hr h3 hd ..

/-! ### FM API commands of a port in MLD operation (R46, R47, R51–R53) -/

/-- A served FM API command answers what `fmServe` gives. -/
theorem fmCommand_served {port : Nat} {s : State} (h : FmServed port s) (c : FmCmd) :
    fmCommand port c s = .next (emit (.fm port (fmServe port c s).1 (fmServe port c s).2.1) (fmServe port c s).2.2) := by
  obtain ⟨hp, hup, hide, hmld, hready⟩ := h
  unfold fmCommand
  rw [if_neg (by omega)]
  simp [hup, hide, hmld, hready]

/-- Without MLD operation a port answers an FM API command Unsupported (R41). -/
theorem fmCommand_no_mld {port : Nat} {s : State} (hp : port < 8) (hup : (s.ports.get port).linkUp = true)
    (hide : (s.ports.get port).ideFailed = false) (hmld : (s.ports.get port).mld = false) (c : FmCmd) :
    fmCommand port c s = .next (emit (.fm port rcUnsupported []) s) := by
  unfold fmCommand
  rw [if_neg (by omega)]
  simp [hup, hide, hmld]

section
variable (port : Nat) (s : State)

/-- Allocations within the rules of R47 are written one after the other. -/
theorem fmServe_setLdAllocations {allocs : List (Nat × Nat)} (h : badAllocs s port allocs = false) :
    fmServe port (.setLdAllocations allocs) s =
      (rcSuccess, [], allocs.foldl (fun s a => updLd port a.1 (fun d => { d with alloc := a.2 }) s) s) :=
  if_neg (by simp [h])

/-- QoS control values within their ranges are written to the port (R51, R52). -/
theorem fmServe_setQosControl {bsi moderate severe cci : Nat} (hm : 25 < moderate) (hms : moderate < severe) (hs : severe ≤ 100)
    (hc : cci ∈ [128, 256, 512, 1024, 2048, 4096, 8192]) :
    fmServe port (.setQosControl bsi moderate severe cci) s =
      (rcSuccess, [], updPort port (fun p => { p with bsi := bsi, moderate := moderate, severe := severe, cci := cci }) s) :=
  if_neg (by simp only [hm, hms, hs, List.contains_iff_mem.mpr hc]; decide)

variable {values : List (Nat × Nat)} (h : (values.any fun v => decide (15 < v.1) || decide (255 < v.2)) = false)
include h

theorem fmServe_setQosAllocatedBw :
    fmServe port (.setQosAllocatedBw values) s =
      (rcSuccess, [], values.foldl (fun s v => updLd port v.1 (fun d => { d with allocBw := some v.2 }) s) s) :=
  if_neg (by rw [h]; decide)

theorem fmServe_setQosBwLimit :
    fmServe port (.setQosBwLimit values) s =
      (rcSuccess, [], values.foldl (fun s v => updLd port v.1 (fun d => { d with limitBw := v.2 }) s) s) :=
  if_neg (by rw [h]; decide)

end

/-- Settles O15: what `fmServe` gives for each command, and for the writing ones within their rules. -/
theorem fabricManagerCommandsAnswer : Obligations.FabricManagerCommandsAnswer := by
  refine ⟨fun port s h => ?_, fun port s h => ?_, fun port allocs s h hok => ?_, fun port s h => ?_,
    fun port bsi moderate severe cci s h hm hms hs hc => ?_, fun port s h => ?_, fun port s h => ?_, fun port values s h hok => ?_,
    fun port s h => ?_, fun port values s h hok => ?_, fun port s h => ?_, fun port cmd s h => ?_, fun port s hp hup hide hmld => ?_⟩
  · exact fmCommand_served h .getLdInfo
  · exact fmCommand_served h .getLdAllocations
  · exact (fmCommand_served h (.setLdAllocations allocs)).trans (by rw [fmServe_setLdAllocations port s hok])
  · exact fmCommand_served h .getQosControl
  · exact (fmCommand_served h (.setQosControl bsi moderate severe cci)).trans (by rw [fmServe_setQosControl port s hm hms hs hc])
  · exact fmCommand_served h .getQosStatus
  · exact fmCommand_served h .getQosAllocatedBw
  · exact (fmCommand_served h (.setQosAllocatedBw values)).trans (by rw [fmServe_setQosAllocatedBw port s hok])
  · exact fmCommand_served h .getQosBwLimit
  · exact (fmCommand_served h (.setQosBwLimit values)).trans (by rw [fmServe_setQosBwLimit port s hok])
  · exact fmCommand_served h .identify
  · exact fmCommand_served h cmd
  · exact fmCommand_no_mld hp hup hide hmld .identify

/-! ### Configuration, DOE and power-state accesses of an LD (R39, R48–R50, R57, R579) -/

section
variable {port ld : Nat} {s : State}

theorem ldServed_iff : ldServed s port ld = true ↔ port < 8 ∧ ld < 16 ∧ ldReached s port ld = true ∧ s.dev.fwReady = true := by
  simp [ldServed, and_assoc]

theorem doeServed_iff : doeServed s port ld = true ↔ ldServed s port ld = true ∧ (s.lds.get (ldKey port ld)).doeWork = none := by
  simp [doeServed]

theorem configurationRequest_read (h : ldServed s port ld = true) (item : CfgItem) (value : Nat) :
    exec (.configurationRequest port ld false item value) s = .next (emit (.cfg port ld false (cfgRead s port ld item)) s) := by
  obtain ⟨hp, hl, hr, hf⟩ := ldServed_iff.mp h
  show execConfigurationRequest port ld false item value s = _
  rw [execConfigurationRequest, if_neg (portLd_guard hp hl), if_neg (by simp [hr]), if_neg (by simp [hf]), if_neg Bool.false_ne_true]

theorem configurationRequest_write (h : ldServed s port ld = true) (item : CfgItem) (value : Nat) :
    exec (.configurationRequest port ld true item value) s = .next (emit (.cfg port ld false []) (cfgWrite port ld item value s)) := by
  obtain ⟨hp, hl, hr, hf⟩ := ldServed_iff.mp h
  show execConfigurationRequest port ld true item value s = _
  rw [execConfigurationRequest, if_neg (portLd_guard hp hl), if_neg (by simp [hr]), if_neg (by simp [hf]), if_pos rfl]

/-- Before FW_READY the answer is Configuration Request Retry Status. -/
theorem configurationRequest_retry (hp : port < 8) (hl : ld < 16) (hr : ldReached s port ld = true) (hf : s.dev.fwReady = false)
    (write : Bool) (item : CfgItem) (value : Nat) :
    exec (.configurationRequest port ld write item value) s = .next (emit (.cfg port ld true []) s) := by
  show execConfigurationRequest port ld write item value s = _
  rw [execConfigurationRequest, if_neg (portLd_guard hp hl), if_neg (by simp [hr]), if_pos (by simp [hf])]

theorem updDecoder_of_lt {i : Nat} (hi : i < 4) (f : HdmDecoder → HdmDecoder) :
    updDecoder port ld i f s = updLd port ld (fun d => { d with decoders := d.decoders.upd i f }) s :=
  if_pos hi

theorem cfgWrite_maxPayload {value : Nat} (hv : value ∈ [128, 256, 512]) :
    cfgWrite port ld .maxPayload value s = updLd port ld (fun d => { d with maxPayload := value }) s :=
  if_pos (List.contains_iff_mem.mpr hv)

theorem cfgWrite_powerState {value : Nat} (hv : value ∈ [0, 3]) :
    cfgWrite port ld .powerState value s = updLd port ld (fun d => { d with d3hot := value = 3 }) s :=
  if_pos (by simpa using hv)

/-- A write of any item but the host's leaves the state as it was (Table 2-4). -/
theorem cfgWrite_read_only {item : CfgItem} (h : item ∉ [CfgItem.biEnable, .maxPayload, .powerState])
    (hd : ∀ i, item ≠ .hdmBase i ∧ item ≠ .hdmSize i ∧ item ≠ .hdmControl i) (value : Nat) : cfgWrite port ld item value s = s := by
  cases item with
  | biEnable | maxPayload | powerState => simp at h
  | hdmBase i => exact absurd rfl (hd i).1
  | hdmSize i => exact absurd rfl (hd i).2.1
  | hdmControl i => exact absurd rfl (hd i).2.2
  | _ => rfl

/-- What reaches the DOE of a served LD that processes no object acts at once (R57). -/
theorem onDoe_served (h : doeServed s port ld = true) (f : State → State) : onDoe port ld f s = .next (f s) := by
  obtain ⟨hserved, hwork⟩ := doeServed_iff.mp h
  obtain ⟨hp, hl, hr, hf⟩ := ldServed_iff.mp hserved
  rw [onDoe, if_neg (portLd_guard hp hl), if_neg (by simp [hr]), if_neg (by simp [hf]), if_neg (by simp [hwork])]

/-- While the DOE of a served LD processes an object, it answers DOE Busy (R57). -/
theorem onDoe_busy (h : ldServed s port ld = true) (hwork : (s.lds.get (ldKey port ld)).doeWork.isSome = true) (f : State → State) :
    onDoe port ld f s = .next (emit (.doeBusy port ld) s) := by
  obtain ⟨hp, hl, hr, hf⟩ := ldServed_iff.mp h
  rw [onDoe, if_neg (portLd_guard hp hl), if_neg (by simp [hr]), if_neg (by simp [hf]), if_pos hwork]

end

/-- Settles O16: what each access does once its LD is served. -/
theorem configurationAndDoeAccessesAnswer : Obligations.ConfigurationAndDoeAccessesAnswer := by
  refine ⟨fun port ld item value s h => configurationRequest_read h .., fun port ld value s h => configurationRequest_write h ..,
    fun port ld value s h hv => ?_, fun port ld i value s h hi => ⟨?_, ?_, ?_⟩, fun port ld value s h hv => ?_,
    fun port ld item value s h hi hd => ?_, fun port ld write item value s hp hl hr hf => configurationRequest_retry hp hl hr hf ..,
    fun port ld kind length s h hlen hk => ?_, fun port ld kind length s h hlen => ?_, fun port ld kind length s h hw => ?_,
    fun port ld index s h hi => ?_, fun port ld entry s h => ?_, fun port ld d3 s hp hl hr => ?_⟩
  · rw [configurationRequest_write h, cfgWrite_maxPayload hv]
  · exact (configurationRequest_write h ..).trans (by rw [cfgWrite, updDecoder_of_lt hi])
  · exact (configurationRequest_write h ..).trans (by rw [cfgWrite, updDecoder_of_lt hi])
  · exact (configurationRequest_write h ..).trans (by rw [cfgWrite, updDecoder_of_lt hi])
  · rw [configurationRequest_write h, cfgWrite_powerState hv]
  · rw [configurationRequest_write h, cfgWrite_read_only hi hd]
  · show execDoeObject port ld kind length s = _
    rw [execDoeObject, onDoe_served h, if_neg (by simp only [Bool.or_eq_true, decide_eq_true_eq]; omega)]
  · show execDoeObject port ld kind length s = _
    rw [execDoeObject, onDoe_served h, if_pos (by simp [hlen])]
    rfl
  · show execDoeObject port ld kind length s = _
    exact onDoe_busy h hw _
  · show execDoeDiscovery port ld index s = _
    rw [execDoeDiscovery, onDoe_served h]
    match index, hi with
    | 0, _ | 1, _ | 2, _ | 3, _ => rfl
  · show execCdatTableAccess port ld entry s = _
    exact onDoe_served h _
  · show execPciPmStateChange port ld d3 s = _
    rw [execPciPmStateChange, if_neg (portLd_guard hp hl), if_pos hr]

/-! ### SPDM, IDE and key-bank messages (§2.11, R58, R59, R472, R473) -/

section
variable {port ld : Nat} {s : State}

theorem secureOn_iff {secured : Bool} : secureOn s port ld secured = true ↔ secured = true ∧ (s.lds.get (ldKey port ld)).sessions ≠ 0 := by
  simp [secureOn]

/-- GET_VERSION of any version, and any request of version 1.2, is served (R58). -/
theorem spdmRequest_serves (h : doeServed s port ld = true) {v : Nat} {req : SpdmReq} (hv : v = 0x12 ∨ req = .getVersion) :
    exec (.spdmRequest port ld v req) s = .next (spdmAnswer port ld (spdmServe port ld req s)) := by
  show execSpdmRequest port ld v req s = _
  rw [execSpdmRequest, onDoe_served h, if_neg (by rcases hv with rfl | rfl <;> simp)]

theorem spdmRequest_mismatch (h : doeServed s port ld = true) {v : Nat} {req : SpdmReq} (hv : v ≠ 0x12) (hreq : req ≠ .getVersion) :
    exec (.spdmRequest port ld v req) s = .next (emit (.spdmError port ld spdmVersionMismatch) s) := by
  show execSpdmRequest port ld v req s = _
  rw [execSpdmRequest, onDoe_served h, if_pos (by simp [hv, hreq])]

theorem spdmServe_keyExchange (h : (s.lds.get (ldKey port ld)).sessions < 2) :
    spdmServe port ld .keyExchange s = (.inr [(Config.spdmValue 20 s.freeCtr).toNat],
      updLd port ld (fun d => { d with sessions := d.sessions + 1 }) { s with freeCtr := s.freeCtr + 1 }) :=
  if_neg (Nat.not_le.mpr h)

/-- An IDE key-management message in a secured session on LD-ID 0 acts (R54). -/
theorem ideMessage_secured (h : doeServed s port 0 = true) (hs : (s.lds.get (ldKey port 0)).sessions ≠ 0) (f : State → State) :
    ideMessage port 0 true f s = .next (f s) := by
  rw [ideMessage, onDoe_served h, if_neg (by simp [secureOn_iff.mpr ⟨rfl, hs⟩])]

/-- A key message in a secured session on a seat's LD acts for that seat and answers (R473). -/
theorem keyMessage_secured (h : doeServed s port ld = true) {n : Nat} (hn : seatOfLd s port ld = some n)
    (hs : (s.lds.get (ldKey port ld)).sessions ≠ 0) (f : Nat → State → State × List Nat) :
    keyMessage port ld true f s = .next (emit (.spdm port ld 0 (f n s).2) (f n s).1) := by
  rw [keyMessage, onDoe_served h]
  simp only [hn, secureOn_iff.mpr ⟨rfl, hs⟩, Bool.not_true, Bool.false_eq_true, if_false]

/-- A key goes into a free slot of the device within its seat's limit (R472, R473). -/
theorem keyInstall_free {n slot key1 key2 : Nat} (hslot : slot ≤ 4095) (hfree : keySlotOf s slot = none) (h1 : key1 < 2 ^ 256)
    (h2 : key2 < 2 ^ 256) (hne : key1 ≠ key2) (hlim : (s.keySlots.filter fun k => k.owner = n).length < (s.seats.get n).limits.keySlots) :
    keyInstall slot key1 key2 n s = ({ s with keySlots := s.keySlots.filter (fun x => x.slot != slot) ++
      [{ slot := slot, owner := n, loaded := true, key1 := key1, key2 := key2, kcv := kcvOf key1 }] }, [0, slot, kcvOf key1]) := by
  unfold keyInstall
  simp only [Nat.mod_eq_of_lt h1, Nat.mod_eq_of_lt h2, hfree]
  rw [if_neg (Nat.not_lt.mpr hslot), if_neg Bool.false_ne_true, if_neg hne, if_neg (by simpa using hlim)]
  rfl

/-- The owner's slot that no region uses is emptied (R473). -/
theorem keyErase_unused {n slot : Nat} {k : KeySlot} (hk : keySlotOf s slot = some k) (hn : k.owner = n)
    (hu : (s.regions.any fun r => r.protected_ && decide (r.keySlot = slot)) = false) :
    keyErase slot n s = ({ s with keySlots := s.keySlots.filter fun x => x.slot != slot }, [0, slot, 0]) := by
  unfold keyErase
  simp only [hk]
  rw [if_neg (by simp [hn]), hu, if_neg Bool.false_ne_true]
  rfl

/-- A key query changes nothing (R473). -/
theorem keyQuery_state (slot n : Nat) (s : State) : (keyQuery slot n s).1 = s := by
  unfold keyQuery
  split
  · rfl
  · split
    · rfl
    · split <;> rfl

end

/-- Settles O17: what each message does once it reaches its responder. -/
theorem securityMessagesAnswer : Obligations.SecurityMessagesAnswer := by
  refine ⟨fun port ld v s h => spdmRequest_serves h (.inr rfl), fun port ld v req s h hv hreq => spdmRequest_mismatch h hv hreq,
    fun port ld s h hs => ?_, fun slot chain s h hs hmap h1 h3 hlen => ?_, fun port k s h hs => ?_,
    fun port k s h hs hk => ?_, fun port k s h hs hk => ?_, fun port k s h hs => ?_, fun port k s h hs => ?_,
    fun port ld n slot key1 key2 s h hn hs hslot hfree h1 h2 hne hlim => ?_,
    fun port ld n slot k s h hn hs hk hown hu => ?_, fun port ld n slot s h hn hs => ?_⟩
  · rw [spdmRequest_serves h (.inl rfl), spdmServe_keyExchange hs]
    rfl
  · show execSetCertificate 0 0 slot true chain s = _
    rw [execSetCertificate, onDoe_served h, if_neg (Nat.not_lt.mpr hlen), if_neg (by simp [secureOn_iff.mpr ⟨rfl, hs⟩, hmap]),
      if_neg (by simp only [Bool.or_eq_true, decide_eq_true_eq]; omega)]
  · show execCxlKeyProg port 0 true k s = _
    exact ideMessage_secured h hs _
  · show execCxlKSetGo port 0 true k s = _
    rw [execCxlKSetGo, ideMessage_secured h hs, if_pos hk]
  · show execCxlKSetStop port 0 true k s = _
    rw [execCxlKSetStop, ideMessage_secured h hs, if_pos hk]
  · show execCxlQuery port 0 true k s = _
    exact ideMessage_secured h hs _
  · show execCxlGetkey port 0 true k s = _
    exact ideMessage_secured h hs _
  · show execKeyInstall port ld true slot key1 key2 s = _
    rw [execKeyInstall, keyMessage_secured h hn hs, keyInstall_free hslot hfree h1 h2 hne hlim]
  · show execKeyErase port ld true slot s = _
    rw [execKeyErase, keyMessage_secured h hn hs, keyErase_unused hk hown hu]
  · show execKeyQuery port ld true slot s = _
    rw [execKeyQuery, keyMessage_secured h hn hs, keyQuery_state]

/-! ### Link training with a narrow partner (R37, R69, R70) -/

section
variable {β : Type} (g : State → β)

/-- What each step of a fold keeps, the fold keeps. -/
theorem foldl_keeps {α : Type} {f : State → α → State} (hf : ∀ s a, g (f s a) = g s) (l : List α) (s : State) :
    g (l.foldl f s) = g s := by
  induction l generalizing s with
  | nil => rfl
  | cons a rest ih => exact (ih _).trans (hf s a)

/-- Entering a record changes event logs of LDs alone (R599). -/
theorem enterLogs_keeps (hld : ∀ p l f s, g (updLd p l f s) = g s) (r : FaultRec) (s : State) : g (enterLogs r s) = g s := by
  refine foldl_keeps g (fun s n => ?_) ..
  split
  · rfl
  · split
    · exact hld ..
    · split
      · exact hld ..
      · rfl

/-- Sending the held snoops of a port changes the coherence state and what is sent alone (R452). -/
theorem sendHeldSnoops_keeps (hemit : ∀ o s, g (emit o s) = g s) (hcoh : ∀ f s, g (updCoh f s) = g s) (port : Nat) (s : State) :
    g (sendHeldSnoops port s) = g s := by
  refine (foldl_keeps g (fun s n => ?_) ..).trans (hcoh ..)
  unfold sendSnoop
  split
  · exact hemit ..
  · rfl

end

@[simp] theorem logFault_ports (f : FaultEv) (s : State) : (logFault f s).ports = s.ports :=
  enterLogs_keeps State.ports (fun _ _ _ _ => rfl) ..

/-- The fault state after a record rests on the fault state and the clocks before it. -/
theorem logFault_flt_congr (f : FaultEv) {s t : State} (hflt : s.flt = t.flt) (hdev : s.dev = t.dev) :
    (logFault f s).flt = (logFault f t).flt := by
  simp only [logFault, enterLogs_keeps State.flt fun _ _ _ _ => rfl, hflt, hdev]

/-- The record a training leaves: of a link without CXL, or of another speed than 64 GT/s (R36, R38). -/
def recordTraining (port : Nat) (o : Offer) (s : State) : State :=
  if !(o.cxl && decide (o.speed ≤ 4)) then logFault { unit := 4, index := port, event := 10, port := port } s
  else if o.speed != 4 then logFault { unit := 4, index := port, event := 14, port := port } s
  else s

@[simp] theorem recordTraining_ports (port : Nat) (o : Offer) (s : State) : (recordTraining port o s).ports = s.ports := by
  unfold recordTraining
  split
  · simp
  · split <;> simp

theorem recordTraining_flt_congr (port : Nat) (o : Offer) (w : Nat) {s t : State} (hflt : s.flt = t.flt) (hdev : s.dev = t.dev) :
    (recordTraining port o s).flt = (recordTraining port { o with width := w } t).flt := by
  unfold recordTraining
  split
  · exact logFault_flt_congr _ hflt hdev
  · split
    · exact logFault_flt_congr _ hflt hdev
    · exact hflt

theorem recordTraining_cxl64 (port : Nat) {o : Offer} (hc : o.cxl = true) (h4 : o.speed = 4) (s : State) : recordTraining port o s = s := by
  simp [recordTraining, hc, h4]

theorem trainWidth_ne_zero (p : Port) {o : Offer} (hw : 8 ≤ o.width) : trainWidth p o ≠ 0 := by
  unfold trainWidth
  rw [if_neg (by omega)]
  split <;> decide

/-- A partner that offers x8 and not x16 is met at x8, whatever lane groups are in use (R37). -/
theorem trainWidth_narrow (p : Port) {o : Offer} (h8 : 8 ≤ o.width) (h16 : o.width < 16) : trainWidth p o = 8 := by
  unfold trainWidth
  rw [if_neg (by omega), if_neg (by simp [Nat.not_le.mpr h16])]

/-- A port with both lane groups whose link is down, and which no power region, clock or start keeps from training (R35, R69). -/
structure ReadyToTrain (port : Nat) (s : State) : Prop where
  exists_ : port < 8
  down : (s.ports.get port).linkUp = false
  groupL : (s.ports.get port).groupL = true
  groupH : (s.ports.get port).groupH = true
  powered : s.pwr.held.contains (48 + port) = false
  locked : s.dev.portLock / 2 ^ port % 2 ≠ 0
  started : s.dev.recovery = false

/-- Such a port comes up with a partner of at least x8 at the width of `trainWidth`, on both groups; the fault state and the clocks are
then as before, but for the record of the mode and speed. -/
theorem ReadyToTrain.comes_up {port : Nat} {o : Offer} {s : State} (h : ReadyToTrain port s) (hw : 8 ≤ o.width) (h0 : 0 < o.speed)
    (h6 : o.speed ≤ 6) :
    ∃ u, exec (.linkTrainingComplete port o) s = .next (recordTraining port o u) ∧ u.flt = s.flt ∧ u.dev = s.dev ∧
      (u.ports.get port).linkUp = true ∧ (u.ports.get port).width = trainWidth (s.ports.get port) o ∧
      (u.ports.get port).groupL = true ∧ (u.ports.get port).groupH = true := by
  obtain ⟨hp, hup, hl, hh, hheld, hlock, hrec⟩ := h
  have hfree : ¬ ((s.ports.get port).linkUp || (s.ports.get port).retired || s.pwr.held.contains (48 + port) ||
      decide (s.dev.portLock / 2 ^ port % 2 = 0) || s.dev.recovery) = true := by
    simpa [hup, Port.retired, hl, hlock, hrec] using hheld
  show ∃ u, execLinkTrainingComplete port o s = _ ∧ _
  unfold execLinkTrainingComplete
  rw [if_neg (by omega)]
  extract_lets p w cxl s1 s2 s3
  have hw0 : w ≠ 0 := trainWidth_ne_zero p hw
  rw [if_neg hfree, if_neg (by simp only [Bool.or_eq_true, decide_eq_true_eq]; omega)]
  have keeps : ∀ {β : Type} (g : State → β), (∀ m u, g (emit m u) = g u) → (∀ f u, g (updCoh f u) = g u) →
      (∀ q l f u, g (updLd q l f u) = g u) → g s3 = g s1 := by
    intro β g hemit hcoh hld
    have h2 : g s2 = g s1 := by
      show g (if _ then _ else _) = _
      split
      · exact foldl_keeps g (fun _ _ => hld ..) ..
      · rfl
    exact (sendHeldSnoops_keeps g hemit hcoh ..).trans h2
  have hport : s3.ports.get port = _ :=
    (keeps (fun u => u.ports.get port) (fun _ _ => rfl) (fun _ _ => rfl) (fun _ _ _ _ => rfl)).trans (Tab.get_upd_self ..)
  refine ⟨s3, ?_, keeps State.flt (fun _ _ => rfl) (fun _ _ => rfl) (fun _ _ _ _ => rfl),
    keeps State.dev (fun _ _ => rfl) (fun _ _ => rfl) (fun _ _ _ _ => rfl), ?_⟩
  · unfold recordTraining
    split
    · rfl
    · split <;> rfl
  · rw [hport]
    exact ⟨rfl, rfl, hl, hh⟩

/-- Settles O46: both partners leave the port up on both lane groups, and the record of a training knows no width. -/
theorem narrowPartnersAreNotDegraded : Obligations.NarrowPartnersAreNotDegraded := by
  intro port o s hp p hup hl hh hheld hlock hrec h8 h16 h0 h6
  have hready : ReadyToTrain port s := ⟨hp, hup, hl, hh, hheld, hlock, hrec⟩
  obtain ⟨u, hexec, hflt, hdev, hlink, hwidth, hlow, hhigh⟩ := hready.comes_up (o := o) h8 h0 h6
  obtain ⟨v, hexec16, hflt16, hdev16, -⟩ := hready.comes_up (o := { o with width := 16 }) (by simp) h0 h6
  refine ⟨recordTraining port o u, recordTraining port { o with width := 16 } v, hexec, hexec16, ?_⟩
  rw [recordTraining_ports]
  refine ⟨hlink, hwidth.trans (trainWidth_narrow p h8 h16), hlow, hhigh,
    recordTraining_flt_congr port o 16 (hflt.trans hflt16.symm) (hdev.trans hdev16.symm), fun hc h4 => ?_⟩
  rw [recordTraining_cxl64 port hc h4, hflt]

end Sys2Proof.Machine

namespace Sys2Proof.Machine

/-! ### The checks of R82 that all commands share, in their order -/

section
variable {o : OpInfo} {e : Env} {objs : List ClaimObj} {check : State → Option Reply} {effect : State → State × Reply} {s : State}

/-- A command of Table 23-3 that CC0 takes is served in the state in which it is taken (R79). -/
theorem exec_taken {i : Instr} (h : mail? i = some (o, e)) (ht : taken e s = true) :
    ∃ objs check effect, exec i s = .next (serve o e objs check effect (takeCmd e.seat o.opcode s)) := by
  obtain ⟨objs, check, effect, hi⟩ := exec_eq_mailbox h s
  have hs := taken_seat ht
  exact ⟨objs, check, effect, by rw [hi, mailbox, if_neg (by omega), doorWrite_taken ht]⟩

/-- Check 1: a wrong payload length comes before every other check (R80). -/
theorem serve_badLength (h : e.payloadLen < 64 ∨ e.payloadLen ≠ 64 + e.bodyLen ∨ 65472 < e.bodyLen) :
    serve o e objs check effect s = placeBadLength e.seat s :=
  if_pos (by simpa [or_assoc] using h)

/-- With the right payload length, a check that answers before check 7 is passed answers in the state as it was. -/
theorem serve_judged (hp : e.payloadLen = 64 + e.bodyLen) (hb : e.bodyLen ≤ 65472) {r : Reply}
    (hj : judge o e objs (check s) s = (some r, false)) : serve o e objs check effect s = answer e r s := by
  have hgood : ¬ (e.payloadLen < 64 || e.payloadLen != 64 + e.bodyLen || decide (65472 < e.bodyLen)) = true := by
    simp only [Bool.or_eq_true, decide_eq_true_eq, bne_iff_ne]
    omega
  unfold serve
  rw [if_neg hgood, hj]
  rfl

theorem judge_of_gate {own : Option Reply} {r : Reply} (h : gate o e s = some r) : judge o e objs own s = (some r, false) := by
  rw [judge, h]

/-- Checks 3 to 6 do not read what taking a command changes. -/
@[simp] theorem takeCmd_gate (n c : Nat) : gate o e (takeCmd n c s) = gate o e s := by
  simp [gate]

/-- Check 3 comes first among those of `gate`, in the words of the statements (R93). -/
theorem gate_version (h : versionOk o e s = false) : gate o e s = some (.of .version) :=
  if_pos (by grind [versionOk])

theorem gate_versionOk (h : versionOk o e s = true) :
    gate o e s = if o.seat0 && e.seat != 0 then some (.of .denied)
      else if s.flt.sable && !o.s then some (.of .fatal)
      else if o.a && !s.dev.admitOpen then some (.of .notReady) else none :=
  if_neg (by grind [versionOk])

/-- A retry that comes too soon is answered BUSY (R91). -/
theorem tooSoon_status {seat opcode : Nat} {r : Reply} (h : tooSoon seat opcode objs s = some r) : r.status = .busy := by
  unfold tooSoon at h
  dsimp only at h
  split at h
  next x hx =>
    obtain ⟨o', -, ho⟩ := List.exists_of_findSome?_eq_some hx
    obtain ⟨c, -, rfl⟩ := Option.map_eq_some_iff.mp ho
    cases h
    rfl
  next =>
    obtain ⟨x, -, rfl⟩ := Option.map_eq_some_iff.mp h
    rfl

/-- With Memory_Active missing, or for a long-running command during a firmware restart, the shared part of check 7 answers BUSY
(R573, R581). -/
theorem commonBusy_answers (h : o.a = false ∧ o.f = false ∧ s.dev.memActive = false ∨ o.long = true ∧ s.flt.restarting = true) :
    ∃ r, commonBusy o e objs s = some r ∧ r.status = .busy := by
  unfold commonBusy
  split
  next r hr => exact ⟨r, rfl, tooSoon_status hr⟩
  next =>
    split
    next => exact ⟨_, rfl, rfl⟩
    next hm => exact ⟨_, if_pos (by grind), rfl⟩

/-- Where the shared part of check 7 answers BUSY, only a NOT_READY of the command's own comes before it (R82). -/
theorem judge_of_commonBusy {own : Option Reply} {b : Reply} (hg : gate o e s = none) (hc : commonBusy o e objs s = some b)
    (hb : b.status = .busy) :
    ∃ r, judge o e objs own s = (some r, false) ∧ (r.status = .notReady ∨ r.status = .busy) := by
  unfold judge
  rw [hg, hc]
  cases own with
  | none => exact ⟨b, rfl, .inr hb⟩
  | some r =>
    by_cases hr : r.status = .notReady
    · exact ⟨r, by simp [hr], .inl hr⟩
    · exact ⟨b, by simp [hr], .inr hb⟩

end

/-- Settles O44: the payload length comes before `judge`, in `judge` the checks 3 to 6 before check 7, and none of them ends a claim. -/
theorem checksAnswerInOrder : Obligations.ChecksAnswerInOrder := by
  intro i o e s hi ht u
  obtain ⟨objs, check, effect, hx⟩ := exec_taken hi ht
  refine ⟨fun hl => by rw [hx, serve_badLength hl], fun hp hb => ?_⟩
  have refused : ∀ r, gate o e s = some r → exec i s = .next (answer e r u) := fun r hr => by
    rw [hx, serve_judged hp hb (judge_of_gate ((takeCmd_gate ..).trans hr))]
  refine ⟨fun hv => refused _ (gate_version hv), fun hv => ?_⟩
  have hgate := gate_versionOk hv
  refine ⟨fun h0 hs => refused _ (by simp [hgate, h0, hs]), fun h0 => ?_⟩
  rw [if_neg (by simpa using h0)] at hgate
  refine ⟨fun hsab hs => refused _ (by simp [hgate, hsab, hs]), fun hs => ?_⟩
  rw [if_neg (by simpa using hs)] at hgate
  refine ⟨fun ha hop => refused _ (by simp [hgate, ha, hop]), fun ha hbusy => ?_⟩
  rw [if_neg (by simpa using ha)] at hgate
  obtain ⟨b, hc, hbs⟩ := commonBusy_answers (e := e) (objs := objs) (s := u) hbusy
  obtain ⟨r, hj, hr⟩ := judge_of_commonBusy (own := check u) ((takeCmd_gate ..).trans hgate) hc hbs
  exact ⟨r, by rw [hx, serve_judged hp hb hj], hr⟩

/-! ### Return codes (R80) -/

theorem placeResp_returnCode (n tag hostTime tPosted tAccept : Nat) (r : Reply) (s : State) :
    ((placeResp n tag hostTime tPosted tAccept r s).seats.get n).mbx.returnCode = 0 := by
  unfold placeResp
  extract_lets resp u
  have hu : (u.seats.get n).mbx.returnCode = 0 := by simp [u, updMbx, updSeat]
  split <;> exact hu

/-- A response that no seat reset has discarded gives way to the return code of a wrong length; no envelope is written. -/
theorem placeBadLength_mbx {n : Nat} {s : State} (ho : (s.seats.get n).mbx.orphan = none) :
    ((placeBadLength n s).seats.get n).mbx =
      { (s.seats.get n).mbx with returnCode := 0x16, extStatus := Status.invalid.code, latched := none } := by
  unfold placeBadLength
  rw [if_neg (by simp [discards, ho])]
  extract_lets u
  have hu : (u.seats.get n).mbx =
      { (s.seats.get n).mbx with returnCode := 0x16, extStatus := Status.invalid.code, latched := none } := by
    simp [u, updMbx, updSeat]
  split <;> exact hu

@[simp] theorem takeCmd_resp (n o : Nat) (s : State) (k : Nat) :
    ((takeCmd n o s).seats.get k).mbx.resp = (s.seats.get k).mbx.resp := by
  by_cases h : k = n
  · subst h
    simp only [takeCmd, updMbx, updSeat, Tab.get_upd_self]
    split <;> rfl
  · rw [takeCmd_get_ne h]

/-- Settles O47: an envelope is placed with Success, and a wrong length, which check 1 finds, leaves the code and no envelope. -/
theorem badLengthsHaveNoEnvelope : Obligations.BadLengthsHaveNoEnvelope := by
  refine ⟨fun seat tag hostTime tPosted tAccept r s => ⟨placeResp_returnCode .., placeResp_status⟩, fun i o e s hi ht ho hl => ?_⟩
  obtain ⟨hbad, -⟩ := checksAnswerInOrder i o e s hi ht
  refine ⟨_, hbad (hl.imp_right .inl), ?_⟩
  rw [placeBadLength_mbx (by simpa using ho)]
  exact ⟨rfl, rfl, takeCmd_resp ..⟩

/-! ### An empty queue (log entry 69) -/

theorem step_latched {s t : State} {c : Instr} (hq : s.pending = []) (h : takeLatched s = some (c, t)) : step s = exec c t := by
  rw [step, hq]
  dsimp only
  rw [h]

theorem step_ticks {s : State} (hq : s.pending = []) (h : takeLatched s = none) : step s = .next (tick s) := by
  rw [step, hq]
  dsimp only
  rw [h]

/-- Settles O37: each branch of a step on an empty queue, and of the AON clock with the supply on and off. -/
theorem idleDeviceGoesOn : Obligations.IdleDeviceGoesOn := by
  refine ⟨fun _ _ _ => step_latched, fun _ => step_ticks, fun s hon => ?_, fun _ hoff => if_pos hoff⟩
  rw [clockTick, if_neg hon]
  rfl

/-! ### The device right after reset (R74, R629, R630) -/

/-- What holds of the default and of every cell holds of every unit. -/
theorem Tab.get_of_forall {α : Type} {P : α → Prop} {t : Tab α} (hd : P t.dflt) (hc : ∀ c ∈ t.cells, P c.2) (k : Nat) : P (t.get k) := by
  obtain ⟨d, l⟩ := t
  induction l with
  | nil => exact hd
  | cons c rest ih =>
    obtain ⟨hhead, hrest⟩ := List.forall_mem_cons.mp hc
    unfold Tab.get lookupKey
    dsimp only
    split
    · exact hhead
    · exact ih hd hrest

theorem shipmentPorts_down (n : Nat) : (State.shipmentPorts.get n).linkUp = false :=
  Tab.get_of_forall (P := fun p : Port => p.linkUp = false) rfl (fun c hc => by
    obtain ⟨p, -, rfl⟩ := List.mem_map.mp hc
    rfl) n

/-- Settles O52: the fields as they stand at reset, and of the ports and partitions every unit. -/
theorem resetValues : Obligations.ResetValues :=
  ⟨rfl, rfl, rfl, rfl, rfl, rfl, rfl, rfl, rfl, rfl, rfl, rfl, rfl, rfl, shipmentPorts_down, fun _ => rfl⟩

/-! ### Step ring, window, digest, selection and step commands (§3.7, chapters 6 and 9) -/

/-- A served command whose own checks read no claim passes them and has its effect in the state in which it is served. -/
theorem mailbox_effect_objs {o : OpInfo} {e : Env} {objs : List ClaimObj} {self : Instr} {check : State → Option Reply}
    {effect : State → State × Reply} {s u : State} (h : Serves o e objs s u)
    (hclaims : ∀ t, check (endClaims e.seat objs t) = check t) (hc : check u = none) :
    mailbox o e self objs check effect s = .next (answer e (effect u).2 (effect u).1) := by
  obtain ⟨hserved, rfl⟩ := h
  rw [mailbox_serves ⟨hserved, rfl⟩ (hclaims _).symm, hc]

theorem createStepRingCheck_endClaims (e : Env) (b : RingBody) (seat : Nat) (objs : List ClaimObj) (s : State) :
    createStepRingCheck e b (endClaims seat objs s) = createStepRingCheck e b s := by
  unfold createStepRingCheck
  rfl

section
variable {part handle sel sink recent ring seat : Nat} {on : Bool} {s : State}

theorem destroyRing_idle (h : (s.parts.get (ringOf s seat ring).part).step.cond = .idle) :
    destroyRing seat ring s = (freeRing seat ring s, {}) :=
  if_pos h

theorem destroyRing_staged (h : (s.parts.get (ringOf s seat ring).part).step.cond ≠ .idle) :
    destroyRing seat ring s = (updRing seat ring (fun r => { r with destroying := true }) s, stagedNow s (ringOf s seat ring).part) :=
  if_neg h

theorem setDigests_staged (h : stepOpen s part = true) :
    setDigests part on s =
      (updPart part (fun p => { p with staged := { p.staged with digests := some on } }) s, stagedNow s part) :=
  if_pos h

theorem setDigests_now (h : stepOpen s part = false) : setDigests part on s = (applyDigests part on s, {}) :=
  if_neg (by simp [h])

theorem setSelection_staged (h : stepOpen s (rtOf s handle).part = true) (ha : (rtOf s handle).state = .active) :
    setSelection handle sel sink recent s =
      (updPart (rtOf s handle).part (fun p => { p with staged := { p.staged with
        select := p.staged.select.filter (fun x => x.1 != handle) ++ [(handle, sel, sink, recent)] } }) s,
        stagedNow s (rtOf s handle).part) :=
  if_pos (by simp [h, ha])

theorem setSelection_now (h : stepOpen s (rtOf s handle).part = false) :
    setSelection handle sel sink recent s = (applySelect handle sel sink recent s, {}) :=
  if_neg (by simp [h])

end

section
variable {e : Env} {ring seat : Nat} {s u : State}

/-- DESTROY_STEP_RING of a live ring set that the seat may name has its effect (R101). -/
theorem destroyStepRing_served (h : Serves Op.destroyStepRing e [] s u) (hr : ring ≤ 3) (hs : seat ≤ 63)
    (hown : e.seat = 0 ∨ seat = e.seat) (hlive : (ringOf u seat ring).live = true) :
    exec (.destroyStepRing e ring seat) s = .next (answer e (destroyRing seat ring u).2 (destroyRing seat ring u).1) := by
  refine mailbox_effect h ?_
  have hrange : ¬ (decide (3 < ring) || decide (63 < seat)) = true := by
    simp only [Bool.or_eq_true, decide_eq_true_eq]
    omega
  rw [if_neg hrange, if_neg (by rcases hown with h | h <;> simp [h]), if_pos hlive]

/-- RELEASE_WINDOW of a window that the seat may name and nothing uses removes it (R260). -/
theorem releaseWindow_served {window : Nat} (h : Serves Op.releaseWindow e [] s u) (hseat : window / 65536 < 64)
    (hw : (windowOf u (window / 65536) window).isNone = false) (hown : e.seat = 0 ∨ window / 65536 = e.seat)
    (huse : windowInUse u (window / 65536) window = false) :
    exec (.releaseWindow e window) s = .next (answer e {}
      (updSeat (window / 65536) (fun t => { t with windows := t.windows.filter fun w => w.id != window }) u)) := by
  refine mailbox_effect h ?_
  have hother : (e.seat != 0 && window / 65536 != e.seat) = false := by rcases hown with h0 | h0 <;> simp [h0]
  rw [hother, hw, decide_eq_false (Nat.not_le.mpr hseat), huse]
  rfl

/-- SET_DIGESTS that passes its checks has its effect (R276). -/
theorem setDigests_served {part : Nat} {on : Bool} (h : Serves Op.setDigests e [] s u) (hc : setDigestsCheck part on u = none) :
    exec (.setDigests e part on) s = .next (answer e (setDigests part on u).2 (setDigests part on u).1) :=
  mailbox_effect h hc

/-- SET_SELECTION of a request of a partition with digests, within the bound on SELECT, has its effect (R279). -/
theorem setSelection_served {handle sel sink recent : Nat} (h : Serves Op.setSelection e [] s u)
    (hh : handleCheck u e.seat handle = none) (hd : (u.parts.get (rtOf u handle).part).digests = true)
    (hsel : sel = 0 ∨ sink + recent + 1 ≤ sel) :
    exec (.setSelection e handle sel sink recent) s =
      .next (answer e (setSelection handle sel sink recent u).2 (setSelection handle sel sink recent u).1) := by
  refine mailbox_effect h ?_
  unfold onHandle
  rw [hh]
  dsimp only
  rw [if_neg (by grind)]

end

/-- Settles O5: each command, once served, passes its own checks and has its effect, at once or staged for the open step. -/
theorem ringWindowAndStepCommandsAnswer : Obligations.RingWindowAndStepCommandsAnswer := by
  refine ⟨fun e b s h hc => ?_, fun e ring seat s h hr hs hown hlive hidle => ?_, fun e ring seat s h hr hs hown hlive hbusy => ?_,
    fun e part s h hc hopen => ?_, fun e part s h hp hstate => ?_, fun e kind mask base length s h hbad hroom => ?_,
    fun e window s h hseat hw hown huse => ?_, fun e part on s h hc hopen => ?_, fun e part on s h hc hidle => ?_,
    fun e handle sel sink recent s h hh hd hsel hidle => ?_, fun e handle sel sink recent s h hh hd hsel hopen ha => ?_⟩
  · exact mailbox_effect_objs ⟨h, rfl⟩ (createStepRingCheck_endClaims e b e.seat _) hc
  · rw [destroyStepRing_served ⟨h, rfl⟩ hr hs hown hlive, destroyRing_idle hidle]
    rfl
  · rw [destroyStepRing_served ⟨h, rfl⟩ hr hs hown hlive, destroyRing_staged hbusy]
    rfl
  · refine (mailbox_effect ⟨h, rfl⟩ hc).trans ?_
    rw [closeStepNow, if_neg hopen]
  · exact mailbox_effect ⟨h, rfl⟩ (by rw [if_neg (by omega), if_neg hstate])
  · exact mailbox_effect ⟨h, rfl⟩ (by rw [if_neg (by simp [hbad]), if_neg (Nat.not_le.mpr hroom)])
  · exact releaseWindow_served ⟨h, rfl⟩ hseat hw hown huse
  · rw [setDigests_served ⟨h, rfl⟩ hc, setDigests_staged hopen]
  · rw [setDigests_served ⟨h, rfl⟩ hc, setDigests_now hidle]
    rfl
  · rw [setSelection_served ⟨h, rfl⟩ hh hd hsel, setSelection_now hidle]
  · rw [setSelection_served ⟨h, rfl⟩ hh hd hsel, setSelection_staged hopen ha]

/-! ### Ring and logit window stores, and the record at the head of a ring (§3.7, chapters 6, 9 and 10) -/

/-- The guard of an access that names a seat and a ring the device has. -/
theorem seatRing_guard {seat ring : Nat} (hs : seat < 64) (hr : ring < 4) : ¬ (decide (64 ≤ seat) || decide (4 ≤ ring)) = true := by
  simp only [Bool.or_eq_true, decide_eq_true_eq]
  omega

section
variable {seat ring : Nat} {b : List Byte} {s : State} (hs : seat < 64) (hr : ring < 4)
include hs hr

/-- A store into a slot of a live ring that is reached lands (R99). -/
theorem execRingStore_lands {slot : Nat} (full : Bool) (data : List Byte) (hreach : seatReached s seat = true)
    (hlive : (ringOf s seat ring).live = true) (hslot : slot < 2 ^ (ringOf s seat ring).sqLog2) :
    execRingStore seat ring slot full data s = .next (ringStore seat ring slot full data s) := by
  rw [execRingStore, if_neg (seatRing_guard hs hr)]
  exact if_neg (by simpa [hreach, hlive] using hslot)

theorem execNop_consumes (h : nextRecord s seat ring = some b) (hk : recKind b = 0) :
    execNop seat ring s = .next (consume seat ring 0 s) := by
  rw [execNop, if_neg (seatRing_guard hs hr), h]
  exact if_pos hk

/-- A record of ATTEND, APPEND or DELIVER that passes the checks of R184 is consumed and has its effect. -/
theorem stepRecord_acts {kind : Nat} (effect : List Byte → State → State) (h : nextOfKind s seat ring (· == kind) = some b)
    (hc : recordCheck s seat ring kind b = none) :
    stepRecord kind seat ring effect s = .next (effect b (consume seat ring 1 s)) := by
  rw [stepRecord, if_neg (seatRing_guard hs hr), h]
  dsimp only
  rw [hc]

/-- A STEP_OPEN is consumed, and held while its partition may not open (R171). -/
theorem execStepOpen_consumes (h : nextOfKind s seat ring (· == 1) = some b) {u : State} (hu : wakeTiles (consume seat ring 1 s) = u) :
    execStepOpen seat ring s = .next (if holdsOpen u (ringOf s seat ring).part then
        { u with held := u.held ++
          [{ seat := seat, ring := ring, part := (ringOf s seat ring).part, tArrive := s.dev.devtime, record := b }] }
      else openStep seat ring s.dev.devtime b u) := by
  subst hu
  rw [execStepOpen, if_neg (seatRing_guard hs hr), h]

/-- A STEP_CLOSE that passes its checks is consumed and closes its partition's step (R192). -/
theorem execStepClose_closes (h : nextOfKind s seat ring (· == 5) = some b) (hc : closeCheck s seat ring b = none) :
    execStepClose seat ring s = .next (closeStep (ringOf s seat ring).part true (consume seat ring 1 s)) := by
  rw [execStepClose, if_neg (seatRing_guard hs hr), h]
  dsimp only
  rw [hc]

end

/-- Settles O19: each store past its guard, and each record past the check of its kind. -/
theorem ringStoresAndStepRecordsAct : Obligations.RingStoresAndStepRecordsAct := by
  refine ⟨fun seat ring slot full data s hs hr hreach hlive hslot => execRingStore_lands hs hr full data hreach hlive hslot,
    fun seat ring b s hs hr h hk => execNop_consumes hs hr h hk, fun seat ring b s hs hr h => ?_, fun seat ring b s hs hr h => ?_,
    fun seat ring b s hs hr h hc => stepRecord_acts hs hr _ h hc, fun seat ring b s hs hr h hc => stepRecord_acts hs hr _ h hc,
    fun seat ring b s hs hr h hc => stepRecord_acts hs hr _ h hc, fun seat ring b s hs hr h hc => execStepClose_closes hs hr h hc,
    fun seat addr full data h s hs ho hreach => ?_⟩
  · show execUndefinedKind seat ring s = _
    rw [execUndefinedKind, if_neg (seatRing_guard hs hr), h]
  · have consumed := execStepOpen_consumes hs hr h rfl
    exact ⟨fun hheld => consumed.trans (by rw [if_pos hheld]), fun hopens => consumed.trans (by rw [if_neg (by simp [hopens])])⟩
  · show execLogitHeaderStore seat addr full data s = _
    rw [execLogitHeaderStore, if_neg (Nat.not_le.mpr hs), ho]
    exact if_neg (by simp [hreach])

end Sys2Proof.Machine

namespace Sys2Proof.Machine

/-! ### Partition commands (chapter 4) -/

/-- LOAD_PARTITION of a valid body into an EMPTY number, with a MODEL_ID not taken, passes its checks (R111). -/
theorem loadCheck_none {b : LoadBody} {u : State} (hv : b.valid = true) (hempty : (u.parts.get b.part).state = .empty)
    (hfree : modelTaken u b.modelId = false) : loadCheck b u = none := by
  simp [loadCheck, hv, hempty, hfree]

theorem partBody_loaded {u : State} {part : Nat} (h : (u.parts.get part).state ≠ .empty) :
    partBody u part = .fields ((1, (u.parts.get part).state.code) ::
      (loadFields (u.parts.get part).body ++ sizeFields (u.parts.get part).body) ++
        [(4, u.acct.partFrames.get part), (4, (u.parts.get part).stepNo), (4, (partRequests u part).length)]) :=
  if_neg h

theorem bindCheck_none {e : Env} {part offset : Nat} {u : State} (hp : part ≤ 15) (hstate : (u.parts.get part).state ≠ .empty)
    (hmode : (u.parts.get part).body.mode ≠ 1) (hal : offset % 2 ^ 30 = 0)
    (hroom : offset + kvSpace (u.parts.get part).body ≤ seatHdmH u e.seat)
    (hclear : ((hdmTaken u e.seat).any fun x => overlaps offset (kvSpace (u.parts.get part).body) x.1 x.2) = false)
    (hnone : ((u.seats.get e.seat).kvWindows.any fun w => w.1 = part) = false) : bindCheck e part offset u = none := by
  unfold bindCheck
  dsimp only
  rw [if_neg (Nat.not_lt.mpr hp), if_neg hstate, if_neg (by rw [hal]; simp [hmode]), if_neg (Nat.not_lt.mpr hroom), hclear, hnone]
  rfl

theorem deleteImageCheck_none {modelId : Nat} {i : Image} {u : State} (hi : imageOf u modelId = some i) (halone : i.owner = none) :
    deleteImageCheck modelId u = none := by
  rw [deleteImageCheck, hi]
  simp [halone]

theorem swapOutCheck_endClaims (part : Nat) (release : Bool) (seat : Nat) (objs : List ClaimObj) (s : State) :
    swapOutCheck part release (endClaims seat objs s) = swapOutCheck part release s := by
  unfold swapOutCheck
  rfl

theorem swapInCheck_endClaims (modelId part seat : Nat) (objs : List ClaimObj) (s : State) :
    swapInCheck modelId part (endClaims seat objs s) = swapInCheck modelId part s := by
  unfold swapInCheck
  rfl

theorem unloadCheck_endClaims (part : Nat) (force : Bool) (seat : Nat) (objs : List ClaimObj) (s : State) :
    unloadCheck part force (endClaims seat objs s) = unloadCheck part force s := by
  unfold unloadCheck
  rfl

/-! #### Swapping out (R126) -/

/-- A DRAINING partition goes on to SWAPPING_OUT at once, or stays as it is (R126). -/
theorem tryStartSwapOut_cases (part : Nat) (s : State) :
    tryStartSwapOut part s = s ∨
      tryStartSwapOut part s = updPart part (fun p => { p with state := .swappingOut })
        { s with swap := s.swap.map fun w => { w with began := s.dev.devtime, bytes := swapOutBytes s part } } := by
  unfold tryStartSwapOut
  dsimp only
  split
  · exact .inr rfl
  · exact .inl rfl

section
variable (part : Nat) (s : State)

@[simp] theorem tryStartSwapOut_ops : (tryStartSwapOut part s).ops = s.ops :=
  (tryStartSwapOut_cases part s).elim (congrArg State.ops) (congrArg State.ops)

@[simp] theorem tryStartSwapOut_regions : (tryStartSwapOut part s).regions = s.regions :=
  (tryStartSwapOut_cases part s).elim (congrArg State.regions) (congrArg State.regions)

@[simp] theorem tryStartSwapOut_rt : (tryStartSwapOut part s).rt = s.rt :=
  (tryStartSwapOut_cases part s).elim (congrArg State.rt) (congrArg State.rt)

@[simp] theorem tryStartSwapOut_acct : (tryStartSwapOut part s).acct = s.acct :=
  (tryStartSwapOut_cases part s).elim (congrArg State.acct) (congrArg State.acct)

theorem tryStartSwapOut_part_ne {p : Nat} (hp : p ≠ part) : (tryStartSwapOut part s).parts.get p = s.parts.get p := by
  rcases tryStartSwapOut_cases part s with h | h <;> rw [h]
  exact Tab.get_upd_ne _ hp _

end

/-- What a swap out writes rests on the frames, the Request Table and the nodes alone (R126, R132). -/
theorem swapOutBytes_congr {s t : State} (hframes : t.frames = s.frames) (hrt : t.rt = s.rt) (hnodes : t.nodes = s.nodes)
    (part : Nat) : swapOutBytes t part = swapOutBytes s part := by
  have hmine : frameOfPart t part = frameOfPart s part := by
    funext k
    cases k <;> simp only [frameOfPart, hrt]
  simp only [swapOutBytes, imageBytes, partNodes, hmine, hframes, hrt, hnodes]

/-- The partition DRAINING, its operation started and its swap out begun: what SWAP_OUT_PARTITION gives before the partition may go on. -/
def beginDraining (e : Env) (part : Nat) (release : Bool) (u : State) : State :=
  updPart part (fun p => { p with state := .draining })
    { (startLong e (.swapOut part) u).1 with swap := some { out := true, part := part, release := release, op := u.opCtr } }

section
variable (e : Env) (part : Nat) (release : Bool) (u : State)

theorem swapOutStart_eq :
    swapOutStart e part release u = (tryStartSwapOut part (beginDraining e part release u), (startLong e (.swapOut part) u).2) := rfl

theorem swapOutBytes_beginDraining : swapOutBytes (beginDraining e part release u) part = swapOutBytes u part :=
  swapOutBytes_congr (startLong_frames ..) (startLong_rt ..) (startLong_nodes ..) part

/-- The swap is the partition's, and its bytes are counted once its data moves (R129, R130). -/
theorem swapOutStart_swap :
    (swapOutStart e part release u).1.swap = some { out := true, part := part, release := release, op := u.opCtr } ∨
      (swapOutStart e part release u).1.swap =
        some { out := true, part := part, release := release, op := u.opCtr, began := u.dev.devtime, bytes := swapOutBytes u part } := by
  rw [swapOutStart_eq]
  rcases tryStartSwapOut_cases part (beginDraining e part release u) with h | h <;> rw [h]
  · exact .inl rfl
  · rw [swapOutBytes_beginDraining]
    exact .inr (by simp [beginDraining])

theorem swapOutStart_state :
    ((swapOutStart e part release u).1.parts.get part).state = .draining ∨
      ((swapOutStart e part release u).1.parts.get part).state = .swappingOut := by
  rw [swapOutStart_eq]
  rcases tryStartSwapOut_cases part (beginDraining e part release u) with h | h <;> rw [h]
  · exact .inl (by simp [beginDraining, updPart])
  · exact .inr (by simp [updPart])

theorem swapOutStart_ops : (swapOutStart e part release u).1.ops = u.ops ++ [newOp e (.swapOut part) u] :=
  (tryStartSwapOut_ops ..).trans (startLong_ops ..)

theorem swapOutStart_part_ne {p : Nat} (hp : p ≠ part) : (swapOutStart e part release u).1.parts.get p = u.parts.get p := by
  rw [swapOutStart_eq, tryStartSwapOut_part_ne _ _ hp]
  simp [beginDraining, updPart, hp]

theorem swapOutStart_regions : (swapOutStart e part release u).1.regions = u.regions :=
  (tryStartSwapOut_regions ..).trans (startLong_regions ..)

theorem swapOutStart_rt : (swapOutStart e part release u).1.rt = u.rt := (tryStartSwapOut_rt ..).trans (startLong_rt ..)

theorem swapOutStart_acct : (swapOutStart e part release u).1.acct = u.acct := (tryStartSwapOut_acct ..).trans (startLong_acct ..)

end

/-! #### Swapping in (R128) -/

@[simp] theorem placeImage_images (i : Image) (part : Nat) (s : State) : (placeImage i part s).images = s.images := by
  unfold placeImage
  split <;> rfl

@[simp] theorem placeImage_dev (i : Image) (part : Nat) (s : State) : (placeImage i part s).dev = s.dev := by
  unfold placeImage
  split <;> rfl

/-- SWAP_IN_PARTITION's effect on the swap, the partition's state and the images (R128). -/
theorem swapInStart_effect (e : Env) {modelId part : Nat} {i : Image} {u : State} (hi : imageOf u modelId = some i) :
    (swapInStart e modelId part u).1.swap =
        some { out := false, part := part, release := false, op := u.opCtr, began := u.dev.devtime
               bytes := 32768 * swapInFrames i part u + i.metaBytes } ∧
      ((swapInStart e modelId part u).1.parts.get part).state = .swappingIn ∧
      (swapInStart e modelId part u).1.images =
        updFirst (fun x => x.modelId = modelId) (fun x => { x with owner := some part, homeUnits := 0 }) u.images := by
  unfold swapInStart
  rw [hi]
  cases ho : i.owner.isSome with
  | true => simp [ho, updPart, takePartFrames]
  | false => simp [ho, updPart, homesFromImage, renameHomes]

/-! #### Unloading (R131) -/

theorem startLong_stepOpen (e : Env) (k : OpKind) (s : State) (part : Nat) : stepOpen (startLong e k s).1 part = stepOpen s part := by
  simp [stepOpen]

/-- With a step open the unload is staged: its operation waits for the boundary (R131). -/
theorem unloadStart_staged (e : Env) {part : Nat} {u : State} (h : stepOpen u part = true) :
    (unloadStart e part u).1 =
      updPart part (fun p => { p with staged := { p.staged with unload := some u.opCtr } }) (startLong e (.unload part) u).1 := by
  unfold unloadStart
  dsimp only
  rw [if_pos ((startLong_stepOpen ..).trans h)]

/-- Without one the partition is removed at once, and the operation ends (R131). -/
theorem unloadStart_now (e : Env) {part : Nat} {u : State} (h : stepOpen u part = false) :
    unloadStart e part u =
      (finishOp u.opCtr .ok (emptyPart part (unloadNow part [] (startLong e (.unload part) u).1)), (startLong e (.unload part) u).2) := by
  unfold unloadStart
  dsimp only
  rw [if_neg (by simp [startLong_stepOpen, h])]

theorem unloadPartition_served {e : Env} {part : Nat} {force : Bool} {s u : State}
    (h : Serves Op.unloadPartition e [.swap, .partition part] s u) (hc : unloadCheck part force u = none) :
    exec (.unloadPartition e part force) s = .next (answer e (unloadStart e part u).2 (unloadStart e part u).1) :=
  mailbox_effect_objs h (unloadCheck_endClaims part force e.seat _) hc

/-! #### Deleting an image (R132) -/

/-- A home of an image: of its metadata, or of a frame it names standing alone. -/
def homeOfImage (modelId : Nat) : UnitKey → Bool
  | .image m _ => m = modelId
  | .imageKv m _ _ => m = modelId
  | _ => false

/-- DELETE_IMAGE of an image that is there frees its homes, drops it and its charge (R132). -/
theorem deleteImage_some {modelId : Nat} {i : Image} {u v : State} (hi : imageOf u modelId = some i)
    (hv : freeHomes (homeOfImage modelId) u = v) :
    deleteImage modelId u =
      { v with images := v.images.filter (fun x => x.modelId != modelId), acct := { v.acct with homes := v.acct.homes - i.homeUnits } } := by
  subst hv
  unfold deleteImage
  rw [hi]
  rfl

/-- Settles O2: each command, once served, passes its own checks and has the effect of its start. -/
theorem partitionCommandsAnswer : Obligations.PartitionCommandsAnswer := by
  refine ⟨fun e b s h hv hempty hfree => ?_, fun e part s h hp hstate => ?_, fun e part release s h hc => ?_,
    fun e modelId part i s h hc hi => ?_, fun e part force s h hc hopen => ?_, fun e part force s h hc hidle => ?_,
    fun e part offset s h hp hstate hmode hal hroom hclear hnone => ?_, fun e part seat s h hp hs hw => ?_, fun e start s h => ?_,
    fun e modelId i s h hi halone => ?_⟩
  · exact mailbox_effect ⟨h, rfl⟩ (loadCheck_none hv hempty hfree)
  · refine (mailbox_effect ⟨h, rfl⟩ (if_neg (Nat.not_lt.mpr hp))).trans ?_
    rw [partBody_loaded hstate]
  · refine ⟨_, mailbox_effect_objs ⟨h, rfl⟩ (swapOutCheck_endClaims part release e.seat _) hc, ?_⟩
    simp only [answer_swap, answer_ops, answer_parts, answer_regions, answer_rt, answer_acct]
    exact ⟨swapOutStart_swap .., swapOutStart_ops .., swapOutStart_state .., fun _ hp => swapOutStart_part_ne _ _ _ _ hp,
      swapOutStart_regions .., swapOutStart_rt .., swapOutStart_acct ..⟩
  · refine ⟨_, mailbox_effect_objs ⟨h, rfl⟩ (swapInCheck_endClaims modelId part e.seat _) hc, ?_⟩
    simp only [answer_swap, answer_parts, answer_images]
    exact swapInStart_effect e hi
  · refine ⟨_, unloadPartition_served ⟨h, rfl⟩ hc, ?_⟩
    simp [unloadStart_staged e hopen, updPart, startLong_ops]
  · rw [unloadPartition_served ⟨h, rfl⟩ hc, unloadStart_now e hidle]
  · exact mailbox_effect ⟨h, rfl⟩ (bindCheck_none hp hstate hmode hal hroom hclear hnone)
  · refine mailbox_effect ⟨h, rfl⟩ ?_
    rw [if_neg (by simp only [Bool.or_eq_true, decide_eq_true_eq]; omega), if_pos hw]
  · exact mailbox_effect ⟨h, rfl⟩ rfl
  · refine (mailbox_effect ⟨h, rfl⟩ (deleteImageCheck_none hi halone)).trans ?_
    rw [deleteImage_some hi rfl]
    rfl

end Sys2Proof.Machine

namespace Sys2Proof.Machine

/-! ### Tenant and limit commands (chapter 5) -/

/-- A budget within the ranges of Table 5-8 breaks none of its limits. -/
theorem badBudget_eq_false {tenant mode rate cap : Nat} (ht : tenant ≤ 4095) (hm : mode ≤ 1) (hr : rate < 2 ^ 32) (hc : cap < 2 ^ 32) :
    badBudget tenant mode rate cap = false := by
  simp only [badBudget, Bool.or_eq_false_iff, decide_eq_false_iff_not]
  omega

/-- GRANT_BUDGET adds to a METERED balance, up to CAP × 1,000 (R154). -/
theorem grantBudget_metered {tenant : Nat} {amount : Int} {u : State} (hm : (u.tenants.get tenant).unmetered = false) :
    grantBudget tenant amount u =
      ({ u with tenants := u.tenants.set tenant (Tenant.journal { u.tenants.get tenant with
          balance := min ((u.tenants.get tenant).balance + amount) ((u.tenants.get tenant).cap * 1000) }) }, {}) := by
  simp [grantBudget, hm]

/-- Settles O3: each command, once served, passes its own checks and has its effect. -/
theorem tenantAndLimitCommandsAnswer : Obligations.TenantAndLimitCommandsAnswer := by
  refine ⟨fun e tenant mode rate cap s h ht hm hr hc hnew => ?_, fun e tenant s h h0 ht hthere hlive => ?_,
    fun e tenant mode rate cap s h ht hm hr hc hthere => ?_, fun e tenant amount s h ht hthere hmetered => ?_,
    fun e tenant s h ht hthere => ?_, fun e seat maxEntries maxFrames s h hs he hf => ?_, fun e part cap s h hp hc => ?_,
    fun e s h => ?_⟩
  · exact mailbox_effect ⟨h, rfl⟩ ((if_neg (by simp [badBudget_eq_false ht hm hr hc])).trans (if_neg (Bool.eq_false_iff.mp hnew)))
  · refine mailbox_effect ⟨h, rfl⟩ ?_
    rw [if_neg (by simp [h0, Nat.not_lt.mpr ht]), hthere, hlive]
    rfl
  · exact mailbox_effect ⟨h, rfl⟩ ((if_neg (by simp [badBudget_eq_false ht hm hr hc])).trans (if_pos hthere))
  · refine (mailbox_effect ⟨h, rfl⟩ ((if_neg (Nat.not_lt.mpr ht)).trans (if_pos hthere))).trans ?_
    rw [grantBudget_metered hmetered]
  · exact mailbox_effect ⟨h, rfl⟩ ((if_neg (Nat.not_lt.mpr ht)).trans (if_pos hthere))
  · exact mailbox_effect ⟨h, rfl⟩ (if_neg (by simp only [Bool.or_eq_true, decide_eq_true_eq]; omega))
  · exact mailbox_effect ⟨h, rfl⟩ (if_neg (by simp only [Bool.or_eq_true, decide_eq_true_eq]; omega))
  · exact mailbox_effect ⟨h, rfl⟩ rfl

/-! ### Park, ticket, pull and tier commands (chapter 11) -/

/-! #### The checks read no claim (R92) -/

section
variable (e : Env) (seat : Nat) (objs : List ClaimObj) (s : State)

theorem parkCheck_endClaims (handle : Nat) (release : Bool) (ttl : Nat) :
    parkCheck e handle release ttl (endClaims seat objs s) = parkCheck e handle release ttl s := by
  unfold parkCheck
  rfl

theorem unparkCheck_endClaims (handle ticket : Nat) :
    unparkCheck e handle ticket (endClaims seat objs s) = unparkCheck e handle ticket s := by
  unfold unparkCheck
  rfl

theorem renewCheck_endClaims (handle ticket ttl : Nat) :
    renewCheck e handle ticket ttl (endClaims seat objs s) = renewCheck e handle ticket ttl s := by
  unfold renewCheck
  rfl

theorem pullCheck_endClaims (handle window offset first reaches layer0 layer1 : Nat) :
    pullCheck e handle window offset first reaches layer0 layer1 (endClaims seat objs s) =
      pullCheck e handle window offset first reaches layer0 layer1 s := by
  unfold pullCheck
  rfl

theorem parkRegionCheck_endClaims (base : Nat) : parkRegionCheck e base (endClaims seat objs s) = parkRegionCheck e base s := by
  unfold parkRegionCheck
  rfl

theorem unparkRegionCheck_endClaims (base : Nat) : unparkRegionCheck e base (endClaims seat objs s) = unparkRegionCheck e base s := by
  unfold unparkRegionCheck
  rfl

end

/-! #### Parking a conversation (R329) -/

theorem acceptLong_op (e : Env) (n : Nat) (s : State) : (acceptLong e n s).2.op = some n := by
  unfold acceptLong
  split <;> rfl

/-- A long-running command answers with the number of its operation (R86). -/
theorem startLong_op (e : Env) (k : OpKind) (s : State) : (startLong e k s).2.op = some s.opCtr := acceptLong_op ..

/-- What is staged to the next step of a partition is the same once an operation has started. -/
theorem startLong_stagedNow (e : Env) (k : OpKind) (s : State) (part : Nat) :
    stagedNow (startLong e k s).1 part = stagedNow s part := by
  simp [stagedNow]

section
variable {e : Env} {handle ttl : Nat} {release : Bool} {s u : State}

/-- A request that no open step keeps begins its park at once. -/
theorem parkStart_now (h : keptInStep s handle = false) :
    parkStart e handle release ttl s =
      (beginPark s.opCtr handle (startLong e (.park handle ttl release) s).1, (startLong e (.park handle ttl release) s).2) :=
  if_neg (by simp [h])

/-- The park of a request that an open step keeps is staged to the boundary. -/
theorem parkStart_staged (h : keptInStep s handle = true) :
    parkStart e handle release ttl s =
      (updPart (rtOf s handle).part (fun p => { p with staged := { p.staged with parks := p.staged.parks ++ [s.opCtr] } })
          (startLong e (.park handle ttl release) s).1,
        { (startLong e (.park handle ttl release) s).2 with
          staged := (stagedNow s (rtOf s handle).part).staged }) := by
  unfold parkStart
  dsimp only
  rw [if_pos h, startLong_stagedNow]

/-- PARK_CONVERSATION that passes its checks has its effect (R328). -/
theorem parkConversation_served
    (h : Serves Op.parkConversation e [.request handle, .partition (rtOf s handle).part] s u)
    (hc : parkCheck e handle release ttl u = none) :
    exec (.parkConversation e handle release ttl) s =
      .next (answer e (parkStart e handle release ttl u).2 (parkStart e handle release ttl u).1) :=
  mailbox_effect_objs h (fun t => parkCheck_endClaims e e.seat _ t handle release ttl) hc

end

/-! #### Unparking a conversation (R336) -/

/-- The unpark of a parked request charges the accounts 3 to 6 again, makes it UNPARKING in its new slots, and starts the operation. -/
theorem unparkStart_handle {e : Env} {handle : Nat} {k : Park} {s : State} (h0 : handle ≠ 0) (hk : unparkTarget s e.seat handle 0 = some k) :
    unparkStart e handle 0 s = startUnpark e handle 0 k (updRt handle (fun r => { r with
      state := .unparking, before := k.saved.state, slots := takeSlots s k.part (ownReaches k)
      reaches := rewriteReaches k.saved.reaches (takeSlots s k.part (ownReaches k)), frames := (unparkCharge s e.seat false k).frames })
        (chargeAcct (unparkCharge s e.seat false k) s)) := by
  unfold unparkStart
  rw [hk]
  simp [h0]

/-- Starting an unpark starts its operation, with the bytes that it has to move. -/
theorem startUnpark_eq (e : Env) (h ticket : Nat) (k : Park) (s : State) :
    startUnpark e h ticket k s =
      ({ (startLong e (.unpark h ticket) s).1 with
          ops := updFirst (fun o => o.n = s.opCtr) (fun o => { o with began := s.dev.devtime, bytes := unparkBytes s k })
            (startLong e (.unpark h ticket) s).1.ops }, (startLong e (.unpark h ticket) s).2) := by
  unfold startUnpark
  simp only [startLong_dev]

/-- UNPARK_CONVERSATION of a handle that passes its checks has its effect (R336). -/
theorem unparkConversation_served {e : Env} {handle : Nat} {s u : State}
    (h : Serves Op.unparkConversation e [.request handle, .partition (rtOf s handle).part] s u) (h0 : handle ≠ 0)
    (hc : unparkCheck e handle 0 u = none) :
    exec (.unparkConversation e handle 0) s = .next (answer e (unparkStart e handle 0 u).2 (unparkStart e handle 0 u).1) := by
  show execUnparkConversation e handle 0 s = _
  unfold execUnparkConversation
  rw [if_pos (bne_iff_ne.mpr h0)]
  exact mailbox_effect_objs h (fun t => unparkCheck_endClaims e e.seat _ t handle 0) hc

/-! #### Pulling KV (R339, R340) -/

/-- PULL_KV with a port of its window up issues its peer reads and starts its operation. -/
theorem pullStart_up {e : Env} {handle window offset first reaches layer0 layer1 : Nat} {w : Window} {s : State}
    (hw : windowOf s e.seat window = some w) (hup : (firstUp s w.mask).isNone = false) :
    pullStart e handle window offset first reaches layer0 layer1 s =
      startLong e (.pull handle)
        (peerReads w.mask (w.base + offset) (reaches * (layer1 + 1 - layer0) * (s.parts.get (rtOf s handle).part).body.slice)
          { s with pulls := s.pulls ++ [{ op := s.opCtr, handle := handle, seat := e.seat, window := window, offset := offset, first := first
                                          reaches := reaches, layer0 := layer0, layer1 := layer1 }] }) := by
  unfold pullStart
  rw [hw]
  dsimp only
  rw [hup]
  rfl

/-! #### Parking a region (R338) -/

theorem regionObj_of_base {s : State} {seat base : Nat} {r : Region} (h : regionBase s seat base = some r) :
    regionObj s seat base = [.region r.id] := by
  rw [regionObj, h]
  rfl

/-- A command is served in a state with the regions of the one before. -/
theorem Serves.regionBase_eq {o : OpInfo} {e : Env} {objs : List ClaimObj} {s u : State} (h : Serves o e objs s u) (seat base : Nat) :
    regionBase u seat base = regionBase s seat base := by
  obtain ⟨-, rfl⟩ := h
  rfl

/-- PARK_REGION of a base that passes its checks starts a park of the region there. -/
theorem parkRegion_served {e : Env} {base : Nat} {r : Region} {s u : State} (hr : regionBase s e.seat base = some r)
    (h : Serves Op.parkRegion e [.region r.id] s u) (hc : parkRegionCheck e base u = none) :
    exec (.parkRegion e base) s = started e (.parkRegion r.id) (updRegion r.id (fun r => { r with st := .parking }) u) := by
  show execParkRegion e base s = _
  rw [execParkRegion, regionObj_of_base hr, mailbox_effect_objs h (fun t => parkRegionCheck_endClaims e e.seat _ t base) hc]
  simp only [h.regionBase_eq, hr]
  rfl

/-- UNPARK_REGION of a base that passes its checks charges the region's frames and starts an unpark of the region there. -/
theorem unparkRegion_served {e : Env} {base : Nat} {r : Region} {s u : State} (hr : regionBase s e.seat base = some r)
    (h : Serves Op.unparkRegion e [.region r.id] s u) (hc : unparkRegionCheck e base u = none) :
    exec (.unparkRegion e base) s =
      started e (.unparkRegion r.id) (updRegion r.id (fun r => { r with st := .unparking }) (chargeAcct (framesCharge r) u)) := by
  show execUnparkRegion e base s = _
  rw [execUnparkRegion, regionObj_of_base hr, mailbox_effect_objs h (fun t => unparkRegionCheck_endClaims e e.seat _ t base) hc]
  simp only [h.regionBase_eq, hr]
  rfl

/-- Settles O7: each command, once served, passes its own checks and has its effect, at once or staged for the open step. -/
theorem parkTicketAndPullCommandsAnswer : Obligations.ParkTicketAndPullCommandsAnswer := by
  refine ⟨fun e handle release ttl s h hc hidle => ?_, fun e handle release ttl s h hc hkept => ?_, fun e handle k s h0 h hc hk => ?_,
    fun e handle ticket ttl s h hc => ?_, fun e ticket k s h hk => ?_, fun e ticket k s h hk hruns => ?_,
    fun e handle window offset first reaches layer0 layer1 w s h hc hw hup => ?_, fun e base r s h hr hc => ?_,
    fun e base r s h hr hc => ?_, fun e imageGb parkGb s h hc => ?_, fun e s h => ?_, fun e s h => ?_⟩
  · rw [parkConversation_served ⟨h, rfl⟩ hc, parkStart_now hidle]
  · have hexec := parkConversation_served ⟨h, rfl⟩ hc
    rw [parkStart_staged hkept] at hexec
    exact ⟨_, hexec, startLong_op .., rfl⟩
  · refine (unparkConversation_served ⟨h, rfl⟩ h0 hc).trans ?_
    rw [unparkStart_handle h0 hk, startUnpark_eq]
    rfl
  · exact mailbox_effect_objs ⟨h, rfl⟩ (fun t => renewCheck_endClaims e e.seat _ t handle ticket ttl) hc
  · refine (mailbox_effect ⟨h, rfl⟩ (by simp [hk])).trans ?_
    simp only [hk]
  · refine (mailbox_effect_objs ⟨h, rfl⟩ (fun _ => rfl) (by simp [hk, hruns])).trans ?_
    simp only [hk]
  · refine (mailbox_effect_objs ⟨h, rfl⟩ (fun t => pullCheck_endClaims e e.seat _ t ..) hc).trans ?_
    rw [pullStart_up hw hup]
    rfl
  · exact parkRegion_served hr ⟨h, rfl⟩ hc
  · exact unparkRegion_served hr ⟨h, rfl⟩ hc
  · exact mailbox_effect ⟨h, rfl⟩ hc
  · exact mailbox_effect ⟨h, rfl⟩ rfl
  · exact mailbox_effect ⟨h, rfl⟩ rfl

end Sys2Proof.Machine

namespace Sys2Proof.Machine

/-! ### A record of a step that fails its checks (R184, R185) -/

/-- A record of ATTEND, APPEND or DELIVER that the checks of R184 refuse is consumed, and completes with their status and without its
effect; the ring is MALFORMED where R185 logs the refusal. -/
theorem stepRecord_refuses {seat ring kind : Nat} {b : List Byte} {st : Status} {log : Bool} {s u : State} (hs : seat < 64)
    (hr : ring < 4) (effect : List Byte → State → State) (h : nextOfKind s seat ring (· == kind) = some b)
    (hc : recordCheck s seat ring kind b = some (st, log))
    (hu : (if log then malformed seat ring (recSeq b) (recSubject b) (consume seat ring 1 s) else consume seat ring 1 s) = u) :
    stepRecord kind seat ring effect s =
      .next (complete seat ring (compOf u seat ring kind st (fld b 12 2) (recSubject b) s.dev.devtime) u) := by
  subst hu
  rw [stepRecord, if_neg (seatRing_guard hs hr), h]
  dsimp only
  rw [hc]

/-- Settles O20: the three instructions share one refusal, whatever their effect. -/
theorem refusedStepRecordsComplete : Obligations.RefusedStepRecordsComplete := by
  intro seat ring k b st log s hs hr _ h hc
  refine ⟨?_, ?_, ?_⟩ <;> rintro rfl <;> exact stepRecord_refuses hs hr _ h hc rfl

end Sys2Proof.Machine

namespace Sys2Proof.Machine

/-! ### Prefix store commands (chapter 7) -/

/-! #### The checks read no claim (R92) -/

section
variable (e : Env) (seat : Nat) (objs : List ClaimObj) (s : State)

theorem prefixPart_endClaims (part : Nat) : prefixPart (endClaims seat objs s) part = prefixPart s part := by
  unfold prefixPart
  rfl

theorem deltaBusy_endClaims : deltaBusy (endClaims seat objs s) = deltaBusy s := by
  unfold deltaBusy
  rfl

theorem resolvePrefix_endClaims (part tenant pfx : Nat) :
    resolvePrefix (endClaims seat objs s) part tenant pfx = resolvePrefix s part tenant pfx := by
  unfold resolvePrefix
  rfl

theorem unpinTarget_endClaims (part tenant pfx : Nat) :
    unpinTarget (endClaims seat objs s) e.seat part tenant pfx = unpinTarget s e.seat part tenant pfx := by
  unfold unpinTarget
  rw [resolvePrefix_endClaims]
  rfl

theorem lookupCheck_endClaims (part tenant count tokens : Nat) :
    lookupCheck e part tenant count tokens (endClaims seat objs s) = lookupCheck e part tenant count tokens s := by
  unfold lookupCheck
  rw [deltaBusy_endClaims, prefixPart_endClaims]
  rfl

theorem insertCheck_endClaims (part count tokens handle : Nat) :
    insertCheck e part count tokens handle (endClaims seat objs s) = insertCheck e part count tokens handle s := by
  unfold insertCheck onHandle
  dsimp only
  rw [deltaBusy_endClaims, prefixPart_endClaims]
  rfl

theorem pinCheck_endClaims (part tenant pfx : Nat) :
    pinCheck part tenant pfx (endClaims seat objs s) = pinCheck part tenant pfx s := by
  unfold pinCheck
  rw [prefixPart_endClaims, resolvePrefix_endClaims]
  rfl

theorem prefixPolicyCheck_endClaims (part charge scope maxSlots mask : Nat) :
    prefixPolicyCheck part charge scope maxSlots mask (endClaims seat objs s) =
      prefixPolicyCheck part charge scope maxSlots mask s := by
  unfold prefixPolicyCheck
  rw [prefixPart_endClaims]
  rfl

end

/-! #### Looking up and inserting (R205, R208) -/

section
variable {e : Env} {s u : State}

/-- LOOKUP_PREFIX that passes its checks starts its operation (R205). -/
theorem lookupPrefix_served {part tenant count tokens : Nat} {pin : Bool} (h : Serves Op.lookupPrefix e [.delta, .partition part] s u)
    (hc : lookupCheck e part tenant count tokens u = none) :
    exec (.lookupPrefix e part pin tenant count tokens) s = started e (.lookup part tenant count tokens pin) u :=
  mailbox_effect_objs h (fun t => lookupCheck_endClaims e e.seat _ t part tenant count tokens) hc

/-- INSERT_PREFIX of a seat that INSERT_MASK includes is an ordinary command, and starts its operation once it passes its checks (R199,
R208). -/
theorem insertPrefix_served {part count tokens handle : Nat} {pin : Bool} (hmask : insertDenied s part e.seat = false)
    (h : Serves Op.insertPrefix e [.delta, .request handle, .partition part] s u)
    (hc : insertCheck e part count tokens handle u = none) :
    exec (.insertPrefix e part pin count tokens handle) s = started e (.insertPfx part handle count tokens pin) u := by
  show execInsertPrefix e part pin count tokens handle s = _
  rw [execInsertPrefix, hmask]
  exact mailbox_effect_objs h (fun t => insertCheck_endClaims e e.seat _ t part count tokens handle) hc

/-- PURGE_PREFIX of a resident partition starts its operation with fewer than sixteen Delta operations in progress (R198, R228). -/
theorem purgePrefix_served {part : Nat} (h : Serves Op.purgePrefix e [.delta, .partition part] s u) (hbusy : deltaBusy u = none)
    (hp : prefixPart u part = none) : exec (.purgePrefix e part) s = started e (.purge part) u := by
  refine mailbox_effect_objs h (fun t => ?_) ?_
  · rw [deltaBusy_endClaims, prefixPart_endClaims]
  · rw [hbusy, hp]

/-! #### Pinning and unpinning (R218) -/

/-- A handle that resolves, with room in the pin table, passes PIN_PREFIX's checks. -/
theorem pinCheck_none {part tenant pfx : Nat} {n : Node} (hp : prefixPart u part = none) (hn : resolvePrefix u part tenant pfx = some n)
    (hroom : u.pins.length < 262144) : pinCheck part tenant pfx u = none := by
  rw [pinCheck, hp]
  dsimp only
  rw [hn, if_neg (by simp), if_neg (Nat.not_le.mpr hroom)]

/-- With room in the pin table a pin is added, and a reference of its node with it. -/
theorem pinNode_room {i seat : Nat} (hroom : u.pins.length < 262144) :
    pinNode i seat u = (takeRef i { u with pins := u.pins ++ [(i, seat)] }, true) :=
  if_neg (Nat.not_le.mpr hroom)

/-- PIN_PREFIX of a handle that resolves adds the seat's pin (R218). -/
theorem pinPrefix_served {part tenant pfx : Nat} {n : Node} (h : Serves Op.pinPrefix e [.partition part] s u)
    (hp : prefixPart u part = none) (hn : resolvePrefix u part tenant pfx = some n) (hroom : u.pins.length < 262144) :
    exec (.pinPrefix e part tenant pfx) s =
      .next (answer e {} (takeRef n.idx { u with pins := u.pins ++ [(n.idx, e.seat)] })) := by
  refine (mailbox_effect_objs h (fun t => pinCheck_endClaims e.seat _ t part tenant pfx) (pinCheck_none hp hn hroom)).trans ?_
  simp only [hn, pinNode_room hroom]

/-- UNPIN_PREFIX of a handle with a pin for the seat to remove removes it, and its node's reference with it (R218; log entry 22). -/
theorem unpinPrefix_served {part tenant pfx : Nat} {p : Nat × Nat} (h : Serves Op.unpinPrefix e [.partition part] s u)
    (hp : prefixPart u part = none) (hpin : unpinTarget u e.seat part tenant pfx = some p) :
    exec (.unpinPrefix e part tenant pfx) s = .next (answer e {} (dropRef p.1 { u with pins := u.pins.erase p })) := by
  refine (mailbox_effect_objs h (fun t => ?_) (by simp [hp, hpin])).trans ?_
  · rw [prefixPart_endClaims, unpinTarget_endClaims]
  · simp only [hpin]

/-! #### Reading nodes and counts, and the policy (R199, R203, R204) -/

/-- QUERY_PREFIX of a handle that resolves answers the 64 bytes of its node (R203). -/
theorem queryPrefix_served {part tenant pfx : Nat} {n : Node} (h : Serves Op.queryPrefix e [.partition part] s u)
    (hp : prefixPart u part = none) (hn : resolvePrefix u part tenant pfx = some n) :
    exec (.queryPrefix e part tenant pfx) s = .next (answer e { body := .bytes (leBytes 64 (nodeWord u n)) } u) := by
  refine (mailbox_effect_objs h (fun t => ?_) (by simp [hp, hn])).trans ?_
  · rw [prefixPart_endClaims, resolvePrefix_endClaims]
  · simp only [hn]

end

/-- Settles O6: each command, once served, passes its own checks and has its effect; which pin UNPIN_PREFIX of seat 0 removes is log
entry 22. -/
theorem prefixCommandsAnswer : Obligations.PrefixCommandsAnswer := by
  refine ⟨fun e part pin tenant count tokens s h hc => ?_, fun e part pin count tokens handle s hmask h hc => ?_,
    fun e part tenant pfx n s h hp hn hroom => ?_, fun e part tenant pfx p s h hp hpin => ?_, fun e part tenant pfx n s h hp hn => ?_,
    fun e part charge scope maxSlots mask s h hc => ?_, fun e part s h hbusy hp => ?_, fun e part s h hp => ?_⟩
  · exact lookupPrefix_served ⟨h, rfl⟩ hc
  · exact insertPrefix_served hmask ⟨h, rfl⟩ hc
  · exact pinPrefix_served ⟨h, rfl⟩ hp hn hroom
  · exact unpinPrefix_served ⟨h, rfl⟩ hp hpin
  · exact queryPrefix_served ⟨h, rfl⟩ hp hn
  · exact mailbox_effect_objs ⟨h, rfl⟩ (fun t => prefixPolicyCheck_endClaims e.seat _ t part charge scope maxSlots mask) hc
  · exact purgePrefix_served ⟨h, rfl⟩ hbusy hp
  · exact mailbox_effect_objs ⟨h, rfl⟩ (fun t => prefixPart_endClaims e.seat _ t part) hp

end Sys2Proof.Machine

namespace Sys2Proof.Machine

/-! ### Striping over the pseudo-channels and damaged units (R262, R588) -/

/-- Some unit of every frame lies on each pseudo-channel. -/
theorem unitOnPc_lies {pc : Nat} (hpc : pc < 256) (k : FrameKey) :
    unitOnPc pc k < 256 ∧ (unitOnPc pc k + frameNo k) % 256 = pc := by
  unfold unitOnPc
  omega

/-- No other unit of the frame lies there. -/
theorem eq_unitOnPc {u pc : Nat} {k : FrameKey} (hu : u < 256) (h : (u + frameNo k) % 256 = pc) : u = unitOnPc pc k := by
  unfold unitOnPc
  omega

/-- A unit's own bit is set in a mask once the unit is added to it. -/
theorem getLsbD_or_unit {u : Nat} (hu : u < 256) (m : BitVec 256) : (m ||| 1#256 <<< u).getLsbD u = true := by
  simp [hu]

/-- With room in the damage table the unit is entered: in the frame's entry where it has one, in a new one otherwise (R588). -/
theorem damageUnit_damages {k : FrameKey} {u : Nat} {s : State} (hu : u < 256) (hroom : s.flt.damage.length < 65536) :
    ∃ t, damageUnit k u s = some t ∧ t.flt.damage.any (fun d => d.1 = k && d.2.getLsbD u) = true := by
  by_cases hk : s.flt.damage.any (fun d => d.1 = k) = true
  · refine ⟨_, if_pos hk, ?_⟩
    obtain ⟨d, hd, hdk⟩ := List.any_eq_true.mp hk
    refine List.any_eq_true.mpr ⟨(k, d.2 ||| 1#256 <<< u), List.mem_map.mpr ⟨d, hd, if_pos (of_decide_eq_true hdk)⟩, ?_⟩
    simp only [getLsbD_or_unit hu, decide_true, Bool.and_self]
  · refine ⟨_, (if_neg hk).trans (if_neg (Nat.not_le.mpr hroom)), ?_⟩
    refine List.any_eq_true.mpr ⟨(k, 1#256 <<< u), List.mem_append_right _ (List.mem_singleton_self _), ?_⟩
    simp [hu]

/-- Uncorrectable data where a frame lies damages the frame's unit on that pseudo-channel. -/
theorem damageAt_damages {injected : Bool} {pc location : Nat} {place : HbmPlace} {k : FrameKey} {s : State} (hpc : pc < 256)
    (hk : placeFrame s place = some k) (hroom : s.flt.damage.length < 65536) :
    (damageAt injected pc location place s).flt.damage.any (fun d => d.1 = k && d.2.getLsbD (unitOnPc pc k)) = true := by
  obtain ⟨t, ht, hdam⟩ := damageUnit_damages (k := k) (unitOnPc_lies hpc k).1 hroom
  have hplace : place ≠ .reserved := by
    rintro rfl
    cases hk
  rw [damageAt, if_neg hplace, hk]
  dsimp only
  rw [ht]
  exact hdam

/-- A row the device has lies on one of the 256 pseudo-channels. -/
theorem lt_of_hbmRowOk {pc bank row : Nat} (hrow : hbmRowOk pc bank row = true) : pc < 256 := by
  simp only [hbmRowOk, Bool.and_eq_true, decide_eq_true_eq] at hrow
  obtain ⟨⟨hpc, -⟩, -⟩ := hrow
  exact hpc

/-- An error in a row of a pseudo-channel that serves is an HBM error of that channel, named by its stack and its number there. -/
theorem exec_hbmError_serves {pc bank row : Nat} {s : State} (place : HbmPlace) (correctable : Bool)
    (hrow : hbmRowOk pc bank row = true) (hserves : pcServes s pc = true) :
    exec (.hbmError (pc / 32) (pc % 32) bank row place correctable) s = .next (hbmError false pc bank row place correctable s) := by
  have hsplit : pc / 32 * 32 + pc % 32 = pc := Nat.div_add_mod' pc 32
  have hstack : pc / 32 < 8 := Nat.div_lt_of_lt_mul (lt_of_hbmRowOk hrow)
  have hnum : pc % 32 < 32 := Nat.mod_lt _ (by decide)
  show execHbmError _ _ _ _ _ _ _ = _
  simp only [execHbmError, hsplit, hstack, hnum, hrow, hserves, decide_true, Bool.and_self, if_true]

/-- Settles O55: the residues modulo 256 give the unit of each channel, and the judged error's damage is that unit's. -/
theorem framesStripeOverEveryChannel : Obligations.FramesStripeOverEveryChannel := by
  refine ⟨fun pc k hpc => ?_, fun pc bank row place k s hrow hserves hk hroom => ?_⟩
  · obtain ⟨hlt, hlies⟩ := unitOnPc_lies hpc k
    exact ⟨hlt, hlies, fun u hu h => eq_unitOnPc hu h⟩
  · exact ⟨_, exec_hbmError_serves place false hrow hserves, damageAt_damages (lt_of_hbmRowOk hrow) hk hroom⟩

end Sys2Proof.Machine

namespace Sys2Proof.Machine

/-! ### Logit window and count commands (chapter 10) -/

/-! #### The checks every sampler command begins with (R285) -/

/-- A handle that passes the checks of R2 and R76 is current. -/
theorem handleCurrent_of_handleCheck {s : State} {seat h : Nat} (hh : handleCheck s seat h = none) : handleCurrent s h = true := by
  unfold handleCheck at hh
  split at hh
  · cases hh
  next hgen =>
    split at hh
    · cases hh
    next hseat =>
      simp only [Bool.not_eq_true', Bool.not_eq_false] at hgen
      simp only [Bool.or_eq_true, not_or, bne_iff_ne, ne_eq, Decidable.not_not] at hseat
      simp only [handleCurrent, hgen, hseat.left, decide_true, Bool.and_self]

/-- On an Eddy request that the seat may name only a sampler command's own checks are left (R285). -/
theorem onEddy_eddy {e : Env} {h : Nat} {own : State → Option Reply} {u : State} (hh : handleCheck u e.seat h = none)
    (heddy : (rtOf u h).eddy = true) : onEddy e h own u = own u := by
  unfold onEddy onHandle
  rw [hh]
  dsimp only
  rw [heddy, Bool.not_true, if_neg Bool.false_ne_true]

/-- The checks a sampler command begins with read no claim (R92). -/
theorem onEddy_endClaims {e : Env} {own : State → Option Reply} {seat : Nat} {objs : List ClaimObj} {t : State}
    (hown : own (endClaims seat objs t) = own t) (h : Nat) : onEddy e h own (endClaims seat objs t) = onEddy e h own t := by
  unfold onEddy onHandle
  dsimp only
  rw [hown]
  rfl

/-! #### Placing the logit window (R290) -/

section
variable {handle addr length : Nat} {s : State}

/-- The window of a request that no open step keeps is placed or removed at once. -/
theorem setLogit_now (h : (stepOpen s (rtOf s handle).part && (keptOf s (rtOf s handle).part handle).isSome) = false) :
    setLogit handle addr length s = (applyLogit handle (if addr = 0 then none else some (addr, length)) s, {}) :=
  if_neg (by simp [h])

/-- The window of a request that an open step keeps is staged to the boundary. -/
theorem setLogit_staged (hopen : stepOpen s (rtOf s handle).part = true)
    (hkept : (keptOf s (rtOf s handle).part handle).isSome = true) :
    setLogit handle addr length s =
      (updPart (rtOf s handle).part (fun p => { p with staged := { p.staged with
        logit := p.staged.logit.filter (fun x => x.1 != handle) ++ [(handle, if addr = 0 then none else some (addr, length))] } }) s,
        stagedNow s (rtOf s handle).part) :=
  if_pos (by rw [hopen, hkept, Bool.and_self])

end

/-! #### Clearing a count set (R289, R324) -/

@[simp] theorem giveUnit_rt (u : UnitKey) (s : State) : (giveUnit u s).rt = s.rt := by
  unfold giveUnit
  split <;> rfl

@[simp] theorem markDirty_rt (k : FrameKey) (s : State) : (markDirty k s).rt = s.rt := by
  unfold markDirty
  cases unitOfFrame s k with
  | none => dsimp only; split <;> rfl
  | some u => dsimp only; split <;> exact giveUnit_rt u.1 s

/-- Bytes put into a count set mark its frames, and leave the Request Table as it is. -/
theorem putNow_counts_rt (i off : Nat) (data : List Byte) (s : State) : (putNow (.counts i) off data s).rt = s.rt := by
  unfold putNow putFor
  split
  · rfl
  · exact foldl_keeps State.rt (fun t k => markDirty_rt k t) _ _

/-- What a handle's currency rests on is the Request Table. -/
theorem handleCurrent_congr {s t : State} (h : t.rt = s.rt) (handle : Nat) : handleCurrent t handle = handleCurrent s handle := by
  unfold handleCurrent handleGenOk rtOf
  rw [h]

theorem rtOf_updRt_self (h : Nat) (f : Rt → Rt) (s : State) : rtOf (updRt h f s) h = f (rtOf s h) := Tab.get_upd_self ..

/-- The write that CLEAR_COUNTS makes: a byte of each of the eight frames of the count set, and then the set emptied (R286, R289). -/
def clearWrite (h : Nat) : HeldWrite :=
  { stepWork := true, target := .counts (handleRti h), pieces := (List.range 8).map fun i => (32768 * i, [0]), tag := .clear h }

/-- A count set that the ceiling lets be written is emptied at once (R289). -/
theorem clearCounts_now {h : Nat} {s : State}
    (hfree : ((List.range 8).any fun i => heldAt s true (.counts (handleRti h)) (32768 * i) 1) = false) :
    clearCounts h s = makeWrite (clearWrite h) s := by
  have hpieces : ¬ ((clearWrite h).pieces.any fun x => heldAt s true (clearWrite h).target x.1 x.2.length) = true := by
    rw [clearWrite, List.any_map]
    exact Bool.eq_false_iff.mp hfree
  exact if_neg hpieces

/-- A write of a CLEAR_COUNTS, once its pieces are put, empties the count set of a request that is still current (R289, R324). -/
theorem makeWrite_clear {w : HeldWrite} {h : Nat} {s t : State} (htag : w.tag = .clear h)
    (ht : w.pieces.foldl (fun s x => putNow w.target x.1 x.2 s) s = t) :
    makeWrite w s = if handleCurrent t h then updRt h (fun e => { e with counts := [] }) t else t := by
  subst ht
  unfold makeWrite
  rw [htag]
  rfl

/-- Once it is made, a current request has no counts: its pieces leave the Request Table as it is (R289). -/
theorem makeWrite_clear_counts {w : HeldWrite} {h i : Nat} {s : State} (htag : w.tag = .clear h) (htarget : w.target = .counts i)
    (hcur : handleCurrent s h = true) : (rtOf (makeWrite w s) h).counts = [] := by
  have hrt : (w.pieces.foldl (fun s x => putNow w.target x.1 x.2 s) s).rt = s.rt :=
    foldl_keeps State.rt (fun t x => by rw [htarget, putNow_counts_rt]) _ s
  rw [makeWrite_clear htag rfl, if_pos ((handleCurrent_congr hrt h).trans hcur), rtOf_updRt_self]

/-! #### The commands, served -/

section
variable {e : Env} {handle : Nat} {s u : State}

/-- SET_LOGIT_WINDOW that passes its checks has its effect (R290). -/
theorem setLogitWindow_served {addr length : Nat} (h : Serves Op.setLogitWindow e [] s u)
    (hc : onEddy e handle (setLogitCheck handle addr length) u = none) :
    exec (.setLogitWindow e handle addr length) s =
      .next (answer e (setLogit handle addr length u).2 (setLogit handle addr length u).1) :=
  mailbox_effect h hc

/-- LOAD_COUNTS of an Eddy request whose count set may change, with its list placed, starts its operation (R289). -/
theorem loadCounts_served {count list : Nat} (h : Serves Op.loadCounts e [.request handle] s u)
    (hh : handleCheck u e.seat handle = none) (heddy : (rtOf u handle).eddy = true) (hpos : 0 < count) (hmax : count ≤ 65536)
    (hlist : placedOk u e.seat list (4 * count) 64 = true) (hbusy : countsBusy u handle = false) :
    exec (.loadCounts e handle count list) s = started e (.loadCounts handle count list) u := by
  refine mailbox_effect_objs h (fun t => onEddy_endClaims rfl handle) ?_
  have hrange : ¬ (decide (count = 0) || decide (65536 < count)) = true := by
    simp only [Bool.or_eq_true, decide_eq_true_eq]
    omega
  rw [onEddy_eddy hh heddy, if_neg (by simp [hrange, hlist]), if_neg (by simp [hbusy])]

/-- CLEAR_COUNTS of an Eddy request whose count set may change answers at once (R289). -/
theorem clearCounts_served (h : Serves Op.clearCounts e [.request handle] s u) (hh : handleCheck u e.seat handle = none)
    (heddy : (rtOf u handle).eddy = true) (hbusy : countsBusy u handle = false) :
    exec (.clearCounts e handle) s = .next (answer e {} (clearCounts handle u)) := by
  refine mailbox_effect_objs h (fun t => onEddy_endClaims rfl handle) ?_
  rw [onEddy_eddy hh heddy, if_neg (by simp [hbusy])]

/-- QUERY_COUNTS of buckets that an Eddy request's count set has returns them (R289). -/
theorem queryCounts_served {first count : Nat} (h : Serves Op.queryCounts e [] s u) (hh : handleCheck u e.seat handle = none)
    (heddy : (rtOf u handle).eddy = true) (hpos : 0 < count) (hmax : count ≤ 1023) (hend : first + count ≤ 4096) :
    exec (.queryCounts e handle first count) s = .next (answer e
      { body := .bytes ((List.range count).map fun i => bucketBytes (rtOf u handle).counts (first + i)).flatten } u) := by
  refine mailbox_effect h ?_
  rw [onEddy_eddy hh heddy, if_neg (by simp only [Bool.or_eq_true, decide_eq_true_eq]; omega)]

end

/-- Settles O8: each command, once served, passes its own checks and has its effect, at once or staged for the open step; that
CLEAR_COUNTS answers at once even where the ceiling holds its write, which then empties the set later, is log entry 99. -/
theorem logitWindowAndCountCommandsAnswer : Obligations.LogitWindowAndCountCommandsAnswer := by
  refine ⟨fun e handle addr length s h hc hidle => ?_, fun e handle addr length s h hc hopen hkept => ?_,
    fun e handle count list s h hh heddy hpos hmax hlist hbusy => ?_, fun e handle s h hh heddy hbusy => ⟨?_, fun hfree => ?_⟩,
    fun e handle first count s h hh heddy hpos hmax hend => ?_⟩
  · rw [setLogitWindow_served ⟨h, rfl⟩ hc, setLogit_now hidle]
  · rw [setLogitWindow_served ⟨h, rfl⟩ hc, setLogit_staged hopen hkept]
  · exact loadCounts_served ⟨h, rfl⟩ hh heddy hpos hmax hlist hbusy
  · exact clearCounts_served ⟨h, rfl⟩ hh heddy hbusy
  · rw [clearCounts_now hfree]
    exact makeWrite_clear_counts rfl rfl (handleCurrent_of_handleCheck hh)
  · exact queryCounts_served ⟨h, rfl⟩ hh heddy hpos hmax hend

end Sys2Proof.Machine

namespace Sys2Proof.Machine

/-! ### What every step keeps: the queue's rest and every retired unit (R69, R586, R625) -/

/-- Every meaning keeps the queue, the layout of the device-wide registers and what is retired. -/
theorem exec_inv {Q : Base} (i : Instr) (s : State) (h : Inv Q s) : OkNext Q (exec i s) := by
  cases i with
  | identifySeat => exact execIdentifySeat_inv (hInv := h) ..
  | negotiateVersion => exact execNegotiateVersion_inv (hInv := h) ..
  | setNoticeRing => exact execSetNoticeRing_inv (hInv := h) ..
  | getOperation => exact execGetOperation_inv (hInv := h) ..
  | setPortConfig => exact execSetPortConfig_inv (hInv := h) ..
  | mapSeat => exact execMapSeat_inv (hInv := h) ..
  | unsupportedOpcode => exact execUnsupportedOpcode_inv (hInv := h) ..
  | loadPartition => exact execLoadPartition_inv (hInv := h) ..
  | queryPartition => exact execQueryPartition_inv (hInv := h) ..
  | swapOutPartition => exact execSwapOutPartition_inv (hInv := h) ..
  | swapInPartition => exact execSwapInPartition_inv (hInv := h) ..
  | unloadPartition => exact execUnloadPartition_inv (hInv := h) ..
  | bindKvWindow => exact execBindKvWindow_inv (hInv := h) ..
  | unbindKvWindow => exact execUnbindKvWindow_inv (hInv := h) ..
  | listImages => exact execListImages_inv (hInv := h) ..
  | deleteImage => exact execDeleteImage_inv (hInv := h) ..
  | createTenant => exact execCreateTenant_inv (hInv := h) ..
  | deleteTenant => exact execDeleteTenant_inv (hInv := h) ..
  | setTenantBudget => exact execSetTenantBudget_inv (hInv := h) ..
  | grantBudget => exact execGrantBudget_inv (hInv := h) ..
  | queryTenant => exact execQueryTenant_inv (hInv := h) ..
  | setSeatQuota => exact execSetSeatQuota_inv (hInv := h) ..
  | setPartitionCap => exact execSetPartitionCap_inv (hInv := h) ..
  | queryCapacity => exact execQueryCapacity_inv (hInv := h) ..
  | admitRequest => exact execAdmitRequest_inv (hInv := h) ..
  | commitPrompt => exact execCommitPrompt_inv (hInv := h) ..
  | setRequest => exact execSetRequest_inv (hInv := h) ..
  | cancelRequest => exact execCancelRequest_inv (hInv := h) ..
  | queryRequest => exact execQueryRequest_inv (hInv := h) ..
  | listRequests => exact execListRequests_inv (hInv := h) ..
  | createStepRing => exact execCreateStepRing_inv (hInv := h) ..
  | destroyStepRing => exact execDestroyStepRing_inv (hInv := h) ..
  | closeStep => exact execCloseStep_inv (hInv := h) ..
  | queryStep => exact execQueryStep_inv (hInv := h) ..
  | registerWindow => exact execRegisterWindow_inv (hInv := h) ..
  | releaseWindow => exact execReleaseWindow_inv (hInv := h) ..
  | setDigests => exact execSetDigests_inv (hInv := h) ..
  | setSelection => exact execSetSelection_inv (hInv := h) ..
  | lookupPrefix => exact execLookupPrefix_inv (hInv := h) ..
  | insertPrefix => exact execInsertPrefix_inv (hInv := h) ..
  | pinPrefix => exact execPinPrefix_inv (hInv := h) ..
  | unpinPrefix => exact execUnpinPrefix_inv (hInv := h) ..
  | queryPrefix => exact execQueryPrefix_inv (hInv := h) ..
  | setPrefixPolicy => exact execSetPrefixPolicy_inv (hInv := h) ..
  | purgePrefix => exact execPurgePrefix_inv (hInv := h) ..
  | queryPrefixStore => exact execQueryPrefixStore_inv (hInv := h) ..
  | parkConversation => exact execParkConversation_inv (hInv := h) ..
  | unparkConversation => exact execUnparkConversation_inv (hInv := h) ..
  | renewPark => exact execRenewPark_inv (hInv := h) ..
  | queryTicket => exact execQueryTicket_inv (hInv := h) ..
  | discardTicket => exact execDiscardTicket_inv (hInv := h) ..
  | pullKv => exact execPullKv_inv (hInv := h) ..
  | parkRegion => exact execParkRegion_inv (hInv := h) ..
  | unparkRegion => exact execUnparkRegion_inv (hInv := h) ..
  | setTierConfig => exact execSetTierConfig_inv (hInv := h) ..
  | queryTiers => exact execQueryTiers_inv (hInv := h) ..
  | queryFlash => exact execQueryFlash_inv (hInv := h) ..
  | setLogitWindow => exact execSetLogitWindow_inv (hInv := h) ..
  | loadCounts => exact execLoadCounts_inv (hInv := h) ..
  | clearCounts => exact execClearCounts_inv (hInv := h) ..
  | queryCounts => exact execQueryCounts_inv (hInv := h) ..
  | allocateRegion => exact execAllocateRegion_inv (hInv := h) ..
  | freeRegion => exact execFreeRegion_inv (hInv := h) ..
  | queryRegion => exact execQueryRegion_inv (hInv := h) ..
  | grantRegion => exact execGrantRegion_inv (hInv := h) ..
  | attachRegion => exact execAttachRegion_inv (hInv := h) ..
  | detachRegion => exact execDetachRegion_inv (hInv := h) ..
  | setPoolLimits => exact execSetPoolLimits_inv (hInv := h) ..
  | queryPoolLimits => exact execQueryPoolLimits_inv (hInv := h) ..
  | queryKeySlots => exact execQueryKeySlots_inv (hInv := h) ..
  | poolOperation => exact execPoolOperation_inv (hInv := h) ..
  | joinPoolSet => exact execJoinPoolSet_inv (hInv := h) ..
  | leavePoolSet => exact execLeavePoolSet_inv (hInv := h) ..
  | queryPoolSet => exact execQueryPoolSet_inv (hInv := h) ..
  | rebuildMember => exact execRebuildMember_inv (hInv := h) ..
  | queryLine => exact execQueryLine_inv (hInv := h) ..
  | fenceSeat => exact execFenceSeat_inv (hInv := h) ..
  | unfenceSeat => exact execUnfenceSeat_inv (hInv := h) ..
  | queryCoherence => exact execQueryCoherence_inv (hInv := h) ..
  | openRun => exact execOpenRun_inv (hInv := h) ..
  | closeRun => exact execCloseRun_inv (hInv := h) ..
  | stashTransfer => exact execStashTransfer_inv (hInv := h) ..
  | setSchedule => exact execSetSchedule_inv (hInv := h) ..
  | queryStash => exact execQueryStash_inv (hInv := h) ..
  | setTelemetryRing => exact execSetTelemetryRing_inv (hInv := h) ..
  | queryPower => exact execQueryPower_inv (hInv := h) ..
  | queryOcRegions => exact execQueryOcRegions_inv (hInv := h) ..
  | setPowerConfig => exact execSetPowerConfig_inv (hInv := h) ..
  | queryHoldup => exact execQueryHoldup_inv (hInv := h) ..
  | testHoldup => exact execTestHoldup_inv (hInv := h) ..
  | setHoldupConfig => exact execSetHoldupConfig_inv (hInv := h) ..
  | readFaultRecords => exact execReadFaultRecords_inv (hInv := h) ..
  | clearFaultRecords => exact execClearFaultRecords_inv (hInv := h) ..
  | queryFaultState => exact execQueryFaultState_inv (hInv := h) ..
  | queryDump => exact execQueryDump_inv (hInv := h) ..
  | readDump => exact execReadDump_inv (hInv := h) ..
  | clearDump => exact execClearDump_inv (hInv := h) ..
  | injectFault => exact execInjectFault_inv (hInv := h) ..
  | queryFirmware => exact execQueryFirmware_inv (hInv := h) ..
  | writeFirmware => exact execWriteFirmware_inv (hInv := h) ..
  | activateFirmware => exact execActivateFirmware_inv (hInv := h) ..
  | restartFirmware => exact execRestartFirmware_inv (hInv := h) ..
  | resetWarm => exact execResetWarm_inv (hInv := h) ..
  | shoalEncode => exact execShoalEncode_inv (hInv := h) ..
  | shoalDecode => exact execShoalDecode_inv (hInv := h) ..
  | identifyMemoryDevice => exact execIdentifyMemoryDevice_inv (hInv := h) ..
  | getSupportedLogs => exact execGetSupportedLogs_inv (hInv := h) ..
  | getLog => exact execGetLog_inv (hInv := h) ..
  | getTimestamp => exact execGetTimestamp_inv (hInv := h) ..
  | setTimestamp => exact execSetTimestamp_inv (hInv := h) ..
  | getEventRecords => exact execGetEventRecords_inv (hInv := h) ..
  | clearEventRecords => exact execClearEventRecords_inv (hInv := h) ..
  | unsupportedCxlOpcode => exact execUnsupportedCxlOpcode_inv (hInv := h) ..
  | getLdInfo => exact execGetLdInfo_inv (hInv := h) ..
  | getLdAllocations => exact execGetLdAllocations_inv (hInv := h) ..
  | setLdAllocations => exact execSetLdAllocations_inv (hInv := h) ..
  | getQosControl => exact execGetQosControl_inv (hInv := h) ..
  | setQosControl => exact execSetQosControl_inv (hInv := h) ..
  | getQosStatus => exact execGetQosStatus_inv (hInv := h) ..
  | getQosAllocatedBw => exact execGetQosAllocatedBw_inv (hInv := h) ..
  | setQosAllocatedBw => exact execSetQosAllocatedBw_inv (hInv := h) ..
  | getQosBwLimit => exact execGetQosBwLimit_inv (hInv := h) ..
  | setQosBwLimit => exact execSetQosBwLimit_inv (hInv := h) ..
  | fmIdentify => exact execFmIdentify_inv (hInv := h) ..
  | tunnelManagementCommand => exact execTunnelManagementCommand_inv (hInv := h) ..
  | configurationRequest => exact execConfigurationRequest_inv (hInv := h) ..
  | doeObject => exact execDoeObject_inv (hInv := h) ..
  | doeDiscovery => exact execDoeDiscovery_inv (hInv := h) ..
  | cdatTableAccess => exact execCdatTableAccess_inv (hInv := h) ..
  | spdmRequest => exact execSpdmRequest_inv (hInv := h) ..
  | setCertificate => exact execSetCertificate_inv (hInv := h) ..
  | cxlKeyProg => exact execCxlKeyProg_inv (hInv := h) ..
  | cxlKSetGo => exact execCxlKSetGo_inv (hInv := h) ..
  | cxlKSetStop => exact execCxlKSetStop_inv (hInv := h) ..
  | cxlQuery => exact execCxlQuery_inv (hInv := h) ..
  | cxlGetkey => exact execCxlGetkey_inv (hInv := h) ..
  | keyInstall => exact execKeyInstall_inv (hInv := h) ..
  | keyErase => exact execKeyErase_inv (hInv := h) ..
  | keyQuery => exact execKeyQuery_inv (hInv := h) ..
  | mctpControlMessage => exact execMctpControlMessage_inv (hInv := h) ..
  | i3cAddressAssignment => exact execI3cAddressAssignment_inv (hInv := h) ..
  | pldmBaseRequest => exact execPldmBaseRequest_inv (hInv := h) ..
  | pldmSensorRead => exact execPldmSensorRead_inv (hInv := h) ..
  | pldmFirmwareUpdate => exact execPldmFirmwareUpdate_inv (hInv := h) ..
  | pldmActivateFirmware => exact execPldmActivateFirmware_inv (hInv := h) ..
  | carmirRelay => exact execCarmirRelay_inv (hInv := h) ..
  | ringStore => exact execRingStore_inv (hInv := h) ..
  | nop => exact execNop_inv (hInv := h) ..
  | undefinedKind => exact execUndefinedKind_inv (hInv := h) ..
  | stepOpen => exact execStepOpen_inv (hInv := h) ..
  | attend => exact execAttend_inv (hInv := h) ..
  | append => exact execAppend_inv (hInv := h) ..
  | deliver => exact execDeliver_inv (hInv := h) ..
  | stepClose => exact execStepClose_inv (hInv := h) ..
  | logitHeaderStore => exact execLogitHeaderStore_inv (hInv := h) ..
  | cxlMemRead => exact execCxlMemRead_inv (hInv := h) ..
  | cxlMemWrite => exact execCxlMemWrite_inv (hInv := h) ..
  | memInv => exact execMemInv_inv (hInv := h) ..
  | memRdData => exact execMemRdData_inv (hInv := h) ..
  | memClnEvct => exact execMemClnEvct_inv (hInv := h) ..
  | memSpecRd _ _ addr => exact execMemSpecRd_inv (_addr := addr) (hInv := h) ..
  | birsp => exact execBirsp_inv (hInv := h) ..
  | biconflict => exact execBiconflict_inv (hInv := h) ..
  | poolsetEntry => exact execPoolsetEntry_inv (hInv := h) ..
  | pciPmStateChange => exact execPciPmStateChange_inv (hInv := h) ..
  | linkTrainingComplete => exact execLinkTrainingComplete_inv (hInv := h) ..
  | recoveryEntry => exact execRecoveryEntry_inv (hInv := h) ..
  | laneGroupFailure => exact execLaneGroupFailure_inv (hInv := h) ..
  | ideIntegrityFailure => exact execIdeIntegrityFailure_inv (hInv := h) ..
  | hotReset => exact execHotReset_inv (hInv := h) ..
  | linkDisable => exact execLinkDisable_inv (hInv := h) ..
  | functionLevelReset => exact execFunctionLevelReset_inv (hInv := h) ..
  | cxlReset => exact execCxlReset_inv (hInv := h) ..
  | gpfPhase1 => exact execGpfPhase1_inv (hInv := h) ..
  | gpfPhase2 => exact execGpfPhase2_inv (hInv := h) ..
  | gpfPhase2Deadline => exact execGpfPhase2Deadline_inv (hInv := h) ..
  | standbyStart => exact execStandbyStart_inv (hInv := h) ..
  | pwrEnAssert => exact execPwrEnAssert_inv (hInv := h) ..
  | railGood => exact execRailGood_inv (hInv := h) ..
  | railStartTimeout => exact execRailStartTimeout_inv (hInv := h) ..
  | perstDeassert => exact execPerstDeassert_inv (hInv := h) ..
  | coldReset => exact execColdReset_inv (hInv := h) ..
  | perstAssert => exact execPerstAssert_inv (hInv := h) ..
  | warmResetSaveComplete => exact execWarmResetSaveComplete_inv (hInv := h) ..
  | pwrEnDeassert => exact execPwrEnDeassert_inv (hInv := h) ..
  | inputLossTrigger => exact execInputLossTrigger_inv (hInv := h) ..
  | busUndervoltage => exact execBusUndervoltage_inv (hInv := h) ..
  | flushDataPhaseEnd => exact execFlushDataPhaseEnd_inv (hInv := h) ..
  | flushComplete => exact execFlushComplete_inv (hInv := h) ..
  | flushRefclkLoss => exact execFlushRefclkLoss_inv (hInv := h) ..
  | refclkLoss => exact execRefclkLoss_inv (hInv := h) ..
  | refclkReturn => exact execRefclkReturn_inv (hInv := h) ..
  | rootPllLock => exact execRootPllLock_inv (hInv := h) ..
  | portPllLock => exact execPortPllLock_inv (hInv := h) ..
  | fwReady => exact execFwReady_inv (hInv := h) ..
  | memoryActive => exact execMemoryActive_inv (hInv := h) ..
  | mapReady => exact execMapReady_inv (hInv := h) ..
  | admitOpen => exact execAdmitOpen_inv (hInv := h) ..
  | restoreComplete => exact execRestoreComplete_inv (hInv := h) ..
  | packPoll => exact execPackPoll_inv (hInv := h) ..
  | holdupMeasurement => exact execHoldupMeasurement_inv (hInv := h) ..
  | packInsert => exact execPackInsert_inv (hInv := h) ..
  | packRemove => exact execPackRemove_inv (hInv := h) ..
  | chargeComplete => exact execChargeComplete_inv (hInv := h) ..
  | testDue => exact execTestDue_inv (hInv := h) ..
  | testRestEnd => exact execTestRestEnd_inv (hInv := h) ..
  | testDischargeEnd => exact execTestDischargeEnd_inv (hInv := h) ..
  | overTemperature => exact execOverTemperature_inv (hInv := h) ..
  | converterLoss => exact execConverterLoss_inv (hInv := h) ..
  | railOutOfWindow => exact execRailOutOfWindow_inv (hInv := h) ..
  | phaseFault => exact execPhaseFault_inv (hInv := h) ..
  | throttleEngage => exact execThrottleEngage_inv (hInv := h) ..
  | throttleRelease => exact execThrottleRelease_inv (hInv := h) ..
  | overCurrentTrip => exact execOverCurrentTrip_inv (hInv := h) ..
  | tripHoldEnd => exact execTripHoldEnd_inv (hInv := h) ..
  | idleGateTimeout => exact execIdleGateTimeout_inv (hInv := h) ..
  | tileWakeComplete => exact execTileWakeComplete_inv (hInv := h) ..
  | telemetryWindowEnd => exact execTelemetryWindowEnd_inv (hInv := h) ..
  | devloadSample => exact execDevloadSample_inv (hInv := h) ..
  | collectionIntervalEnd => exact execCollectionIntervalEnd_inv (hInv := h) ..
  | tenantRefill => exact execTenantRefill_inv (hInv := h) ..
  | parkClockSecond => exact execParkClockSecond_inv (hInv := h) ..
  | parkExpiry => exact execParkExpiry_inv (hInv := h) ..
  | claimLapse => exact execClaimLapse_inv (hInv := h) ..
  | itemExpiry => exact execItemExpiry_inv (hInv := h) ..
  | stagingComplete => exact execStagingComplete_inv (hInv := h) ..
  | itemComputeComplete => exact execItemComputeComplete_inv (hInv := h) ..
  | deliverPushComplete => exact execDeliverPushComplete_inv (hInv := h) ..
  | draw => exact execDraw_inv (hInv := h) ..
  | stepBoundary => exact execStepBoundary_inv (hInv := h) ..
  | idleCommit => exact execIdleCommit_inv (hInv := h) ..
  | hbmRecalDeadline => exact execHbmRecalDeadline_inv (hInv := h) ..
  | flashCalDeadline => exact execFlashCalDeadline_inv (hInv := h) ..
  | hbmPatrolScrub => exact execHbmPatrolScrub_inv (hInv := h) ..
  | writebackUnit => exact execWritebackUnit_inv (hInv := h) ..
  | flashProgramComplete => exact execFlashProgramComplete_inv (hInv := h) ..
  | flashProgramFail => exact execFlashProgramFail_inv (hInv := h) ..
  | flashEraseFail => exact execFlashEraseFail_inv (hInv := h) ..
  | flashReadUncorrectable => exact execFlashReadUncorrectable_inv (hInv := h) ..
  | blockRefresh => exact execBlockRefresh_inv (hInv := h) ..
  | flashPatrolScrub channel readFound => exact execFlashPatrolScrub_inv channel readFound s h
  | staticLevelling lane => exact execStaticLevelling_inv lane s h
  | journalPageFlush => exact execJournalPageFlush_inv (hInv := h) ..
  | mapCheckpoint => exact execMapCheckpoint_inv (hInv := h) ..
  | channelFailure => exact execChannelFailure_inv (hInv := h) ..
  | laneEvacuationComplete => exact execLaneEvacuationComplete_inv (hInv := h) ..
  | hbmError => exact execHbmError_inv (hInv := h) ..
  | frameRepair => exact execFrameRepair_inv (hInv := h) ..
  | pcRetirementCopyEnd => exact execPcRetirementCopyEnd_inv (hInv := h) ..
  | tileArrayError => exact execTileArrayError_inv (hInv := h) ..
  | coreWatchdog => exact execCoreWatchdog_inv (hInv := h) ..
  | failureExpiry => exact execFailureExpiry_inv (hInv := h) ..
  | fatalEvent => exact execFatalEvent_inv (hInv := h) ..
  | activationTimeout => exact execActivationTimeout_inv (hInv := h) ..
  | svnCommit => exact execSvnCommit_inv (hInv := h) ..
  | snoopTimeout => exact execSnoopTimeout_inv (hInv := h) ..
  | fenceSweepEnd => exact execFenceSweepEnd_inv (hInv := h) ..
  | memberAbsent => exact execMemberAbsent_inv (hInv := h) ..
  | joinTimeout => exact execJoinTimeout_inv (hInv := h) ..
  | poolSetFormed => exact execPoolSetFormed_inv (hInv := h) ..
  | memberRejoin => exact execMemberRejoin_inv (hInv := h) ..
  | peerReadFailure => exact execPeerReadFailure_inv (hInv := h) ..
  | swapOutComplete => exact execSwapOutComplete_inv (hInv := h) ..
  | swapInComplete => exact execSwapInComplete_inv (hInv := h) ..
  | parkComplete => exact execParkComplete_inv (hInv := h) ..
  | unparkComplete => exact execUnparkComplete_inv (hInv := h) ..
  | pullComplete => exact execPullComplete_inv (hInv := h) ..
  | cowCopyComplete => exact execCowCopyComplete_inv (hInv := h) ..
  | prefixOperationComplete => exact execPrefixOperationComplete_inv (hInv := h) ..
  | digestBuild => exact execDigestBuild_inv (hInv := h) ..
  | regionZeroFillComplete => exact execRegionZeroFillComplete_inv (hInv := h) ..
  | poolDescriptorEnd => exact execPoolDescriptorEnd_inv (hInv := h) ..
  | stashDescriptorEnd => exact execStashDescriptorEnd_inv (hInv := h) ..
  | unspill => exact execUnspill_inv (hInv := h) ..
  | rebuildComplete => exact execRebuildComplete_inv (hInv := h) ..
  | stpCqHeadWrite => exact execStpCqHeadWrite_inv (hInv := h) ..
  | seatNoticeHeadWrite => exact execSeatNoticeHeadWrite_inv (hInv := h) ..
  | glbStepCtrlWrite => exact execGlbStepCtrlWrite_inv (hInv := h) ..
  | glbDitherCtrlWrite => exact execGlbDitherCtrlWrite_inv (hInv := h) ..
  | glbDitherSaltWrite => exact execGlbDitherSaltWrite_inv (hInv := h) ..
  | glbDeltaCfgWrite => exact execGlbDeltaCfgWrite_inv (hInv := h) ..
  | glbCohCfgWrite => exact execGlbCohCfgWrite_inv (hInv := h) ..
  | pwrCtrlWrite => exact execPwrCtrlWrite_inv (hInv := h) ..
  | prtCtrlWrite _ _ value => exact execPrtCtrlWrite_inv (_value := value) (hInv := h) ..
  | telRec0Read => exact execTelRec0Read_inv (hInv := h) ..
  | devtimeLowRead => exact execDevtimeLowRead_inv (hInv := h) ..
  | registerWrite => exact execRegisterWrite_inv (hInv := h) ..
  | surpriseLinkDown => exact execSurpriseLinkDown_inv (hInv := h) ..
  | inputProtectionClose => exact execInputProtectionClose_inv (hInv := h) ..
  | chargerCurrentLoss => exact execChargerCurrentLoss_inv (hInv := h) ..
  | poolsetCredit => exact execPoolsetCredit_inv (hInv := h) ..
  | firmwareRestartTimeout => exact execFirmwareRestartTimeout_inv (hInv := h) ..
  | mapCheckpointComplete => exact execMapCheckpointComplete_inv (hInv := h) ..
  | unspillComplete => exact execUnspillComplete_inv (hInv := h) ..
  | mirrorResyncComplete => exact execMirrorResyncComplete_inv (hInv := h) ..
  | regionParkComplete => exact execRegionParkComplete_inv (hInv := h) ..
  | regionUnparkComplete => exact execRegionUnparkComplete_inv (hInv := h) ..
  | loadCountsComplete => exact execLoadCountsComplete_inv (hInv := h) ..
  | firmwareWriteComplete => exact execFirmwareWriteComplete_inv (hInv := h) ..
  | dumpCopyComplete => exact execDumpCopyComplete_inv (hInv := h) ..
/-- What a step is held against: the queue without its front command, and what is retired before it. -/
def Base.ofState (s : State) : Base :=
  { q := s.pending.tail, ok := False, parser := s.glb.parserRetired, pcs := s.flt.retiredPcs, tiles := s.flt.retiredTiles
    chans := s.flash.failed, regs := s.pwr.failed
    lows := fun n => (s.ports.get n).groupL = false, highs := fun n => (s.ports.get n).groupH = false }

/-- A state whose front command has been taken keeps what the state had. -/
theorem inv_tail (s : State) : Inv (.ofState s) { s with pending := s.pending.tail } :=
  ⟨rfl, False.elim, id, List.Subset.refl _, List.Subset.refl _, List.Subset.refl _, List.Subset.refl _, fun _ => id, fun _ => id⟩

/-- A step leaves the queue without its front command, and keeps every retired unit. -/
theorem step_inv (s : State) : OkNext (.ofState s) (step s) := by
  have htail := inv_tail s
  unfold step
  split
  next c rest hq =>
    rw [hq] at htail
    exact exec_inv c _ htail
  next hq =>
    have hs : Inv (.ofState s) s := by rwa [show s.pending.tail = s.pending by rw [hq, List.tail_nil]] at htail
    split
    next c t ht => exact exec_inv c t (takeLatched_inv ht hs)
    next => exact tick_inv s hs

theorem Inv.retiredStays {s t : State} (h : Inv (.ofState s) t) : RetiredStays s t :=
  ⟨h.parser, fun _ hx => h.pcs hx, fun _ hx => h.tiles hx, fun _ hx => h.chans hx, fun _ hx => h.regs hx, h.lows, h.highs⟩

/-- Settles O41: every meaning, the taking of a latched command and the AON clock keep what is retired. -/
theorem noRetiredUnitReturns : Obligations.NoRetiredUnitReturns := by
  intro s t h
  have ht : OkNext (.ofState s) (.next t) := h ▸ step_inv s
  exact ht.retiredStays

/-- Settles O38: no meaning touches the queue, so a step takes its front command alone. -/
theorem queueIsServedInOrder : Obligations.QueueIsServedInOrder := by
  intro s t h
  have ht : OkNext (.ofState s) (.next t) := h ▸ step_inv s
  exact ht.pend

/-- Settles O36: the queue's front command is the one that runs. -/
theorem stepRunsTheFrontCommand : Obligations.StepRunsTheFrontCommand := by
  intro c rest s hq
  rw [step, hq]

/-- Settles O39: the layout of each device-wide register at its reset value. -/
theorem resetHoldsTheLayout : Obligations.ResetHoldsTheLayout :=
  { area_low := by decide, area_high := by decide, snoop_to := by decide, dither := by decide, dither_pend := nofun
    salt := by decide, salt_pend := nofun, power := by decide, power_pend := nofun, parser := nofun }

end Sys2Proof.Machine

namespace Sys2Proof.Machine

/-! ### The Shoal codec decodes what it codes (chapter 12) -/

/-! #### The number a list of bits spells, bit 0 first (R351) -/

/-- The number whose bits, bit 0 first, are the list's. -/
def bitsVal (l : List Bool) : Nat := l.foldr (fun b t => bit b + 2 * t) 0

theorem bitsVal_cons (b : Bool) (l : List Bool) : bitsVal (b :: l) = bit b + 2 * bitsVal l := rfl

theorem testBit_bitsVal (l : List Bool) (i : Nat) : (bitsVal l).testBit i = l.getD i false := by
  induction l generalizing i with
  | nil => exact Nat.zero_testBit i
  | cons b rest ih =>
    rw [bitsVal_cons]
    have hb : bit b < 2 := by cases b <;> decide
    cases i with
    | zero => cases b <;> simp [bit, Nat.testBit_zero, Nat.add_mod]
    | succ i =>
      rw [Nat.testBit_succ, show (bit b + 2 * bitsVal rest) / 2 = bitsVal rest by omega, ih]
      rfl

/-- At most eight bits come back from their byte, filled up with zeros. -/
theorem byteBits_bitsVal {l : List Bool} (h : l.length ≤ 8) :
    byteBits (BitVec.ofNat 8 (bitsVal l)) = l ++ List.replicate (8 - l.length) false := by
  refine List.ext_getElem (by simp [byteBits, h]) fun i hi _ => ?_
  have h8 : i < 8 := by simpa [byteBits] using hi
  simp only [byteBits, List.getElem_map, List.getElem_range, BitVec.getLsbD_ofNat, h8, decide_true, Bool.true_and, testBit_bitsVal,
    List.getElem_append, List.getElem_replicate, List.getD_eq_getElem?_getD]
  split
  next hl => rw [List.getElem?_eq_getElem hl, Option.getD_some]
  next hl => rw [List.getElem?_eq_none (Nat.le_of_not_lt hl), Option.getD_none]

theorem literalBits_length (v : Nat) : (literalBits v).length = 4 := rfl

theorem bitsVal_literalBits {v : Nat} (h : v < 16) : bitsVal (literalBits v) = v := by
  decide +revert

theorem packBits_succ (n : Nat) (l : List Bool) : packBits (n + 1) l = BitVec.ofNat 8 (bitsVal (l.take 8)) :: packBits n (l.drop 8) := rfl

theorem packBits_length (n : Nat) (l : List Bool) : (packBits n l).length = n := by
  induction n generalizing l with
  | zero => rfl
  | succ n ih => rw [packBits_succ, List.length_cons, ih]

/-- Bits that fit into `n` bytes come back from them, filled up with zeros. -/
theorem flatten_byteBits_packBits {n : Nat} {l : List Bool} (h : l.length ≤ 8 * n) :
    ((packBits n l).map byteBits).flatten = l ++ List.replicate (8 * n - l.length) false := by
  induction n generalizing l with
  | zero =>
    obtain rfl : l = [] := List.length_eq_zero_iff.mp (by omega)
    rfl
  | succ n ih =>
    rw [packBits_succ, List.map_cons, List.flatten_cons, byteBits_bitsVal (List.length_take_le 8 l),
      ih (by rw [List.length_drop]; omega), List.length_take, List.length_drop]
    rcases Nat.le_total l.length 8 with hl | hl
    · rw [List.take_of_length_le hl, List.drop_of_length_le hl, Nat.min_eq_right hl, List.nil_append, List.append_assoc,
        List.replicate_append_replicate]
      congr 2
      omega
    · rw [Nat.min_eq_left hl, Nat.sub_self, List.replicate_zero, List.append_nil, ← List.append_assoc, List.take_append_drop]
      congr 2
      omega

/-! #### Codes are read as written (R350, R351) -/

theorem stripPrefix_append (p r : List Bool) : stripPrefix p (p ++ r) = some r := by
  induction p with
  | nil => rfl
  | cons a p ih => rw [List.cons_append, stripPrefix, if_pos rfl, ih]

theorem prefix_of_stripPrefix {p l r : List Bool} (h : stripPrefix p l = some r) : p <+: l := by
  induction p generalizing l with
  | nil => exact List.nil_prefix
  | cons a p ih =>
    cases l with
    | nil => cases h
    | cons b l =>
      unfold stripPrefix at h
      split at h
      next hab => exact List.cons_prefix_cons.mpr ⟨hab, ih h⟩
      next => cases h

/-- No code of a table begins another (Table 12-5). -/
theorem codeOf_prefix_free (l : Lane12) : ∀ j < 16, ∀ k < 16, codeOf l j <+: codeOf l k → j = k := by
  obtain ⟨high, centreB⟩ := l
  cases high <;> cases centreB <;> decide

/-- The one index at which a search succeeds is the one it finds. -/
theorem findSome?_eq_of_unique {α β : Type} {f : α → Option β} {l : List α} {k : α} {x : β} (hk : k ∈ l) (hx : f k = some x)
    (hu : ∀ j ∈ l, ∀ y, f j = some y → j = k) : l.findSome? f = some x := by
  cases h : l.findSome? f with
  | none => exact absurd (List.findSome?_eq_none_iff.mp h k hk) (by simp [hx])
  | some y =>
    obtain ⟨j, hj, hy⟩ := List.exists_of_findSome?_eq_some h
    obtain rfl := hu j hj y hy
    rw [← hx, hy]

theorem readCode_codeOf (l : Lane12) {k : Nat} (hk : k < 16) (r : List Bool) : readCode l (codeOf l k ++ r) = some (k, r) := by
  refine findSome?_eq_of_unique (List.mem_range.mpr hk) (by rw [stripPrefix_append]; rfl) fun j hj y hy => ?_
  obtain ⟨t, ht, -⟩ := Option.map_eq_some_iff.mp hy
  have hj16 : j < 16 := List.mem_range.mp hj
  rcases List.prefix_or_prefix_of_prefix (prefix_of_stripPrefix ht) (List.prefix_append (codeOf l k) r) with h | h
  · exact codeOf_prefix_free l j hj16 k hk h
  · exact (codeOf_prefix_free l k hk j hj16 h).symm

/-- The bits of a nibble in its lane, with the centres of the block (R351). -/
def nibbleBits (a b : Nat) (n : Nat × Option Lane12) : List Bool :=
  match n.2 with
  | some l => codeOf l (n.1 + 16 - (if l.centreB then b else a))
  | none => literalBits n.1

theorem codeOf_mod (l : Lane12) (v : Nat) : codeOf l (v % 16) = codeOf l v := by
  simp only [codeOf, Nat.mod_mod]

/-- A nibble reads as it was written, whatever follows it. -/
theorem readNibble_nibbleBits {a b v : Nat} (ha : a < 16) (hb : b < 16) (hv : v < 16) (lane : Option Lane12) (r : List Bool) :
    readNibble lane a b (nibbleBits a b (v, lane) ++ r) = some (v, r) := by
  cases lane with
  | none =>
    unfold readNibble nibbleBits
    dsimp only
    rw [if_neg (by rw [List.length_append, literalBits_length]; omega), List.take_left' (literalBits_length v),
      List.drop_left' (literalBits_length v)]
    exact congrArg (fun x => some (x, r)) (bitsVal_literalBits hv)
  | some l =>
    unfold readNibble nibbleBits
    dsimp only
    have hc : (if l.centreB then b else a) < 16 := by split <;> assumption
    generalize (if l.centreB then b else a) = c at hc ⊢
    rw [← codeOf_mod, readCode_codeOf l (Nat.mod_lt _ (by decide)), Option.map_some]
    dsimp only
    congr 2
    omega

/-- The coded nibbles of a block from byte `i` on read as its bytes, whatever follows them. -/
theorem readBlock_nibbles (cls : Nat) {a b : Nat} (ha : a < 16) (hb : b < 16) (r : List Bool) (data : List Byte) (i : Nat) :
    readBlock cls a b data.length i (((nibbles cls i data).map (nibbleBits a b)).flatten ++ r) = some data := by
  induction data generalizing i with
  | nil => rfl
  | cons x rest ih =>
    have hlo : x.toNat % 16 < 16 := Nat.mod_lt _ (by decide)
    have hhi : x.toNat / 16 < 16 := Nat.div_lt_of_lt_mul x.isLt
    simp only [nibbles, List.map_cons, List.flatten_cons, List.append_assoc, List.length_cons, readBlock,
      readNibble_nibbleBits ha hb hlo, readNibble_nibbleBits ha hb hhi, ih, Option.map_some, Nat.mod_add_div, BitVec.ofNat_toNat,
      BitVec.setWidth_eq]

/-! #### A block (R351–R353) -/

theorem blockStream_eq (ns : List (Nat × Option Lane12)) (a b : Nat) :
    blockStream ns a b = literalBits b ++ literalBits a ++ (ns.map (nibbleBits a b)).flatten := rfl

/-- A centre is a nibble. -/
theorem centreOf_lt (ns : List (Nat × Option Lane12)) (b : Bool) : centreOf ns b < 16 := by
  refine List.foldlRecOn (motive := fun m : Nat × Option Nat => m.1 < 16) _ _ (by decide) fun m hm c hc => ?_
  have h16 : c < 16 := List.mem_range.mp hc
  dsimp only
  split
  · split
    · exact h16
    · exact hm
  · exact h16

theorem bitsVal_append (l m : List Bool) : bitsVal (l ++ m) = bitsVal l + 2 ^ l.length * bitsVal m := by
  induction l with
  | nil => simp [bitsVal]
  | cons b rest ih =>
    rw [List.cons_append, bitsVal_cons, bitsVal_cons, ih, List.length_cons, Nat.pow_succ, Nat.mul_add, Nat.mul_comm (2 ^ rest.length) 2,
      Nat.mul_assoc, Nat.add_assoc]

/-- The first byte of a coded block holds its two centres. -/
theorem header_byte {a b : Nat} (ha : a < 16) (hb : b < 16) (r : List Bool) :
    (BitVec.ofNat 8 (bitsVal ((literalBits b ++ literalBits a ++ r).take 8))).toNat = b + 16 * a := by
  have hlen : (literalBits b ++ literalBits a).length = 8 := rfl
  have hval : bitsVal (literalBits b ++ literalBits a) = b + 16 * a := by
    rw [bitsVal_append, bitsVal_literalBits ha, bitsVal_literalBits hb, literalBits_length, show 2 ^ 4 = 16 from rfl]
  rw [List.take_left' hlen, hval, BitVec.toNat_ofNat, Nat.mod_eq_of_lt (by omega)]

/-- A coded block decodes to its data, in any number of bytes in which its stream fits. -/
theorem decodeBlock_packBits {cls len n : Nat} {data : List Byte} {a b : Nat} (hcls : cls ≠ 0) (hlen : len ≠ 255)
    (hdata : data.length = 4096) (ha : a < 16) (hb : b < 16) (hfit : (blockStream (nibbles cls 0 data) a b).length ≤ 8 * n) :
    decodeBlock cls len (packBits n (blockStream (nibbles cls 0 data) a b)) = some data := by
  rw [blockStream_eq] at hfit ⊢
  generalize hbody : ((nibbles cls 0 data).map (nibbleBits a b)).flatten = body at hfit ⊢
  have hhead : (literalBits b ++ literalBits a).length = 8 := rfl
  cases n with
  | zero =>
    rw [List.length_append, hhead] at hfit
    omega
  | succ n =>
    rw [List.length_append, hhead] at hfit
    have hbits := flatten_byteBits_packBits (n := n) (l := body) (by omega)
    unfold decodeBlock
    rw [if_neg hlen, if_neg hcls, packBits_succ, List.headD_cons, header_byte ha hb, List.drop_left' hhead, List.drop_one, List.tail_cons,
      hbits, ← hbody]
    dsimp only
    rw [show (b + 16 * a) / 16 = a by omega, show (b + 16 * a) % 16 = b by omega]
    exact hdata ▸ readBlock_nibbles cls ha hb _ data 0

/-- A block is stored raw, or coded in sixteen bytes for each count of its length code (R352). -/
theorem shoalBlock_cases (cls : Nat) (data : List Byte) :
    shoalBlock cls data = (255, data) ∨
      cls ≠ 0 ∧ ∃ a b g, a < 16 ∧ b < 16 ∧ 0 < g ∧ g ≤ 255 ∧ (blockStream (nibbles cls 0 data) a b).length ≤ 8 * (16 * g) ∧
        shoalBlock cls data = (g - 1, packBits (16 * g) (blockStream (nibbles cls 0 data) a b)) := by
  unfold shoalBlock
  split
  next => exact .inl rfl
  next hcls =>
    extract_lets ns st g
    split
    next hg =>
      have hst : 8 ≤ st.length := by
        simp only [st, blockStream_eq, List.length_append, literalBits_length]
        omega
      refine .inr ⟨hcls, _, _, g, centreOf_lt ns false, centreOf_lt ns true, ?_, hg, ?_, rfl⟩
      · show 0 < (st.length + 128 - 1) / 128
        omega
      · show st.length ≤ 8 * (16 * ((st.length + 128 - 1) / 128))
        omega
    next => exact .inl rfl

/-- Settles O50: raw data is the data; in a coded block every nibble reads as written, because no code begins another. -/
theorem shoalBlocksDecodeToTheirData : Obligations.ShoalBlocksDecodeToTheirData := by
  intro cls data _ hdata
  obtain h | ⟨hcls, a, b, g, ha, hb, -, hg, hfit, h⟩ := shoalBlock_cases cls data <;> rw [h]
  · exact if_pos rfl
  · exact decodeBlock_packBits hcls (by omega) hdata ha hb hfit

/-! #### A map unit (R354, R355, R362) -/

section
variable {cls : Nat} {data : List Byte}

theorem shoalBlock_code_le (cls : Nat) (data : List Byte) : (shoalBlock cls data).1 ≤ 255 := by
  obtain h | ⟨-, a, b, g, -, -, -, hg, -, h⟩ := shoalBlock_cases cls data
  · exact Nat.le_of_eq (congrArg Prod.fst h)
  · exact Nat.le_trans (Nat.le_of_eq (congrArg Prod.fst h)) (Nat.le_trans (Nat.sub_le g 1) hg)

/-- A block takes sixteen bytes for each count of its length code (R352). -/
theorem shoalBlock_length (hdata : data.length = 4096) : (shoalBlock cls data).2.length = 16 * ((shoalBlock cls data).1 + 1) := by
  obtain h | ⟨-, a, b, g, -, -, hpos, -, -, h⟩ := shoalBlock_cases cls data <;> rw [h]
  · exact hdata
  · dsimp only
    rw [packBits_length, Nat.sub_add_cancel hpos]

theorem shoalBlock_class_zero (data : List Byte) : (shoalBlock 0 data).1 = 255 := rfl

end

/-- The class of block `i` of a unit. -/
def blockClass (c0 c1 i : Nat) : Nat := if i < 8 then c0 else c1

/-- Blocks `i` to `i + n - 1` of a unit, as stored. -/
def storedBlocks (c0 c1 : Nat) (data : List Byte) (i n : Nat) : List (Nat × List Byte) :=
  (List.range' i n).map fun k => shoalBlock (blockClass c0 c1 k) (unitBlock data k)

section
variable {c0 c1 : Nat} {data : List Byte}

theorem storedBlocks_succ (i n : Nat) :
    storedBlocks c0 c1 data i (n + 1) = shoalBlock (blockClass c0 c1 i) (unitBlock data i) :: storedBlocks c0 c1 data (i + 1) n := rfl

theorem unitBlock_length (hdata : data.length = 65536) {i : Nat} (hi : i < 16) : (unitBlock data i).length = 4096 := by
  rw [unitBlock, List.length_take, List.length_drop]
  omega

theorem blockClass_le (h0 : c0 ≤ 7) (h1 : c1 ≤ 7) (i : Nat) : blockClass c0 c1 i ≤ 7 := by
  unfold blockClass
  split <;> assumption

/-- A unit's bytes from a block on are that block and the bytes from the next one on. -/
theorem take_drop_unitBlock (i n : Nat) :
    (data.drop (4096 * i)).take (4096 * (n + 1)) = unitBlock data i ++ (data.drop (4096 * (i + 1))).take (4096 * n) := by
  rw [unitBlock, Nat.mul_add 4096 n, Nat.add_comm (4096 * n), List.take_add, List.drop_drop, Nat.mul_add]

/-- A block at the front of the stored bytes that decodes is decoded, and then those behind it. -/
theorem decodeBlocks_cons {i l : Nat} {x b : List Byte} (hx : x.length = 16 * (l + 1)) (h : decodeBlock (blockClass c0 c1 i) l x = some b)
    (ls : List Nat) (rest : List Byte) :
    decodeBlocks c0 c1 i (l :: ls) (x ++ rest) = (decodeBlocks c0 c1 (i + 1) ls rest).map fun r => b ++ r := by
  unfold blockClass at h
  rw [decodeBlocks, List.take_left' hx, h, List.drop_left' hx]

/-- The stored blocks of a unit decode, one after the other, to its bytes from the first of them on. -/
theorem decodeBlocks_storedBlocks (h0 : c0 ≤ 7) (h1 : c1 ≤ 7) (hdata : data.length = 65536) {i n : Nat} (hn : i + n ≤ 16) :
    decodeBlocks c0 c1 i ((storedBlocks c0 c1 data i n).map (·.1)) ((storedBlocks c0 c1 data i n).map (·.2)).flatten =
      some ((data.drop (4096 * i)).take (4096 * n)) := by
  induction n generalizing i with
  | zero => rfl
  | succ n ih =>
    have hblock := unitBlock_length hdata (i := i) (by omega)
    have hdec := shoalBlocksDecodeToTheirData _ _ (blockClass_le h0 h1 i) hblock
    rw [storedBlocks_succ, List.map_cons, List.map_cons, List.flatten_cons, decodeBlocks_cons (shoalBlock_length hblock) hdec,
      ih (by omega), Option.map_some, ← take_drop_unitBlock]

/-- The blocks' length codes count the bytes stored, in steps of sixteen (R352). -/
theorem storedBlocks_length (hdata : data.length = 65536) {i n : Nat} (hn : i + n ≤ 16) (t : Nat) :
    16 * ((storedBlocks c0 c1 data i n).map (·.1)).foldl (fun t l => t + l + 1) t =
      16 * t + ((storedBlocks c0 c1 data i n).map (·.2)).flatten.length := by
  induction n generalizing i t with
  | zero => rfl
  | succ n ih =>
    rw [storedBlocks_succ, List.map_cons, List.map_cons, List.flatten_cons, List.foldl_cons, ih (by omega), List.length_append,
      shoalBlock_length (unitBlock_length hdata (by omega))]
    omega

end

/-! #### An object (R354, R362) -/

theorem getD_of_lt {α : Type} {l : List α} {i : Nat} (h : i < l.length) (d : α) : l.getD i d = l[i] := by
  rw [List.getD_eq_getElem?_getD, List.getElem?_eq_getElem h, Option.getD_some]

theorem getD_append_of_lt {α : Type} {l : List α} {i : Nat} (r : List α) (h : i < l.length) (d : α) : (l ++ r).getD i d = l.getD i d := by
  rw [List.getD_eq_getElem?_getD, List.getElem?_append_left h, List.getD_eq_getElem?_getD]

theorem getD_append_of_le {α : Type} {l : List α} {i : Nat} (r : List α) (h : l.length ≤ i) (d : α) :
    (l ++ r).getD i d = r.getD (i - l.length) d := by
  rw [List.getD_eq_getElem?_getD, List.getElem?_append_right h, List.getD_eq_getElem?_getD]

/-- The index of an object: the length codes, the two classes, the version and zeros (R354). -/
def unitIndex (ls : List Nat) (c0 c1 : Nat) : List Byte :=
  ls.map (BitVec.ofNat 8) ++ ([BitVec.ofNat 8 c0, BitVec.ofNat 8 c1, 1#8] ++ List.replicate 13 0)

section
variable {ls : List Nat} {c0 c1 : Nat} (hlen : ls.length = 16) (body : List Byte)
include hlen

theorem unitIndex_length : (unitIndex ls c0 c1).length = 32 := by
  simp [unitIndex, hlen]

/-- The length codes stand at the front of an object. -/
theorem unitIndex_getD_code (hcodes : ∀ l ∈ ls, l ≤ 255) {i : Nat} (hi : i < 16) :
    ((unitIndex ls c0 c1 ++ body).getD i 0).toNat = ls.getD i 0 := by
  have hil : i < ls.length := hlen ▸ hi
  have := hcodes _ (List.getElem_mem hil)
  rw [getD_append_of_lt _ (by rw [unitIndex_length hlen]; omega), unitIndex,
    getD_append_of_lt _ (by rwa [List.length_map]), getD_of_lt (by rwa [List.length_map]), List.getElem_map, getD_of_lt hil, BitVec.toNat_ofNat, Nat.mod_eq_of_lt (by omega)]

/-- Behind them stand the classes, the version and zeros. -/
theorem unitIndex_getD_rest {k : Nat} (hk : k < 16) :
    (unitIndex ls c0 c1 ++ body).getD (16 + k) 0 = ([BitVec.ofNat 8 c0, BitVec.ofNat 8 c1, 1#8] ++ List.replicate 13 0).getD k 0 := by
  have hmap : (ls.map (BitVec.ofNat 8)).length = 16 := by rw [List.length_map, hlen]
  rw [getD_append_of_lt _ (by rw [unitIndex_length hlen]; omega), unitIndex, getD_append_of_le _ (by omega), hmap,
    Nat.add_sub_cancel_left]

/-- An object that passes the checks of R362 is decoded block by block. -/
theorem shoalDecode_unitIndex (hcodes : ∀ l ∈ ls, l ≤ 255) (h0 : c0 ≤ 7) (h1 : c1 ≤ 7)
    (hbody : body.length = 16 * ls.foldl (fun t l => t + l + 1) 0)
    (hzero : ∀ i < 16, blockClass c0 c1 i = 0 → ls.getD i 0 = 255) :
    shoalDecode (unitIndex ls c0 c1 ++ body) = decodeBlocks c0 c1 0 ls body := by
  have hls : ((List.range 16).map fun i => ((unitIndex ls c0 c1 ++ body).getD i 0).toNat) = ls := by
    refine List.ext_getElem (by simp [hlen]) fun i hi hil => ?_
    rw [List.getElem_map, List.getElem_range, unitIndex_getD_code hlen body hcodes (hlen ▸ hil), getD_of_lt hil]
  have hc0 : ((unitIndex ls c0 c1 ++ body).getD 16 0).toNat = c0 := by
    rw [unitIndex_getD_rest hlen body (k := 0) (by decide)]
    exact Nat.mod_eq_of_lt (by omega)
  have hc1 : ((unitIndex ls c0 c1 ++ body).getD 17 0).toNat = c1 := by
    rw [unitIndex_getD_rest hlen body (k := 1) (by decide)]
    exact Nat.mod_eq_of_lt (by omega)
  have hver : ((unitIndex ls c0 c1 ++ body).getD 18 0).toNat = 1 := by
    rw [unitIndex_getD_rest hlen body (k := 2) (by decide)]
    rfl
  have hres : ((List.range 13).any fun i => ((unitIndex ls c0 c1 ++ body).getD (19 + i) 0).toNat != 0) = false := by
    refine List.any_eq_false.mpr fun i hi => ?_
    have hi13 : i < 13 := List.mem_range.mp hi
    have hpad : ∀ k < 13, (([BitVec.ofNat 8 c0, BitVec.ofNat 8 c1, 1#8] ++ List.replicate 13 0).getD (3 + k) 0 : Byte) = 0 := fun k hk => by
      rw [getD_append_of_le _ (Nat.le_add_right 3 k), getD_of_lt (by simpa using hk), List.getElem_replicate]
    rw [show 19 + i = 16 + (3 + i) by omega, unitIndex_getD_rest hlen body (by omega), hpad i hi13]
    decide
  have hclasses : ((List.range 16).any fun i => decide ((if i < 8 then c0 else c1) = 0) && ls.getD i 0 != 255) = false := by
    refine List.any_eq_false.mpr fun i hi => ?_
    have := hzero i (List.mem_range.mp hi)
    unfold blockClass at this
    simpa using this
  unfold shoalDecode
  simp only [hls, hc0, hc1, hver, hres, hclasses, List.length_append, unitIndex_length hlen, hbody, List.drop_left' (unitIndex_length hlen)]
  rw [if_neg (by simp; omega)]

end

/-- A unit is stored raw, or as the object of its blocks (R354, R355). -/
theorem shoalUnit_cases (c0 c1 : Nat) (data : List Byte) :
    shoalUnit c0 c1 data = (true, data) ∨
      shoalUnit c0 c1 data = (false, unitIndex ((storedBlocks c0 c1 data 0 16).map (·.1)) c0 c1 ++
        ((storedBlocks c0 c1 data 0 16).map (·.2)).flatten) := by
  unfold shoalUnit
  split
  next => exact .inl rfl
  next =>
    extract_lets bs index obj
    have hbs : bs = storedBlocks c0 c1 data 0 16 := rfl
    have hobj : obj = unitIndex (bs.map (·.1)) c0 c1 ++ (bs.map (·.2)).flatten := by
      simp only [obj, index, unitIndex, leBytes, List.map_map, List.append_assoc, List.cons_append, List.nil_append]
      rfl
    split
    next => exact .inr (by rw [hobj, hbs])
    next => exact .inl rfl

/-- Settles O51: an object passes every check of the decoder, and its blocks decode one after the other to the unit's bytes. -/
theorem shoalUnitsDecodeToTheirData : Obligations.ShoalUnitsDecodeToTheirData := by
  intro c0 c1 data h0 h1 hdata
  obtain h | h := shoalUnit_cases c0 c1 data <;> rw [h]
  · exact ⟨nofun, fun _ => rfl⟩
  · refine ⟨fun _ => ?_, nofun⟩
    dsimp only
    have hlen : ((storedBlocks c0 c1 data 0 16).map (·.1)).length = 16 := by simp [storedBlocks]
    have hcodes : ∀ l ∈ (storedBlocks c0 c1 data 0 16).map (·.1), l ≤ 255 := by
      intro l hl
      obtain ⟨x, hx, rfl⟩ := List.mem_map.mp hl
      obtain ⟨k, -, rfl⟩ := List.mem_map.mp hx
      exact shoalBlock_code_le _ _
    have hzero : ∀ i < 16, blockClass c0 c1 i = 0 → ((storedBlocks c0 c1 data 0 16).map (·.1)).getD i 0 = 255 := by
      intro i hi hcls
      rw [getD_of_lt (hlen.symm ▸ hi)]
      simp [storedBlocks, hcls, shoalBlock_class_zero]
    rw [shoalDecode_unitIndex hlen _ hcodes h0 h1 (by simpa using (storedBlocks_length (c0 := c0) (c1 := c1) hdata (Nat.le_refl 16) 0).symm) hzero,
      decodeBlocks_storedBlocks h0 h1 hdata (Nat.le_refl 16), List.drop_zero, List.take_of_length_le (by omega)]

end Sys2Proof.Machine

namespace Sys2Proof.Machine

/-! ### Stores of bytes (R465) -/

theorem memPuts_cons (m : List Host.Cell) (a : Nat) (b : Byte) (l : List Byte) :
    memPuts m a (b :: l) = memPuts (memPut m a b) (a + 1) l := rfl

/-- A byte within the stored ones reads as stored, and every other one as before. -/
theorem memByte_memPuts {m : List Host.Cell} (h : memWf m = true) (a : Nat) (l : List Byte) (i : Nat) :
    memByte (memPuts m a l) i = if a ≤ i ∧ i < a + l.length then l.getD (i - a) 0 else memByte m i := by
  induction l generalizing m a with
  | nil => exact (if_neg (by rw [List.length_nil]; omega)).symm
  | cons b rest ih =>
    rw [memPuts_cons, ih (memPut_wf h a b), List.length_cons]
    rcases Nat.lt_trichotomy i a with hlt | rfl | hgt
    · rw [if_neg (by omega), if_neg (by omega), memByte_memPut_ne b (by omega) h]
    · rw [if_neg (by omega), if_pos (by omega), memByte_memPut_self b h, Nat.sub_self, List.getD_cons_zero]
    · have hsub : i - a = (i - (a + 1)) + 1 := by omega
      by_cases hin : i < a + 1 + rest.length
      · rw [if_pos ⟨hgt, hin⟩, if_pos (by omega), hsub, List.getD_cons_succ]
      · rw [if_neg (by omega), if_neg (by omega), memByte_memPut_ne b (by omega) h]

/-- Settles O49: each byte is put in turn, and every later one lies above it. -/
theorem bytesReadAsLastStored : Obligations.BytesReadAsLastStored :=
  fun _ a l h => ⟨memPuts_wf h a l, memByte_memPuts h a l⟩

/-! ### Writes outside what an LD may write (R44, R620) -/

/-- Every writable GLB_ register ends below 0x20000 (Table 22-4). -/
theorem glbRegs_end_le : ∀ r ∈ glbRegs, r.1 + r.2.size ≤ 0x20000 := by decide

/-- Every writable register of a seat page lies within the page (Table 22-15). -/
theorem pageRegs_within (n : Nat) : ∀ r ∈ pageRegs n, 0x100000 + n * 0x20000 ≤ r.1 ∧ r.1 + r.2.size ≤ 0x100000 + n * 0x20000 + 0x20000 := by
  intro r hr
  simp only [pageRegs, List.mem_append, List.mem_cons, List.not_mem_nil, or_false, List.mem_map, List.mem_range] at hr
  rcases hr with (((rfl | rfl) | ⟨k, hk, rfl⟩) | ⟨k, hk, rfl⟩) | rfl <;> simp only [WrReg.size] <;> omega

/-- A write that meets neither its seat's page nor, from seat 0's LD, the GLB_ block. -/
def outsideOwn (s : State) (port ld offset n : Nat) : Prop :=
  ∀ k, seatOfLd s port ld = some k →
    (k = 0 → 0x20000 ≤ offset) ∧ (offset + n ≤ 0x100000 + k * 0x20000 ∨ 0x100000 + k * 0x20000 + 0x20000 ≤ offset)

section
variable {s : State} {port ld offset : Nat}

theorem touched_outside {n : Nat} (h : outsideOwn s port ld offset n) : touched s port ld offset n = [] := by
  refine List.filter_eq_nil_iff.mpr fun r hr => ?_
  unfold writableRegs at hr
  split at hr
  next k hk =>
    obtain ⟨hglb, hpage⟩ := h k hk
    simp only [overlaps, Bool.and_eq_true, decide_eq_true_eq]
    rcases List.mem_append.mp hr with hr | hr
    · have := pageRegs_within k r hr
      omega
    · split at hr
      next h0 =>
        have := glbRegs_end_le r hr
        have := hglb h0
        omega
      next => cases hr
  next => cases hr

/-- Such a write touches no register and no mailbox of its seat, and changes nothing. -/
theorem regWrite_outside {width : Nat} (h : outsideOwn s port ld offset (width / 8)) (value : Nat) :
    regWrite port ld offset width value s = s := by
  unfold regWrite
  rw [touched_outside h]
  dsimp only
  split
  next n hn =>
    have ⟨_, hpage⟩ := h n hn
    refine if_neg ?_
    simp only [mailboxSpace, overlaps, Bool.or_eq_true, Bool.and_eq_true, decide_eq_true_eq]
    omega
  next => rfl

/-- A GLB_ register's row from another seat than seat 0 changes nothing. -/
theorem glbWrite_other {seat : Nat} (hseat : seat ≠ 0) (f : State → State) : glbWrite seat f s = .next s := by
  unfold glbWrite
  split
  · rfl
  · exact if_neg (by simp [hseat])

end

/-- Settles O53: what an LD may write lies in its seat's page and, for seat 0, in the GLB_ block; that component registers change
nothing is log entry 92. -/
theorem onlyItsLdWritesARegister : Obligations.OnlyItsLdWritesARegister := by
  refine ⟨fun port ld offset width value s h => ?_, fun seat value half port s hseat =>
    ⟨glbWrite_other hseat _, glbWrite_other hseat _, ?_, glbWrite_other hseat _, glbWrite_other hseat _, glbWrite_other hseat _, ?_⟩⟩
  · show execRegisterWrite port ld offset width value s = _
    unfold execRegisterWrite
    rw [regWrite_outside h, ite_self, ite_self]
  · exact (congrArg _ (glbWrite_other hseat _)).trans (ite_self _)
  · exact (congrArg _ (glbWrite_other hseat _)).trans (ite_self _)

end Sys2Proof.Machine

namespace Sys2Proof.Machine

/-! ### Region commands (§16.2) -/

/-! #### The checks read no claim (R92) -/

section
variable (e : Env) (seat : Nat) (objs : List ClaimObj) (s : State) (id : Nat)

theorem freeRegionCheck_endClaims : freeRegionCheck e id (endClaims seat objs s) = freeRegionCheck e id s := by
  unfold freeRegionCheck
  rfl

theorem grantCheck_endClaims (g mode : Nat) : grantCheck e id g mode (endClaims seat objs s) = grantCheck e id g mode s := by
  unfold grantCheck
  rfl

theorem attachCheck_endClaims (base : Nat) : attachCheck e id base (endClaims seat objs s) = attachCheck e id base s := by
  unfold attachCheck
  rfl

end

section
variable {e : Env} {id : Nat}

/-- A region that is not SHARED has no holder: freeing it ends at once (R467). -/
theorem freeRegion_unshared {r : Region} {u : State} (hr : regionOf u id = some r) (hs : r.shared = false) :
    freeRegion e id u =
      (endFree u.opCtr r (startLong e (.freeRegion id) u).1, (startLong e (.freeRegion id) u).2) := by
  unfold freeRegion
  rw [hr]
  simp only [hs, Bool.false_eq_true, if_false]

/-- GRANT_REGION that passes its checks has its effect (R468). -/
theorem grantRegion_served {g mode : Nat} {s u : State} (h : Serves Op.grantRegion e [.region id] s u)
    (hc : grantCheck e id g mode u = none) :
    exec (.grantRegion e id g mode) s = .next (answer e (grantRegion e id g mode u).2 (grantRegion e id g mode u).1) :=
  mailbox_effect_objs h (fun t => grantCheck_endClaims e e.seat _ t id g mode) hc

/-- A mode that does not fall is set at once (R468). -/
theorem grantRegion_raised {g mode : Nat} {u : State} (h : ((regionOf u id).map (·.mode g)).getD 0 ≤ mode) :
    grantRegion e id g mode u = (finishOp u.opCtr .ok (setGrant id g mode (startLong e (.grantRegion id g mode) u).1),
      (startLong e (.grantRegion id g mode) u).2) :=
  if_neg (Nat.not_lt.mpr h)

/-- A lowered mode first asks for the seat's lines (R468; log entry 52). -/
theorem grantRegion_lowered {g mode : Nat} {u : State} (h : mode < ((regionOf u id).map (·.mode g)).getD 0) :
    grantRegion e id g mode u = (cohSettle (revokeLines id g (startLong e (.grantRegion id g mode) u).1),
      (startLong e (.grantRegion id g mode) u).2) :=
  if_pos h

end

/-- Settles O9: each command, once served, passes its own checks and has its effect; QUERY_REGION's body is log entry 46,
DETACH_REGION's silent drop log entry 47. -/
theorem regionCommandsAnswer : Obligations.RegionCommandsAnswer := by
  refine ⟨fun e b s h hc => ?_, fun e id r s h hc hr hs => ?_, fun e id r s h hr => ?_, fun e id g mode s h hc hm => ?_,
    fun e id g mode s h hc hm => ?_, fun e id base s h hc => ?_, fun e id r s h hr hatt => ?_⟩
  · exact mailbox_effect ⟨h, rfl⟩ hc
  · refine (mailbox_effect_objs ⟨h, rfl⟩ (fun t => freeRegionCheck_endClaims e e.seat _ t id) hc).trans ?_
    rw [freeRegion_unshared hr hs]
  · refine (mailbox_effect ⟨h, rfl⟩ (if_pos (Option.isSome_of_mem hr))).trans ?_
    simp only [hr]
    rfl
  · rw [grantRegion_served ⟨h, rfl⟩ hc, grantRegion_raised hm]
  · rw [grantRegion_served ⟨h, rfl⟩ hc, grantRegion_lowered hm]
  · exact mailbox_effect_objs ⟨h, rfl⟩ (fun t => attachCheck_endClaims e e.seat _ t id base) hc
  · refine mailbox_effect_objs ⟨h, rfl⟩ (fun _ => rfl) ?_
    obtain ⟨base, hbase⟩ := Option.isSome_iff_exists.mp hatt
    rw [hr, Option.bind_some, hbase]

end Sys2Proof.Machine

namespace Sys2Proof.Machine

/-! ### LEAVE_POOL_SET frees the parity units that this module holds (R492) -/

/-- Seat 0 of a formed pool set of two, on a port that is up; the module holds a home of the set's parity unit 0. -/
def parityHolder : State :=
  { State.reset with
    dev := { State.reset.dev with fwReady := true, memActive := true, admitOpen := true }
    ports := State.reset.ports.upd 0 fun p => { p with linkUp := true, cxlMode := true }
    seats := State.reset.seats.upd 0 fun t => { t with negVersion := 0x0302 }
    pset := { phase := .formed, n := 2, members := [{ index := 1, window := 5 }] }
    flash := { State.reset.flash with homes := [(.parity 0, 0)] } }

/-- Seat 0's envelope of a command without a body, of version 3.2. -/
def bareEnv : Env := { seat := 0, verMajor := 3, verMinor := 2, deferOk := true, tag := 0, hostTime := 0, bodyLen := 0, payloadLen := 64 }

/-- The homes that have a unit number after an outcome. -/
def homesAfter : Host.Outcome State Fault Refusal → List (UnitKey × Nat)
  | .next t => t.flash.homes
  | _ => []

theorem parityHolder_served : served Op.leavePoolSet bareEnv [] parityHolder = true := by decide

theorem parityHolder_mayLeave : leaveCheck (accepted Op.leavePoolSet bareEnv [] parityHolder) = none := by decide

/-- The home of the parity unit goes with the membership. -/
theorem parityHolder_leaves : homesAfter (exec (.leavePoolSet bareEnv) parityHolder) = [] := by decide

/-- Refutes O10: the effect it gives LEAVE_POOL_SET frees the replicas alone, where R492, and the model with it, free the parity units that
the module holds too; the homes after it tell the two apart. -/
theorem not_poolCommandsAnswer : ¬ Obligations.PoolCommandsAnswer := by
  rintro ⟨-, -, -, -, -, hleave, -, -⟩
  have hhomes := congrArg homesAfter (hleave bareEnv parityHolder parityHolder_served parityHolder_mayLeave)
  rw [parityHolder_leaves] at hhomes
  revert hhomes
  decide

end Sys2Proof.Machine

namespace Sys2Proof.Machine

/-! ### Coherence and stash commands (§15.6, chapter 17) -/

/-! #### The checks read no claim (R92) -/

section
variable (e : Env) (seat : Nat) (objs : List ClaimObj) (s : State) (part run : Nat)

theorem openRunCheck_endClaims (frames maxObjects : Nat) :
    openRunCheck e part run frames maxObjects (endClaims seat objs s) = openRunCheck e part run frames maxObjects s := by
  unfold openRunCheck
  rfl

theorem closeRunCheck_endClaims : closeRunCheck e part run (endClaims seat objs s) = closeRunCheck e part run s := by
  unfold closeRunCheck
  rfl

theorem stashCheck_endClaims (descs : List StashDesc) : stashCheck e descs (endClaims seat objs s) = stashCheck e descs s := by
  unfold stashCheck
  rfl

theorem setScheduleCheck_endClaims (count list : Nat) :
    setScheduleCheck e part run count list (endClaims seat objs s) = setScheduleCheck e part run count list s := by
  unfold setScheduleCheck
  rfl

end

/-- A fence whose sweep has ended may be lifted (R457). -/
theorem unfenceCheck_none {seat : Nat} {u : State} (hs : seat ≤ 63) (hf : u.coh.fenced.getLsbD seat = true)
    (hsweep : u.coh.sweeping.getLsbD seat = false) : unfenceCheck seat u = none := by
  simp [unfenceCheck, Nat.not_lt.mpr hs, hf, hsweep]

/-- Settles O11: each command, once served, passes its own checks and has its effect; SNOOP_TO as the value in effect and AGE as a rank are
log entry 45, the run table's bytes log entry 40. -/
theorem coherenceAndStashCommandsAnswer : Obligations.CoherenceAndStashCommandsAnswer := by
  refine ⟨fun e addr r l s h hl => ?_, fun e seat s h hs hf => ?_, fun e seat s h hs hf hsweep => ?_, fun e s h => ?_,
    fun e part run frames maxObjects s h hc => ?_, fun e part run s h hc => ?_, fun e d ds s h hc => ?_,
    fun e part run count list s h hc => ?_, fun e part run start r s h hg hr hrun => ?_⟩
  · refine (mailbox_effect ⟨h, rfl⟩ (if_pos (by rw [hl]; rfl))).trans ?_
    simp only [hl]
  · refine mailbox_effect_objs ⟨h, rfl⟩ (fun _ => rfl) ?_
    exact (if_neg (Nat.not_lt.mpr hs)).trans (if_neg (Bool.eq_false_iff.mp hf))
  · exact mailbox_effect_objs ⟨h, rfl⟩ (fun _ => rfl) (unfenceCheck_none hs hf hsweep)
  · exact mailbox_effect ⟨h, rfl⟩ rfl
  · exact mailbox_effect_objs ⟨h, rfl⟩ (fun t => openRunCheck_endClaims e e.seat _ t part run frames maxObjects) hc
  · exact mailbox_effect_objs ⟨h, rfl⟩ (fun t => closeRunCheck_endClaims e e.seat _ t part run) hc
  · exact mailbox_effect_objs ⟨h, rfl⟩ (fun t => stashCheck_endClaims e e.seat _ t (d :: ds)) hc
  · exact mailbox_effect_objs ⟨h, rfl⟩ (fun t => setScheduleCheck_endClaims e e.seat _ t part run count list) hc
  · refine (mailbox_effect_objs ⟨h, rfl⟩ (fun _ => rfl) (by rw [hg, hr]; rfl)).trans ?_
    simp only [hrun]

end Sys2Proof.Machine

namespace Sys2Proof.Machine

/-! ### Telemetry, power and hold-up commands (§14.3, §19.7) -/

/-- A pack that is there, and neither under test nor in FAULT, may be tested (R411). -/
theorem testHoldupCheck_none {u : State} (hp : u.hup.present = true) (ht : u.hup.chg ≠ .testing) (hf : u.hup.chg ≠ .fault) :
    testHoldupCheck u = none := by
  simp [testHoldupCheck, hp, ht, hf]

/-- Settles O12: each command, once served, passes its own checks and has its effect. -/
theorem powerAndHoldupCommandsAnswer : Obligations.PowerAndHoldupCommandsAnswer := by
  refine ⟨fun e base log2 s h hc => ?_, fun e s h => ?_, fun e s h => ?_, fun e idleGate idleUs s h hg hu => ?_, fun e s h => ?_,
    fun e s h hp ht hf => ?_, fun e days s h hlo hhi => ?_⟩
  · exact mailbox_effect ⟨h, rfl⟩ hc
  · exact mailbox_effect ⟨h, rfl⟩ rfl
  · exact mailbox_effect ⟨h, rfl⟩ rfl
  · refine mailbox_effect ⟨h, rfl⟩ (if_neg ?_)
    simp only [Bool.or_eq_true, decide_eq_true_eq]
    omega
  · exact mailbox_effect ⟨h, rfl⟩ rfl
  · refine (mailbox_effect ⟨h, rfl⟩ (testHoldupCheck_none hp ht hf)).trans ?_
    simp only [startTest, updHup, startLong_hup]
  · exact mailbox_effect ⟨h, rfl⟩ (if_pos (by simp [hlo, hhi]))

/-! ### Fault, dump, firmware and codec commands (chapters 12, 20 and 21) -/

/-- WRITE_FIRMWARE's check reads no claim (R92). -/
theorem writeFirmwareCheck_endClaims (seat : Nat) (objs : List ClaimObj) (s : State) (src length : Nat) :
    writeFirmwareCheck src length (endClaims seat objs s) = writeFirmwareCheck src length s := by
  unfold writeFirmwareCheck
  rfl

/-- ACTIVATE_FIRMWARE's check reads no claim (R92). -/
theorem activateCheck_endClaims (seat : Nat) (objs : List ClaimObj) (s : State) :
    activateCheck (endClaims seat objs s) = activateCheck s := by
  unfold activateCheck
  rfl

/-- What the beginning of a firmware restart with a cause of its own changes (R573). -/
theorem beginRestart_eq {cause : Nat} (hc : cause ≠ 0) (s : State) :
    beginRestart cause s = { s with
      flt := { s.flt with restarting := true, restartAt := s.dev.devtime }, dev := { s.dev with causeFw := cause } } := by
  simp only [beginRestart, if_neg hc]
  rfl

/-- What the beginning of an activation changes (R573, R609). -/
theorem beginActivation_eq (op : Option Nat) (s : State) :
    beginActivation op s = { s with
      flt := { s.flt with activating := some op, newImage := false, restarting := true, restartAt := s.dev.devtime }
      dev := { s.dev with causeFw := 2 } } := rfl

section
variable {u : State}

/-- A dump in a slot may be cleared (R600). -/
theorem clearDumpCheck_none {slot : Nat} (hs : slot ≤ 1) (hd : (dumpOf u slot).isNone = false) : clearDumpCheck slot u = none := by
  simp [clearDumpCheck, Nat.not_lt.mpr hs, hd]

/-- A tile the device has and that is in service takes an injected error (R587). -/
theorem injectCheck_tile {tile row : Nat} (ht : tile < 320) (hr : row < 1024) (hserves : u.flt.retiredTiles.contains tile = false) :
    injectCheck (.tile tile row) u = none := by
  unfold injectCheck
  dsimp only
  rw [if_neg (by simp only [Bool.or_eq_true, decide_eq_true_eq]; omega), hserves]
  rfl

/-- A valid image that is neither being written nor activated may be activated (R609). -/
theorem activateCheck_none (ha : u.flt.activating = none) (hw : u.flt.writing = none) (hv : (inactiveImage u).valid = true) :
    activateCheck u = none := by
  simp [activateCheck, ha, hw, hv]

end

/-- Settles O13: each command, once served, passes its own checks and has its effect; a firmware slot that is invalid from the start of a
write is log entry 89, READ_DUMP's transfer slot log entry 87. -/
theorem faultDumpFirmwareAndCodecCommandsAnswer : Obligations.FaultDumpFirmwareAndCodecCommandsAnswer := by
  refine ⟨fun e first s h => ?_, fun e seq s h => ?_, fun e s h => ?_, fun e s h hd => ?_, fun e slot id off len s h hc => ?_,
    fun e slot id off len dst s hdst h hc => ?_, fun e slot s h hs hd => ?_, fun e pc bank row place correctable s h hc => ?_,
    fun e tile row correctable s h ht hr hserves => ?_, fun e unit correctable s h hu => ?_, fun e s h => ?_, fun e src length s h hc => ?_,
    fun e s h ha hw hv => ?_, fun e s h => ?_, fun e s h => ?_, fun e src dst class0 class1 s h h0 h1 hsrc hdst hgood => ?_,
    fun e src dst length d s h hlo hhi hsrc hdst hgood hdec => ?_⟩
  · exact mailbox_effect ⟨h, rfl⟩ rfl
  · exact mailbox_effect ⟨h, rfl⟩ rfl
  · exact mailbox_effect ⟨h, rfl⟩ rfl
  · exact mailbox_effect ⟨h, rfl⟩ (if_neg (Bool.eq_false_iff.mp hd))
  · exact mailbox_effect ⟨h, rfl⟩ hc
  · show execReadDump e slot id off len dst s = _
    unfold execReadDump
    rw [bne_iff_ne.mpr hdst]
    refine (mailbox_effect ⟨h, rfl⟩ hc).trans ?_
    rw [readDump, if_neg hdst]
    rfl
  · exact mailbox_effect ⟨h, rfl⟩ (clearDumpCheck_none hs hd)
  · exact mailbox_effect ⟨h, rfl⟩ hc
  · exact mailbox_effect ⟨h, rfl⟩ (injectCheck_tile ht hr hserves)
  · exact mailbox_effect ⟨h, rfl⟩ (if_pos hu)
  · exact mailbox_effect ⟨h, rfl⟩ rfl
  · exact mailbox_effect_objs ⟨h, rfl⟩ (fun t => writeFirmwareCheck_endClaims e.seat _ t src length) hc
  · refine (mailbox_effect_objs ⟨h, rfl⟩ (activateCheck_endClaims e.seat _) (activateCheck_none ha hw hv)).trans ?_
    dsimp only
    rw [beginActivation_eq, started]
  · refine (mailbox_effect ⟨h, rfl⟩ rfl).trans ?_
    dsimp only
    rw [beginRestart_eq (by decide), started]
  · exact mailbox_effect ⟨h, rfl⟩ rfl
  · refine mailbox_effect ⟨h, rfl⟩ (if_neg ?_)
    simp [hsrc, hdst, hgood, h0, h1]
  · refine (mailbox_effect ⟨h, rfl⟩ (if_neg ?_)).trans ?_
    · simp [hsrc, hdst, hgood, hdec, hlo, hhi]
    · simp only [hdec]

end Sys2Proof.Machine

namespace Sys2Proof.Machine

/-! ### CXL.mem messages (§15.1, R465) -/

section
variable {port ld : Nat} {s : State}

/-- A message on an LD of a seat, over a port that takes it, acts as that seat's (R469). -/
theorem onLd_seat {n : Nat} (hp : port < 8) (hl : ld < 16) (hr : memReached s port ld = true) (hn : seatOfLd s port ld = some n)
    (f : Nat → State → State) : onLd port ld f s = .next (f n s) := by
  rw [onLd, if_neg (portLd_guard hp hl), if_neg (by simp [hr]), hn]

/-- A message on an LD without a seat answers poison, with a record (R45; in Sable log entry 110). -/
theorem onLd_no_seat (hp : port < 8) (hl : ld < 16) (hr : memReached s port ld = true) (hn : seatOfLd s port ld = none)
    (f : Nat → State → State) :
    onLd port ld f s = .next (if s.flt.sable then sableRecord port (emit (.ldPoison port ld) s)
      else logFault { unit := 4, index := port, event := 11, action := 6, port := port } (emit (.ldPoison port ld) s)) := by
  rw [onLd, if_neg (portLd_guard hp hl), if_neg (by simp [hr]), hn]
  rfl

/-- A request that nothing holds, and that none waits before, is served (R446, R477). -/
theorem admitReq_served {n : Nat} {r : MemReq} (he : (s.lds.get (ldKey port ld)).ingress = []) (hh : heldUp s port ld n r = false) :
    admitReq port ld n r s = serveReq n r s :=
  if_neg (by simp [he, hh])

/-- A request that is held, or behind one that is, waits in its LD's ingress queue (R446, R477). -/
theorem admitReq_waits {n : Nat} {r : MemReq} (h : heldUp s port ld n r = true ∨ (s.lds.get (ldKey port ld)).ingress ≠ []) :
    admitReq port ld n r s = updLd port ld (fun d => { d with ingress := d.ingress ++ [r] }) s :=
  if_pos (by simpa using h)

end

/-- Settles O21: each message as its LD's seat, served or waiting; one shared waiting list of an LD is log entry 101. -/
theorem cxlMemMessagesAct : Obligations.CxlMemMessagesAct := by
  refine ⟨fun port ld addr mv n s hp hl hr hn he hh => ?_, fun port ld addr mv mask data n s hp hl hr hn he hh => ?_,
    fun port ld addr mv n s hp hl hr hn he hh => ?_, fun port ld addr n s hp hl hr hn he hh => ?_,
    fun port ld addr n s hp hl hr hn he hh => ?_, fun port ld addr mv mask data n s hp hl hr hn => ⟨fun hw => ?_, fun hw => ?_⟩,
    fun port ld addr s hp hl => ?_, fun port ld addr rsp block n s hp hl hr hn => onLd_seat hp hl hr hn _,
    fun port ld addr n s hp hl hr hn => ⟨fun hd => ?_, fun hd => ?_⟩, fun port ld addr mv s hp hl hr hn => onLd_no_seat hp hl hr hn _⟩
  · exact (onLd_seat hp hl hr hn _).trans (by rw [admitReq_served he hh]; rfl)
  · exact (onLd_seat hp hl hr hn _).trans (by rw [admitReq_served he hh]; rfl)
  · exact (onLd_seat hp hl hr hn _).trans (by rw [admitReq_served he hh]; rfl)
  · exact (onLd_seat hp hl hr hn _).trans (by rw [admitReq_served he hh]; rfl)
  · exact (onLd_seat hp hl hr hn _).trans (by rw [admitReq_served he hh]; rfl)
  · exact (onLd_seat hp hl hr hn _).trans (by rw [admitReq_waits hw])
  · exact (onLd_seat hp hl hr hn _).trans (by rw [admitReq_waits hw])
  · exact if_neg (portLd_guard hp hl)
  · exact (onLd_seat hp hl hr hn _).trans (by rw [biConflict, if_neg (by simp [hd])])
  · exact (onLd_seat hp hl hr hn _).trans (by rw [biConflict, if_pos hd])

/-! ### Pool-set messages and events (§16.6) -/

section
variable {member : Nat} {m : Member} {s : State}

/-- An entry out of its order is not taken (R486; log entry 106). -/
theorem execPoolsetEntry_out_of_order (hlt : member < 8) (hm : memberOf s member = some m) {seq : Nat} (hseq : seq ≠ m.applied)
    (entry : StreamEntry) : execPoolsetEntry member seq entry s = .next s := by
  rw [execPoolsetEntry, if_neg (Nat.not_le.mpr hlt), hm]
  exact if_pos (by simp [hseq])

/-- The next entry, past its checks, is served and credited (R486). -/
theorem execPoolsetEntry_next (hlt : member < 8) (hm : memberOf s member = some m) {entry : StreamEntry} (hopen : apertureOpen s = true)
    (hmem : memClosed s = false) (hwait : entryWaits entry s = false) {u : State}
    (hu : updMember member (fun x => { x with applied := (x.applied + 1) % 2 ^ 32 }) (serveEntry member m.applied entry s) = u) :
    execPoolsetEntry member m.applied entry s = .next (cohSettle (match memberOf u member with
      | some x => writeCredit x u
      | none => u)) := by
  subst hu
  rw [execPoolsetEntry, if_neg (Nat.not_le.mpr hlt), hm]
  exact if_neg (by simp [hopen, hmem, hwait])

/-- A credit beyond what is in flight is discarded (R486; log entry 106). -/
theorem execPoolsetCredit_beyond (hlt : member < 8) (hm : memberOf s member = some m) {value : Nat}
    (h : m.inFlight < (value + 2 ^ 32 - m.credit) % 2 ^ 32) : execPoolsetCredit member value s = .next s := by
  rw [execPoolsetCredit, if_neg (Nat.not_le.mpr hlt), hm]
  exact if_pos (by simp only [h, decide_true, Bool.or_true])

/-- A credit of a present member within what is in flight is taken (R486, R487). -/
theorem execPoolsetCredit_taken (hlt : member < 8) (hm : memberOf s member = some m) (hopen : apertureOpen s = true)
    (hthere : m.absent = false) {value : Nat} (h : (value + 2 ^ 32 - m.credit) % 2 ^ 32 ≤ m.inFlight) :
    execPoolsetCredit member value s = .next (takeCredit m (value % 2 ^ 32) s) := by
  rw [execPoolsetCredit, if_neg (Nat.not_le.mpr hlt), hm]
  exact if_neg (by simp only [hopen, hthere, Bool.not_true, Bool.or_false, Bool.false_or, decide_eq_true_eq, Nat.not_lt]; exact h)

end

/-- Settles O22: the entry and the credit of a member, past their checks and stopped by them. -/
theorem poolSetMessagesAct : Obligations.PoolSetMessagesAct := by
  refine ⟨fun member seq entry m s hlt hm hopen hmem hseq hwait => ?_,
    fun member seq entry m s hlt hm hseq => execPoolsetEntry_out_of_order hlt hm hseq entry,
    fun member value m s hlt hm hopen hthere h => execPoolsetCredit_taken hlt hm hopen hthere h,
    fun member value m s hlt hm h => execPoolsetCredit_beyond hlt hm h⟩
  subst hseq
  exact execPoolsetEntry_next hlt hm hopen hmem hwait rfl

section
variable {s : State}

theorem execMemberAbsent_absent {member : Nat} {m : Member} (hlt : member < 8) (hm : memberOf s member = some m) (hthere : m.absent = false)
    (hlate : (m.waiting.any fun e => !covered m.credit e.1 && e.2.1 + s.pset.setTo * 1000000 ≤ s.dev.devtime) = true) :
    execMemberAbsent member s = .next (memberAbsent m s) := by
  rw [execMemberAbsent, if_neg (Nat.not_le.mpr hlt), hm]
  exact if_pos (by rw [hthere, hlate]; rfl)

theorem execMemberRejoin_formed {member : Nat} {m : Member} (hlt : member < 8) (hm : memberOf s member = some m)
    (hformed : s.pset.phase = .formed) :
    execMemberRejoin member s =
      .next (cohSettle (rejoin m ((m.waiting.map (·.2.2) ++ m.queued).foldl (fun s e => settleAbsent e s) s))) := by
  rw [execMemberRejoin, if_neg (Nat.not_le.mpr hlt), hm]
  exact if_neg (by simp [hformed])

theorem execRebuildComplete_ends {op : Nat} {o : Op} (ho : opOf s op = some o) (hk : o.kind = .rebuild) (hr : s.pset.rebuildOp = some op)
    (found : Rebuilt) :
    execRebuildComplete op found s = .next (finishOp op .ok (updSet (fun p => { p with rebuildOp := none, rebuild := false })
      (restoreAll found s))) := by
  rw [execRebuildComplete, ho]
  exact if_pos (by simp [hk, hr])

theorem execMirrorResyncComplete_copies {region : Nat} {r : Region} {m : Member} (hr : regionOf s region = some r)
    (hm : memberOf s (partnerIx s) = some m) (hthere : m.absent = false) (hmir : r.mirrored = true) (hdeg : r.degraded = true)
    (hformed : s.pset.phase = .formed) (hwait : replicaWaits s region = false) (hbulk : bulkClosed s = false) :
    execMirrorResyncComplete region s = .next (updRegion region (fun r => { r with degraded := false }) (copyReplica r s)) := by
  rw [execMirrorResyncComplete, hr]
  dsimp only
  rw [hm]
  exact if_pos (by simp [hthere, hmir, hdeg, hformed, hwait, hbulk])

end

/-- Settles O23: each event where the state holds what it reports. -/
theorem poolSetEventsAct : Obligations.PoolSetEventsAct :=
  ⟨fun _ _ _ hlt hm hthere hlate => execMemberAbsent_absent hlt hm hthere hlate,
    fun _ hforming hop hlate => if_pos (by simp [hforming, hop, hlate]), fun _ hforming => if_pos hforming,
    fun _ _ _ hlt hm hformed => execMemberRejoin_formed hlt hm hformed, fun _ found _ _ ho hk hr => execRebuildComplete_ends ho hk hr found,
    fun _ _ _ _ hr hm hthere hmir hdeg hformed hwait hbulk =>
      execMirrorResyncComplete_copies hr hm hthere hmir hdeg hformed hwait hbulk⟩

end Sys2Proof.Machine


namespace Sys2Proof.Machine

/-! ### Losing the input, flushes and the reference clock (chapters 14, 18 to 20) -/

section
variable {s : State} {x : FlushSt}

theorem execInputLossTrigger_loses (high : Bool) (h : s.pwr.vin = true) :
    execInputLossTrigger high s = .next (inputLost (updPwr (fun p => { p with vin := false, protOpen := high }) s)) :=
  if_neg (by simp [h])

theorem execFlushDataPhaseEnd_ends (frames : Nat) (hf : s.pwr.flush = some x) (hstage : s.pwr.stage = .flushData) (hfull : x.full = true) :
    execFlushDataPhaseEnd frames s = .next (endData x frames s) := by
  rw [execFlushDataPhaseEnd, hf]
  exact if_pos (by simp [hstage, hfull])

theorem execFlushComplete_full (hf : s.pwr.flush = some x) (hfull : x.full = true) (hstage : s.pwr.stage = .flushMeta) :
    execFlushComplete s = .next (afterFlush x (bootRecord s)) := by
  rw [execFlushComplete, hf]
  exact (if_pos hfull).trans (if_pos hstage)

theorem execFlushComplete_minimal (hf : s.pwr.flush = some x) (hfull : x.full = false) (hflush : flushing s = true) :
    execFlushComplete s =
      .next (afterFlush x (updDev (fun d => { d with bootFlush := false, flushFailed := false }) (programJournal s))) := by
  rw [execFlushComplete, hf]
  exact (if_neg (by simp [hfull])).trans (if_pos hflush)

theorem execRefclkLoss_lost (hok : s.dev.refclkOk = true) (hflush : flushing s = false) :
    execRefclkLoss s =
      .next (if s.pwr.stage = .up then refclkLost (updDev (fun d => { d with refclkOk := false }) s)
        else updDev (fun d => { d with refclkOk := false }) s) := by
  rw [execRefclkLoss, if_neg (by simp [hok, hflush])]
  exact (apply_ite _ _ _ _).symm

end

/-- Settles O26: each trigger, phase end and clock event in the stage it speaks of. -/
theorem flushAndClockEventsAct : Obligations.FlushAndClockEventsAct :=
  ⟨fun high _ h => execInputLossTrigger_loses high h, fun _ h => if_pos h,
    fun frames _ _ hf hstage hfull => execFlushDataPhaseEnd_ends frames hf hstage hfull,
    fun _ _ hf => ⟨fun hfull hstage => execFlushComplete_full hf hfull hstage, fun hfull hflush => execFlushComplete_minimal hf hfull hflush⟩,
    fun _ h => if_pos h, fun _ hok hflush => execRefclkLoss_lost hok hflush, fun _ => rfl⟩

/-! ### The hold-up pack (§14.2 to §14.4) -/

section
variable {s : State}

theorem execPackPoll_silent (hp : s.hup.present = true) :
    execPackPoll none s = .next (judgePack (updHup (fun h => { h with healthy := false }) s)) :=
  if_neg (by simp [hp])

theorem execPackPoll_reads (r : PackReading) (hp : s.hup.present = true) :
    execPackPoll (some r) s = .next (judgePack (updHup (fun h => { h with
      healthy := readingOk r, temp := ofInt 8 r.tempHigh, serial := r.serial, rated := r.rated, chargeRange := tempsWithin r 0 50 }) s)) :=
  if_neg (by simp [hp])

theorem execHoldupMeasurement_recharges {e : Nat} (hp : s.hup.present = true) (hr : s.hup.chg = .ready) (hle : 100 * e ≤ 98 * s.hup.eCap) :
    execHoldupMeasurement e s = .next (setCeiling (updHup (fun h => { h with chg := .charging, stopped := false })
      (updHup (fun h => { h with eStored := e }) s))) := by
  rw [execHoldupMeasurement, if_neg (by simp [hp])]
  refine congrArg Host.Outcome.next (congrArg setCeiling (if_pos ?_))
  simp [updHup, hr, hle]

theorem execHoldupMeasurement_keeps {e : Nat} (hp : s.hup.present = true) (h : s.hup.chg = .ready → 98 * s.hup.eCap < 100 * e) :
    execHoldupMeasurement e s = .next (setCeiling (updHup (fun h => { h with eStored := e }) s)) := by
  rw [execHoldupMeasurement, if_neg (by simp [hp])]
  refine congrArg Host.Outcome.next (congrArg setCeiling (if_neg fun hlow => ?_))
  obtain ⟨hr, hle⟩ := Bool.and_eq_true_iff.mp hlow
  exact Nat.not_lt.mpr (of_decide_eq_true hle) (h (of_decide_eq_true hr))

theorem execPackInsert_absent (hp : s.hup.present = false) :
    execPackInsert s = .next (clearCause 12 (startTest none
      (updHup (fun h => { h with present := true, healthy := true, tested := false, low := false, eCap := 0, eStored := 0 }) s))) :=
  if_neg (by simp [hp])

theorem execPackRemove_quiet (written : Nat) (hp : s.hup.present = true) (hf : s.pwr.flush = none) :
    execPackRemove written s = .next (packGone s) := by
  rw [execPackRemove, if_neg (by simp [hp]), hf]

theorem execPackRemove_flushing {x : FlushSt} (written : Nat) (hp : s.hup.present = true) (hf : s.pwr.flush = some x) (hfull : x.full = true)
    (hvin : s.pwr.vin = false) (hstage : s.pwr.stage = .flushData) :
    execPackRemove written s = .next (flushFails x (packGone (flushFrames ((flushOrder s).take written) s))) := by
  rw [execPackRemove, if_neg (by simp [hp]), hf]
  dsimp only
  rw [if_pos (by simp [hfull, hvin]), if_pos hstage]

theorem execChargeComplete_ready (hp : s.hup.present = true) (hon : s.hup.stopped = false) (hrange : s.hup.chargeRange = true)
    (hchg : s.hup.chg = .charging) : execChargeComplete s = .next (updHup (fun h => { h with chg := .ready }) s) := by
  rw [execChargeComplete, if_neg (by simp [hp, hon, hrange]), hchg]

theorem execChargeComplete_rest (hp : s.hup.present = true) (hon : s.hup.stopped = false) (hrange : s.hup.chargeRange = true)
    (hchg : s.hup.chg = .testing) (hstep : s.hup.step = .charge) :
    execChargeComplete s = .next (updHup (fun h => { h with step := .rest }) s) := by
  rw [execChargeComplete, if_neg (by simp [hp, hon, hrange]), hchg, hstep]

theorem execChargerCurrentLoss_stops (h : s.hup.chg = .charging ∨ s.hup.chg = .testing ∧ s.hup.step = .charge) :
    execChargerCurrentLoss s = .next (updHup (fun h => { h with stopped := true }) s) := by
  rw [execChargerCurrentLoss]
  obtain hchg | ⟨hchg, hstep⟩ := h
  · rw [hchg]
  · rw [hchg, hstep]

theorem execTestDue_starts (hp : s.hup.present = true) (hchg : s.hup.chg = .charging ∨ s.hup.chg = .ready)
    (hdue : s.hup.lastTest + periodSeconds s ≤ s.dev.parkClock) : execTestDue s = .next (startTest none s) :=
  if_pos (by simp [hp, hchg, hdue])

theorem execTestRestEnd_discharges (hchg : s.hup.chg = .testing) (hstep : s.hup.step = .rest) :
    execTestRestEnd s = .next (updHup (fun h => { h with step := .discharge }) s) :=
  if_pos (by simp [hchg, hstep])

/-- The pack with the capacity its discharge test measured, in mJ. -/
def tested (energy : Nat) (s : State) : State :=
  updHup (fun h => { h with
    chg := .charging, step := .waiting, eCap := energy, tested := true, lastTest := s.dev.parkClock, low := energy < 643000 }) s

/-- What a discharge test found, judged in the order of R408 and R410. -/
theorem execTestDischargeEnd_judges (energy : Nat) (hchg : s.hup.chg = .testing) (hstep : s.hup.step = .discharge) :
    let u := if energy < 2880000 then causeFault 14 { cls := 1, unit := 11, event := 19, detail := energy / 1000 } (tested energy s)
      else clearCause 14 (tested energy s)
    execTestDischargeEnd energy s = .next (endTestOp .ok (if energy < 643000 then packFaulted u else setCeiling u)) :=
  if_pos (by simp [hchg, hstep])

end

/-- Settles O27: each event of the pack where the state has it, the measurement and the test's end by the energy found. -/
theorem holdupEventsAct : Obligations.HoldupEventsAct := by
  refine ⟨fun s hp => execPackPoll_silent hp, fun r s hp => execPackPoll_reads r hp, fun e s hp => ⟨fun hr hle => ?_, fun hr => ?_, fun hlt => ?_⟩,
    fun s hp => execPackInsert_absent hp, fun written s hp hf => execPackRemove_quiet written hp hf,
    fun written x s hp hf hfull hvin hstage => execPackRemove_flushing written hp hf hfull hvin hstage,
    fun s hp hon hrange => ⟨fun hchg => execChargeComplete_ready hp hon hrange hchg,
      fun hchg hstep => execChargeComplete_rest hp hon hrange hchg hstep⟩,
    fun s h => execChargerCurrentLoss_stops h, fun s hp hchg hdue => execTestDue_starts hp hchg hdue,
    fun s hchg hstep => execTestRestEnd_discharges hchg hstep, fun energy s hchg hstep => ⟨fun hlow => ?_, fun hlow haged => ?_, fun hgood => ?_⟩⟩
  · exact execHoldupMeasurement_recharges hp hr hle
  · exact execHoldupMeasurement_keeps hp fun h => absurd h hr
  · exact execHoldupMeasurement_keeps hp fun _ => hlt
  · exact (execTestDischargeEnd_judges energy hchg hstep).trans (by rw [if_pos hlow, if_pos (by omega)]; rfl)
  · exact (execTestDischargeEnd_judges energy hchg hstep).trans (by rw [if_neg (by omega), if_pos haged]; rfl)
  · exact (execTestDischargeEnd_judges energy hchg hstep).trans (by rw [if_neg (by omega), if_neg (by omega)]; rfl)

/-! ### Temperatures, converters, rails, phases and over-current (chapters 18 and 19) -/

section
variable {s : State}

theorem execOverTemperature_fatal {location : Nat} (hlt : location < 3) :
    execOverTemperature location s =
      .next (fatal true false { unit := 14, index := location, event := 9, detail := (openValue s).1 } (openValue s).2) :=
  if_neg (Nat.not_le.mpr hlt)

theorem execConverterLoss_fatal {bc : Nat} (hlt : bc < 2) (hnew : s.pwr.bcLost.contains bc = false) :
    execConverterLoss bc s =
      .next (fatal true true { unit := 10, index := bc, event := 17 } (updPwr (fun p => { p with bcLost := p.bcLost ++ [bc] }) s)) := by
  rw [execConverterLoss, if_neg (Nat.not_le.mpr hlt)]
  exact if_neg (by rw [hnew]; exact Bool.false_ne_true)

theorem execRailOutOfWindow_fatal {rail : Nat} {high : Bool} (hlt : rail < 9) (hhigh : high = true → rail = 0) :
    execRailOutOfWindow rail high s =
      .next (fatal true false { unit := 9, index := rail, event := 17, detail := (openValue s).1 } (openValue s).2) := by
  rw [execRailOutOfWindow, if_neg (Nat.not_le.mpr hlt)]
  exact if_neg (by simpa using hhigh)

theorem execPhaseFault_off {phase : Nat} (hlt : phase < 120) (hnew : s.pwr.phasesOff.contains phase = false) :
    let u := causeFault 10 { cls := 1, unit := 8, index := phase, event := 15, action := 3 }
      (updPwr (fun p => { p with phasesOff := p.phasesOff ++ [phase] }) s)
    execPhaseFault phase s = .next (if phasesShort u then fatal true true { unit := 8, index := phase, event := 17 } u else u) := by
  rw [execPhaseFault, if_neg (Nat.not_le.mpr hlt)]
  exact if_neg (by rw [hnew]; exact Bool.false_ne_true)

theorem execThrottleEngage_throttles {region : Nat} (hlt : region < 58) (hup : s.pwr.stage = .up)
    (hnew : s.pwr.throttled.contains region = false) :
    execThrottleEngage region s =
      .next (logFault { unit := 3, index := region, event := 7, action := 4, detail := (openValue s).1 }
        (updPwr (fun p => { p with throttled := p.throttled ++ [region], winThrottle := true }) (openValue s).2)) := by
  rw [execThrottleEngage, if_neg (Nat.not_le.mpr hlt)]
  exact if_neg (by rw [hnew, hup]; decide)

theorem execThrottleRelease_releases {region : Nat} (hlt : region < 58) :
    execThrottleRelease region s = .next (updPwr (fun p => { p with throttled := p.throttled.filter (· != region) }) s) :=
  if_neg (Nat.not_le.mpr hlt)

theorem execTripHoldEnd_resumes {region : Nat} (hlt : region < 58) :
    execTripHoldEnd region s = .next (updPwr (fun p => { p with held := p.held.filter (· != region) }) s) :=
  if_neg (Nat.not_le.mpr hlt)

/-- A trip of a region in service is counted: the third makes it fail, the others hold it. -/
theorem execOverCurrentTrip_counts {region : Nat} (hlt : region < 58) (hrun : s.pwr.stage = .up ∨ flushing s = true)
    (hheld : s.pwr.held.contains region = false) (hwell : s.pwr.failed.contains region = false) :
    let c := countFailure (regionLoc region) false s
    execOverCurrentTrip region s =
      if 3 ≤ c.2 then .next (failRegion region c.2 (if 56 ≤ region then c.1 else updPwr (fun p => { p with winTrip := true }) c.1))
      else .next (tripRegion region c.2 c.1) := by
  rw [execOverCurrentTrip, if_neg (Nat.not_le.mpr hlt)]
  have hon : (decide (s.pwr.stage = .up) || flushing s) = true := by rwa [Bool.or_eq_true, decide_eq_true_eq]
  exact if_neg (by rw [hon, hheld, hwell]; decide)

end

/-- Settles O28: each protection event of a unit that exists and has not shown it yet. -/
theorem powerProtectionEventsAct : Obligations.PowerProtectionEventsAct := by
  refine ⟨fun location s hlt => execOverTemperature_fatal hlt, fun bc s hlt hnew => execConverterLoss_fatal hlt hnew,
    fun rail high s hlt hhigh => execRailOutOfWindow_fatal hlt hhigh, fun phase s hlt hnew => execPhaseFault_off hlt hnew,
    fun region s hlt hup hnew => execThrottleEngage_throttles hlt hup hnew, fun region s hlt => execThrottleRelease_releases hlt,
    fun region s hlt hrun hheld hwell => ⟨fun hfew => ?_, fun hmany hcf => ?_, fun hmany hcf => ?_⟩,
    fun region s hlt => execTripHoldEnd_resumes hlt⟩
  all_goals refine (execOverCurrentTrip_counts hlt hrun hheld hwell).trans ?_
  · exact if_neg (Nat.not_le.mpr hfew)
  · exact (if_pos hmany).trans (by rw [if_pos hcf])
  · exact (if_pos hmany).trans (by rw [if_neg (Nat.not_le.mpr hcf)])

end Sys2Proof.Machine


namespace Sys2Proof.Machine

/-! ### Starts and resets (chapters 18 to 20) -/

section
variable {s : State}

theorem execRailGood_next (hramp : s.pwr.stage = .ramping) (h : s.pwr.rails < 9) :
    execRailGood s = .next (updPwr (fun p => { p with rails := p.rails + 1 }) s) := by
  rw [execRailGood, if_neg (by simp [hramp]), if_pos h]

theorem execRailGood_last (hramp : s.pwr.stage = .ramping) (h : 9 ≤ s.pwr.rails) :
    execRailGood s = .next (coldWait (if s.dev.nextCause = 4 then 4 else 1) s) := by
  rw [execRailGood, if_neg (by simp [hramp]), if_neg (Nat.not_lt.mpr h)]

theorem execPwrEnDeassert_flushes (hen : s.pwr.pwrEn = true)
    (hlive : live (updPwr (fun p => { p with pwrEn := false, startStopped := false, fatalOff := false }) s) = true) :
    execPwrEnDeassert s = .next (beginFlush .pwrEn true false
      (updPwr (fun p => { p with pwrEn := false, startStopped := false, fatalOff := false }) s)) := by
  rw [execPwrEnDeassert, if_neg (by simp [hen])]
  exact if_pos hlive

theorem execPwrEnDeassert_off (hen : s.pwr.pwrEn = true)
    (hlive : live (updPwr (fun p => { p with pwrEn := false, startStopped := false, fatalOff := false }) s) = false)
    (hflush : flushing (updPwr (fun p => { p with pwrEn := false, startStopped := false, fatalOff := false }) s) = false)
    (hon : (updPwr (fun p => { p with pwrEn := false, startStopped := false, fatalOff := false }) s).pwr.stage ≠ .off) :
    execPwrEnDeassert s = .next (railsOff (updPwr (fun p => { p with pwrEn := false, startStopped := false, fatalOff := false }) s)) := by
  rw [execPwrEnDeassert, if_neg (by simp [hen])]
  exact (if_neg (by simp [hlive])).trans (if_neg (by simp [hflush, hon]))

theorem execFwReady_reloads (hup : s.pwr.stage = .up) (hrec : s.dev.recovery = false) (hlock : s.dev.rootLock = true)
    (hdue : reloadDue s = true) : execFwReady s = .next (serveFirmware (reload s)) := by
  rw [execFwReady, if_neg (by simp [hup, hrec, hlock]), if_pos hdue]

theorem execFwReady_serves (hup : s.pwr.stage = .up) (hrec : s.dev.recovery = false) (hlock : s.dev.rootLock = true)
    (hdue : reloadDue s = false) (hfw : s.dev.fwReady = false) : execFwReady s = .next (serveFirmware s) := by
  rw [execFwReady, if_neg (by simp [hup, hrec, hlock]), if_neg (by simp [hdue]), if_neg (by simp [hfw])]

/-- A restore after a flush under way: what is read back next is usable again, or the restore has ended. -/
theorem execRestoreComplete_restores (hmem : s.dev.memActive = true) (hmap : s.dev.mapReady = true) (hsable : s.flt.sable = false)
    (hswap : (s.swap.any (·.restore)) = true) :
    (∀ id rest, s.dev.restoreRegions = id :: rest →
      let u := updRegion id (fun r => { r with st := .held }) (readHomes (mappedHomes s (homeOfRegion id)) s)
      execRestoreComplete s = .next (releaseWrites (nextRestore { u with dev := { u.dev with restoreRegions := rest } }))) ∧
    (∀ p rest, s.dev.restoreRegions = [] → s.dev.restoreParts = p :: rest → execRestoreComplete s =
      .next (releaseWrites (nextRestore (partRestored p { s with dev := { s.dev with restoreParts := rest } })))) ∧
    (s.dev.restoreRegions = [] → s.dev.restoreParts = [] → execRestoreComplete s = .next { s with swap := none }) := by
  rw [execRestoreComplete, if_neg (by simp only [hmem, hmap, hsable, hswap]; decide)]
  refine ⟨fun id rest h => ?_, fun p rest h hp => ?_, fun h hp => ?_⟩
  · rw [h]
  · rw [h, hp]
  · rw [h, hp]

end

/-- Settles O25: each event of the start and of the resets in the stage it speaks of. -/
theorem startAndResetEventsAct : Obligations.StartAndResetEventsAct :=
  ⟨fun _ hvin hopen => if_neg (by simp [hvin, hopen]), fun _ h => if_pos h, fun _ h => if_neg (by simp [h]),
    fun _ hramp => ⟨fun h => execRailGood_next hramp h, fun h => execRailGood_last hramp h⟩,
    fun _ hramp => if_neg (by simp [hramp]), fun _ => rfl, fun _ h => if_pos h,
    fun _ hup hrec => if_pos (by simp [updPwr, hup, hrec]), fun _ h => if_pos h,
    fun _ hen => ⟨fun hlive => execPwrEnDeassert_flushes hen hlive, fun hlive hflush hon => execPwrEnDeassert_off hen hlive hflush hon⟩,
    fun _ hup hok => if_pos (by simp [hup, hok]), fun _ hup hlock => if_pos (by simp [hup, hlock]),
    fun _ hup hrec hlock => ⟨fun hdue => execFwReady_reloads hup hrec hlock hdue,
      fun hdue hfw => execFwReady_serves hup hrec hlock hdue hfw⟩,
    fun _ hup hport hrec hmem => if_pos (by simp [hup, hport, hrec, hmem]), fun _ hmem hmap => if_pos (by simp [hmem, hmap]),
    fun _ hfw hmem hmap hopen hsable => if_pos (by simp [hfw, hmem, hmap, hopen, hsable]),
    fun _ hmem hmap hsable hswap => execRestoreComplete_restores hmem hmap hsable hswap⟩

/-! ### Ports (chapter 2) -/

section
variable {s : State} {port : Nat}

/-- A port that may train and shares a width and a speed with its partner is up on them after the training. -/
theorem execLinkTrainingComplete_comes_up {o : Offer} (hp : port < 8) (hdown : (s.ports.get port).linkUp = false)
    (hret : (s.ports.get port).retired = false) (hheld : s.pwr.held.contains (48 + port) = false)
    (hlock : s.dev.portLock / 2 ^ port % 2 ≠ 0) (hrec : s.dev.recovery = false) (hw : 0 < trainWidth (s.ports.get port) o)
    (h0 : 0 < o.speed) (h6 : o.speed ≤ 6) :
    ∃ t, execLinkTrainingComplete port o s = .next t ∧ (t.ports.get port).linkUp = true ∧
      (t.ports.get port).width = trainWidth (s.ports.get port) o ∧ (t.ports.get port).speed = o.speed ∧
      (t.ports.get port).cxlMode = (o.cxl && decide (o.speed ≤ 4)) := by
  have hfree : ¬ ((s.ports.get port).linkUp || (s.ports.get port).retired || s.pwr.held.contains (48 + port) ||
      decide (s.dev.portLock / 2 ^ port % 2 = 0) || s.dev.recovery) = true := by
    rw [hdown, hret, hheld, hrec, decide_eq_false hlock]
    exact Bool.false_ne_true
  unfold execLinkTrainingComplete
  rw [if_neg (Nat.not_le.mpr hp)]
  extract_lets p w cxl s1 s2 s3
  have hw0 : 0 < w := hw
  rw [if_neg hfree, if_neg (by simp only [Bool.or_eq_true, decide_eq_true_eq]; omega)]
  have keeps : ∀ {β : Type} (g : State → β), (∀ m u, g (emit m u) = g u) → (∀ f u, g (updCoh f u) = g u) →
      (∀ q l f u, g (updLd q l f u) = g u) → g s3 = g s1 := by
    intro β g hemit hcoh hld
    refine (sendHeldSnoops_keeps g hemit hcoh port s2).trans ?_
    show g (if _ then _ else _) = _
    split
    · exact foldl_keeps g (fun _ _ => hld ..) ..
    · rfl
  have h3 : s3.ports.get port = _ :=
    (keeps (fun u => u.ports.get port) (fun _ _ => rfl) (fun _ _ => rfl) fun _ _ _ _ => rfl).trans (Tab.get_upd_self ..)
  refine ⟨recordTraining port o s3, ?_, ?_⟩
  · unfold recordTraining
    split
    · rfl
    · split <;> rfl
  · rw [recordTraining_ports, h3]
    exact ⟨rfl, rfl, rfl, rfl⟩

theorem execRecoveryEntry_records (hp : port < 8) (hup : (s.ports.get port).linkUp = true) :
    execRecoveryEntry port s = .next (logFault { unit := 4, index := port, event := 3, action := 1, port := port } s) := by
  rw [execRecoveryEntry, if_neg (Nat.not_le.mpr hp), if_pos hup]

theorem execLaneGroupFailure_counts {high : Bool} (hard : Bool) (hp : port < 8) (hus : groupUsable s port high = true) :
    let c := countFailure { unit := 4, index := port, place := bit high } false s
    execLaneGroupFailure port high hard s =
      if hard || 3 ≤ c.2 then .next (retireGroup port high c.2 c.1)
      else .next (logFault { unit := 4, index := port, event := 4, count := c.2, action := 1, port := port, location := groupMask high } c.1) := by
  rw [execLaneGroupFailure, if_neg (Nat.not_le.mpr hp)]
  exact if_neg (by simp [hus])

theorem execIdeIntegrityFailure_stops (hp : port < 8) (hup : (s.ports.get port).linkUp = true)
    (hkey : ((s.ports.get port).ideKey.isSome || (s.ports.get port).ioKey.isSome) = true) (hok : (s.ports.get port).ideFailed = false) :
    execIdeIntegrityFailure port s =
      .next (emit (.aer port) (logFault { unit := 4, index := port, event := 13, action := 6, port := port } (stopForIde port s))) := by
  rw [execIdeIntegrityFailure, if_neg (Nat.not_le.mpr hp)]
  exact if_pos (by rw [hup, hkey, hok]; rfl)

theorem execHotReset_resets (hp : port < 8) (hup : (s.ports.get port).linkUp = true) :
    execHotReset port s = .next (resetPort port s) := by
  rw [execHotReset, if_neg (Nat.not_le.mpr hp), if_pos hup]

theorem execLinkDisable_resets (hp : port < 8) (hup : (s.ports.get port).linkUp = true) :
    execLinkDisable port s = .next (updPort port (fun p => { p with disabled := true }) (resetPort port s)) := by
  rw [execLinkDisable, if_neg (Nat.not_le.mpr hp), if_pos hup]

theorem execSurpriseLinkDown_resets (hp : port < 8) (hup : (s.ports.get port).linkUp = true) :
    execSurpriseLinkDown port s = .next (resetPort port s) := by
  rw [execSurpriseLinkDown, if_neg (Nat.not_le.mpr hp), if_pos hup]

theorem ldReset_seat {ld n : Nat} (hp : port < 8) (hl : ld < 16) (hreach : ldReached s port ld = true) (hn : seatOfLd s port ld = some n) :
    ldReset port ld s = .next (seatReset n s) := by
  rw [ldReset, if_neg (by simp [hp, hl]), if_neg (by simp [hreach]), hn]

theorem execGpfPhase1_done (hp : port < 8) (hup : (s.ports.get port).linkUp = true) :
    execGpfPhase1 port s = .next (emit (.gpfDone port 1) s) := by
  rw [execGpfPhase1, if_neg (Nat.not_le.mpr hp), if_pos hup]

theorem execGpfPhase2_begins (hp : port < 8) (hup : (s.ports.get port).linkUp = true) (hnew : s.pwr.gpf.contains port = false) :
    execGpfPhase2 port s = .next (gpfSettle (updPwr (fun p => { p with gpf := p.gpf ++ [port] }) s)) := by
  rw [execGpfPhase2, if_neg (Nat.not_le.mpr hp)]
  exact if_pos (by rw [hup, hnew]; rfl)

theorem execGpfPhase2Deadline_first {rest : List Nat} (h : s.pwr.gpf = port :: rest) :
    execGpfPhase2Deadline s = .next (emit (.gpfDone port 2) (updPwr (fun w => { w with gpf := rest }) (programJournal s))) := by
  rw [execGpfPhase2Deadline, h]

end

/-- Settles O24: training, failures, resets and GPF of a port whose link is as the event needs it. -/
theorem portEventsAct : Obligations.PortEventsAct := by
  refine ⟨fun port offer s hp hdown hret hheld hlock hrec hw h0 h6 =>
      execLinkTrainingComplete_comes_up hp hdown hret hheld hlock hrec hw h0 h6,
    fun port s hp hup => execRecoveryEntry_records hp hup, fun port high hard s hp hus => ⟨fun h => ?_, fun hsoft hfew => ?_⟩,
    fun port s hp hup hkey hok => execIdeIntegrityFailure_stops hp hup hkey hok, fun port s hp hup => execHotReset_resets hp hup,
    fun port s hp hup => execLinkDisable_resets hp hup, fun port s hp hup => execSurpriseLinkDown_resets hp hup,
    fun port ld n s hp hl hreach hn => ldReset_seat hp hl hreach hn, fun port ld n s hp hl hreach hn => ldReset_seat hp hl hreach hn,
    fun port s hp hup => execGpfPhase1_done hp hup, fun port s hp hup hnew => execGpfPhase2_begins hp hup hnew,
    fun port rest s h => execGpfPhase2Deadline_first h⟩
  · exact (execLaneGroupFailure_counts hard hp hus).trans (if_pos (by simpa using h))
  · exact (execLaneGroupFailure_counts hard hp hus).trans (if_neg (by simpa [hsoft] using hfew))

end Sys2Proof.Machine


namespace Sys2Proof.Machine

/-! ### The management path (§18.7) -/

section
variable {s : State}

theorem busPowered_of_on (hon : s.pwr.stage ≠ .off) : busPowered s = true := by
  simp [busPowered, hon]

theorem execMctpControlMessage_on (cmd : MctpCmd) (hon : s.pwr.stage ≠ .off) :
    execMctpControlMessage cmd s = .next (mctpAnswer cmd s) :=
  if_pos (busPowered_of_on hon)

theorem mctpAnswer_setEndpointId {eid : Nat} (h8 : 8 ≤ eid) (h254 : eid ≤ 254) :
    mctpAnswer (.setEndpointId eid) s = emit (.mctp 1 [pldmSuccess, eid]) (updMgmt (fun m => { m with eid := eid }) s) :=
  if_neg (by simp only [Bool.or_eq_true, decide_eq_true_eq]; omega)

theorem execI3cAddressAssignment_entdaa {addr : Nat} (hon : s.pwr.stage ≠ .off) (hnone : s.mgmt.addr = 0) (hlt : addr < 128) :
    execI3cAddressAssignment (.entdaa addr) s = .next (updMgmt (fun m => { m with addr := addr }) s) := by
  rw [execI3cAddressAssignment, if_neg (by simp [busPowered_of_on hon, hnone])]
  simp only [Nat.mod_eq_of_lt hlt]

theorem execI3cAddressAssignment_setdasa {addr : Nat} (hon : s.pwr.stage ≠ .off) (hnone : s.mgmt.addr = 0) (hlt : addr < 128) :
    execI3cAddressAssignment (.setdasa (0x50 + Config.addrPins.toNat) addr) s = .next (updMgmt (fun m => { m with addr := addr }) s) := by
  rw [execI3cAddressAssignment, if_neg (by simp [busPowered_of_on hon, hnone])]
  rw [if_pos rfl, Nat.mod_eq_of_lt hlt]

theorem execPldmBaseRequest_on (req : PldmBase) (hon : s.pwr.stage ≠ .off) :
    execPldmBaseRequest req s = .next (pldmBaseAnswer req s) :=
  if_pos (busPowered_of_on hon)

theorem pldmBaseAnswer_setTid {tid : Nat} (h1 : 1 ≤ tid) (h254 : tid ≤ 254) :
    pldmBaseAnswer (.setTid tid) s = emit (.pldm 0 [pldmSuccess]) (updMgmt (fun m => { m with tid := tid }) s) :=
  if_neg (by simp only [Bool.or_eq_true, decide_eq_true_eq]; omega)

/-- A sensor that may be read now: a standby sensor in any power condition but off, another once the cores serve (R530, R582). -/
theorem execPldmSensorRead_answers {sensor : PldmSensor} (reading : Nat) (hon : s.pwr.stage ≠ .off) (hrec : s.dev.recovery = false)
    (hserves : (standbySensor sensor || s.dev.fwReady) = true) :
    execPldmSensorRead sensor reading s = .next (sensorAnswer sensor reading s) := by
  rw [execPldmSensorRead, if_neg (by simp [busPowered_of_on hon]), if_neg (by rw [hrec, hserves]; exact Bool.false_ne_true)]

theorem sensorAnswer_pollEvent {ev : List Nat} {rest : List (List Nat)} (reading : Nat) (hq : s.pldmQueue = ev :: rest) :
    sensorAnswer .pollEvent reading s = emit (.pldm 2 (pldmSuccess :: ev)) { s with pldmQueue := rest } := by
  simp only [sensorAnswer, hq]

theorem execPldmFirmwareUpdate_begins {size : Nat} (hon : s.pwr.stage ≠ .off) (hfw : s.dev.fwReady = true) (hrec : s.dev.recovery = false)
    (hw : s.flt.writing = none) (ha : s.flt.activating = none) (h0 : 0 < size) (hmax : size ≤ 67108864) :
    execPldmFirmwareUpdate size s = .next
      (updFlt (fun f => { f with writing := some none }) (updInactive (fun _ => wipeImage size s) { s with freeCtr := s.freeCtr + 1 })) := by
  rw [execPldmFirmwareUpdate, if_neg (by simp [busPowered_of_on hon]), if_neg (by simp [updateServes, hfw, hw, ha]),
    if_neg (by simp only [Bool.or_eq_true, decide_eq_true_eq]; omega)]
  refine congrArg Host.Outcome.next (congrArg (updFlt _) (if_neg ?_))
  rw [hrec]
  exact Bool.false_ne_true

/-- The inactive image may be activated when it is valid and no image is written or activated (R609). -/
theorem activateCheck_passes (hw : s.flt.writing = none) (ha : s.flt.activating = none) (hvalid : (inactiveImage s).valid = true) :
    activateCheck s = none := by
  simp [activateCheck, hw, ha, hvalid]

theorem execPldmActivateFirmware_begins (hon : s.pwr.stage ≠ .off) (hfw : s.dev.fwReady = true) (hrec : s.dev.recovery = false)
    (hrestart : s.flt.restarting = false) (hcheck : activateCheck s = none) :
    execPldmActivateFirmware s = .next (beginActivation none (emit (.pldm 5 [pldmSuccess]) s)) := by
  rw [execPldmActivateFirmware, if_neg (by simp [busPowered_of_on hon]), if_neg (by simp [updateServes, hfw, hrestart]),
    if_neg (by simp [hrec]), hcheck]

theorem execCarmirRelay_serves (bodyLen tag hostTime : Nat) (cmd : RelayCmd) (hon : s.pwr.stage ≠ .off) (hfw : s.dev.fwReady = true) :
    execCarmirRelay 3 2 bodyLen tag hostTime cmd s = .next (relayCmd bodyLen tag hostTime cmd s) := by
  rw [execCarmirRelay, if_neg (by simp [busPowered_of_on hon]), if_neg (by simp [hfw])]
  exact if_neg (by decide)

end

/-- Settles O18: each message while the module answers on its management bus. -/
theorem managementMessagesAnswer : Obligations.ManagementMessagesAnswer :=
  ⟨fun _ _ hon h8 h254 => (execMctpControlMessage_on _ hon).trans (congrArg _ (mctpAnswer_setEndpointId h8 h254)),
    fun _ hon => execMctpControlMessage_on _ hon,
    fun _ _ hon hnone hlt => execI3cAddressAssignment_entdaa hon hnone hlt, fun _ _ hon hnone hlt => execI3cAddressAssignment_setdasa hon hnone hlt,
    fun _ _ hon h1 h254 => (execPldmBaseRequest_on _ hon).trans (congrArg _ (pldmBaseAnswer_setTid h1 h254)),
    fun _ hon => execPldmBaseRequest_on _ hon, fun reading _ hon hrec => execPldmSensorRead_answers reading hon hrec rfl,
    fun reading _ _ _ hon hrec hfw hq => (execPldmSensorRead_answers (sensor := .pollEvent) reading hon hrec hfw).trans (congrArg _ (sensorAnswer_pollEvent reading hq)),
    fun _ _ hon hfw hrec hw ha h0 hmax => execPldmFirmwareUpdate_begins hon hfw hrec hw ha h0 hmax,
    fun _ hon hfw hrec hw ha hrestart hvalid => execPldmActivateFirmware_begins hon hfw hrec hrestart (activateCheck_passes hw ha hvalid),
    fun bodyLen tag hostTime cmd _ hon hfw => execCarmirRelay_serves bodyLen tag hostTime cmd hon hfw,
    fun bodyLen tag hostTime code _ hon hfw => execCarmirRelay_serves bodyLen tag hostTime (.other code) hon hfw⟩

end Sys2Proof.Machine


namespace Sys2Proof.Machine

/-! ### Idle gating, telemetry, usage and the park clock (chapters 5, 11, 16 and 19) -/

section
variable {s : State}

theorem execTelemetryWindowEnd_latches (currents : List Nat) (hup : s.pwr.stage = .up) (hdue : (s.tel.window + 1) * 10 ^ 6 ≤ s.dev.devtime) :
    let n := s.dev.devtime / 10 ^ 6 - 1
    let cs := (List.range 9).map fun i => min 65535 (currents.getD i 0)
    let r := ((n + 1) * 10 ^ 6, telFlags s cs, n % 2 ^ 32, cs)
    execTelemetryWindowEnd currents s = .next (telRingWrite n (telBytes r)
      (updPwr (fun p => { p with winThrottle := !p.throttled.isEmpty, winTrip := false, winWake := false })
        { s with tel := { s.tel with window := n + 1, latest := some r } })) := by
  rw [execTelemetryWindowEnd]
  exact if_neg (by rw [hup, decide_eq_false (Nat.not_lt.mpr hdue)]; decide)

theorem execParkExpiry_frees (hmem : s.dev.memActive = true) :
    execParkExpiry s = .next ((s.parks.filter (parkExpired s)).foldl (fun s k => postNotice k.seat (expiredNotice k) (freePark k s)) s) :=
  if_neg (by simp [hmem])

end

/-- Settles O29: each event at its time, and those that have no condition always. -/
theorem idleTelemetryAndClockEventsAct : Obligations.IdleTelemetryAndClockEventsAct :=
  ⟨fun _ hup hmem hgate hidle hus hdue => if_pos (by simp [hup, hmem, hgate, hidle, hus, hdue]), fun _ h => if_pos h,
    fun currents _ hup hdue => execTelemetryWindowEnd_latches currents hup hdue, fun _ _ _ hp => if_neg (Nat.not_le.mpr hp),
    fun _ _ hp => if_neg (Nat.not_le.mpr hp), fun _ h => if_pos h, fun _ => rfl, fun _ hmem => execParkExpiry_frees hmem, fun _ => rfl⟩

/-! ### The service of items, draws and the step boundary (chapters 6, 9 and 10) -/

section
variable {s : State} {p i : Nat} {it : Item}

theorem execItemExpiry_expires (hin : s.svc.inService = some (p, i)) (hit : itemOf s p i = some it) (hrec : it.rec? = none)
    (hdue : it.since + 1000 * (s.parts.get p).step.waitUs ≤ s.dev.devtime)
    (hroom : canComplete s (s.parts.get p).step.ownerSeat (s.parts.get p).step.ownerRing 1 = true) :
    execItemExpiry s = .next (pump (expireItem p i s)) := by
  rw [execItemExpiry, hin]
  dsimp only
  rw [hit]
  exact if_pos (by simp [hrec, hdue, hroom])

theorem execStagingComplete_fills {h : Half} (hon : arraysHalted s = false) (hh : stagingHalf s = some h) (hit : itemOf s h.part h.idx = some it) :
    let bad := (passOf s h.part it h.pass).any fun r => sliceDamaged s h.part it.layer (reachSlot s it.handle r)
    let u := if bad then updItem h.part h.idx (fun it => { it with bad := true }) s else s
    execStagingComplete s =
      .next (pump { u with svc := { u.svc with halfA := readyHalf h u.svc.halfA, halfB := readyHalf h u.svc.halfB } }) := by
  rw [execStagingComplete, if_neg (by simp [hon]), hh]
  dsimp only
  rw [hit]

theorem execItemComputeComplete_passes (hon : arraysHalted s = false) (hin : s.svc.inService = some (p, i)) (hit : itemOf s p i = some it)
    (hatt : (s.parts.get p).step.deliver = false) (hstart : it.started.isSome = true) (hend : it.ending = none) (hrec : it.record = none)
    (hready : passReady s p i it.passes = true) :
    let u := updItem p i (fun it => { it with passes := it.passes + 1 }) (freePass p i it.passes s)
    execItemComputeComplete s = .next (pump (if it.passes + 1 < itemPasses u p it then u else writeResult p i it u)) := by
  rw [execItemComputeComplete, if_neg (by simp [hon]), hin]
  dsimp only
  rw [hit]
  exact if_neg (by simp [hatt, Option.isSome_iff_ne_none.mp hstart, hend, hrec, hready])

theorem execDeliverPushComplete_damaged (hp : pushing s = some (p, i, it)) (hon : hbmHalted s = false)
    (hbad : ((List.range (itemAll s p it)).any fun r => sliceDamaged s p it.layer (reachSlot s it.handle r)) = true) :
    execDeliverPushComplete s = .next (pump (readerFault (endItem p i .invalid s) p it.handle 2 .invalid)) := by
  rw [execDeliverPushComplete, hp]
  exact (if_neg (by simp [hon])).trans (if_pos hbad)

/-- A delivery of undamaged slices goes by its window and by the ports that carry it. -/
theorem execDeliverPushComplete_undamaged (hp : pushing s = some (p, i, it)) (hon : hbmHalted s = false)
    (hgood : ((List.range (itemAll s p it)).any fun r => sliceDamaged s p it.layer (reachSlot s it.handle r)) = false) :
    execDeliverPushComplete s =
      match windowOf s (s.parts.get p).step.ownerSeat (s.parts.get p).step.window with
      | none => .next (pump (readerFault (endItem p i .invalid s) p it.handle 11 .invalid))
      | some w =>
        if it.ports.isEmpty then .next (pump (readerFault (endItem p i .invalid s) p it.handle 11 .invalid))
        else
          let t := pushSlices w it p s
          if it.ports.any fun q => !carriesPeer s q then
            .next (pump (leaveItem p i (releaseSpace (s.parts.get p).step.ownerSeat (s.parts.get p).step.ownerRing t)))
          else .next (pump (endItem p i .ok t)) := by
  rw [execDeliverPushComplete, hp]
  exact (if_neg (by simp [hon])).trans (if_neg (by rw [hgood]; exact Bool.false_ne_true))

/-- A draw that may be made ends by what it drew. -/
theorem execDraw_goes {d : Draw} {rest : List Draw} (hd : s.draws = d :: rest) (hmem : s.dev.memActive = true) (hsable : s.flt.sable = false)
    (hroom : canComplete s (s.parts.get d.part).step.ownerSeat (s.parts.get d.part).step.ownerRing 1 = true)
    (hwin : windowHeld s d.handle = false) (hclear : clearHeld s d.handle = false) :
    execDraw s = match (drawOutcome s d).1 with
      | some x => if holdsWrite s true (countFrame d.handle x.token) then .next s else .next (endDraw d x { s with draws := rest })
      | none =>
        let u := noToken d.part d.handle .invalid s.dev.devtime { s with draws := rest }
        .next (if (drawOutcome s d).2 then readerFault u d.part d.handle 2 .invalid else u) := by
  rw [execDraw, hd]
  exact if_neg (by simp [hmem, hsable, hroom, hwin, hclear])

theorem execStepBoundary_runs {part : Nat} (hlt : part < 16) (hdue : boundaryDue s part = true) :
    execStepBoundary part s = .next (boundary part s) := by
  rw [execStepBoundary, if_neg (Nat.not_le.mpr hlt), if_pos hdue]

theorem execStepBoundary_asks {part : Nat} (hlt : part < 16) (hdue : boundaryDue s part = false) (hdone : stepDone s part = true)
    (hroom : boundarySpace s part = true) :
    execStepBoundary part s = .next (askComps (s.parts.get part).step.ownerSeat (s.parts.get part).step.ownerRing
      ((missingAppends (s.parts.get part)).length + 1) s) := by
  rw [execStepBoundary, if_neg (Nat.not_le.mpr hlt), if_neg (by simp [hdue])]
  exact if_pos (by simp [hdone, hroom])

end

/-- Settles O30: each event of the item, the draw or the step that the state holds. -/
theorem attentionServiceEventsAct : Obligations.AttentionServiceEventsAct := by
  refine ⟨fun p i it s hin hit hrec hdue hroom => execItemExpiry_expires hin hit hrec hdue hroom,
    fun h it s hon hh hit => execStagingComplete_fills hon hh hit,
    fun p i it s hon hin hit hatt hstart hend hrec hready => execItemComputeComplete_passes hon hin hit hatt hstart hend hrec hready,
    fun p i it w s hp hon hgood hw hports => ⟨fun hup => ?_, fun hdown => ?_⟩,
    fun p i it s hp hon hbad => execDeliverPushComplete_damaged hp hon hbad, fun p i it s hp hon hgood hno => ?_,
    fun d rest x s hd hmem hsable hroom hwin hclear hx hfree => ?_, fun d rest s hd hmem hsable hroom hwin hclear hx => ?_,
    fun part s hlt hdue => execStepBoundary_runs hlt hdue, fun part s hlt hdue hdone hroom => execStepBoundary_asks hlt hdue hdone hroom,
    fun s hidle hpend => if_pos (by simp [hidle, hpend])⟩
  · refine (execDeliverPushComplete_undamaged hp hon hgood).trans ?_
    rw [hw]
    exact (if_neg (by simpa using hports)).trans (if_neg (by rw [hup]; exact Bool.false_ne_true))
  · refine (execDeliverPushComplete_undamaged hp hon hgood).trans ?_
    rw [hw]
    exact (if_neg (by simpa using hports)).trans (if_pos hdown)
  · refine (execDeliverPushComplete_undamaged hp hon hgood).trans ?_
    obtain hnone | hports := hno
    · rw [hnone]
    · split
      · rfl
      · exact if_pos (by simp [hports])
  · refine (execDraw_goes hd hmem hsable hroom hwin hclear).trans ?_
    rw [hx]
    exact if_neg (by simp [hfree])
  · exact (execDraw_goes hd hmem hsable hroom hwin hclear).trans (by rw [hx])

end Sys2Proof.Machine


namespace Sys2Proof.Machine

/-! ### A program that fails (R382, R488) -/

/-- A lane that moves to a spare die, or is dead, is not moved for its blocks (R383). -/
theorem checkLane_of_not_live {l : Nat} {s : State} (h : (s.flash.lanes.get l).cond ≠ .live) : checkLane l s = s :=
  if_pos (by simp [h])

theorem rescueBlock_of_empty {l b : Nat} {s : State} (h : ((s.flash.lanes.get l).blocks.get b).recs = []) :
    rescueBlock l b s = programJournal s := by
  simp [rescueBlock, relocateWith, h]

theorem replaceProgs_of_idle (p : Prog → Bool) {s : State} (h : s.flash.inflight = []) :
    replaceProgs p s = { s with flash := { s.flash with inflight := [] } } := by
  simp [replaceProgs, h]

theorem logFault_pset (f : FaultEv) (s : State) : (logFault f s).pset = s.pset :=
  enterLogs_keeps State.pset (fun _ _ _ _ => rfl) ..

theorem logFault_flash (f : FaultEv) (s : State) : (logFault f s).flash = s.flash :=
  enterLogs_keeps State.flash (fun _ _ _ _ => rfl) ..

/-- Retiring a block that holds no unit, on a lane out of service and with no program in flight, leaves the pool set alone. -/
theorem retireBlock_pset {l b : Nat} {s : State} (hcond : (s.flash.lanes.get l).cond ≠ .live)
    (hrecs : ((s.flash.lanes.get l).blocks.get b).recs = []) (hidle : s.flash.inflight = []) : (retireBlock l b s).pset = s.pset := by
  unfold retireBlock
  dsimp only
  rw [rescueBlock_of_empty (by simp [updBlk, updLane, hrecs]), replaceProgs_of_idle _ (by simp [programJournal, updBlk, updLane, hidle])]
  dsimp only
  rw [if_neg (by simp [logFault_flash, countFailure, programJournal, updBlk, updLane, hcond]),
    checkLane_of_not_live (by simpa [logFault_flash, countFailure, programJournal, updBlk, updLane] using hcond), logFault_pset]
  simp [countFailure, programJournal, updBlk, updLane]

/-- The program of a unit of region 1, parity unit 0 of its pool set, at the first place of the lane that is being moved. -/
def failingProg : Prog := { key := .region 1 0, unit := 0, len := 0, pos := 0, damaged := false, data := [] }

/-- Member 1 of a formed pool set of two, whose first lane is being moved; a program is in flight on it. -/
def parityWriter : State :=
  { State.reset with
    pset := { phase := .formed, n := 2, index := 1, members := [{ index := 0, window := 5 }], units := [(failingProg.key, 0)] }
    flash := { State.reset.flash with
      inflight := [failingProg], lanes := State.reset.flash.lanes.upd 0 fun x => { x with cond := .evacuating } } }

/-- `parityWriter` with the program's frames DIRTY again and its parity delta taken back. -/
def parityTakenBack : State := dirtyAgain failingProg { parityWriter with flash := { parityWriter.flash with inflight := [] } }

/-- `parityTakenBack` with the parity delta taken back once more. -/
def parityTakenTwice : State := sendDelta 0 (memBytes failingProg.data 0 65536) (parityView parityTakenBack failingProg.key) parityTakenBack

/-- Entries sent to each member. -/
def entriesSent (s : State) : List Nat := s.pset.members.map (·.sent)

/-- The first lane is out of service, its first block holds no unit, and no program is in flight. -/
def FirstBlockIdle (s : State) : Prop :=
  (s.flash.lanes.get 0).cond ≠ .live ∧ ((s.flash.lanes.get 0).blocks.get 0).recs = [] ∧ s.flash.inflight = []

theorem FirstBlockIdle.entriesSent_retireBlock {s : State} (h : FirstBlockIdle s) : entriesSent (retireBlock 0 0 s) = entriesSent s := by
  obtain ⟨hcond, hrecs, hidle⟩ := h
  rw [entriesSent, retireBlock_pset hcond hrecs hidle, entriesSent]

theorem parityTakenBack_idle : FirstBlockIdle parityTakenBack := by
  unfold FirstBlockIdle
  decide +kernel

theorem parityTakenTwice_idle : FirstBlockIdle parityTakenTwice := by
  unfold FirstBlockIdle
  decide +kernel

/-- Entries sent to each member after an outcome. -/
def entriesSentAfter : Host.Outcome State Fault Refusal → List Nat
  | .next t => entriesSent t
  | _ => []

theorem entriesSentAfter_next (t : State) : entriesSentAfter (.next t) = entriesSent t := rfl

/-- One delta of 64 KiB is 16 entries of 4 KiB. -/
theorem parityTakenBack_sent : entriesSent parityTakenBack = [16] := by decide +kernel

theorem parityTakenTwice_sent : entriesSent parityTakenTwice = [32] := by decide +kernel

theorem parityTakenBack_index : parityIndex parityTakenBack failingProg.key = some 0 := by decide +kernel

/-- The failure of the program takes its delta back once. -/
theorem parityWriter_takesBackOnce : entriesSentAfter (exec (.flashProgramFail 0) parityWriter) = [16] :=
  parityTakenBack_idle.entriesSent_retireBlock.trans parityTakenBack_sent

/-- Refutes O31: where a program with a parity unit fails, the statement takes its delta back twice, once in `dirtyAgain` and once more
after it; R488, and the model with it, take it back once. The entries sent to the member tell the two apart. -/
theorem not_flashEventsAct : ¬ Obligations.FlashEventsAct := by
  rintro ⟨-, -, -, -, -, hfail, -⟩
  have hexec : exec (.flashProgramFail 0) parityWriter = .next (retireBlock 0 0 parityTakenTwice) :=
    (hfail 0 failingProg parityWriter rfl).2 0 parityTakenBack_index
  have hsent := congrArg entriesSentAfter hexec
  rw [parityWriter_takesBackOnce, entriesSentAfter_next, parityTakenTwice_idle.entriesSent_retireBlock, parityTakenTwice_sent] at hsent
  exact absurd hsent (by decide)

end Sys2Proof.Machine


namespace Sys2Proof.Machine

/-! ### Errors, watchdogs, fatal events and firmware time limits (chapters 18, 20 and 21) -/

section
variable {s : State}

theorem execHbmError_serves {stack pc bank row : Nat} (place : HbmPlace) (cor : Bool) (hst : stack < 8) (hpc : pc < 32)
    (hrow : hbmRowOk (stack * 32 + pc) bank row = true) (hserves : pcServes s (stack * 32 + pc) = true) :
    execHbmError stack pc bank row place cor s = .next (hbmError false (stack * 32 + pc) bank row place cor s) :=
  congrArg Host.Outcome.next (if_pos (by simp [hst, hpc, hrow, hserves]))

theorem execFrameRepair_repairs {place : HbmPlace} {k : FrameKey} {u : UnitKey} {n : Nat} {m : MapEnt} (hk : placeFrame s place = some k)
    (hmem : s.dev.memActive = true) (hmap : s.dev.mapReady = true) (hbad : frameDamaged s k = true) (hclean : isClean s k = true)
    (hu : unitOfFrame s k = some (u, n)) (hm : mapOf s u = some m) (hlost : m.lost = false) :
    execFrameRepair place s = .next (((framesOfUnit s u).zip (List.range (framesOfUnit s u).length)).foldl
      (fun s x => repairFrame m x s) s) := by
  rw [execFrameRepair, hk]
  dsimp only
  rw [if_neg (by simp [hmem, hmap, hbad, hclean]), hu]
  simp only [Option.bind_some, hm, Option.map_some]
  exact if_neg (by simp [hlost])

theorem execPcRetirementCopyEnd_retires {pc : Nat} (hlt : pc < 256) (hmem : s.dev.memActive = true)
    (hon : s.flt.retiringPcs.contains pc = true) (hroom : s.acct.frames ≤ frameLimit s) :
    execPcRetirementCopyEnd pc s = .next (updFlt (fun f => { f with
      retiringPcs := f.retiringPcs.filter (· != pc), retiredPcs := f.retiredPcs ++ [pc] }) s) := by
  rw [execPcRetirementCopyEnd, if_neg (Nat.not_le.mpr hlt)]
  exact if_pos (by rw [hmem, hon, decide_eq_true hroom]; rfl)

/-- An error of a tile and row that exist, by its kind. -/
theorem execTileArrayError_of_lt {tile row : Nat} (fail : TileFail) (ht : tile < 320) (hr : row < 1024) :
    execTileArrayError tile row fail s = match fail with
      | .selfTest => .next (tileSelfTest tile s)
      | .corrected => .next (if tileServes s tile then tileError false tile row true s else s)
      | .uncorrectable => .next (if tileServes s tile then tileError false tile row false s else s) :=
  if_neg (by simp [ht, hr])

theorem tileSelfTest_retires {tile : Nat} (hup : s.pwr.stage = .up) (hmem : s.dev.memActive = false) (hrec : s.dev.recovery = false)
    (hin : s.flt.retiredTiles.contains tile = false) :
    tileSelfTest tile s = retireTile tile { unit := 2, index := tile, event := 18 } s :=
  if_pos (by rw [hup, hmem, hrec, hin]; rfl)

theorem execCoreWatchdog_core {core : Nat} (hlt : core < 4) (hup : s.pwr.stage = .up) (hrec : s.dev.recovery = false) :
    execCoreWatchdog (.core core) s = .next (coreFails core s) := by
  rw [execCoreWatchdog, if_neg (by simp [hup, hrec])]
  exact congrArg Host.Outcome.next (if_neg (Nat.not_le.mpr hlt))

theorem execCoreWatchdog_parser (hup : s.pwr.stage = .up) (hrec : s.dev.recovery = false) :
    execCoreWatchdog .parser s = .next (parserFails s) :=
  if_neg (by simp [hup, hrec])

theorem execCoreWatchdog_sramCopy {k : Nat} (entry : Nat) (hlt : k < 68) (hup : s.pwr.stage = .up) (hrec : s.dev.recovery = false) :
    execCoreWatchdog (.sramCopy k entry) s = .next (sramCopyFails k entry s) := by
  rw [execCoreWatchdog, if_neg (by simp [hup, hrec])]
  exact congrArg Host.Outcome.next (if_neg (Nat.not_le.mpr hlt))

theorem execCoreWatchdog_sram {k : Nat} (user : Option ReadSource) (h68 : 68 ≤ k) (h71 : k < 71) (hup : s.pwr.stage = .up)
    (hrec : s.dev.recovery = false) : execCoreWatchdog (.sram k user) s = .next (sramFails k user s) := by
  rw [execCoreWatchdog, if_neg (by simp [hup, hrec])]
  exact congrArg Host.Outcome.next (if_neg (by simp [h68, h71]))

theorem coreFails_fatal {core : Nat} (h : 3 ≤ (countFailure { unit := 13, index := core, place := 0 } false s).2) :
    let c := countFailure { unit := 13, index := core, place := 0 } false s
    coreFails core s = fatal true true { unit := 13, index := core, event := 5, count := c.2 } c.1 :=
  if_pos h

theorem coreFails_restarts {core : Nat} (h : (countFailure { unit := 13, index := core, place := 0 } false s).2 < 3) :
    let c := countFailure { unit := 13, index := core, place := 0 } false s
    coreFails core s = beginRestart 0 (logFault { unit := 13, index := core, event := 5, count := c.2, action := 7 } c.1) :=
  if_neg (Nat.not_le.mpr h)

theorem parserFails_logs (h : (countFailure { unit := 0, index := 0, place := 1 } false s).2 < 3) :
    let c := countFailure { unit := 0, index := 0, place := 1 } false s
    parserFails s = logFault { unit := 0, event := 3, count := c.2, action := 1 } c.1 :=
  if_neg fun hboth => absurd (of_decide_eq_true (Bool.and_eq_true_iff.mp hboth).1) (Nat.not_le.mpr h)

theorem parserFails_retires (h : 3 ≤ (countFailure { unit := 0, index := 0, place := 1 } false s).2)
    (hin : (countFailure { unit := 0, index := 0, place := 1 } false s).1.glb.parserRetired = false) :
    let c := countFailure { unit := 0, index := 0, place := 1 } false s
    let u := causeFault 11 { cls := 1, unit := 0, event := 3, count := c.2, action := 3 } c.1
    parserFails s = idleCommit { u with glb := { u.glb with parserRetired := true, hwparsePend := some false } } :=
  if_pos (Bool.and_eq_true_iff.mpr ⟨decide_eq_true h, (Bool.not_eq_true' _).mpr hin⟩)

theorem sramCopyFails_loss {k : Nat} (entry : Nat) (h : (s.flt.singleCopy.any fun x => x.1 = k) = true) :
    sramCopyFails k entry s = fatal false false { unit := 12, index := k, event := 2, location := entry } s :=
  if_pos h

/-- An entry of a structure that has both copies is corrected from the other; the third failure leaves the structure on one copy. -/
theorem sramCopyFails_counts {k : Nat} (entry : Nat) (h : (s.flt.singleCopy.any fun x => x.1 = k) = false) :
    let c := countFailure { unit := 12, index := k, place := entry } false s
    sramCopyFails k entry s =
      if 3 ≤ c.2 then causeFault 15 { cls := 1, unit := 12, index := k, event := 1, count := c.2, action := 3, location := entry }
        (updFlt (fun f => { f with singleCopy := f.singleCopy ++ [(k, entry)] }) c.1)
      else logFault { unit := 12, index := k, event := 1, count := c.2, action := 2, location := entry } c.1 :=
  if_neg (by rw [h]; exact Bool.false_ne_true)

theorem sramFails_fatal {k : Nat} (user : Option ReadSource) (h : 3 ≤ (countFailure { unit := 12, index := k, place := 0 } false s).2) :
    let c := countFailure { unit := 12, index := k, place := 0 } false s
    sramFails k user s = fatal true true { unit := 12, index := k, event := 2, count := c.2 } c.1 :=
  if_pos h

theorem sramFails_user {k : Nat} (user : ReadSource) (h : (countFailure { unit := 12, index := k, place := 0 } false s).2 < 3) :
    let c := countFailure { unit := 12, index := k, place := 0 } false s
    sramFails k (some user) s = failUser user (logFault { unit := 12, index := k, event := 2, count := c.2, action := 6 } c.1) :=
  if_neg (Nat.not_le.mpr h)

theorem execFatalEvent_of_kind {kind index location : Nat} {x : Bool × Bool × FaultEv} (hx : fatalKind kind index location = some x) :
    execFatalEvent kind index location s =
      .next (fatal x.1 x.2.1 x.2.2 (if kind = 6 then updFlt (fun f => { f with hardPc := some index }) s else s)) := by
  rw [execFatalEvent, hx]

theorem execFirmwareWriteComplete_ends (image : FwImage) {w : Option Nat} (hw : s.flt.writing = some w) :
    let st := imageStatus s image
    let u := updFlt (fun f => { f with writing := none })
      (if s.dev.recovery then updFlt (fun f => { f with imageA := verifiedImage st image f.imageA }) s
       else updInactive (verifiedImage st image) s)
    execFirmwareWriteComplete image s = .next (match (generalizing := false) w with
      | some n => finishOp n st u
      | none => emit (.pldm 5 [st.code]) u) := by
  simp only [execFirmwareWriteComplete, hw]
  cases w <;> rfl

end

/-- Settles O32: each error of a unit that serves, counted failures by how many there are. -/
theorem errorEventsAct : Obligations.ErrorEventsAct := by
  refine ⟨fun stack pc bank row place cor s hst hpc hrow hserves => execHbmError_serves place cor hst hpc hrow hserves,
    fun place k u n m s hk hmem hmap hbad hclean hu hm hlost => execFrameRepair_repairs hk hmem hmap hbad hclean hu hm hlost,
    fun pc s hlt hmem hon hroom => execPcRetirementCopyEnd_retires hlt hmem hon hroom,
    fun tile row s ht hr => ⟨fun hserves => ⟨?_, ?_⟩, fun hup hmem hrec hin => ?_⟩,
    fun core s hcore hup hrec => ⟨fun hfew => ?_, fun hmany => ?_⟩, fun s hup hrec => ⟨fun hfew => ?_, fun hmany hin => ?_⟩,
    fun k entry s hk hup hrec => ⟨fun hone => ?_, fun htwo hfew => ?_, fun htwo hmany => ?_⟩,
    fun k user s h68 h71 hup hrec => ⟨fun hmany => ?_, fun hfew => ?_⟩, fun _ => rfl,
    fun kind index location x s hx hk => (execFatalEvent_of_kind hx).trans (by rw [if_neg hk]),
    fun index location x s hx => execFatalEvent_of_kind hx,
    fun s ha hnew hfw hlate => if_pos (by simp [ha, hnew, hfw, hlate]), fun s hfw hnew hlong => if_pos (by simp [hfw, hnew, hlong]),
    fun s hr hfw hlate => if_pos (by simp [hr, hfw, hlate]), fun image w s hw => execFirmwareWriteComplete_ends image hw⟩
  · exact (execTileArrayError_of_lt .corrected ht hr).trans (congrArg _ (if_pos hserves))
  · exact (execTileArrayError_of_lt .uncorrectable ht hr).trans (congrArg _ (if_pos hserves))
  · exact (execTileArrayError_of_lt .selfTest ht hr).trans (congrArg _ (tileSelfTest_retires hup hmem hrec hin))
  · exact (execCoreWatchdog_core hcore hup hrec).trans (congrArg Host.Outcome.next (coreFails_restarts hfew))
  · exact (execCoreWatchdog_core hcore hup hrec).trans (congrArg Host.Outcome.next (coreFails_fatal hmany))
  · exact (execCoreWatchdog_parser hup hrec).trans (congrArg Host.Outcome.next (parserFails_logs hfew))
  · exact (execCoreWatchdog_parser hup hrec).trans (congrArg Host.Outcome.next (parserFails_retires hmany hin))
  · exact (execCoreWatchdog_sramCopy entry hk hup hrec).trans (congrArg Host.Outcome.next (sramCopyFails_loss entry hone))
  · exact (execCoreWatchdog_sramCopy entry hk hup hrec).trans
      (congrArg Host.Outcome.next ((sramCopyFails_counts entry htwo).trans (if_neg (Nat.not_le.mpr hfew))))
  · exact (execCoreWatchdog_sramCopy entry hk hup hrec).trans
      (congrArg Host.Outcome.next ((sramCopyFails_counts entry htwo).trans (if_pos hmany)))
  · exact (execCoreWatchdog_sram (some user) h68 h71 hup hrec).trans (congrArg Host.Outcome.next (sramFails_fatal (some user) hmany))
  · exact (execCoreWatchdog_sram (some user) h68 h71 hup hrec).trans (congrArg Host.Outcome.next (sramFails_user user hfew))

end Sys2Proof.Machine


namespace Sys2Proof.Machine

/-! ### Swaps, parks, pulls, copies, operations on prefixes, digests and counts (chapters 2, 4, 7, 9 to 11 and 14) -/

section
variable {s t : State} {op h : Nat} {o : Op}

theorem execSwapOutComplete_ends {w : Swap} (hw : s.swap = some w) (hout : w.out = true) (hmem : s.dev.memActive = true)
    (hopen : flashClosed s = false) (hst : (s.parts.get w.part).state = .swappingOut) (hend : swapOutEnd w s = some t) :
    execSwapOutComplete s = .next t := by
  rw [execSwapOutComplete, hw]
  dsimp only
  rw [if_pos (by simp [hout, hmem, hopen, hst]), hend, Option.getD_some]

theorem execSwapInComplete_ends {w : Swap} (hw : s.swap = some w) (hin : w.out = false) (hnew : w.restore = false)
    (hmem : s.dev.memActive = true) (hopen : flashClosed s = false) (hst : (s.parts.get w.part).state = .swappingIn) :
    execSwapInComplete s = .next (swapInEnd w s) := by
  rw [execSwapInComplete, hw]
  exact congrArg Host.Outcome.next (if_pos (by simp [hin, hnew, hmem, hopen, hst]))

theorem execParkComplete_ends {ttl : Nat} {release : Bool} (ho : opOf s op = some o) (hk : o.kind = .park h ttl release)
    (hturn : bulkTurn s (parkReady s) op = true) (hend : parkEnd o h ttl release s = some t) : execParkComplete op s = .next t := by
  simp only [execParkComplete, ho, hk, hturn, hend, if_true, Option.getD_some]

theorem execUnparkComplete_ends {k : Park} {ticket : Nat} (ho : opOf s op = some o) (hk : o.kind = .unpark h ticket)
    (hsrc : unparkSource s h ticket = some k) (hturn : bulkTurn s (unparkReady s) op = true) :
    execUnparkComplete op s = .next (unparkEnd o h k s) := by
  simp only [execUnparkComplete, ho, hk, hsrc, hturn, if_true]

theorem execPullComplete_ends {p : Pull} {data : List Byte} {u : State} (hp : s.pulls.find? (fun p => p.op = op) = some p)
    (ho : opOf s op = some o) (hw : writePull p data s = some u) :
    execPullComplete op data s = .next (finishOp op .ok { u with pulls := u.pulls.filter fun q => q.op != op }) := by
  simp only [execPullComplete, hp, ho, hw]

theorem execPeerReadFailure_pull {p : Pull} (hp : s.pulls.find? (fun p => p.op = op) = some p) :
    execPeerReadFailure (.op op) s = .next (finishOp op .invalid
      (logFault { unit := 5, index := p.seat, event := 6, action := 6, seat := p.seat, tag := (Config.opid op).toNat
                  detail := Status.invalid.code } { s with pulls := s.pulls.filter fun q => q.op != op })) := by
  simp only [execPeerReadFailure, hp]

theorem execCowCopyComplete_ends (hh : handleCurrent s h = true) (hmem : s.dev.memActive = true) (hsable : s.flt.sable = false)
    (hend : endCow h s = some t) : execCowCopyComplete h s = .next t := by
  rw [execCowCopyComplete, if_pos (by simp [hh, hmem, hsable]), hend, Option.getD_some]

theorem execPrefixOperationComplete_ends (ho : opOf s op = some o) (hk : o.kind.isDelta = true) (hmem : s.dev.memActive = true)
    (hsable : s.flt.sable = false) :
    let u := finishDelta op (deltaRounds (o.kind.turns s.nodes.length) op s)
    execPrefixOperationComplete op s = .next (match o.kind.deltaPart with
      | some p => tryStartSwapOut p u
      | none => u) := by
  rw [execPrefixOperationComplete, ho]
  exact if_neg (by simp [hk, hmem, hsable])

theorem execDigestBuild_builds {part : Nat} {d : Nat × Nat} (hlt : part < 16) (hopen : bulkClosed s = false) (hd : nextDigest s part = some d) :
    execDigestBuild part s = .next (updPart part (fun p => { p with digestValid := p.digestValid ++ [d] }) s) := by
  rw [execDigestBuild, if_neg (by simp [hlt, hopen]), hd]

theorem execLoadCountsComplete_ends {count list : Nat} {w : List Nat} (ho : opOf s op = some o) (hk : o.kind = .loadCounts h count list)
    (hw : words32 s o.seat list count = some w) (hidle : s.draws = []) (hmem : s.dev.memActive = true) (hclear : clearHeld s h = false)
    (hlost : loadLost s h = none) (hfree : ((w.filter (· < 524288)).any fun t => holdsWrite s true (countFrame h t)) = false)
    (hgood : hdmDamaged s o.seat list (4 * count) = false) :
    let r := recordList (rtOf s h).counts w
    execLoadCountsComplete op s = .next (finishOpWith op .ok (.fields [(4, r.2.1), (4, r.2.2.1), (4, r.2.2.2)])
      { first := r.2.1, second := r.2.2.1, handle := r.2.2.2 } (putCounts h r.1 (w.filter (· < 524288)) s)) := by
  simp only [execLoadCountsComplete, ho, hk, hw, Option.getD_some]
  rw [if_neg (by rw [hidle, hmem, hclear, hfree]; decide), if_neg (by rw [hlost]; decide), if_neg (by simp [hgood])]

end

/-- Settles O33: each end of an operation that runs and that memory serves. -/
theorem swapParkAndCopyOperationsEnd : Obligations.SwapParkAndCopyOperationsEnd :=
  ⟨fun _ _ _ hw hout hmem hopen hst hend => execSwapOutComplete_ends hw hout hmem hopen hst hend,
    fun _ _ hw hin hnew hmem hopen hst => execSwapInComplete_ends hw hin hnew hmem hopen hst,
    fun _ _ _ _ _ _ _ ho hk hturn hend => execParkComplete_ends ho hk hturn hend,
    fun _ _ _ _ _ _ ho hk hsrc hturn => execUnparkComplete_ends ho hk hsrc hturn,
    fun _ _ _ _ _ _ hp ho hw => execPullComplete_ends hp ho hw, fun _ _ _ hp => execPeerReadFailure_pull hp, fun _ => rfl,
    fun _ _ _ hh hmem hsable hend => execCowCopyComplete_ends hh hmem hsable hend,
    fun _ _ _ ho hk hmem hsable => execPrefixOperationComplete_ends ho hk hmem hsable,
    fun _ _ _ hlt hopen hd => execDigestBuild_builds hlt hopen hd,
    fun _ _ _ _ _ _ _ ho hk hw hidle hmem hclear hlost hfree hgood =>
      execLoadCountsComplete_ends ho hk hw hidle hmem hclear hlost hfree hgood⟩

end Sys2Proof.Machine


namespace Sys2Proof.Machine

/-! ### Region fills and parks, descriptors, unspills, fences and dump copies (chapters 11, 15 to 17 and 21) -/

section
variable {s : State} {op : Nat} {o : Op}

theorem execRegionZeroFillComplete_ends {id : Nat} (ho : opOf s op = some o) (hk : o.kind = .allocRegion id)
    (hturn : bulkTurn s (poolReady s) op = true) :
    execRegionZeroFillComplete op s =
      .next (finishOpBody op .ok (.fields [(8, id)]) (updRegion id (fun r => { r with st := .held }) s)) := by
  simp only [execRegionZeroFillComplete, ho, hk]
  exact if_neg (by simp [hturn])

theorem execRegionParkComplete_ends {id : Nat} {r : Region} {t : State} (ho : opOf s op = some o) (hk : o.kind = .parkRegion id)
    (hr : regionOf s id = some r) (hst : r.st = .parking) (hturn : bulkTurn s (parkReady s) op = true)
    (hend : regionParkEnd op r s = some t) : execRegionParkComplete op s = .next t := by
  simp only [execRegionParkComplete, ho, hk, hr, hend]
  exact congrArg Host.Outcome.next (if_pos (by simp [hst, hturn]))

theorem regionParkEnd_writesBack {r : Region} {v : State} (hv : writeBackAll (frameOfRegion r.id) s = some v) :
    regionParkEnd op r s = some (finishOp op .ok (releaseWrites (releaseAcct (framesCharge r)
      (updRegion r.id (fun r => { r with st := .parked, data := [] }) (forgetFrames (frameOfRegion r.id) v))))) := by
  rw [regionParkEnd, hv, Option.map_some]

theorem execRegionUnparkComplete_ends {id : Nat} {r : Region} (ho : opOf s op = some o) (hk : o.kind = .unparkRegion id)
    (hr : regionOf s id = some r) (hst : r.st = .unparking) (hturn : bulkTurn s (unparkReady s) op = true) :
    execRegionUnparkComplete op s = .next (regionUnparkEnd op id s) := by
  simp only [execRegionUnparkComplete, ho, hk, hr]
  exact congrArg Host.Outcome.next (if_pos (by simp [hst, hturn]))

theorem execPoolDescriptorEnd_runs {x : Xfer} {d : PoolDesc} {rest : List PoolDesc} (data : List Byte) (hx : xferOf s op = some x)
    (hd : x.pool = d :: rest) (hsable : s.flt.sable = false) (hturn : bulkTurn s (poolReady s) op = true) :
    execPoolDescriptorEnd op data s = .next (runPool x d data s) := by
  simp only [execPoolDescriptorEnd, hx, hd]
  exact if_neg (by simp [hsable, hturn])

/-- A stash descriptor whose turn has come runs on where it has begun, fails by its status, or begins. -/
theorem execStashDescriptorEnd_turn {x : Xfer} {d : StashDesc} {rest : List StashDesc} (data : List Byte) (hx : xferOf s op = some x)
    (hd : x.stash = d :: rest) (hturn : stashTurn s (xferPlace x.op) = true) :
    (x.issued.isSome = true → execStashDescriptorEnd op data s = .next (runStash x d data s)) ∧
    (∀ st, x.issued = none → stashStatus s x.seat d = some st → execStashDescriptorEnd op data s = .next (failStash x d st s)) ∧
    (x.issued = none → stashStatus s x.seat d = none → execStashDescriptorEnd op data s = .next (beginStash x s)) := by
  simp only [execStashDescriptorEnd, hx, hd, hturn, Bool.not_true, Bool.false_eq_true, if_false]
  refine ⟨fun hissued => if_pos hissued, fun st hnew hst => ?_, fun hnew hst => ?_⟩ <;> simp only [hnew, hst, Option.isSome_none, Bool.false_eq_true, if_false]

theorem execUnspill_begins {part run i : Nat} {r : Run} {x : StashObj} (hlt : part < 16) (hr : runOf s part run = some r)
    (hfree : r.unspill = none) (hres : (s.parts.get part).state = .resident) (hmem : memClosed s = false) (hflash : flashClosed s = false)
    (hx : unspillNext r = some (i, x))
    (hfit : x.frames - x.held ≤ r.free + ((spillable s part r (some i)).map (·.held)).sum) :
    let u := makeRoom part run (x.frames - x.held) (some i) (r.objs.length + 1) s
    x.frames - x.held ≤ ((runOf u part run).map (·.free)).getD 0 → execUnspill part run s = .next (beginUnspill part run x u) := by
  intro u hroom
  rw [execUnspill, if_neg (Nat.not_le.mpr hlt), hr]
  dsimp only
  rw [if_neg (by simp [hfree, hres, hmem, hflash]), hx]
  exact (if_neg (Nat.not_lt.mpr hfit)).trans (if_neg (Nat.not_lt.mpr hroom))

theorem execUnspillComplete_ends {part run key : Nat} {r : Run} (hlt : part < 16) (hr : runOf s part run = some r)
    (hkey : r.unspill = some key) (hturn : stashTurn s (unspillPlace r.unspillAt) = true) :
    execUnspillComplete part run s = .next (endUnspill part run (((objOf s part run key).map (·.frames)).getD 0) s) := by
  rw [execUnspillComplete, if_neg (Nat.not_le.mpr hlt)]
  simp only [hr, Option.bind_some, hkey, Option.map_some, Option.getD_some]
  exact if_neg (by simp [hturn])

theorem execSnoopTimeout_fences {seat : Nat} (hlt : seat < 64)
    (hlate : (s.coh.snoops.any fun n => n.seat = seat && n.since + n.timeout * 1000000 ≤ s.dev.devtime) = true) :
    execSnoopTimeout seat s = .next (fenceSeat seat s) := by
  rw [execSnoopTimeout, if_neg (Nat.not_le.mpr hlt), if_pos hlate]

theorem execFenceSweepEnd_ends {seat : Nat} (hlt : seat < 64) (hsweep : s.coh.sweeping.getLsbD seat = true) :
    execFenceSweepEnd seat s = .next (endSweep seat s) := by
  rw [execFenceSweepEnd, if_neg (Nat.not_le.mpr hlt), if_pos hsweep]

/-- The copy of a section that exists into a resident extent: it ends once issued and no longer held, or takes the lines that hosts hold
first, or is written now. -/
theorem execDumpCopyComplete_copies {slot id off len dst : Nat} {x : Xfer} (ho : opOf s op = some o)
    (hk : o.kind = .dumpCopy slot id off len dst) (hmem : s.dev.memActive = true) (hx : xferOf s op = some x)
    (hres : residentAt s dst len = true) (hext : (dumpExtent s slot id).isSome = true) :
    (x.issued.isSome = true → xferHeld s op = false → execDumpCopyComplete op s = .next (endXfer op (sectionStatus s slot id) s)) ∧
    (x.issued = none → writeWaits s 0 [(dst, len)] ≠ [] →
      execDumpCopyComplete op s = .next (askLines op [] (writeWaits s 0 [(dst, len)]) s)) ∧
    (x.issued = none → writeWaits s 0 [(dst, len)] = [] →
      let u := updXfer op (fun x => { x with issued := some len }) (writeHdm op 0 dst (dumpBytes s slot id off len) s)
      xferHeld u op = false → execDumpCopyComplete op s = .next (endXfer op (sectionStatus u slot id) u)) := by
  have hpass : ¬ (!residentAt s dst len || (dumpExtent s slot id).isNone) = true := by
    simp [hres, Option.isSome_iff_ne_none.mp hext]
  simp only [execDumpCopyComplete, ho, hk, hmem, hx, Bool.not_true, Bool.false_eq_true, if_false, Option.any_some]
  rw [if_neg hpass]
  refine ⟨fun hissued hheld => ?_, fun hnew hwaits => ?_, fun hnew hwaits => fun hheld => ?_⟩
  · rw [if_pos hissued]
    exact if_neg (by simp [hheld])
  · rw [if_neg (by simp [hnew])]
    exact if_pos (by simpa using hwaits)
  · rw [if_neg (by simp [hnew])]
    exact (if_neg (by simp [hwaits])).trans (if_neg (by rw [hheld]; exact Bool.false_ne_true))

end

/-- Settles O34: each end where its operation, run or seat is there and its turn has come. -/
theorem regionPoolAndFenceOperationsEnd : Obligations.RegionPoolAndFenceOperationsEnd :=
  ⟨fun _ _ _ _ ho hk hturn => execRegionZeroFillComplete_ends ho hk hturn,
    fun _ _ _ _ _ _ ho hk hr hst hturn hv => execRegionParkComplete_ends ho hk hr hst hturn (regionParkEnd_writesBack hv),
    fun _ _ _ _ _ ho hk hr hst hturn => execRegionUnparkComplete_ends ho hk hr hst hturn,
    fun _ data _ _ _ _ hx hd hsable hturn => execPoolDescriptorEnd_runs data hx hd hsable hturn,
    fun _ data _ _ _ _ hx hd hturn => execStashDescriptorEnd_turn data hx hd hturn,
    fun _ _ _ _ _ _ hlt hr hfree hres hmem hflash hx hfit => execUnspill_begins hlt hr hfree hres hmem hflash hx hfit,
    fun _ _ _ _ _ hlt hr hkey hturn => execUnspillComplete_ends hlt hr hkey hturn, fun _ _ hlt hlate => execSnoopTimeout_fences hlt hlate,
    fun _ _ hlt hsweep => execFenceSweepEnd_ends hlt hsweep,
    fun _ _ _ _ _ _ _ _ _ ho hk hmem hx hres hext => execDumpCopyComplete_copies ho hk hmem hx hres hext⟩

end Sys2Proof.Machine


namespace Sys2Proof.Machine

/-! ### Register accesses (chapter 22) -/

section
variable {s : State} {seat ring value : Nat}

theorem execStpCqHeadWrite_beyond (hlt : seat < 64) (hr : ring < 4) (hreach : seatReached s seat = true)
    (hbeyond : ringUsed (ringOf s seat ring).cqTail (ringOf s seat ring).cqHead < ringUsed value (ringOf s seat ring).cqHead) :
    execStpCqHeadWrite seat ring value s = .next (logFault { unit := 5, index := seat, event := 10, action := 6, seat := seat }
      (updRing seat ring (fun r => { r with cqHeadBad := true }) s)) := by
  rw [execStpCqHeadWrite, if_neg (by simp [hlt, hr])]
  exact (if_neg (by simp [hreach])).trans (if_pos hbeyond)

theorem execStpCqHeadWrite_moves (hlt : seat < 64) (hr : ring < 4) (hreach : seatReached s seat = true)
    (hwithin : ringUsed value (ringOf s seat ring).cqHead ≤ ringUsed (ringOf s seat ring).cqTail (ringOf s seat ring).cqHead) :
    let u := updRing seat ring (fun r => { r with cqHead := value % 2 ^ 32 }) s
    execStpCqHeadWrite seat ring value s = .next (pump (drainBacklog seat ring (ringOf u seat ring).backlog u)) := by
  rw [execStpCqHeadWrite, if_neg (by simp [hlt, hr])]
  exact (if_neg (by simp [hreach])).trans (if_neg (Nat.not_lt.mpr hwithin))

theorem execSeatNoticeHeadWrite_beyond (hlt : seat < 64) (hreach : seatReached s seat = true)
    (hbeyond : ringUsed (s.seats.get seat).noticeTail (s.seats.get seat).noticeHead < ringUsed value (s.seats.get seat).noticeHead) :
    execSeatNoticeHeadWrite seat value s =
      .next (logFault { unit := 5, index := seat, event := 10, action := 6, seat := seat } s) := by
  rw [execSeatNoticeHeadWrite, if_neg (Nat.not_le.mpr hlt)]
  exact (if_neg (by simp [hreach])).trans (if_pos hbeyond)

theorem execSeatNoticeHeadWrite_moves (hlt : seat < 64) (hreach : seatReached s seat = true)
    (hwithin : ringUsed value (s.seats.get seat).noticeHead ≤ ringUsed (s.seats.get seat).noticeTail (s.seats.get seat).noticeHead) :
    let u := updSeat seat (fun t => { t with noticeHead := value % 2 ^ 32 }) s
    execSeatNoticeHeadWrite seat value s = .next (flushNotices seat (u.seats.get seat).noticeHeld u) := by
  rw [execSeatNoticeHeadWrite, if_neg (Nat.not_le.mpr hlt)]
  exact (if_neg (by simp [hreach])).trans (if_neg (Nat.not_lt.mpr hwithin))

/-- A device-wide register that is reached from seat 0's LD takes the write. -/
theorem glbWrite_seat0 (f : State → State) (hreach : seatReached s 0 = true) : glbWrite 0 f s = .next (f s) :=
  (if_neg (by decide)).trans (if_pos (by simp [hreach]))

theorem execGlbDitherSaltWrite_seat0 {half : Nat} (hhalf : half < 3) (hreach : seatReached s 0 = true) :
    execGlbDitherSaltWrite 0 half value s = .next (saltWrite half value s) :=
  (if_neg (Nat.not_le.mpr hhalf)).trans (glbWrite_seat0 _ hreach)

theorem execPrtCtrlWrite_seat0 {port : Nat} (value : Nat) (hp : port < 8) (hreach : seatReached s 0 = true) :
    execPrtCtrlWrite 0 port value s = .next (writePrtCtrl s) :=
  (if_neg (Nat.not_le.mpr hp)).trans (glbWrite_seat0 _ hreach)

variable {port ld : Nat}

theorem execTelRec0Read_latches (hp : port < 8) (hl : ld < 16) (hreach : memReached s port ld = true) :
    execTelRec0Read port ld s = .next (emit (.regValue port ld 0x14000 ((telWords s).headD 0))
      (updLd port ld (fun d => { d with telLatch := some ((telWords s).drop 1) }) s)) := by
  rw [execTelRec0Read, if_neg (by simp [hp, hl]), if_pos hreach]

theorem execDevtimeLowRead_latches (hp : port < 8) (hl : ld < 16) (hreach : memReached s port ld = true) :
    execDevtimeLowRead port ld s = .next (emit (.regValue port ld 0x10008 (s.dev.devtime % 2 ^ 32))
      (updLd port ld (fun d => { d with devtimeHigh := some (s.dev.devtime / 2 ^ 32 % 2 ^ 32) }) s)) := by
  rw [execDevtimeLowRead, if_neg (by simp [hp, hl]), if_pos hreach]

theorem execRegisterWrite_reached {offset width : Nat} (hp : port < 8) (hl : ld < 16) (hw : width ∈ [8, 16, 32, 64])
    (hreach : memReached s port ld = true) : execRegisterWrite port ld offset width value s = .next (regWrite port ld offset width value s) := by
  rw [execRegisterWrite, if_neg (by rw [List.contains_iff_mem.mpr hw]; simp [hp, hl]), if_pos hreach]

end

/-- Settles O35: each access of a register that is reached. -/
theorem registerAccessesAct : Obligations.RegisterAccessesAct :=
  ⟨fun _ _ _ _ hlt hr hreach => ⟨fun hbeyond => execStpCqHeadWrite_beyond hlt hr hreach hbeyond,
      fun hwithin => execStpCqHeadWrite_moves hlt hr hreach hwithin⟩,
    fun _ _ _ hlt hreach => ⟨fun hbeyond => execSeatNoticeHeadWrite_beyond hlt hreach hbeyond,
      fun hwithin => execSeatNoticeHeadWrite_moves hlt hreach hwithin⟩,
    fun _ _ hreach => glbWrite_seat0 _ hreach, fun _ _ hreach => glbWrite_seat0 _ hreach,
    fun _ _ _ hhalf hreach => execGlbDitherSaltWrite_seat0 hhalf hreach, fun _ _ hreach => glbWrite_seat0 _ hreach,
    fun _ _ hreach => glbWrite_seat0 _ hreach, fun _ _ hreach => glbWrite_seat0 _ hreach,
    fun _ value _ hp hreach => execPrtCtrlWrite_seat0 value hp hreach, fun _ _ _ hp hl hreach => execTelRec0Read_latches hp hl hreach,
    fun _ _ _ hp hl hreach => execDevtimeLowRead_latches hp hl hreach,
    fun _ _ _ _ _ _ hp hl hw hreach => execRegisterWrite_reached hp hl hw hreach⟩

end Sys2Proof.Machine

namespace Sys2Proof.Machine

/-! ### Every step keeps the layout of the device-wide registers (R256, R460, R547, R625, R630, R631) -/

/-- Whatever a state holds against a base besides its front command, a step keeps. -/
theorem step_keeps {Q : Base} (s : State) (h : Inv Q { s with pending := s.pending.tail }) : OkNext Q (step s) := by
  unfold step
  split
  next c rest hq =>
    rw [hq] at h
    exact exec_inv c _ h
  next hq =>
    have hs : Inv Q s := by rwa [show s.pending.tail = s.pending by rw [hq, List.tail_nil]] at h
    split
    next c t ht => exact exec_inv c t (takeLatched_inv ht hs)
    next => exact tick_inv s hs

/-- Settles O40: held against a base that asks the layout too, the step answers a state that has it. -/
theorem everyStepKeepsTheLayout : Obligations.EveryStepKeepsTheLayout := by
  intro s t hlayout hstep
  have htail : Inv { Base.ofState s with ok := True } { s with pending := s.pending.tail } :=
    { inv_tail s with glb := fun _ => hlayout }
  have ht : OkNext { Base.ofState s with ok := True } (.next t) := hstep ▸ step_keeps s htail
  exact ht.glb trivial

end Sys2Proof.Machine

namespace Sys2Proof.Machine

/-! ### Places of the products of a phase (R251, R253, log entry 32) -/

/-! #### A free order takes each place once -/

/-- Each pick takes one element out of what is left, so the picks are the list in another order. -/
theorem freeOrder_perm (pick : Nat → Nat) {n : Nat} {l : List Nat} (hlen : l.length = n) : (freeOrder pick n l).Perm l := by
  induction n generalizing l with
  | zero => rw [List.eq_nil_of_length_eq_zero hlen, freeOrder]
  | succ n ih =>
    have hi : pick n % l.length < l.length := Nat.mod_lt _ (by omega)
    have hrest : (l.eraseIdx (pick n % l.length)).length = n := by rw [List.length_eraseIdx_of_lt hi]; omega
    rw [freeOrder, List.getD_eq_getElem _ _ hi]
    exact ((ih hrest).cons _).trans (List.getElem_cons_eraseIdx_perm hi)

section
variable {kind c x y : Nat}

theorem freePlace_perm : (freeOrder (Config.lduPick kind c) c (List.range c)).Perm (List.range c) :=
  freeOrder_perm _ List.length_range

theorem freePlace_eq_getElem (hx : x < c) :
    ∃ hlen : x < (freeOrder (Config.lduPick kind c) c (List.range c)).length,
      freePlace kind c x = (freeOrder (Config.lduPick kind c) c (List.range c))[x] := by
  have hlen : x < (freeOrder (Config.lduPick kind c) c (List.range c)).length := by
    rwa [freePlace_perm.length_eq, List.length_range]
  exact ⟨hlen, List.getD_eq_getElem _ _ hlen⟩

theorem freePlace_lt (hx : x < c) : freePlace kind c x < c := by
  obtain ⟨hlen, e⟩ := freePlace_eq_getElem (kind := kind) hx
  rw [e]
  exact List.mem_range.mp (freePlace_perm.mem_iff.mp (List.getElem_mem hlen))

theorem freePlace_inj (hx : x < c) (hy : y < c) (h : freePlace kind c x = freePlace kind c y) : x = y := by
  obtain ⟨_, ex⟩ := freePlace_eq_getElem (kind := kind) hx
  obtain ⟨_, ey⟩ := freePlace_eq_getElem (kind := kind) hy
  exact (freePlace_perm.nodup_iff.mpr List.nodup_range).getElem_inj_iff.mp (ex ▸ ey ▸ h)

end

/-! #### Numbers of two parts -/

section
variable {m n a b a' b' : Nat}

theorem mul_add_lt (ha : a < m) (hb : b < n) : a * n + b < m * n := by
  rw [Nat.mul_comm a]
  exact Nat.mul_add_lt_mul_of_lt_of_lt ha hb

theorem mul_add_inj (hb : b < n) (hb' : b' < n) (h : a * n + b = a' * n + b') : a = a' ∧ b = b' := by
  have hn : 0 < n := Nat.zero_lt_of_lt hb
  constructor
  · simpa [Nat.mul_comm _ n, Nat.mul_add_div hn, Nat.div_eq_of_lt hb, Nat.div_eq_of_lt hb'] using congrArg (· / n) h
  · simpa [Nat.mul_comm _ n, Nat.mul_add_mod, Nat.mod_eq_of_lt hb, Nat.mod_eq_of_lt hb'] using congrArg (· % n) h

theorem div_lt_ceilDiv (hb : b < n) : b / 64 < ceilDiv n 64 := by
  unfold ceilDiv
  omega

theorem le_lanes_ceilDiv : n ≤ 64 * ceilDiv n 64 := by
  unfold ceilDiv
  omega

end

/-! #### The two ways products are given clocks and lanes -/

section
variable {kind m n c x y i k : Nat}

/-- In tree mode (Table 8-4) the group of a term has a clock of its own, and the term its lane there. -/
theorem treePlace_inj (hx : x < m) (hy : y < m) (hi : i < n) (hk : k < n)
    (h : (freePlace kind (m * ceilDiv n 64) (x * ceilDiv n 64 + i / 64), i % 64) =
      (freePlace kind (m * ceilDiv n 64) (y * ceilDiv n 64 + k / 64), k % 64)) : x = y ∧ i = k := by
  obtain ⟨hclock, hlane⟩ := Prod.mk.inj h
  have hi' := div_lt_ceilDiv hi
  have hk' := div_lt_ceilDiv hk
  obtain ⟨hxy, hgroup⟩ := mul_add_inj hi' hk' (freePlace_inj (mul_add_lt hx hi') (mul_add_lt hy hk') hclock)
  exact ⟨hxy, Nat.ext_div_mod hgroup hlane⟩

theorem lanePlace_inj (hx : x < c) (hy : y < c)
    (hclock : freePlace kind (64 * ceilDiv c 64) x / 64 = freePlace kind (64 * ceilDiv c 64) y / 64)
    (hlane : freePlace kind (64 * ceilDiv c 64) x % 64 = freePlace kind (64 * ceilDiv c 64) y % 64) : x = y :=
  freePlace_inj (hx.trans_le le_lanes_ceilDiv) (hy.trans_le le_lanes_ceilDiv) (Nat.ext_div_mod hclock hlane)

theorem freePlace_clock_lt (hx : x < c) : freePlace kind (64 * ceilDiv c 64) x / 64 < ceilDiv c 64 :=
  Nat.div_lt_of_lt_mul (freePlace_lt (hx.trans_le le_lanes_ceilDiv))

end

/-! #### Each kind of work -/

section
variable {a : Attn} {n p h j i r h' j' i' r' : Nat}

theorem slot_score_inj (hh : h < a.b.qHeads) (hj : j < n) (hi : i < a.b.headDim) (hh' : h' < a.b.qHeads) (hj' : j' < n)
    (hi' : i' < a.b.headDim) (e : a.slot (.score n h j i) = a.slot (.score n h' j' i')) : h = h' ∧ j = j' ∧ i = i' := by
  obtain ⟨hrow, hterm⟩ := treePlace_inj (mul_add_lt hh hj) (mul_add_lt hh' hj') hi hi' e
  obtain ⟨hhead, hpos⟩ := mul_add_inj hj hj' hrow
  exact ⟨hhead, hpos, hterm⟩

theorem slot_scale_inj (hh : h < a.b.qHeads) (hj : j < n) (hi : i < p) (hh' : h' < a.b.qHeads) (hj' : j' < n) (hi' : i' < p)
    (e : a.slot (.scale n p h j i) = a.slot (.scale n p h' j' i')) : h = h' ∧ j = j' ∧ i = i' := by
  obtain ⟨hclock, hlane⟩ := Prod.mk.inj e
  have hplace := lanePlace_inj (mul_add_lt (mul_add_lt hh hj) hi) (mul_add_lt (mul_add_lt hh' hj') hi') hclock hlane
  obtain ⟨hrow, hblock⟩ := mul_add_inj hi hi' hplace
  obtain ⟨hhead, hpos⟩ := mul_add_inj hj hj' hrow
  exact ⟨hhead, hpos, hblock⟩

theorem slot_weight_inj (hh : h < a.b.qHeads) (hj : j < n) (hh' : h' < a.b.qHeads) (hj' : j' < n)
    (e : a.slot (.weight n h j) = a.slot (.weight n h' j')) : h = h' ∧ j = j' :=
  treePlace_inj hh hh' hj hj' e

/-- The place of an element among the heads gives the clock of its position a part of its own. -/
theorem slot_value_inj (hh : h < a.b.qHeads) (hj : j < n) (hi : i < a.b.headDim) (hh' : h' < a.b.qHeads) (hj' : j' < n)
    (hi' : i' < a.b.headDim) (e : a.slot (.value n h j i) = a.slot (.value n h' j' i')) : h = h' ∧ j = j' ∧ i = i' := by
  obtain ⟨hclock, hlane⟩ := Prod.mk.inj e
  have hx := mul_add_lt hh hi
  have hx' := mul_add_lt hh' hi'
  obtain ⟨hgroup, hpos⟩ := mul_add_inj hj hj'
    (freePlace_inj (mul_add_lt (freePlace_clock_lt hx) hj) (mul_add_lt (freePlace_clock_lt hx') hj') hclock)
  obtain ⟨hhead, helem⟩ := mul_add_inj hi hi' (lanePlace_inj hx hx' hgroup hlane)
  exact ⟨hhead, hpos, helem⟩

theorem slot_rescale_inj (hh : h < a.b.qHeads) (hi : i ≤ a.b.headDim) (hh' : h' < a.b.qHeads) (hi' : i' ≤ a.b.headDim)
    (e : a.slot (.rescale h i) = a.slot (.rescale h' i')) : h = h' ∧ i = i' := by
  obtain ⟨hclock, hlane⟩ := Prod.mk.inj e
  have hlt := Nat.lt_succ_of_le hi
  have hlt' := Nat.lt_succ_of_le hi'
  exact mul_add_inj hlt hlt' (lanePlace_inj (mul_add_lt hh hlt) (mul_add_lt hh' hlt') hclock hlane)

theorem slot_norm_inj (hh : h < a.b.qHeads) (hi : i < a.b.headDim) (hh' : h' < a.b.qHeads) (hi' : i' < a.b.headDim)
    (e : a.slot (.norm h i) = a.slot (.norm h' i')) : h = h' ∧ i = i' := by
  obtain ⟨hclock, hlane⟩ := Prod.mk.inj e
  exact mul_add_inj hi hi' (lanePlace_inj (mul_add_lt hh hi) (mul_add_lt hh' hi') hclock hlane)

theorem slot_bound_inj (hh : h < a.b.qHeads) (hr : r < n) (hi : i < a.b.headDim) (hh' : h' < a.b.qHeads) (hr' : r' < n)
    (hi' : i' < a.b.headDim) (e : a.slot (.bound n h r i) = a.slot (.bound n h' r' i')) : h = h' ∧ r = r' ∧ i = i' := by
  obtain ⟨hrow, hterm⟩ := treePlace_inj (mul_add_lt hr hh) (mul_add_lt hr' hh') hi hi' e
  obtain ⟨hreach, hhead⟩ := mul_add_inj hh hh' hrow
  exact ⟨hhead, hreach, hterm⟩

end

theorem slot_lane_lt (a : Attn) (w : LduWork) : (a.slot w).2 < 64 := by
  cases w <;> exact Nat.mod_lt _ (by decide)

/-- Settles O56: a free order takes each place once, and each place stands for one product of its kind. -/
theorem productsHaveDitherOfTheirOwn : Obligations.ProductsHaveDitherOfTheirOwn := fun a =>
  ⟨fun _ _ _ _ _ _ _ hh hj hi hh' hj' hi' e => slot_score_inj hh hj hi hh' hj' hi' e,
    fun _ _ _ _ _ _ _ _ hh hj hi hh' hj' hi' e => slot_scale_inj hh hj hi hh' hj' hi' e,
    fun _ _ _ _ _ hh hj hh' hj' e => slot_weight_inj hh hj hh' hj' e,
    fun _ _ _ _ _ _ _ hh hj hi hh' hj' hi' e => slot_value_inj hh hj hi hh' hj' hi' e,
    fun _ _ _ _ hh hi hh' hi' e => slot_rescale_inj hh hi hh' hi' e,
    fun _ _ _ _ hh hi hh' hi' e => slot_norm_inj hh hi hh' hi' e,
    fun _ _ _ _ _ _ _ hh hr hi hh' hr' hi' e => slot_bound_inj hh hr hi hh' hr' hi' e, slot_lane_lt a⟩

end Sys2Proof.Machine
